-- ==== Sys2Proof/Word.lean ====
section
/-! DEFINITION. The word and byte types and their plainest arithmetic. -/
namespace Sys2Proof

/-- A register word (R508: every register access is one 32-bit word). -/
abbrev Word := BitVec 32
/-- A byte of a frame, a record, the flash or host memory. -/
abbrev Byte := BitVec 8

/-- Bits [hi:lo] of a number, as a number. -/
def bitsNat (v hi lo : Nat) : Nat := v / 2 ^ lo % 2 ^ (hi + 1 - lo)

end Sys2Proof
end

