-- ==== Sys2Proof/Machine/Map.lean ====
section
/-! DEFINITION. Sparse maps with numeric keys, kept as lists with strictly rising keys in which no entry equals the
default of its key, so that equal maps are equal lists. Registers, per-instance state and the flash use them. -/
namespace Sys2Proof.Machine

/-- A sparse map: key and value pairs, keys strictly rising. -/
abbrev Map (α : Type) := List (Nat × α)

/-- The entry of a key, if one is listed. -/
def Map.find? {α : Type} : Map α → Nat → Option α
  | [], _ => none
  | (j, w) :: r, k => if k = j then some w else Map.find? r k

/-- The value of a key: its entry, or the default. -/
def Map.get {α : Type} (m : Map α) (dflt : Nat → α) (k : Nat) : α := (Map.find? m k).getD (dflt k)

/-- Insert or replace an entry, keeping the keys in rising order. -/
def Map.ins {α : Type} : Map α → Nat → α → Map α
  | [], k, v => [(k, v)]
  | (j, w) :: r, k, v =>
    if k = j then (k, v) :: r
    else if k < j then (k, v) :: (j, w) :: r
    else (j, w) :: Map.ins r k v

/-- Remove a key's entry. -/
def Map.del {α : Type} (m : Map α) (k : Nat) : Map α := m.filter (fun p => p.1 != k)

/-- Write a key: writing the default removes the entry. -/
def Map.put {α : Type} [DecidableEq α] (m : Map α) (dflt : Nat → α) (k : Nat) (v : α) : Map α :=
  if v = dflt k then Map.del m k else Map.ins m k v

/-- The canonical form: keys strictly rising, no entry equal to its key's default. -/
def Map.wf {α : Type} [DecidableEq α] (m : Map α) (dflt : Nat → α) : Prop :=
  List.Pairwise (fun p q => p.1 < q.1) m ∧ ∀ p ∈ m, p.2 ≠ dflt p.1

end Sys2Proof.Machine
end

