-- ==== Sys2Proof/Machine/Types.lean ====
section
/-! DEFINITION. The types of the commands' operands and of what the device sends to the outside. -/
namespace Sys2Proof.Machine

/-- The two host ports (R509). -/
inductive Port | pcie | spi
deriving DecidableEq, Repr

/-- The port byte of R386 and HIF_PORT: 0 PCIe, 1 SPI. -/
def Port.num : Port → Nat
  | .pcie => 0
  | .spi => 1

/-- Who performs a register write that the device's own firmware can also perform (R18). -/
inductive Agent
  /-- The servo firmware, or the device's own start-up sequence or the mate where the rule names them. -/
  | device
  /-- A write arriving at a host port. -/
  | host (p : Port)
deriving DecidableEq, Repr

/-- Output pins that the model's log names. -/
inductive Pin
  | eio (n : Nat) | pps (m : Nat) | irigb | clkOut (j : Nat) | auxClk (a : Nat)
deriving DecidableEq, Repr

/-- The tap that an edge hits on line A and on line B of its interpolator position (R72, R73). -/
structure Hit where
  a : Fin 64
  b : Fin 64
deriving DecidableEq, Repr

/-- The arrival of a frame at a port (R75, R76): the taps that the captured boundary hits in the present TIME cycle, and
the serial position in bits of the timestamp point after that boundary. -/
structure Arrival where
  hit : Hit
  pos : Nat
deriving DecidableEq, Repr

/-- The measured departure of a frame (R81): TIME cycles after the present instant and the taps hit there, and the TIME
cycles to the next alignment epoch. -/
structure Departure where
  cyc : Nat
  hit : Hit
  epochIn : Nat
deriving DecidableEq, Repr

/-- What IRIGB_OUT sends: no register names the pin's time base, its code B000 to B007, or whether it carries the
extensions (R7), so the command does. -/
structure IrigOut where
  tb : Fin 8
  code : Fin 8
  ext : Bool
deriving DecidableEq, Repr

/-- The held registers of the leap schedule (R47). -/
inductive LeapReg | atHi | atLo | smearLen
deriving DecidableEq, Repr

/-- The schedule registers of an event pin (R55). -/
inductive EioReg | t0Sec | t0Ns | t0Frac | perNs | perFrac | width | count
deriving DecidableEq, Repr

/-- The block-reset targets of R479. -/
inductive Target
  | servo (core : Nat) | gnss | tsu | gacq | mac (port : Nat) | pe | ks | pair | recorder | pmc
  | aes (pipeline : Nat) | sha (engine : Nat)
deriving DecidableEq, Repr


/-- A sampled instruction (R498). -/
structure SampleIn where
  core : Fin 4
  /-- bit 0 in a trap, bit 1 in a loop update -/
  flags : Byte
  /-- instruction address and instruction word -/
  addr : Word
  word : Word
  /-- issue-to-retire latency, SERVO cycles -/
  latency : Nat
  /-- time base being updated, 0xFF none -/
  tb : Byte
deriving DecidableEq, Repr

/-- The insertion kinds of R82, and the totalTimeInaccuracy of R343. -/
inductive InsKind | ptpTs | ptpTurn | ntpTs | ntpDisp | boundTlv | ptpQual | c37
deriving DecidableEq, Repr

/-- The registers whose write a PPS output takes 1 µs later (R91). -/
inductive PpsReg | cfg | ofs | width | dly
deriving DecidableEq, Repr

/-- A frequency signal at a tick (R124, R146): SyncE recovered clocks, REFCLK_IN, ATOM_10M. -/
structure FreqIn where
  /-- reference index -/
  r : Nat
  /-- an edge arrived in the tick interval, or the recovered clock runs -/
  present : Bool
  /-- offset against the TB0 model over the last 10 ms, 2^-8 ppt -/
  off : Int
  /-- at the tick at the start of a TB0 second: the phase of the counted cycles against each time base, 2^-16 ps -/
  phase : List Int
  /-- serial bits of a port's recovered clock counted in the last millisecond of TIME (R76); 0 for another signal -/
  bits : Nat
deriving DecidableEq, Repr

/-- What a tick reads from the pins (R124, R172, R171). -/
structure TickIn where
  /-- the two die sensors' readings, 2^-8 °C -/
  ta0 : Int
  ta1 : Int
  freqs : List FreqIn
  /-- y_meas, the offset of TIME against ATOM_10M over the last second, ppt in 2^-16 units -/
  yMeas : Int
deriving DecidableEq, Repr

/-- What the spec leaves open of a fit (R175): the weights of the epochs that enter it, newest first; 1 where the list
ends. -/
structure FitIn where
  weights : List Nat
deriving DecidableEq, Repr
/-- One entry of a front-end SPI sequence of the image (R194): a write, or a read compared under a mask. -/
structure FeEntry where
  read : Bool
  len : Nat
  data : Word
  expect : Word
  mask : Word
deriving DecidableEq, Repr

/-- A front-end sequence of a chip select (R194): 0 start, 1 burst-on, 2 burst-off. -/
abbrev FeKey := Nat × Nat

/-- One sample of a stream as the pins give it (R190): two 4-bit fields in two's complement. -/
structure Iq where
  i : BitVec 4
  q : BitVec 4
deriving DecidableEq, Repr

/-- What a correlator takes (R198): the samples of its stream since the last that it took. -/
structure DumpIn where
  iq : List Iq
deriving DecidableEq, Repr

/-- What the tracking firmware finds in a dump (R200, R201). -/
structure ProcIn where
  /-- PLL lock indicator, units 1/1000 -/
  lock : Nat
  dlock : Bool
  /-- symbol, secondary-code and bit boundaries found -/
  found : Bool
  /-- C/N₀ averaged over 100 ms, units 0.1 dB-Hz -/
  cn0 : Nat
  inv : Bool
  /-- the code word and the carrier word without the IF; a follower's own corrections to its lead's (R204) -/
  code : Int
  carr : Int
  /-- the change of the carrier word, per ms -/
  rate : Int
deriving DecidableEq, Repr

/-- A channel's assignment (R205): the signal, the taps, and the sample periods, 2^-32, from the source's state to the
first sample. -/
structure ChanIn where
  stream : Fin 4
  sig : Fin 8
  svid : Fin 256
  role : Bool
  lead : Fin 256
  tapsp : Word
  ahead : Nat
deriving DecidableEq, Repr

/-- What an aided search finds (R216): the assignment, the code phase in 1/64 chip, the Doppler in Hz and the peak ratio
in 1/16. -/
structure AidHit where
  asg : ChanIn
  code : Nat
  dopp : Int
  ratio : Nat
deriving DecidableEq, Repr

/-- A new ephemeris that a unit completes (R239): its satellite's distance from the previous ephemeris's prediction, mm,
and TB0 less the time of week decoded, ps. -/
structure EphIn where
  jump : Nat
  tow : Int
deriving DecidableEq, Repr

/-- A navigation unit at its last symbol (R209, R212). -/
structure NavUnit where
  /-- the decoded bits as broadcast, first bit first; none where the FEC decoder finds no codeword -/
  bits : Option (List Bool)
  /-- the B-CNAV1 subframe, 1 to 3 -/
  sub : Fin 4
  inv : Bool
  /-- ps since the leading edge of the first bit reached the sample pins -/
  ago : Nat
  cn0 : Nat
  detail : Word
  /-- a new ephemeris that the unit completes -/
  eph : Option EphIn
deriving DecidableEq, Repr

/-- The exclusion registers of R208. -/
inductive ExclReg | gps | galLo | galHi | bdsLo | bdsHi | qzs
deriving DecidableEq, Repr

/-- What the broadcast orbits, clocks and models give for a satellite at an epoch (R231 to R239), which the spec leaves
to the systems' interface documents. -/
structure SatIn where
  /-- constellation: 0 GPS, 1 Galileo, 2 BeiDou, 3 QZSS -/
  cons : Fin 4
  svid : Fin 256
  /-- elevation, 0.001 degree -/
  elev : Int
  /-- unit vector from the receiver to the satellite, ECEF -/
  los : Rat × Rat × Rat
  /-- system time at which the present code period of each band left the satellite, ps on TB0's scale -/
  sent1 : Int
  sent5 : Int
  /-- transit time from the approximate position with the satellite's clock, ps -/
  delay : Rat
  /-- inter-signal group delay corrections of the bands, ps -/
  isc1 : Rat
  isc5 : Rat
  /-- L1 delay of the broadcast ionospheric model, ps -/
  iono : Rat
  /-- range rate with the satellite clock's drift, ppt -/
  rate : Rat
deriving DecidableEq, Repr

/-- What the navigation data give a timing solution (R231 to R242). -/
structure SolIn where
  sats : List SatIn
  /-- the approximate position (ECEF, 0.01 m) -/
  approx : Int × Int × Int
  /-- the broadcast offsets of GPS, Galileo and BeiDou time from TSYS, ps -/
  iso : List (Option Int)
  /-- the broadcast offset of TSYS from its UTC(k): constant, ps, drift, ps/s, and the seconds since its epoch -/
  utcA0 : Rat
  utcA1 : Rat
  utcT : Int
  /-- TAI − UTC of valid navigation data, s -/
  taiUtc : Option Int
  /-- the UTC second after an announced leap, counted without it, and deletion -/
  leap : Option (Nat × Bool)
deriving DecidableEq, Repr

/-- A satellite's place in the sky at a 100 ms integrity epoch (R240): elevation, 0.001 degree, and the unit vector in
east, north, up. -/
structure DaSat where
  cons : Fin 4
  svid : Fin 256
  elev : Int
  los : Rat × Rat × Rat
deriving DecidableEq, Repr

/-- What a 100 ms integrity epoch takes from the orbits for one solution (R239, R240). -/
structure IntegIn where
  sats : List DaSat
deriving DecidableEq, Repr
/-- A fragment of a preempted frame as it arrives (R262): a start fragment or a continuation with its fragment count, 0 to
3, and whether its mCRC is good. -/
structure Frag where
  start : Bool
  count : Fin 4
  good : Bool
deriving DecidableEq, Repr

/-- What the receive path finds about a frame besides its bytes (R256, R262). -/
structure RxInfo where
  /-- a PCS code or block error inside the frame -/
  pcs : Bool
  /-- FEC codewords corrected, and uncorrectable ones that overlap the frame -/
  corr : Nat
  uncorr : Nat
  /-- the fragments the frame arrived in, in order; none for a whole frame (R262) -/
  frags : List Frag
  /-- lost in the receive ferry (R24) -/
  ferry : Bool
deriving DecidableEq, Repr

/-- A received pause or PFC frame with a correct FCS (R263): PFC's enable bits, and one time for 802.3x or eight for
PFC, in quanta. -/
structure PauseIn where
  pfc : Bool
  enable : Nat
  times : List Nat
deriving DecidableEq, Repr

/-- What a Strait receiver finds about a frame besides its bytes (R391): corrected codewords, an uncorrectable one, and a
loss at the receive ferry. -/
structure StraitRx where
  corr : Nat
  uncorr : Bool
  ferry : Bool
  /-- serial bits from the boundary it captured to the timestamp point, and bits of the recovered clock in the last
  millisecond (R395, R76) -/
  pos : Nat := 0
  bits : Nat := 10312500
deriving DecidableEq, Repr

/-- The decoded bodies of an image's ATOM, WAKE and FESEQ records, whose byte layout the spec does not give (R127,
R194, R272): operands of IMAGE_APPLY. -/
structure ImgExtras where
  /-- the poll string, and up to four reply patterns of up to 16 bytes with their levels -/
  poll : List Byte := []
  pats : List (List Byte × Nat) := []
  /-- wake patterns: 4 × port + index, pattern, byte mask -/
  wake : List (Nat × List Byte × List Byte) := []
  /-- front-end sequences: 3 × chip select + kind, entries -/
  feSeqs : List (Nat × List FeEntry) := []
deriving DecidableEq, Repr

/-- What RESET_N's rising edge and the reads after it find (R455, R463): TEST_MODE and PAIR_PREF, the JEDEC ID when it
can be read, and whether every read of bank A and of bank B completes. -/
structure StartIn where
  testMode : Bool
  pairPref : Bool
  jedec : Option Nat
  readA : Bool
  readB : Bool
deriving DecidableEq, Repr

/-- What the device sends to the outside, in the order it sends it: the model's own log, which no command reads.
Host memory, the wires and the pins lie outside the block. -/
inductive Out
  /-- The value a host port's read returned. -/
  | readData (p : Port) (v : Word)
  /-- A posted DMA write to host memory (R290). -/
  | dma (addr : Nat) (bytes : List Byte)
  /-- An MSI-X message of a vector (R521). -/
  | msix (vector : Nat)
  /-- A leading edge placed (R51, R56, R72): the target instant on the time base, 2^-32 ns; the instant of the tap, or of
  the bypass TIME cycle, it is placed on, 2^-48 ps of the time base, and that tap; the level it takes the pin to; and
  whether the pin drives it or holds high impedance (R63). -/
  | lead (pin : Pin) (target placed : Int) (tap : Option Nat) (high driven : Bool)
  /-- A pulse ended: the pin takes its inactive level, or high impedance. -/
  | trail (pin : Pin) (level : Option Bool)
  /-- An output pin outside a pulse takes a level, true high, or high impedance (R63, R70, R94, R100). -/
  | pin (pin : Pin) (level : Option Bool)
  /-- ALIVE stops toggling and stays at its last level (R486). -/
  | aliveFrozen
  /-- FAULT_N changes level; true is asserted, low (R487). -/
  | faultN (asserted : Bool)
  /-- The recorder's flash controller writes 256-byte pages from a flash address on (R491). -/
  | flashPages (addr count : Nat)
  /-- A PCIe read completes with Unsupported Request status (R506, R507). -/
  | unsupported
  /-- The endpoint answers a configuration request: true with Configuration Request Retry Status, false normally
  (R506). -/
  | configAnswer (retry : Bool) (header : List Word)
  /-- The SPI status byte (R513). -/
  | spiStatus (b : Byte)
  /-- The end of an SPI READ's wait: the marker 0xA5 and the words, or 0xFF and no valid words (R514). -/
  | spiRead (marker : Byte) (words : List Word)
  /-- IRIGB_OUT k sends one frame: the linear instant of its on-time edge on a time base, 2^-48 ns, and the frame's hundred
  elements: 0, 1, or 2 for a marker (R7, R538). -/
  | irigb (k tb onTime : Nat) (elems : List Nat)
  /-- The poll string sent on the atomic status UART (R127). -/
  | atomTx (bytes : List Byte)
  /-- A transaction of the front-end SPI master (R194, R195): chip select, length in bits, bits sent. -/
  | feSpi (cs len : Nat) (data : Word)
  /-- The bits of AGC_OUTk over a millisecond (R196). -/
  | agc (k : Nat) (bits : List Bool)
  /-- A frame starts on a port's wire, from the destination MAC address through the FCS (R80, R85). -/
  | frame (port : Nat) (bytes : List Byte)
  /-- The preemptable frame in progress is split after a number of its bytes; the fragment closes with its mCRC
  (R259). -/
  | preempt (port sent mcrc : Nat)
  /-- A verify or respond mPacket (R258). -/
  | mpacket (port : Nat) (respond : Bool)
  /-- A port in a BASE-R mode signals remote fault, or stops doing so (R254). -/
  | remoteFault (port : Nat) (on : Bool)
  /-- A frame on both Strait lanes, its body before coding (R391, R392). -/
  | strait (bytes : List Byte)
  /-- CW_HB_OUT changes between its normal form and the fault form; true is the fault form (R400). -/
  | causeway (fault : Bool)
  /-- OWN_OUT is driven: 0 low, 1 high, 2 high with the override pulses (R402, R405). -/
  | ownOut (form : Nat)
  /-- CLK_OUT j: 2 starts with a rising edge, dividing its synthesizer's VCO by div; 1 stops at high impedance, 0 stops
  low (R442). -/
  | clkOut (j level div : Nat)
  /-- The VCO of synthesizer k runs at f_LO × w / 2^48 (R441). -/
  | osynWord (k w : Nat)
  /-- CLK_OUT j restarts on the first VCO edge at least 200 ns after a SYNC_IN edge (R443). -/
  | clkSync (j : Nat)
  /-- The alignment line moves CLK_OUT j's edge by some ps (R444). -/
  | clkMove (j : Nat) (ps : Int)
  /-- AUXCLK a starts or stops: f_LO × naux / div, with down-spread of depth × 0.1 % at a rate in kHz (R446). -/
  | auxClk (a : Nat) (run : Bool) (naux div depth rate : Nat)
  /-- GSAMP_CLK_OUT starts, or is held low (R221). -/
  | gsampClk (run : Bool)
  /-- Every output takes its reset level (R454). -/
  | outputsReset
  /-- Every output is at high impedance: the supply is below its range (R528). -/
  | outputsFloat
  /-- ALIVE starts to toggle (R454). -/
  | aliveStart
deriving DecidableEq, Repr

end Sys2Proof.Machine
end

