-- ==== Sys2Proof/Syntax.lean ====
section
/-! DEFINITION. The commands of the XB9256: one constructor per row of the operation table, with the operands the
row's rule gives it. Indices of an array of registers are `Fin`, so that no command names an instance that does not
exist. -/
namespace Sys2Proof
open Sys2Proof.Machine

/-- A command: a register access, an event on a wire or a pin, a timer that runs out, or a step an engine takes. -/
inductive Instr
  /-- QUALIFICATION_TICK (R16, R136): what the tick reads from the pins. -/
  | qualificationTick (inp : TickIn)
  /-- REF_HOLDOFF_EXPIRE (R133). -/
  | refHoldoffExpire (r : Fin 24)
  /-- REF_WTR_EXPIRE (R134). -/
  | refWtrExpire (r : Fin 24)
  /-- TREND_DEFECT_CLEAR (R149). -/
  | trendDefectClear (r : Fin 24)
  /-- REF_MSG_TIMEOUT (R124): the reference, and whether its signal (LOS) or its message (MSG) timed out. -/
  | refMsgTimeout (r : Fin 24) (los : Bool)
  /-- SERVO_LOOP_UPDATE (R160): the time base, and the update's end in µs after the tick. -/
  | servoLoopUpdate (n : Fin 8) (endUs : Nat)
  /-- LOOP_DEADLINE_MISS (R17). -/
  | loopDeadlineMiss (n : Fin 8)
  /-- SERVO_STALL (R159). -/
  | servoStall (core : Fin 4)
  /-- TEMP_SENSOR_RECOVER (R173): sensor TA0 or TA1. -/
  | tempSensorRecover (i : Fin 2)
  /-- ATOM_MODEL_RETURN (R178). -/
  | atomModelReturn
  /-- MODEL_FIT (R176): the model, and the weights of its epochs. -/
  | modelFit (m : Fin 2) (fit : FitIn)
  /-- EB_LATCH_READ (R121). -/
  | ebLatchRead (p : Port) (n : Fin 8)
  /-- ALIGNMENT_EPOCH (R430): 480 cycles of the tree's source have passed. -/
  | alignmentEpoch
  /-- TB_INC_HI_WRITE (R33): writer, time base, value. -/
  | tbIncHiWrite (w : Agent) (n : Fin 8) (v : Word)
  /-- TB_INC_COMMIT (R34): writer, time base, low half. -/
  | tbIncCommit (w : Agent) (n : Fin 8) (v : Word)
  /-- TB_BINC_HI_WRITE (R36). -/
  | tbBincHiWrite (w : Agent) (n : Fin 8) (v : Word)
  /-- TB_BINC_COMMIT (R36). -/
  | tbBincCommit (w : Agent) (n : Fin 8) (v : Word)
  /-- PADJ_COMMIT (R38): writer, time base, low half of the amount. -/
  | padjCommit (w : Agent) (n : Fin 8) (v : Word)
  /-- PADJ_COMPLETE (R39). -/
  | padjComplete (n : Fin 8)
  /-- PSLOPE_WRITE (R39). -/
  | pslopeWrite (w : Agent) (n : Fin 8) (v : Word)
  /-- PABORT (R40). -/
  | pabort (w : Agent) (n : Fin 8)
  /-- TB_SET_ARM (R42): by a host port, or by the device's own start-up sequence. -/
  | tbSetArm (w : Agent) (n : Fin 8)
  /-- TB_SET_APPLY (R42): the unset count of a time base reaches the armed instant. -/
  | tbSetApply (n : Fin 8)
  /-- LEAP_SCHEDULE_HOLD_WRITE (R47): which held register, and the value. -/
  | leapScheduleHoldWrite (w : Agent) (n : Fin 8) (r : LeapReg) (v : Word)
  /-- LEAP_CTL_COMMIT (R47). -/
  | leapCtlCommit (w : Agent) (n : Fin 8) (v : Word)
  /-- LEAP_INSERT_START (R45). -/
  | leapInsertStart (n : Fin 8)
  /-- LEAP_INSERT_END (R45). -/
  | leapInsertEnd (n : Fin 8)
  /-- LEAP_DELETE (R45). -/
  | leapDelete (n : Fin 8)
  /-- SMEAR_WINDOW_START (R46). -/
  | smearWindowStart (n : Fin 8)
  /-- SMEAR_WINDOW_END (R46). -/
  | smearWindowEnd (n : Fin 8)
  /-- TB_NOW_LATCH_READ (R48). -/
  | tbNowLatchRead (p : Port) (n : Fin 8)
  /-- TB_SNAP (R49): the mask written. -/
  | tbSnap (p : Port) (v : Word)
  /-- EIO_ARM (R54). -/
  | eioArm (p : Port) (n : Fin 32)
  /-- EIO_DISARM (R55). -/
  | eioDisarm (p : Port) (n : Fin 32)
  /-- EIO_TRIGGER_POSITION (R549). -/
  | eioTriggerPosition (n : Fin 32)
  /-- EIO_PULSE_END (R51). -/
  | eioPulseEnd (n : Fin 32)
  /-- EIO_CFG_WRITE (R70); the pin's level at the write. -/
  | eioCfgWrite (p : Port) (n : Fin 32) (v : Word)
  /-- EIO_SCHEDULE_WRITE (R55). -/
  | eioScheduleWrite (p : Port) (n : Fin 32) (r : EioReg) (v : Word)
  /-- EIO_CAPTURE_EDGE (R58): the polarity of the edge, and the taps it hits in the present TIME cycle. -/
  | eioCaptureEdge (n : Fin 32) (rising : Bool) (hit : Hit)
  /-- EIO_FIFO_TO_RING (R60). -/
  | eioFifoToRing (n : Fin 32)
  /-- EIO_POP (R60). -/
  | eioPop (p : Port) (n : Fin 32)
  /-- EIO_STUCK_WRITE (R61). -/
  | eioStuckWrite (p : Port) (n : Fin 32) (v : Word)
  /-- EIO_STUCK_TIMEOUT (R61). -/
  | eioStuckTimeout (n : Fin 32)
  /-- EIO_STUCK_RELEASE (R61). -/
  | eioStuckRelease (n : Fin 32)
  /-- TSU_CAL_START (R73): the interpolator position. -/
  | tsuCalStart (pos : Fin 62)
  /-- TSU_CAL_COMPLETE (R74): the position and the hits the code-density test gave each of the 64 taps. -/
  | tsuCalComplete (pos : Fin 62) (hits : List Nat)
  /-- TSU_LINE_SWAP (R73): at an alignment epoch, or at another TIME cycle boundary. -/
  | tsuLineSwap (pos : Fin 62) (atEpoch : Bool)
  /-- TSU_CAL_STALE (R74). -/
  | tsuCalStale (pos : Fin 62)
  /-- TSU_CFG_WRITE (R84). -/
  | tsuCfgWrite (p : Port) (n : Fin 8) (v : Word)
  /-- PPS_EDGE (R90): the index k of the leading-edge instant reached, k × Pm + PPSm_OFS. -/
  | ppsEdge (m : Fin 8) (k : Int)
  /-- PPS_PULSE_END (R90). -/
  | ppsPulseEnd (m : Fin 8)
  /-- PPS_SETTINGS_WRITE (R91). -/
  | ppsSettingsWrite (p : Port) (m : Fin 8) (r : PpsReg) (v : Word)
  /-- PPS_SETTINGS_APPLY (R91): 1 µs after the oldest write still waiting. -/
  | ppsSettingsApply (m : Fin 8)
  /-- FRAME_RX (R256): the port; the bytes from the destination address through the FCS; where its timestamp point
  arrives in the present TIME cycle (R75, R76); what else the receive path found. -/
  | frameRx (n : Fin 8) (bytes : List Byte) (arr : Arrival) (info : RxInfo)
  /-- CLASSIFY_FRAME (R281): the next port in turn that has a frame waiting. -/
  | classifyFrame
  /-- CRYPTO_INPUT_JOB (R286): the engine with the fewest blocks queued; or the oldest job that needs no engine. -/
  | cryptoInputJob (engine : Fin 16) (pass : Bool)
  /-- CRYPTO_OUTPUT_JOB (R312): the k-th builder entry. -/
  | cryptoOutputJob (k : Nat)
  /-- EGRESS_SCHEDULE (R285): the port, and the time, 2^-16 ns, after which the timestamp point of a frame released now
  would cross the balls. -/
  | egressSchedule (n : Fin 8) (lead : Nat)
  /-- EGRESS_QUEUE_TIMEOUT (R26): the k-th builder entry, or behind the builders the k-th launch-time frame that the
  scheduler holds (R88), has waited 50 µs. -/
  | egressQueueTimeout (k : Nat)
  /-- FRAME_TX (R80, R81): a frame leaves the port's FIFO. `pos` is the serial position in bits of its timestamp point
  after the present instant, and the departure is measured. -/
  | frameTx (n : Fin 8) (pos : Nat) (dep : Departure)
  /-- PREEMPT_FRAGMENT (R259): bytes of the preemptable frame sent since it started or resumed. -/
  | preemptFragment (n : Fin 8) (sent : Nat)
  /-- PAUSE_FRAME_RX (R263). -/
  | pauseFrameRx (n : Fin 8) (f : PauseIn)
  /-- PAUSE_TIMER_EXPIRE (R264): a PFC priority's timer, or 8 for the 802.3x timer. -/
  | pauseTimerExpire (n : Fin 8) (t : Fin 9)
  /-- LINK_UP (R254): in MODE 2 the speed code negotiated; whether remote fault is received. -/
  | linkUp (n : Fin 8) (speed : Fin 3) (rfault : Bool)
  /-- LINK_DOWN (R254): the conditions that still hold, and the faults. -/
  | linkDown (n : Fin 8) (pcsLock fecLock lfault rfault : Bool)
  /-- PREEMPT_VERIFY_TIMEOUT (R258). -/
  | preemptVerifyTimeout (n : Fin 8)
  /-- PREEMPT_RESPOND_RX (R258). -/
  | preemptRespondRx (n : Fin 8)
  /-- VERIFY_MPACKET_RX (R258). -/
  | verifyMpacketRx (n : Fin 8)
  /-- ESMC_PDU_RX (R268): the frame without its FCS, and whether the FCS was correct. -/
  | esmcPduRx (n : Fin 8) (bytes : List Byte) (fcsOk : Bool)
  /-- ESMC_INFO_TX (R269). -/
  | esmcInfoTx (n : Fin 8)
  /-- ISLET_CMD (R270). -/
  | isletCmd (p : Port) (n : Fin 8)
  /-- ISLET_AUTO_IDLE (R270). -/
  | isletAutoIdle (n : Fin 8)
  /-- WAKE_CMD (R272). -/
  | wakeCmd (p : Port) (n : Fin 8)
  /-- WAKE_FRAME_RX (R272): a frame received in Islet mode with a correct FCS, without it. -/
  | wakeFrameRx (n : Fin 8) (bytes : List Byte)
  /-- MAC_COUNTER_LATCH_READ (R275): 0 RX_FRAMES, 1 RX_BYTES, 2 TX_FRAMES, 3 TX_BYTES. -/
  | macCounterLatchRead (p : Port) (n : Fin 8) (c : Fin 4)
  /-- RING_RECORD_WRITE (R290). -/
  | ringRecordWrite (k : Fin 6)
  /-- RING_STAGING_TIMEOUT (R291). -/
  | ringStagingTimeout (k : Fin 6)
  /-- RING_TAIL_WRITE (R290). -/
  | ringTailWrite (p : Port) (k : Fin 8) (v : Word)
  /-- RING_ENABLE (R292): a write of PE_RINGk_CFG that sets EN. -/
  | ringEnable (p : Port) (k : Fin 8) (v : Word)
  /-- RING_DISABLE (R292): a write that clears EN. -/
  | ringDisable (p : Port) (k : Fin 8) (v : Word)
  /-- RING_IMOD_EXPIRE (R520). -/
  | ringImodExpire (k : Fin 8)
  /-- HTX_DESCRIPTOR_FETCH (R295): the descriptor and the frame read from host memory. -/
  | htxDescriptorFetch (desc frame : List Byte)
  /-- HTX_QUEUE_TIMEOUT (R296). -/
  | htxQueueTimeout
  /-- DMA_READ_ERROR (R296): ring 6 or 7; whether it met the input that the command at the head of the host command
  queue reads (R325). -/
  | dmaReadError (k : Fin 8) (input : Bool)
  /-- HCMD_FETCH (R297): the descriptor read from host memory. -/
  | hcmdFetch (desc : List Byte)
  /-- COOKIE_ISSUE (R325): the pipeline, and the 64 bytes read at KEYBUF. -/
  | cookieIssue (engine : Fin 16) (keys : List Byte)
  /-- EPOCH_KEY_DERIVE (R318). -/
  | epochKeyDerive
  /-- EPOCH_DAY_TURN (R316). -/
  | epochDayTurn
  /-- ROOT_KEY_REDERIVE (R321). -/
  | rootKeyRederive
  /-- RL_WINDOW_SWAP (R328). -/
  | rlWindowSwap
  /-- CLIENT_STATS_RECORD (R330). -/
  | clientStatsRecord
  /-- NTS_COUNTER_LATCH_READ (R332): 0 NTP_RX, 1 NTP_TX, 2 NTS_RX, 3 NTS_TX. -/
  | ntsCounterLatchRead (p : Port) (c : Fin 4)
  /-- PTP_ANNOUNCE_TX (R344): the multicast interval instant of an instance, or the instant of a session. -/
  | ptpAnnounceTx (i : Fin 8) (x : Option (Fin 4096))
  /-- BMCA_RUN (R345). -/
  | bmcaRun (i : Fin 8)
  /-- PTP_SYNC_TX (R344, R348). -/
  | ptpSyncTx (i : Fin 8) (x : Option (Fin 4096))
  /-- PTP_FOLLOWUP_TX (R348): the port whose timestamp queue holds a Sync's departure. -/
  | ptpFollowupTx (n : Fin 8)
  /-- PTP_DELAY_REQ_TX (R350). -/
  | ptpDelayReqTx (i p : Fin 8)
  /-- PTP_PDELAY_REQ_TX (R350). -/
  | ptpPdelayReqTx (i p : Fin 8)
  /-- PTP_ANNOUNCE_RX (R345): the oldest message of the instances, when it is of this kind; so for every kind below. -/
  | ptpAnnounceRx
  /-- PTP_SYNC_RX (R349, R350). -/
  | ptpSyncRx
  /-- PTP_FOLLOWUP_RX (R349). -/
  | ptpFollowupRx
  /-- PTP_DELAY_REQ_RX (R348, R354). -/
  | ptpDelayReqRx
  /-- PTP_DELAY_RESP_RX (R350). -/
  | ptpDelayRespRx
  /-- PTP_PDELAY_REQ_RX (R348). -/
  | ptpPdelayReqRx
  /-- PTP_PDELAY_RESP_RX (R350). -/
  | ptpPdelayRespRx
  /-- PTP_PDELAY_RESP_FUP_RX (R349). -/
  | ptpPdelayRespFupRx
  /-- ANNOUNCE_RECEIPT_TIMEOUT (R345). -/
  | announceReceiptTimeout (i p : Fin 8)
  /-- PRE_MASTER_TIMEOUT (R345). -/
  | preMasterTimeout (i p : Fin 8)
  /-- SYNC_FOLLOWUP_TIMEOUT (R349): the instance's oldest waiting Sync. -/
  | syncFollowupTimeout (i : Fin 8)
  /-- UNICAST_REQUEST_RX (R352): the first unicast TLV of the oldest message, when it is of this kind; so for the three
  below. -/
  | unicastRequestRx
  /-- UNICAST_CANCEL_RX (R353). -/
  | unicastCancelRx
  /-- UNICAST_ACK_CANCEL_RX (R353). -/
  | unicastAckCancelRx
  /-- UNICAST_GRANT_RX (R355). -/
  | unicastGrantRx
  /-- UNICAST_GRANT_END (R353): the session with a grant at its end second. -/
  | unicastGrantEnd (x : Fin 4096)
  /-- SESSION_CANCEL_CMD (R353): a write of PTP_SESS_CMD. -/
  | sessionCancelCmd (p : Port) (v : Word)
  /-- SESSION_CANCEL_RESEND (R353). -/
  | sessionCancelResend (x : Fin 4096)
  /-- UNICAST_RENEW (R355). -/
  | unicastRenew (x : Fin 4096)
  /-- UNICAST_REQUEST_RETRY (R355): an entry of an instance's unicast master table. -/
  | unicastRequestRetry (i j : Fin 8)
  /-- PTP_TXSA_WRITE (R359). -/
  | ptpTxsaWrite (p : Port) (i : Fin 8) (v : Word)
  /-- PTP_OFS_LATCH_READ (R363). -/
  | ptpOfsLatchRead (p : Port) (i : Fin 8)
  /-- WKR_LOAD (R374). -/
  | wkrLoad
  /-- WKR_DERIVE (R374). -/
  | wkrDerive
  /-- WRAP (R374): the input read from host memory. -/
  | wrap (input : List Byte)
  /-- ENCRYPT (R374): the input read from host memory. -/
  | encrypt (input : List Byte)
  /-- DECRYPT (R374): the input read from host memory. -/
  | decrypt (input : List Byte)
  /-- WKR_CLEAR (R374). -/
  | wkrClear
  /-- APGOR (R379): the message read from host memory. -/
  | apgor (input : List Byte)
  /-- APGOR_STORE_DONE (R380). -/
  | apgorStoreDone
  /-- KS_CHALLENGE (R386). -/
  | ksChallenge (p : Port)
  /-- KS_UNLOCK (R386). -/
  | ksUnlock (p : Port)
  /-- KS_LOCK (R387). -/
  | ksLock (p : Port)
  /-- CUSTODIAN_EXPIRE (R387). -/
  | custodianExpire (p : Port)
  /-- CHALLENGE_EXPIRE (R386). -/
  | challengeExpire (p : Port)
  /-- UNLOCK_LOCKOUT_END (R386). -/
  | unlockLockoutEnd (p : Port)
  /-- KS_CTR_LATCH_READ (R388). -/
  | ksCtrLatchRead (p : Port)
  /-- STRAIT_HEARTBEAT_TX (R392). -/
  | straitHeartbeatTx
  /-- STRAIT_HEARTBEAT_RX (R394, R395): the lane and the 48 bytes; it arrives at the present instant. -/
  | straitHeartbeatRx (l : Fin 2) (frame : List Byte) (rx : StraitRx)
  /-- STATE_FRAME_TX (R397). -/
  | stateFrameTx
  /-- SESSION_FRAME_TX (R398): the segment. -/
  | sessionFrameTx (g : Fin 64)
  /-- STATE_FRAME_RX (R393, R397). -/
  | stateFrameRx (l : Fin 2) (frame : List Byte) (rx : StraitRx)
  /-- SESSION_FRAME_RX (R393, R398). -/
  | sessionFrameRx (l : Fin 2) (frame : List Byte) (rx : StraitRx)
  /-- SET_FRAME_TX (R416). -/
  | setFrameTx
  /-- SET_FRAME_RX (R416): with the slope and its uncertainty, 2^-16 ppt, that the unit takes when fewer than three ticks
  of the 100 ms had an M_TB0. -/
  | setFrameRx (l : Fin 2) (frame : List Byte) (rx : StraitRx) (slope : Int) (unc : Nat)
  /-- CW_FAULT_PATTERN (R400). -/
  | cwFaultPattern
  /-- CW_NORMAL_PATTERN (R400). -/
  | cwNormalPattern
  /-- CW_SILENCE (R400). -/
  | cwSilence
  /-- STRAIT_SILENCE (R409). -/
  | straitSilence
  /-- OWN_LATCH_REFRESH (R402). -/
  | ownLatchRefresh
  /-- OWN_LATCH_EXPIRE (R402). -/
  | ownLatchExpire
  /-- OWN_SENSE_ASSERT (R403, R404). -/
  | ownSenseAssert
  /-- OWN_SENSE_DEASSERT (R403, R405). -/
  | ownSenseDeassert
  /-- OVERRIDE_PULSES_SEEN (R405). -/
  | overridePulsesSeen
  /-- OVERRIDE_GIVE_UP (R405). -/
  | overrideGiveUp
  /-- OWN_CHANGE_DEFERRED (R406): the instant 2 µs after the edge. -/
  | ownChangeDeferred
  /-- PAIR_LISTEN_END (R408). -/
  | pairListenEnd
  /-- ISOLATED_CLAIM (R407). -/
  | isolatedClaim
  /-- HANDOVER_CANCEL (R413): the instant T − 1 ms. -/
  | handoverCancel
  /-- HANDOVER_SHADOW_LOAD (R413): the instant T − 100 µs. -/
  | handoverShadowLoad
  /-- HANDOVER_LATCH_SET (R413): the instant T − 1 µs. -/
  | handoverLatchSet
  /-- HANDOVER_LATCH_CLEAR (R413): the instant T. -/
  | handoverLatchClear
  /-- PAIR_HANDOVER_CMD (R415). -/
  | pairHandoverCmd (p : Port)
  /-- PAIR_TAKE_CMD (R415). -/
  | pairTakeCmd (p : Port)
  /-- KCV_MISMATCH (R417). -/
  | kcvMismatch
  /-- KCV_MISMATCH_CLEAR (R417). -/
  | kcvMismatchClear
  /-- PAIR_MOFS_LATCH_READ (R421). -/
  | pairMofsLatchRead (p : Port)
  /-- XO_EDGE_DEFECT (R433): no XO_IN edge for 4 RC cycles. `gap` is the interval that a change of source adds, ps (R436). -/
  | xoEdgeDefect (gap : Int)
  /-- XO_FREQ_MEASURE (R433): XO_IN edges counted in a 100 µs window; `gap` as above. -/
  | xoFreqMeasure (edges : Nat) (gap : Int)
  /-- XO_QUALIFIED (R433): CLK_XOQUAL ms free of defect; `gap` as above. -/
  | xoQualified (gap : Int)
  /-- BAND_TRY_TIMEOUT (R426). -/
  | bandTryTimeout
  /-- PLL_LOCKED (R426). -/
  | pllLocked
  /-- PLL_RETRY_TIMER (R426). -/
  | pllRetryTimer
  /-- CLK_RETRY (R426): a write of CLK_CMD with RETRY set. -/
  | clkRetry (p : Port)
  /-- PLL_LOSS_OF_LOCK (R428): `gap` as above, with the phase error the PLL had accrued (R436). -/
  | pllLossOfLock (gap : Int)
  /-- RELOCK_HOLD_COMPLETE (R434). -/
  | relockHoldComplete
  /-- CLK_BAND_WRITE (R427). -/
  | clkBandWrite (w : Agent) (b : Fin 64) (v : Word)
  /-- BAND_SURVEY (R427): the open-loop frequency of each band in turn, MHz. -/
  | bandSurvey (mhz : List Nat)
  /-- REDUCED_BY_TIMEOUT (R467). -/
  | reducedByTimeout
  /-- GATE_QUIESCE_REQUEST (R439). -/
  | gateQuiesceRequest (i : Fin 24)
  /-- GATE_CLOSE (R439). -/
  | gateClose (i : Fin 24)
  /-- GATE_DEFER (R439). -/
  | gateDefer (i : Fin 24)
  /-- GATE_OPEN (R440). -/
  | gateOpen (i : Fin 24)
  /-- SYNC_IN_EDGE (R443): the taps the edge hits in the present TIME cycle. -/
  | syncInEdge (hit : Hit)
  /-- ALIGN_CORRECTION (R444): a whole second of TB0; how far after it the output's rising edge comes, ps. -/
  | alignCorrection (j : Fin 12) (edge : Int)
  /-- OSYN_WORD_LATCH_READ (R451). -/
  | osynWordLatchRead (p : Port) (k : Fin 4)
  /-- FE_START_SEQUENCE (R194). -/
  | feStartSequence
  /-- FE_SPI_GO (R195): the value written to GNSS_FESPI_CTL. -/
  | feSpiGo (p : Port) (v : Word)
  /-- FE_SPI_DONE (R195): the bits received. -/
  | feSpiDone (rx : Word)
  /-- AGC_UPDATE (R196): the stream, its samples of the millisecond, and the codes moved. -/
  | agcUpdate (s : Fin 4) (iq : List Iq) (move : Fin 17)
  /-- JAM_SET (R196). -/
  | jamSet (s : Fin 4)
  /-- JAM_CLEAR (R196). -/
  | jamClear (s : Fin 4)
  /-- FERRY_SLIP (R192). -/
  | ferrySlip (s : Fin 4)
  /-- STROBE_LOSS (R192). -/
  | strobeLoss (s : Fin 4)
  /-- STREAM_DISQ_END (R192). -/
  | streamDisqEnd (s : Fin 4)
  /-- CORRELATOR_DUMP (R198): the samples a channel's correlators take, through its next dump or dumps. -/
  | correlatorDump (c : Fin 256) (dump : DumpIn)
  /-- DUMP_PROCESS (R200). -/
  | dumpProcess (c : Fin 256) (proc : ProcIn)
  /-- DUMP_MISS (R200). -/
  | dumpMiss (c : Fin 256)
  /-- GNSS_FW_STALL (R200). -/
  | gnssFwStall
  /-- PULLIN_TIMEOUT (R201). -/
  | pullinTimeout (c : Fin 256)
  /-- TRACK_LOSS (R201). -/
  | trackLoss (c : Fin 256)
  /-- LOST_TIMEOUT (R201). -/
  | lostTimeout (c : Fin 256)
  /-- MEAS_LATCH (R202): by channel, the sample periods, 2^-32, from the last sample it took to the boundary. -/
  | measLatch (ahead : List Nat)
  /-- GCH_MEAS_LATCH_READ (R203). -/
  | gchMeasLatchRead (p : Port) (c : Fin 256)
  /-- GCH_CORR_LATCH_READ (R203). -/
  | gchCorrLatchRead (p : Port) (c : Fin 256)
  /-- CHANNEL_HANDOVER (R205): the channel taken into use, the channel handed over from, and the assignment. -/
  | channelHandover (c src : Fin 256) (asg : ChanIn)
  /-- GNSS_EXCL_WRITE (R208). -/
  | gnssExclWrite (p : Port) (r : ExclReg) (v : Word)
  /-- NAV_UNIT_DECODED (R209). -/
  | navUnitDecoded (c : Fin 256) (u : NavUnit)
  /-- NAV_RD_WRITE (R211). -/
  | navRdWrite (p : Port) (v : Word)
  /-- ACQ_SNAPSHOT_SEARCH (R213): the satellite searched; the peak ratio (1/16), Doppler bin and code phase (1/64 chip)
  of its best cell; and the sweep's duration in ms where it is measured and this search completes it. -/
  | acqSnapshotSearch (sig : Fin 8) (svid : Fin 256) (ratio : Nat) (bin : Int) (code : Nat) (sweepMs : Option Nat)
  /-- ACQ_DETECTION_VERIFY (R214): whether the next snapshot verifies it, and the free channel's assignment. -/
  | acqDetectionVerify (ok : Bool) (c : Fin 256) (asg : ChanIn)
  /-- ACQ_SWEEP_TIMER (R215). -/
  | acqSweepTimer
  /-- ACQ_SWEEP_CMD (R215). -/
  | acqSweepCmd (p : Port) (v : Word)
  /-- AIDED_SEARCH_START (R216): the privileged channel and satellite; the window's half-width and centre in chips; the
  Doppler centre and half-span in Hz; coherent time in ms and blocks. -/
  | aidedSearchStart (k : Fin 16) (sig : Fin 8) (svid : Fin 256) (half centre : Nat) (dopp : Int) (span tcoh blocks : Nat)
  /-- AIDED_SEARCH_EXHAUSTED (R216). -/
  | aidedSearchExhausted (k : Fin 16)
  /-- AIDED_SEARCH_RETRY (R216). -/
  | aidedSearchRetry (k : Fin 16)
  /-- BURST_ON_SEQUENCE (R219). -/
  | burstOnSequence
  /-- BURST_WINDOW_OPEN (R218). -/
  | burstWindowOpen
  /-- BURST_MISS_CHECK (R219). -/
  | burstMissCheck
  /-- BURST_WINDOW_CLOSE (R218): the channels whose satellites' orbit data are no longer current (R219). -/
  | burstWindowClose (old : List Nat)
  /-- BURST_FULL_INTERVAL (R219). -/
  | burstFullInterval
  /-- GNSS_SOLUTION_EPOCH (R229): what the orbits give solutions A and B. -/
  | gnssSolutionEpoch (a b : SolIn)
  /-- INTEGRITY_EPOCH (R239): what the orbits give solutions A and B. -/
  | integrityEpoch (a b : IntegIn)
  /-- GNSS_RESURVEY (R234). -/
  | gnssResurvey (p : Port) (v : Word)
  /-- GNSS_SOL_LATCH_READ (R250): solution A or B. -/
  | gnssSolLatchRead (p : Port) (r : Fin 2)
  /-- REF_PPS_EDGE (R125): index 10 to 13 or 16; the taps the edge hits in the present TIME cycle. -/
  | refPpsEdge (r : Fin 24) (hit : Hit)
  /-- IRIGB_FRAME_RX (R126): index 14 or 15; the code B000 to B007 of its frames, and the hundred
  elements of a frame (0, 1, or 2 for a marker) whose on-time edge is the present instant. -/
  | irigbFrameRx (r : Fin 24) (code : Fin 8) (elems : List Nat)
  /-- ATOM_POLL (R127). -/
  | atomPoll
  /-- ATOM_REPLY_RX (R127): the line received. -/
  | atomReplyRx (line : List Byte)
  /-- ATOM_REPLY_TIMEOUT (R127). -/
  | atomReplyTimeout
  /-- ATOM_LISTEN_SILENCE (R127). -/
  | atomListenSilence
  /-- REF_LOCKOUT_WRITE (R135). -/
  | refLockoutWrite (p : Port) (v : Word)
  /-- REF_FORCE_WRITE (R140). -/
  | refForceWrite (p : Port) (n : Fin 8) (v : Word)
  /-- REF_ACCEPT_WRITE (R151). -/
  | refAcceptWrite (p : Port) (n : Fin 8) (v : Word)
  /-- REF_STEER_LATCH_READ (R154). -/
  | refSteerLatchRead (p : Port) (n : Fin 8)
  /-- SRV_LOOP_OPEN (R166). -/
  | srvLoopOpen (p : Port) (n : Fin 8) (v : Word)
  /-- SRV_OPEN_EFFECT (R166). -/
  | srvOpenEffect (n : Fin 8)
  /-- SRV_LOOP_CLOSE (R169). -/
  | srvLoopClose (p : Port) (n : Fin 8) (v : Word)
  /-- SRV_HOST_WATCHDOG (R168). -/
  | srvHostWatchdog (n : Fin 8)
  /-- SRV_ERR_LATCH_READ (R184). -/
  | srvErrLatchRead (p : Port) (n : Fin 8)
  /-- SRV_MODEL_LATCH_READ (R184). -/
  | srvModelLatchRead (p : Port) (m : Fin 2)
  /-- R453: power-on. -/
  | powerOnReset
  /-- R453: RESET_N goes low. -/
  | resetNLow
  /-- R453: a port writes 1 to SYS_CMD.RESTART. -/
  | sysRestart (p : Port)
  /-- R453, R528: the supply stays below 3.10 V for more than 10 µs. -/
  | supplyMonitorReset
  /-- R455, R467, R463: RESET_N rises. -/
  | resetNRise (i : StartIn)
  /-- R466: the verified image is applied, with the bodies the spec gives no layout for. -/
  | imageApply (x : ImgExtras)
  /-- R471: a port writes OP 1, ERASE, to CFG_FL_CMD. -/
  | flErase (p : Port)
  /-- R471: OP 2, PROGRAM. -/
  | flProgram (p : Port)
  /-- R471: OP 3, READ. -/
  | flRead (p : Port)
  /-- R471: OP 4, CHECK. -/
  | flCheck (p : Port)
  /-- R471: OP 5, ACTIVATE. -/
  | flActivate (p : Port)
  /-- R471: the flash operation completes; whether the flash reported a failure or the operation timed out. -/
  | flOpComplete (failed : Bool)
  /-- R477: a fault source occurs outside this model's own detections, with its information word; for a level source
  the onset, or the end of its condition. -/
  | faultOccurrence (s : Fin 96) (info : Nat) (ended : Bool)
  /-- R484: a block reset of a target ends; whether reloaded firmware matches its shadow hash. -/
  | blockResetComplete (t : Target) (fwOk : Bool)
  /-- R478: the chip reset after its flush. -/
  | chipReset
  /-- R485: 100 µs without an acknowledgement. -/
  | fltWatchdog
  /-- R487: a write of 1s to FLT_PEND0 to 2. -/
  | fltPendClear (p : Port) (w : Fin 3) (v : Word)
  /-- R488: a write of FLT_INJ. -/
  | faultInject (p : Port) (v : Word)
  /-- R500: a read of FLT_INFOs_LO. -/
  | fltInfoLatchRead (p : Port) (s : Fin 96)
  /-- R479: the known-answer tests of a second: the AES pipelines and the SHA engines that fail. -/
  | katRun (aes : BitVec 16) (sha : BitVec 4)
  /-- R493: PFW_N asserts. -/
  | pfwAssert
  /-- R493: 10 ms after PFW_N has deasserted, its flush over. -/
  | pfwRestart
  /-- REC_BACKGROUND_FLUSH (R489). -/
  | recBackgroundFlush
  /-- R491: a flush ends; its duration in µs. -/
  | recFlushDone (us : Nat)
  /-- REC_SEGMENT_ERASE (R492). -/
  | recSegmentErase
  /-- REC_FREEZE (R494). -/
  | recFreeze (p : Port)
  /-- REC_UNFREEZE (R494). -/
  | recUnfreeze (p : Port)
  /-- REC_FREEZE_EXPIRE (R494). -/
  | recFreezeExpire
  /-- REC_MARK (R490). -/
  | recMark (p : Port)
  /-- REC_WIN_LOAD (R495). -/
  | recWinLoad (p : Port)
  /-- REC_WIN_LOAD_DONE (R495). -/
  | recWinLoadDone (p : Port)
  /-- R497: a write of 1 to PMC_CMD.START. -/
  | pmcStart (p : Port)
  /-- R497: a write of 1 to PMC_CMD.STOP. -/
  | pmcStop (p : Port)
  /-- R497: a write of 1 to PMC_CMD.SNAP. -/
  | pmcSnap (p : Port)
  /-- R497: a write of 1 to PMC_CMD.CLEAR. -/
  | pmcClear (p : Port)
  /-- R498: the sampler takes an instruction. -/
  | pmcSample (i : SampleIn)
  /-- R498: a write of 1 to PMC_SAMP_CMD.RESET. -/
  | pmcSampReset (p : Port)
  /-- R504: a read of PMCc_LO. -/
  | pmcLatchRead (p : Port) (c : Fin 128)
  /-- R10, R508: a write of one word at a byte address arrives at a port. `part` says that a byte enable of a PCIe write
  is clear; `times` is how often MGMT takes the request where the image breaks R431's HOST:MGMT limit (R432). -/
  | registerWrite (p : Port) (a : BitVec 24) (v : Word) (part : Bool) (times : Fin 3)
  /-- R510: an access to an address that names no register; a write when `write` is true. -/
  | unmappedAccess (p : Port) (a : BitVec 24) (write : Bool)
  /-- R506: a configuration request. -/
  | pcieConfigRequest
  /-- R506: a memory request to BAR0 or BAR2; a write when `write` is true. -/
  | pcieEarlyMemoryRequest (write : Bool)
  /-- PCIE_FLR (R507). -/
  | pcieFlr
  /-- PCIE_HOT_RESET (R507). -/
  | pcieHotReset
  /-- PCIE_LINK_DOWN (R507). -/
  | pcieLinkDown
  /-- PCIE_D3HOT_ENTRY (R507). -/
  | pcieD3hotEntry
  /-- PCIE_D0_RETURN (R507). -/
  | pcieD0Return
  /-- R513, R514: an SPI READ of n + 1 words from an address; `inTime` says that the reads completed before 65 535 bytes
  of wait. -/
  | spiRead (a : BitVec 24) (n : Fin 64) (inTime : Bool)
  /-- R513, R515: an SPI WRITE of words from an address; `fits` words find room in the ferry. -/
  | spiWrite (a : BitVec 24) (words : List Word) (fits : Nat)
  /-- SPI_STATUS (R513). -/
  | spiStatus
  /-- SPI_NOP (R512). -/
  | spiNop
  /-- R519: a write of the port's own HIF_ISTAT. -/
  | hifIstatWrite (p : Port) (v : Word)
  /-- R521: the mask bit of a vector's MSI-X table entry is cleared. -/
  | msixUnmask (v : Fin 16)
  /-- R401: PFW_N deasserts. -/
  | pfwDeassert
  /-- R493: 100 µs after PFW_N asserts. -/
  | pfwBlockStop
  /-- XO_EDGES_RESUME (R433). -/
  | xoEdgesResume
  /-- RC_OSCILLATOR_STOP (R433). -/
  | rcOscillatorStop
  /-- OSYN_RELOCK (R445). -/
  | osynRelock (k : Fin 4)
  /-- STROBE_RETURN (R192). -/
  | strobeReturn (s : Fin 4)
  /-- STRAIT_BLOCK_LOCK_GAIN (R408). -/
  | straitBlockLockGain (l : Fin 2)
  /-- STRAIT_BLOCK_LOCK_LOSS (R391). -/
  | straitBlockLockLoss (l : Fin 2)
  /-- AIDED_SEARCH_FOUND (R216). -/
  | aidedSearchFound (k : Fin 16) (hit : AidHit)
  /-- FE_SEQUENCE_DONE (R194): what the sequence's reads returned, in order. -/
  | feSequenceDone (reads : List Word)
  /-- R538: a second of a time base's presented value begins at IRIGB_OUT k. -/
  | irigbOutFrame (k : Fin 2) (o : IrigOut)
  /-- PTP_PDELAY_RESP_FUP_TX (R348): the port whose timestamp queue holds a Pdelay_Resp's departure. -/
  | ptpPdelayRespFupTx (n : Fin 8)
  /-- KEY_DERIVATION_DONE (R318). -/
  | keyDerivationDone
  /-- APGOR_SLOT_STORED (R383). -/
  | apgorSlotStored
  /-- REC_SEGMENT_ERASE_DONE (R492). -/
  | recSegmentEraseDone
  /-- SPI_WRITE_PERFORMED (R513). -/
  | spiWritePerformed
  /-- R9, R10: a read of an RC register. `times` as for REGISTER_WRITE (R432). -/
  | rcReadClear (p : Port) (a : BitVec 24) (times : Fin 3)
  /-- R545: link training reaches L0 at a speed (1 to 4: Gen1 to Gen4) and a width. -/
  | pcieLinkUp (speed width : Fin 5)
  /-- R479: a corrected SRAM error in the memory of a source. -/
  | sramCorrectedError (s : Fin 96)
  /-- R497: a counter passes 2^48 − 1. -/
  | pmcCounterWrap (c : Fin 128)
  /-- R528: the supply is back in its range and the monitor releases. -/
  | supplyMonitorRelease
deriving DecidableEq, Repr

end Sys2Proof
end

