-- ==== Sys2Proof/Decode.lean ====
section
/-! DEFINITION. The command a word spells: the operation table gives no row any bits, so none. -/
namespace Sys2Proof

/-- The command a word of the operation table spells; the table gives no row an encoding. -/
def decodeTableWord (_nbits _w : Nat) : Option Instr := none

end Sys2Proof
end

