-- ==== Sys2Proof/Machine/RegMap.lean ====
section
/-! DEFINITION. The register map (R522): the byte address of every register of the address map, named as
the spec names it (`R.TBn_STAT n` is TBn_STAT of time base n), and one row per register with its access code (R9),
its host-writable bits and its write-one-to-clear bits. Each address and access code is transcribed from the register
tables of chapters 02 to 18. -/
namespace Sys2Proof.Machine

/-- The access codes of R9; `mixed` registers hold fields of several codes, told apart by the two masks. -/
inductive Acc | ro | il | rc | rw | wo | w1c | mixed
deriving DecidableEq, Repr

/-- One register (or one array of registers) of the map: its first address, its array dimensions as (count, stride)
from the outermost in, its access code, the bits a write may set or clear, the bits a written one clears, whether each
host port has its own copy, and the bits a REG pair of the image sets (R462; zero: a pair may not name it). -/
structure RegRow where
  base : Nat
  dims : List (Nat × Nat)
  acc : Acc
  rw : Nat
  w1c : Nat
  perPort : Bool
  img : Nat
deriving DecidableEq, Repr

/-- R64 IL, fields below. -/
def R.TBn_CFG (n : Nat) : Nat := 0x30000 + n * 0x100
/-- R64 mixed, fields below. -/
def R.TBn_STAT (n : Nat) : Nat := 0x30004 + n * 0x100
/-- R64 WO, fields below. -/
def R.TBn_CMD (n : Nat) : Nat := 0x30008 + n * 0x100
/-- R64 RO, [15:0] latched linear seconds [47:32]. -/
def R.TBn_NOW_SEC_HI (n : Nat) : Nat := 0x3000C + n * 0x100
/-- R64 RO, linear seconds [31:0]; a read latches (R48). -/
def R.TBn_NOW_SEC_LO (n : Nat) : Nat := 0x30010 + n * 0x100
/-- R64 RO, latched nanoseconds. -/
def R.TBn_NOW_NS (n : Nat) : Nat := 0x30014 + n * 0x100
/-- R64 RO, [15:0] latched fractional ns. -/
def R.TBn_NOW_FRAC (n : Nat) : Nat := 0x30018 + n * 0x100
/-- R64 RO, [15:0] latched presented seconds [47:32]. -/
def R.TBn_PRES_SEC_HI (n : Nat) : Nat := 0x3001C + n * 0x100
/-- R64 RO, presented seconds [31:0]. -/
def R.TBn_PRES_SEC_LO (n : Nat) : Nat := 0x30020 + n * 0x100
/-- R64 RO, presented nanoseconds. -/
def R.TBn_PRES_NS (n : Nat) : Nat := 0x30024 + n * 0x100
/-- R64 RO, [15:0] presented fractional ns. -/
def R.TBn_PRES_FRAC (n : Nat) : Nat := 0x30028 + n * 0x100
/-- R64 RW, [19:16] integer ns, [15:0] fraction [47:32]; held until INC_LO is written (R33). -/
def R.TBn_INC_HI (n : Nat) : Nat := 0x3002C + n * 0x100
/-- R64 RW, fraction [31:0]; a write commits. -/
def R.TBn_INC_LO (n : Nat) : Nat := 0x30030 + n * 0x100
/-- R64 RW, [19:8] integer ns, [7:0] fraction [39:32]; loaded from image. -/
def R.TBn_BINC_HI (n : Nat) : Nat := 0x30034 + n * 0x100
/-- R64 RW, fraction [31:0]; a write commits. -/
def R.TBn_BINC_LO (n : Nat) : Nat := 0x30038 + n * 0x100
/-- R64 RW, [31] MODE (0 replace, 1 add); [15:0] amount [47:32]. -/
def R.TBn_PADJ_HI (n : Nat) : Nat := 0x3003C + n * 0x100
/-- R64 RW, amount [31:0], units 2⁻¹⁶ ns; a write commits. -/
def R.TBn_PADJ_LO (n : Nat) : Nat := 0x30040 + n * 0x100
/-- R64 RO, [15:0] remaining amount [47:32]. -/
def R.TBn_PREM_HI (n : Nat) : Nat := 0x30044 + n * 0x100
/-- R64 RO, remaining amount [31:0]. -/
def R.TBn_PREM_LO (n : Nat) : Nat := 0x30048 + n * 0x100
/-- R64 RW, [9:0] slope, ns/s, 1 to 1 000. -/
def R.TBn_PSLOPE (n : Nat) : Nat := 0x3004C + n * 0x100
/-- R64 RW, [15:0] target seconds [47:32]. -/
def R.TBn_SET_SEC_HI (n : Nat) : Nat := 0x30050 + n * 0x100
/-- R64 RW, target seconds [31:0]. -/
def R.TBn_SET_SEC_LO (n : Nat) : Nat := 0x30054 + n * 0x100
/-- R64 RW, target nanoseconds. -/
def R.TBn_SET_NS (n : Nat) : Nat := 0x30058 + n * 0x100
/-- R64 RW, instant, unset count seconds [31:0]. -/
def R.TBn_SET_AT_SEC (n : Nat) : Nat := 0x3005C + n * 0x100
/-- R64 RW, instant, nanoseconds. -/
def R.TBn_SET_AT_NS (n : Nat) : Nat := 0x30060 + n * 0x100
/-- R64 RC, rejected initial sets, saturating. -/
def R.TBn_SET_REJ (n : Nat) : Nat := 0x30064 + n * 0x100
/-- R64 RW, fields below. -/
def R.TBn_LEAP_CTL (n : Nat) : Nat := 0x30068 + n * 0x100
/-- R64 RW, [15:0] L, seconds [47:32]; held until TBn_LEAP_CTL is written (R47). -/
def R.TBn_LEAP_AT_HI (n : Nat) : Nat := 0x3006C + n * 0x100
/-- R64 RW, L, seconds [31:0]; held until TBn_LEAP_CTL is written (R47). -/
def R.TBn_LEAP_AT_LO (n : Nat) : Nat := 0x30070 + n * 0x100
/-- R64 RW, [16:0] W in seconds, 60 to 86 400; other values ignored (R546); held until TBn_LEAP_CTL is written (. -/
def R.TBn_SMEAR_LEN (n : Nat) : Nat := 0x30074 + n * 0x100
/-- R64 RO, signed whole-second leap term. -/
def R.TBn_LEAPCNT (n : Nat) : Nat := 0x30078 + n * 0x100
/-- R64 RO, snapshot (R49), layout as NOW. -/
def R.TBn_SNAP_SEC_HI (n : Nat) : Nat := 0x3007C + n * 0x100
/-- R64 RO, snapshot (R49), layout as NOW. -/
def R.TBn_SNAP_SEC_LO (n : Nat) : Nat := 0x30080 + n * 0x100
/-- R64 RO, snapshot (R49), layout as NOW. -/
def R.TBn_SNAP_NS (n : Nat) : Nat := 0x30084 + n * 0x100
/-- R64 RO, snapshot (R49), layout as NOW. -/
def R.TBn_SNAP_FRAC (n : Nat) : Nat := 0x30088 + n * 0x100
/-- R64 RW, [15:0] target fractional ns (R42). -/
def R.TBn_SET_FRAC (n : Nat) : Nat := 0x3008C + n * 0x100
/-- R64 WO, [7:0] one bit per time base. -/
def R.TB_SNAP_CMD : Nat := 0x30800
/-- R64 W1C, [0] DONE. -/
def R.TB_SNAP_STAT : Nat := 0x30804
/-- R64 IL, RC bypass increment, format of BINC_HI. -/
def R.TB_RCINC_HI : Nat := 0x30808
/-- R64 IL, RC bypass increment, fraction [31:0]. -/
def R.TB_RCINC_LO : Nat := 0x3080C
/-- R69 RW, fields below. -/
def R.EIOn_CFG (n : Nat) : Nat := 0x60000 + n * 0x80
/-- R69 mixed, fields below. -/
def R.EIOn_STAT (n : Nat) : Nat := 0x60004 + n * 0x80
/-- R69 WO, [2] POP, [1] DISARM, [0] ARM. -/
def R.EIOn_CMD (n : Nat) : Nat := 0x60008 + n * 0x80
/-- R69 RW, T0 seconds [31:0]. -/
def R.EIOn_T0_SEC (n : Nat) : Nat := 0x6000C + n * 0x80
/-- R69 RW, T0 nanoseconds. -/
def R.EIOn_T0_NS (n : Nat) : Nat := 0x60010 + n * 0x80
/-- R69 RW, [15:0] T0 fractional ns. -/
def R.EIOn_T0_FRAC (n : Nat) : Nat := 0x60014 + n * 0x80
/-- R69 RW, period, whole ns. -/
def R.EIOn_PER_NS (n : Nat) : Nat := 0x60018 + n * 0x80
/-- R69 RW, period fraction, units 2⁻³² ns. -/
def R.EIOn_PER_FRAC (n : Nat) : Nat := 0x6001C + n * 0x80
/-- R69 RW, pulse width, ns. -/
def R.EIOn_WIDTH (n : Nat) : Nat := 0x60020 + n * 0x80
/-- R69 RW, positions, placed or suppressed (R549); 0 without end. -/
def R.EIOn_COUNT (n : Nat) : Nat := 0x60024 + n * 0x80
/-- R69 RO, pulses placed since the last arm (R549). -/
def R.EIOn_DONE (n : Nat) : Nat := 0x60028 + n * 0x80
/-- R69 RW, [15:0] signed board delay, ps. -/
def R.EIOn_DLY (n : Nat) : Nat := 0x6002C + n * 0x80
/-- R69 RW, [19:0] stuck timeout, µs, 1 to 1 000 000; larger values ignored (R546); 0 disables. -/
def R.EIOn_STUCK (n : Nat) : Nat := 0x60030 + n * 0x80
/-- R69 RO, [31] VALID, [30] EDGE (1 rising), [29:28] CLKSRC (00 root, 01 LO bypass, 10 RC bypass), [15:0] secon. -/
def R.EIOn_CAP0 (n : Nat) : Nat := 0x60034 + n * 0x80
/-- R69 RO, seconds [31:0]. -/
def R.EIOn_CAP1 (n : Nat) : Nat := 0x60038 + n * 0x80
/-- R69 RO, nanoseconds. -/
def R.EIOn_CAP2 (n : Nat) : Nat := 0x6003C + n * 0x80
/-- R69 RO, [31:16] sequence number, [15:0] fractional ns. -/
def R.EIOn_CAP3 (n : Nat) : Nat := 0x60040 + n * 0x80
/-- R69 RO, [6:0] entries held, 0 to 64. -/
def R.EIOn_FIFO_LVL (n : Nat) : Nat := 0x60044 + n * 0x80
/-- R69 RC, edges dropped by the filter or while stuck, saturating. -/
def R.EIOn_DROP (n : Nat) : Nat := 0x60048 + n * 0x80
/-- R69 RC, edges dropped at a full FIFO, saturating. -/
def R.EIOn_OVF (n : Nat) : Nat := 0x6004C + n * 0x80
/-- R69 RC, arms rejected as late, saturating. -/
def R.EIOn_LATE (n : Nat) : Nat := 0x60050 + n * 0x80
/-- R69 RC, pulses suppressed by GATE or RC bypass, saturating. -/
def R.EIOn_SUPP (n : Nat) : Nat := 0x60054 + n * 0x80
/-- R97 RW, fields below. -/
def R.TSUn_CFG (n : Nat) : Nat := 0x40000 + n * 0x100
/-- R97 mixed, fields below. -/
def R.TSUn_STAT (n : Nat) : Nat := 0x40004 + n * 0x100
/-- R97 RW, signed ps, connector to receive balls. -/
def R.TSUn_RX_LAT (n : Nat) : Nat := 0x40008 + n * 0x100
/-- R97 RW, signed ps, transmit balls to connector. -/
def R.TSUn_TX_LAT (n : Nat) : Nat := 0x4000C + n * 0x100
/-- R97 RW, signed ps, delayAsymmetry passed to PTP. -/
def R.TSUn_ASYM (n : Nat) : Nat := 0x40010 + n * 0x100
/-- R97 RO, ps, fused receive latency for the mode in use. -/
def R.TSUn_RX_FIX (n : Nat) : Nat := 0x40014 + n * 0x100
/-- R97 RO, ps, fused transmit latency for the mode in use. -/
def R.TSUn_TX_FIX (n : Nat) : Nat := 0x40018 + n * 0x100
/-- R97 RW, [15:0] launch tolerance, ns. -/
def R.TSUn_LAUNCH_TOL (n : Nat) : Nat := 0x4001C + n * 0x100
/-- R97 RO, [6:0] two-step queue entries held, 0 to 64. -/
def R.TSUn_TXQ_LVL (n : Nat) : Nat := 0x40020 + n * 0x100
/-- R97 RC, predictions off by more than 10 ps, saturating. -/
def R.TSUn_TX_MISPRED (n : Nat) : Nat := 0x40024 + n * 0x100
/-- R97 RC, largest prediction difference, ps. -/
def R.TSUn_TX_MISPRED_MAX (n : Nat) : Nat := 0x40028 + n * 0x100
/-- R97 RC, launch-time frames dropped as late, saturating. -/
def R.TSUn_LAUNCH_LATE (n : Nat) : Nat := 0x4002C + n * 0x100
/-- R97 RC, frames dropped for a bad insertion command, saturating. -/
def R.TSUn_INS_ERR (n : Nat) : Nat := 0x40030 + n * 0x100
/-- R97 RW, fields below. -/
def R.PPSm_CFG (m : Nat) : Nat := 0x40800 + m * 0x40
/-- R97 mixed, [31:3] reserved; [2] CFG_ERR (W1C); [1] PULSE (RO); [0] RUN (RO), edges being placed. -/
def R.PPSm_STAT (m : Nat) : Nat := 0x40804 + m * 0x40
/-- R97 RW, signed offset, ps. -/
def R.PPSm_OFS (m : Nat) : Nat := 0x40808 + m * 0x40
/-- R97 RW, pulse width, ns (default 100 ms). -/
def R.PPSm_WIDTH (m : Nat) : Nat := 0x4080C + m * 0x40
/-- R97 RW, [15:0] signed board delay, ps. -/
def R.PPSm_DLY (m : Nat) : Nat := 0x40810 + m * 0x40
/-- R97 RC, pulses suppressed or skipped, saturating. -/
def R.PPSm_SUPP (m : Nat) : Nat := 0x40814 + m * 0x40
/-- R97 RW, [14:0] launch lead, ns, 200 to 20 000; other values ignored. -/
def R.TSU_LAUNCH_LEAD : Nat := 0x40C00
/-- R97 RO, [31] STALE, any position; [15:0] calibrations completed, wrapping. -/
def R.TSU_CAL_STAT : Nat := 0x40C04
/-- R97 RO, ms since the oldest accepted table was taken. -/
def R.TSU_CAL_AGE : Nat := 0x40C08
/-- R97 RC, rejected calibrations, saturating. -/
def R.TSU_CAL_FAIL : Nat := 0x40C0C
/-- R121 IL, [31:1] reserved; [0] TRACE (R118). -/
def R.EBn_CFG (n : Nat) : Nat := 0x50000 + n * 0x100
/-- R121 mixed, fields below. -/
def R.EBn_STAT (n : Nat) : Nat := 0x50004 + n * 0x100
/-- R121 RO, B [31:0], ps; a read latches. -/
def R.EBn_B_LO (n : Nat) : Nat := 0x50008 + n * 0x100
/-- R121 RO, B [63:32]. -/
def R.EBn_B_HI (n : Nat) : Nat := 0x5000C + n * 0x100
/-- R121 RO, LO [31:0], signed ps. -/
def R.EBn_LO_LO (n : Nat) : Nat := 0x50010 + n * 0x100
/-- R121 RO, LO [63:32]. -/
def R.EBn_LO_HI (n : Nat) : Nat := 0x50014 + n * 0x100
/-- R121 RO, HI [31:0], signed ps. -/
def R.EBn_HI_LO (n : Nat) : Nat := 0x50018 + n * 0x100
/-- R121 RO, HI [63:32]. -/
def R.EBn_HI_HI (n : Nat) : Nat := 0x5001C + n * 0x100
/-- R121 RO, RATE, units 2⁻⁸ ppt. -/
def R.EBn_RATE (n : Nat) : Nat := 0x50020 + n * 0x100
/-- R121 RO, ms since the anchor, saturating. -/
def R.EBn_TAU (n : Nat) : Nat := 0x50024 + n * 0x100
/-- R121 RO, P [31:0], signed, units 2⁻¹⁶ ps. -/
def R.EBn_P_LO (n : Nat) : Nat := 0x50028 + n * 0x100
/-- R121 RO, P [63:32]. -/
def R.EBn_P_HI (n : Nat) : Nat := 0x5002C + n * 0x100
/-- R121 RO, p, signed, units 2⁻¹⁶ ppt. -/
def R.EBn_PRATE (n : Nat) : Nat := 0x50030 + n * 0x100
/-- R121 RO, Y, units 2⁻¹⁶ ppt. -/
def R.EBn_Y (n : Nat) : Nat := 0x50034 + n * 0x100
/-- R121 RO, D, units 2⁻¹⁶ ppt/day. -/
def R.EBn_D (n : Nat) : Nat := 0x50038 + n * 0x100
/-- R121 RO, K, units 2⁻¹⁶ ppt/K. -/
def R.EBn_K (n : Nat) : Nat := 0x5003C + n * 0x100
/-- R121 RO, [15:0] ΔT, units 2⁻⁸ K. -/
def R.EBn_DT (n : Nat) : Nat := 0x50040 + n * 0x100
/-- R121 RO, [15:0] SEQ of the latched tick. -/
def R.EBn_SEQ (n : Nat) : Nat := 0x50044 + n * 0x100
/-- R121 IL, holdover specification threshold, ns. -/
def R.EBn_THR_SPEC (n : Nat) : Nat := 0x50048 + n * 0x100
/-- R121 IL, serving threshold, ns; an image with THR_SERVE below THR_SPEC fails verification. -/
def R.EBn_THR_SERVE (n : Nat) : Nat := 0x5004C + n * 0x100
/-- R121 IL, [15:0] anchor recency window, ms, 10 to 60 000. -/
def R.EBn_LOCK_WIN (n : Nat) : Nat := 0x50050 + n * 0x100
/-- R121 IL, [11:0] checkpoint period, s, 0 to 3 600. -/
def R.EBn_LPER (n : Nat) : Nat := 0x50054 + n * 0x100
/-- R121 RC, conflicts (R112), saturating. -/
def R.EBn_CONFLICT (n : Nat) : Nat := 0x50058 + n * 0x100
/-- R121 RC, deadline-miss ticks (R109), saturating. -/
def R.EBn_MISS (n : Nat) : Nat := 0x5005C + n * 0x100
/-- R121 RC, ticks with a temperature step above 0.05 K, saturating. -/
def R.EBn_TSTEP (n : Nat) : Nat := 0x50060 + n * 0x100
/-- R121 IL, board egress allowance, ps. -/
def R.EB_EGRESS_ADD : Nat := 0x50800
/-- R121 IL, Strait measurement uncertainty, ps; the image value must be at least 200. -/
def R.EB_STRAIT_UNC : Nat := 0x50804
/-- R121 RC, ledger entries dropped at the DMA ring, saturating. -/
def R.EB_DMA_DROP : Nat := 0x50808
/-- R121 IL, [31] FREQ, set for USE 1 and clear for USE 2 and 3 (R106); [30:0] static U_REF in ps, or with FREQ s. -/
def R.EB_RUNC (r : Nat) : Nat := 0x50900 + r * 0x4
/-- R121 IL, U_PATH, ps. -/
def R.EB_RPATH (r : Nat) : Nat := 0x50980 + r * 0x4
/-- R154 IL, fields below. -/
def R.REFr_CFG (r : Nat) : Nat := 0x70000 + r * 0x40
/-- R154 mixed, fields below. -/
def R.REFr_STAT (r : Nat) : Nat := 0x70004 + r * 0x40
/-- R154 IL, [13:0] hold-off, ms, 0 to 10 000. -/
def R.REFr_HOLDOFF (r : Nat) : Nat := 0x70008 + r * 0x40
/-- R154 IL, [11:0] wait-to-restore, s, 0 to 3 600. -/
def R.REFr_WTR (r : Nat) : Nat := 0x7000C + r * 0x40
/-- R154 IL, [15:0] frequency tolerance, units 0.01 ppm, 1 to 65 535. -/
def R.REFr_FTOL (r : Nat) : Nat := 0x70010 + r * 0x40
/-- R154 IL, REFCLK_IN frequency, Hz, 8 000 to 156 250 000; indices 10 to 13 only. -/
def R.REFr_NOMF (r : Nat) : Nat := 0x70014 + r * 0x40
/-- R154 IL, [11:0] trend window, s, 10 to 3 600. -/
def R.REFr_TRWIN (r : Nat) : Nat := 0x70018 + r * 0x40
/-- R154 IL, [15:0] trend tolerance, ppt, 1 to 65 535. -/
def R.REFr_TRTOL (r : Nat) : Nat := 0x7001C + r * 0x40
/-- R154 IL, [19:0] re-entry threshold, ns, 1 to 1 000 000. -/
def R.REFr_REENTRY (r : Nat) : Nat := 0x70020 + r * 0x40
/-- R154 RO, remaining hold-off or wait-to-restore, ms. -/
def R.REFr_TIMER (r : Nat) : Nat := 0x70024 + r * 0x40
/-- R154 RO, [31:24] kind: 1 ESMC, 2 Announce, 3 GNSS, 4 IRIG-B, 5 atomic, 6 static, 7 mate; [15:0] raw code (SSM. -/
def R.REFr_QLMSG (r : Nat) : Nat := 0x70028 + r * 0x40
/-- R154 RO, signed frequency offset against the TB0 model, units 2⁻⁸ ppt. -/
def R.REFr_FREQ (r : Nat) : Nat := 0x7002C + r * 0x40
/-- R154 RC, entries to FAILED, saturating. -/
def R.REFr_FAILS (r : Nat) : Nat := 0x70030 + r * 0x40
/-- R154 RC, edges and messages discarded, saturating. -/
def R.REFr_GLITCH (r : Nat) : Nat := 0x70034 + r * 0x40
/-- R154 IL, [31:11] reserved; [10] REVERT; [9:0] SLOPE, ns/s, 1 to 1 000. -/
def R.REF_TBn_CFG (n : Nat) : Nat := 0x70800 + n * 0x40
/-- R154 mixed, fields below. -/
def R.REF_TBn_STAT (n : Nat) : Nat := 0x70804 + n * 0x40
/-- R154 RO, [23:0] references suspect for n. -/
def R.REF_TBn_SUSP (n : Nat) : Nat := 0x70808 + n * 0x40
/-- R154 WO, [23:0] accept suspect references (R151). -/
def R.REF_TBn_ACCEPT (n : Nat) : Nat := 0x7080C + n * 0x40
/-- R154 RW, [31] EN; [4:0] reference forced. -/
def R.REF_TBn_FORCE (n : Nat) : Nat := 0x70810 + n * 0x40
/-- R154 RO, [23:0] references selectable for n. -/
def R.REF_TBn_SELABLE (n : Nat) : Nat := 0x70814 + n * 0x40
/-- R154 IL, offset range, ns, 1 000 to 1 000 000 000. -/
def R.REF_TBn_PMAX (n : Nat) : Nat := 0x70818 + n * 0x40
/-- R154 RO, S [31:0], signed ps; a read latches. -/
def R.REF_TBn_STEER_LO (n : Nat) : Nat := 0x7081C + n * 0x40
/-- R154 RO, S [63:32]. -/
def R.REF_TBn_STEER_HI (n : Nat) : Nat := 0x70820 + n * 0x40
/-- R154 RC, changes of selection, saturating. -/
def R.REF_TBn_SWITCHES (n : Nat) : Nat := 0x70824 + n * 0x40
/-- R154 RC, pulls abandoned (R152), saturating. -/
def R.REF_TBn_ABANDON (n : Nat) : Nat := 0x70828 + n * 0x40
/-- R154 RC, disqualifications by conflict (R148), saturating. -/
def R.REF_TBn_CONFLICT_DQ (n : Nat) : Nat := 0x7082C + n * 0x40
/-- R154 RC, ticks with the predictor test set aside (R147), saturating. -/
def R.REF_TBn_PREDDIS (n : Nat) : Nat := 0x70830 + n * 0x40
/-- R154 RW, [23:0] locked-out references (R135). -/
def R.REF_LOCKOUT : Nat := 0x70C00
/-- R154 RO, [31] VALID; [15:0] signed TAI − UTC, s; the image sets the starting value of [15:0] with VALID at 0 . -/
def R.REF_TAIUTC : Nat := 0x70C04
/-- R154 IL, PPS acceptance window, ns, 1 000 to 100 000 000. -/
def R.REF_PPSWIN : Nat := 0x70C08
/-- R154 IL, [31:9] reserved; [8] POLL; [2:0] baud: 0 9 600, 1 19 200, 2 38 400, 3 57 600, 4 115 200. -/
def R.REF_ATOM_CFG : Nat := 0x70C0C
/-- R154 RO, ticks evaluated, wrapping. -/
def R.REF_TICKS : Nat := 0x70C10
/-- R184 IL, fields below. -/
def R.SRVn_CFG (n : Nat) : Nat := 0x80000 + n * 0x100
/-- R184 RW, [31] OPEN (R166, R169); [30:3] reserved; [2:0] RESTEP. -/
def R.SRVn_CTL (n : Nat) : Nat := 0x80004 + n * 0x100
/-- R184 mixed, fields below. -/
def R.SRVn_STAT (n : Nat) : Nat := 0x80008 + n * 0x100
/-- R184 RO, last e, signed ps, saturating; a read latches. -/
def R.SRVn_ERR (n : Nat) : Nat := 0x8000C + n * 0x100
/-- R184 RO, I, signed, units 2⁻⁴ ppt. -/
def R.SRVn_INTEG (n : Nat) : Nat := 0x80010 + n * 0x100
/-- R184 RO, c, signed, units 2⁻⁴ ppt. -/
def R.SRVn_CORR (n : Nat) : Nat := 0x80014 + n * 0x100
/-- R184 RO, INC_M, format of TBn_INC_HI. -/
def R.SRVn_MODELINC_HI (n : Nat) : Nat := 0x80018 + n * 0x100
/-- R184 RO, INC_M, fraction [31:0]. -/
def R.SRVn_MODELINC_LO (n : Nat) : Nat := 0x8001C + n * 0x100
/-- R184 RO, [13:0] BW_eff, mHz. -/
def R.SRVn_BW_EFF (n : Nat) : Nat := 0x80020 + n * 0x100
/-- R184 RO, s in the current step, saturating. -/
def R.SRVn_STEPTIME (n : Nat) : Nat := 0x80024 + n * 0x100
/-- R184 IL, [15:0] host watchdog, ms; 0 disables. -/
def R.SRVn_HOSTWD (n : Nat) : Nat := 0x80028 + n * 0x100
/-- R184 RC, ignored writes (R166, R167), saturating. -/
def R.SRVn_WR_IGN (n : Nat) : Nat := 0x8002C + n * 0x100
/-- R184 RC, clamped corrections (R160, R161), saturating. -/
def R.SRVn_CLAMPS (n : Nat) : Nat := 0x80030 + n * 0x100
/-- R184 RO, loop updates completed, wrapping. -/
def R.SRVn_UPD (n : Nat) : Nat := 0x80034 + n * 0x100
/-- R184 IL, step k, k = 0 to 7; fields below. -/
def R.SRVn_SCHk_A (n k : Nat) : Nat := 0x80080 + n * 0x100 + k * 0x8
/-- R184 IL, step k; fields below. -/
def R.SRVn_SCHk_B (n k : Nat) : Nat := 0x80084 + n * 0x100 + k * 0x8
/-- R184 IL, [31:4] reserved; [3] OSC (0 local, 1 atomic); [2:0] LTB. -/
def R.SRV_CFG : Nat := 0x80800
/-- R184 mixed, fields below. -/
def R.SRV_STAT : Nat := 0x80804
/-- R184 RC, loop updates past the deadline (R17), saturating. -/
def R.SRV_DEADLINE_MISS : Nat := 0x80808
/-- R184 RO, [31:16] major, [15:0] minor firmware version. -/
def R.SRV_FW_VER : Nat := 0x8080C
/-- R184 RO, [25:16] latest finish of the last 1 000 ticks, µs after the tick; [9:0] finish at the previous tick. -/
def R.SRV_LAST_END : Nat := 0x80810
/-- R184 RO, [15:0] TA0, signed, units 2⁻⁸ °C. -/
def R.SRV_TEMP0 : Nat := 0x80814
/-- R184 RO, [15:0] TA1, signed, units 2⁻⁸ °C. -/
def R.SRV_TEMP1 : Nat := 0x80818
/-- R184 RO, [15:0] T̄, signed, units 2⁻⁸ °C. -/
def R.SRV_TFILT : Nat := 0x8081C
/-- R184 IL, [24:16] w, units 1/256, 0 to 256; [15:0] TLAG, s. -/
def R.SRV_TW : Nat := 0x80820
/-- R184 RC, model corrections by R179, saturating. -/
def R.SRV_PREDCORR : Nat := 0x80824
/-- R184 RO, [31] VALID; [30] SEEDED; [29] LEARN, learning now; [28] CAP (R176); [15:0] learning hours, saturatin. -/
def R.SRV_Mm_STAT (m : Nat) : Nat := 0x80900 + m * 0x40
/-- R184 RO, y0, signed, units 2⁻⁴ ppt. -/
def R.SRV_Mm_Y0 (m : Nat) : Nat := 0x80904 + m * 0x40
/-- R184 RO, a, signed, units 2⁻¹⁶ ppt/day. -/
def R.SRV_Mm_AGE (m : Nat) : Nat := 0x80908 + m * 0x40
/-- R184 RO, cT, signed, units 2⁻¹⁶ ppt/K. -/
def R.SRV_Mm_TC (m : Nat) : Nat := 0x8090C + m * 0x40
/-- R184 RO, [15:0] Tref, signed, units 2⁻⁸ °C. -/
def R.SRV_Mm_TREF (m : Nat) : Nat := 0x80910 + m * 0x40
/-- R184 RO, t_M, TB0 seconds [31:0]. -/
def R.SRV_Mm_EPOCH (m : Nat) : Nat := 0x80914 + m * 0x40
/-- R184 RO, Y, units 2⁻¹⁶ ppt. -/
def R.SRV_Mm_Y (m : Nat) : Nat := 0x80918 + m * 0x40
/-- R184 RO, D, units 2⁻¹⁶ ppt/day. -/
def R.SRV_Mm_D (m : Nat) : Nat := 0x8091C + m * 0x40
/-- R184 RO, K, units 2⁻¹⁶ ppt/K. -/
def R.SRV_Mm_K (m : Nat) : Nat := 0x80920 + m * 0x40
/-- R184 IL, cold Y, units 2⁻¹⁶ ppt. -/
def R.SRV_Mm_YCOLD (m : Nat) : Nat := 0x80924 + m * 0x40
/-- R184 IL, cold D, units 2⁻¹⁶ ppt/day. -/
def R.SRV_Mm_DCOLD (m : Nat) : Nat := 0x80928 + m * 0x40
/-- R184 IL, cold K, units 2⁻¹⁶ ppt/K. -/
def R.SRV_Mm_KCOLD (m : Nat) : Nat := 0x8092C + m * 0x40
/-- R184 IL, noise floor of Y, units 2⁻¹⁶ ppt. -/
def R.SRV_Mm_YFLOOR (m : Nat) : Nat := 0x80930 + m * 0x40
/-- R184 IL, floor of D, units 2⁻¹⁶ ppt/day. -/
def R.SRV_Mm_DFLOOR (m : Nat) : Nat := 0x80934 + m * 0x40
/-- R184 IL, floor of K, units 2⁻¹⁶ ppt/K. -/
def R.SRV_Mm_KFLOOR (m : Nat) : Nat := 0x80938 + m * 0x40
/-- R184 IL, [15:8] LMIN, h, 1 to 72; [7:0] LWIN, h, 1 to 168; LMIN above LWIN fails verification. -/
def R.SRV_Mm_LCFG (m : Nat) : Nat := 0x8093C + m * 0x40
/-- R222 IL, fields below. -/
def R.GNSS_CFG : Nat := 0x90000
/-- R222 mixed, fields below. -/
def R.GNSS_STAT : Nat := 0x90004
/-- R222 RO, [31:16] major, [15:0] minor tracking firmware version, from the firmware record's header (R547). -/
def R.GNSS_FW_VER : Nat := 0x90008
/-- R222 RC, dumps not processed in time (R200), saturating. -/
def R.GNSS_FW_MISS : Nat := 0x9000C
/-- R222 IL, [31:20] FULLINT, s; [19:10] OFS, ms, 0 to 899; [9:0] reserved. -/
def R.GNSS_BURST : Nat := 0x90010
/-- R222 IL, [31:24] PLL bandwidth, units 0.1 Hz; [23:16] FLL bandwidth, units 0.1 Hz; [15:8] DLL bandwidth, unit. -/
def R.GNSS_LOOPCFG : Nat := 0x90014
/-- R222 RO, [24:16] channels in SYNC; [8:0] channels assigned. -/
def R.GNSS_CHUSE : Nat := 0x90018
/-- R222 RW, bit p − 1 excludes GPS PRN p, 1 to 32. -/
def R.GNSS_EXCL_GPS : Nat := 0x90020
/-- R222 RW, Galileo PRN 1 to 32. -/
def R.GNSS_EXCL_GAL_LO : Nat := 0x90024
/-- R222 RW, [3:0] Galileo PRN 33 to 36. -/
def R.GNSS_EXCL_GAL_HI : Nat := 0x90028
/-- R222 RW, BeiDou PRN 1 to 32. -/
def R.GNSS_EXCL_BDS_LO : Nat := 0x9002C
/-- R222 RW, [30:0] BeiDou PRN 33 to 63. -/
def R.GNSS_EXCL_BDS_HI : Nat := 0x90030
/-- R222 RW, [9:0] QZSS PRN 193 to 202. -/
def R.GNSS_EXCL_QZS : Nat := 0x90034
/-- R222 RW, [31] GO (W1S, reads 1 while queued or running); [24] CS: 0 FE_CS0, 1 FE_CS1; [5:0] length, bits, 8 t. -/
def R.GNSS_FESPI_CTL : Nat := 0x90040
/-- R222 RW, bits sent, most significant first, right-aligned. -/
def R.GNSS_FESPI_TX : Nat := 0x90044
/-- R222 RO, bits received, right-aligned. -/
def R.GNSS_FESPI_RX : Nat := 0x90048
/-- R222 RO, [7:0] next entry to be written. -/
def R.GNSS_NAV_WR : Nat := 0x90050
/-- R222 RW, [7:0] next entry to be read; entries before it are free. -/
def R.GNSS_NAV_RD : Nat := 0x90054
/-- R222 RC, entries dropped at a full ring, saturating. -/
def R.GNSS_NAV_DROP : Nat := 0x90058
/-- R222 IL, signed IF of R191, units 0.01 Hz. -/
def R.GNSS_Ss_IF (s : Nat) : Nat := 0x90100 + s * 0x20
/-- R222 IL, [31] INV; [30] POL; [25:16] TARGET, units 1/1024; [11:0] JAMLVL. -/
def R.GNSS_Ss_AGCCFG (s : Nat) : Nat := 0x90104 + s * 0x20
/-- R222 RO, [27:16] AGC level, mid-scale 0x800 at reset; [9:0] F, units 1/1024. -/
def R.GNSS_Ss_AGC (s : Nat) : Nat := 0x90108 + s * 0x20
/-- R222 RC, ferry slips, saturating. -/
def R.GNSS_Ss_SLIP (s : Nat) : Nat := 0x9010C + s * 0x20
/-- R222 RC, strobe losses, saturating. -/
def R.GNSS_Ss_LOS (s : Nat) : Nat := 0x90110 + s * 0x20
/-- R225 RO, fields below; PRIV resets to 1 for c < 16. -/
def R.GCHc_CFG (c : Nat) : Nat := 0xA0000 + c * 0x100
/-- R225 RO, fields below. -/
def R.GCHc_STAT (c : Nat) : Nat := 0xA0004 + c * 0x100
/-- R225 RO, code word, chips per sample × 2³². -/
def R.GCHc_CODEFREQ (c : Nat) : Nat := 0xA0008 + c * 0x100
/-- R225 RO, carrier word, signed, cycles per sample × 2³², IF included. -/
def R.GCHc_CARRFREQ (c : Nat) : Nat := 0xA000C + c * 0x100
/-- R225 RO, [26:16] secondary chip index; [13:0] primary chip index. -/
def R.GCHc_CODE_INT (c : Nat) : Nat := 0xA0010 + c * 0x100
/-- R225 RO, chip fraction × 2³². -/
def R.GCHc_CODE_FRAC (c : Nat) : Nat := 0xA0014 + c * 0x100
/-- R225 RO, accumulated carrier cycles, signed. -/
def R.GCHc_CARR_CYC (c : Nat) : Nat := 0xA0018 + c * 0x100
/-- R225 RO, cycle fraction × 2³². -/
def R.GCHc_CARR_FRAC (c : Nat) : Nat := 0xA001C + c * 0x100
/-- R225 RO, [13:8] DV; [5:0] DE; units 1/64 chip. -/
def R.GCHc_TAPSP (c : Nat) : Nat := 0xA0020 + c * 0x100
/-- R225 RO, dumps since assignment, wrapping. -/
def R.GCHc_DUMPCNT (c : Nat) : Nat := 0xA0024 + c * 0x100
/-- R225 RO, latest dump, signed (R199); a read of VE_I latches (R203). -/
def R.GCHc_VE_I (c : Nat) : Nat := 0xA0028 + c * 0x100
/-- R225 RO, latest dump, signed (R199); a read of VE_I latches (R203). -/
def R.GCHc_VE_Q (c : Nat) : Nat := 0xA002C + c * 0x100
/-- R225 RO, latest dump, signed (R199); a read of VE_I latches (R203). -/
def R.GCHc_E_I (c : Nat) : Nat := 0xA0030 + c * 0x100
/-- R225 RO, latest dump, signed (R199); a read of VE_I latches (R203). -/
def R.GCHc_E_Q (c : Nat) : Nat := 0xA0034 + c * 0x100
/-- R225 RO, latest dump, signed (R199); a read of VE_I latches (R203). -/
def R.GCHc_P_I (c : Nat) : Nat := 0xA0038 + c * 0x100
/-- R225 RO, latest dump, signed (R199); a read of VE_I latches (R203). -/
def R.GCHc_P_Q (c : Nat) : Nat := 0xA003C + c * 0x100
/-- R225 RO, latest dump, signed (R199); a read of VE_I latches (R203). -/
def R.GCHc_L_I (c : Nat) : Nat := 0xA0040 + c * 0x100
/-- R225 RO, latest dump, signed (R199); a read of VE_I latches (R203). -/
def R.GCHc_L_Q (c : Nat) : Nat := 0xA0044 + c * 0x100
/-- R225 RO, latest dump, signed (R199); a read of VE_I latches (R203). -/
def R.GCHc_VL_I (c : Nat) : Nat := 0xA0048 + c * 0x100
/-- R225 RO, latest dump, signed (R199); a read of VE_I latches (R203). -/
def R.GCHc_VL_Q (c : Nat) : Nat := 0xA004C + c * 0x100
/-- R225 RO, latest dump, signed (R199); a read of VE_I latches (R203). -/
def R.GCHc_DP_I (c : Nat) : Nat := 0xA0050 + c * 0x100
/-- R225 RO, latest dump, signed (R199); a read of VE_I latches (R203). -/
def R.GCHc_DP_Q (c : Nat) : Nat := 0xA0054 + c * 0x100
/-- R225 RO, TB0 millisecond count [31:0] of the latch; a read latches. -/
def R.GCHc_MEAS_EPOCH (c : Nat) : Nat := 0xA0058 + c * 0x100
/-- R225 RO, as CODE_INT, at the latch. -/
def R.GCHc_MEAS_CODE_INT (c : Nat) : Nat := 0xA005C + c * 0x100
/-- R225 RO, as CODE_FRAC. -/
def R.GCHc_MEAS_CODE_FRAC (c : Nat) : Nat := 0xA0060 + c * 0x100
/-- R225 RO, as CARR_CYC. -/
def R.GCHc_MEAS_CARR_CYC (c : Nat) : Nat := 0xA0064 + c * 0x100
/-- R225 RO, as CARR_FRAC. -/
def R.GCHc_MEAS_CARR_FRAC (c : Nat) : Nat := 0xA0068 + c * 0x100
/-- R225 RO, Doppler, signed, units 2⁻⁸ Hz, IF excluded. -/
def R.GCHc_MEAS_DOPP (c : Nat) : Nat := 0xA006C + c * 0x100
/-- R225 RO, ms continuously in TRACK or SYNC, saturating. -/
def R.GCHc_LOCKTIME (c : Nat) : Nat := 0xA0070 + c * 0x100
/-- R225 RC, entries to LOST, saturating. -/
def R.GCHc_LOSTCNT (c : Nat) : Nat := 0xA0074 + c * 0x100
/-- R225 RC, burst misses (R219), saturating. -/
def R.GCHc_BURSTMISS (c : Nat) : Nat := 0xA0078 + c * 0x100
/-- R228 IL, [31:24] THR, units 1/16, 32 to 255; [23:16] NC, 1 to 32; [15:0] SPAN, Hz, 1 000 to 32 767. -/
def R.GACQ_CFG : Nat := 0xB0000
/-- R228 RO, [31] BUSY; [30] SWEEP, a full sweep is running; [27:25] SIG; [23:16] SVID being searched; [15:0] sna. -/
def R.GACQ_STAT : Nat := 0xB0004
/-- R228 WO, [0] SWEEP (R215). -/
def R.GACQ_CMD : Nat := 0xB0008
/-- R228 RC, verified detections, saturating. -/
def R.GACQ_HITS : Nat := 0xB000C
/-- R228 RC, detections failing verification, saturating. -/
def R.GACQ_FALSE : Nat := 0xB0010
/-- R228 RO, latest verified detection: [31:29] SIG; [23:16] SVID; [15:0] peak ratio, units 1/16. -/
def R.GACQ_LAST : Nat := 0xB0014
/-- R228 RO, its Doppler, signed Hz. -/
def R.GACQ_LAST_DOPP : Nat := 0xB0018
/-- R228 RO, [19:0] its code phase at the snapshot epoch, units 1/64 chip. -/
def R.GACQ_LAST_CODE : Nat := 0xB001C
/-- R228 RO, duration of the latest complete sweep, ms. -/
def R.GACQ_SWEEP_MS : Nat := 0xB0020
/-- R228 RO, [31:29] 0 idle, 1 searching, 2 found, 3 exhausted; [27:25] SIG; [23:16] SVID; [15:0] windows searche. -/
def R.GACQ_AIDk_STAT (k : Nat) : Nat := 0xB0100 + k * 0x20
/-- R228 RO, [31:16] window half-width, chips; [15:0] window centre, chips. -/
def R.GACQ_AIDk_WIN (k : Nat) : Nat := 0xB0104 + k * 0x20
/-- R228 RO, [31:16] Doppler centre, signed Hz; [15:0] Doppler half-span, Hz. -/
def R.GACQ_AIDk_DOPP (k : Nat) : Nat := 0xB0108 + k * 0x20
/-- R228 RO, [15:8] coherent time, ms; [7:0] blocks summed. -/
def R.GACQ_AIDk_TINT (k : Nat) : Nat := 0xB010C + k * 0x20
/-- R250 IL, fields below. -/
def R.GNSS_TCFG : Nat := 0x90200
/-- R250 IL, [13:0] survey length, min, 10 to 10 080. -/
def R.GNSS_SVYTIME : Nat := 0x90204
/-- R250 IL, [7:0] KSIG, units 1/16, 16 to 128. -/
def R.GNSS_KSIG : Nat := 0x90208
/-- R250 IL, ps, SF ionosphere term. -/
def R.GNSS_UIONO : Nat := 0x9020C
/-- R250 IL, ps, UTC(k) term. -/
def R.GNSS_UUTCK : Nat := 0x90210
/-- R250 IL, [9:0] units 1/1024 cycle, 20 to 400. -/
def R.GNSS_DA_THR : Nat := 0x90214
/-- R250 IL, [15:0] ns. -/
def R.GNSS_ISO_TOL : Nat := 0x90218
/-- R250 IL, [15:0] ppt. -/
def R.GNSS_PTOL : Nat := 0x9021C
/-- R250 IL, [15:0] s, 10 to 3 600. -/
def R.GNSS_INTEG_HOLD : Nat := 0x90220
/-- R250 IL, baseline components, signed mm. -/
def R.GNSS_BASE_E : Nat := 0x90224
/-- R250 IL, baseline components, signed mm. -/
def R.GNSS_BASE_N : Nat := 0x90228
/-- R250 IL, baseline components, signed mm. -/
def R.GNSS_BASE_U : Nat := 0x9022C
/-- R250 IL, image position, ECEF, signed, units 0.01 m. -/
def R.GNSS_POS_X : Nat := 0x90230
/-- R250 IL, image position, ECEF, signed, units 0.01 m. -/
def R.GNSS_POS_Y : Nat := 0x90234
/-- R250 IL, image position, ECEF, signed, units 0.01 m. -/
def R.GNSS_POS_Z : Nat := 0x90238
/-- R250 IL, mm. -/
def R.GNSS_POSUNC_IMG : Nat := 0x9023C
/-- R250 IL, stream path delay, signed ps (R236). -/
def R.GNSS_CALs (s : Nat) : Nat := 0x90240 + s * 0x4
/-- R250 RO, held position, ECEF, signed, units 0.01 m. -/
def R.GNSS_HPOS_X : Nat := 0x90250
/-- R250 RO, held position, ECEF, signed, units 0.01 m. -/
def R.GNSS_HPOS_Y : Nat := 0x90254
/-- R250 RO, held position, ECEF, signed, units 0.01 m. -/
def R.GNSS_HPOS_Z : Nat := 0x90258
/-- R250 RO, held position uncertainty, mm. -/
def R.GNSS_HPOS_UNC : Nat := 0x9025C
/-- R250 RO, [31:30] 0 solving, 1 held from survey, 2 held from image; [13:0] survey minutes done. -/
def R.GNSS_POSSTAT : Nat := 0x90260
/-- R250 WO, [0] RESURVEY (R234). -/
def R.GNSS_TCMD : Nat := 0x90264
/-- R250 RC, entries to SPOOFED or PREDICTOR, saturating. -/
def R.GNSS_SPOOF : Nat := 0x90268
/-- R250 RC, changes of reported state, saturating. -/
def R.GNSS_INTEG_CHG : Nat := 0x9026C
/-- R250 RC, RAIM single exclusions, saturating. -/
def R.GNSS_RAIM_EXCL : Nat := 0x90270
/-- R250 RO, [31:29] INTEG; [28:27] fix kind; [26:25] position; [15:0] SEQ; a read latches. -/
def R.GNSS_SOLr_STAT (r : Nat) : Nat := 0x90280 + r * 0x20
/-- R250 RO, M [31:0], signed ps. -/
def R.GNSS_SOLr_M_LO (r : Nat) : Nat := 0x90284 + r * 0x20
/-- R250 RO, M [63:32]. -/
def R.GNSS_SOLr_M_HI (r : Nat) : Nat := 0x90288 + r * 0x20
/-- R250 RO, U_REF, ps. -/
def R.GNSS_SOLr_U (r : Nat) : Nat := 0x9028C + r * 0x20
/-- R250 RO, DRIFT, signed, units 2⁻⁸ ppt. -/
def R.GNSS_SOLr_DRIFT (r : Nat) : Nat := 0x90290 + r * 0x20
/-- R250 RO, [31:16] FAILED; [15:0] RAN. -/
def R.GNSS_SOLr_CHK (r : Nat) : Nat := 0x90294 + r * 0x20
/-- R250 RO, [15:0] DA_RMS. -/
def R.GNSS_SOLr_DA (r : Nat) : Nat := 0x90298 + r * 0x20
/-- R275 IL, fields below. -/
def R.MACn_CFG (n : Nat) : Nat := 0x100000 + n * 0x2000
/-- R275 mixed, fields below. -/
def R.MACn_STAT (n : Nat) : Nat := 0x100004 + n * 0x2000
/-- R275 WO, [1] WAKE; [0] ISLET. -/
def R.MACn_CMD (n : Nat) : Nat := 0x100008 + n * 0x2000
/-- R275 IL, [15:0] port MAC address [47:32]. -/
def R.MACn_ADDR_HI (n : Nat) : Nat := 0x10000C + n * 0x2000
/-- R275 IL, port MAC address [31:0]. -/
def R.MACn_ADDR_LO (n : Nat) : Nat := 0x100010 + n * 0x2000
/-- R275 IL, [13:0] bytes, 1 518 to 9 216. -/
def R.MACn_MAXLEN (n : Nat) : Nat := 0x100014 + n * 0x2000
/-- R275 IL, [21:16] post-cursor; [13:8] main; [5:0] pre-cursor. -/
def R.MACn_TXEQ (n : Nat) : Nat := 0x100018 + n * 0x2000
/-- R275 IL, fields below. -/
def R.MACn_PREEMPT (n : Nat) : Nat := 0x10001C + n * 0x2000
/-- R275 RO, [3] ACTIVE; [2:0] verify: 0 disabled, 1 initial, 2 verifying, 3 succeeded, 4 failed. -/
def R.MACn_PREEMPT_STAT (n : Nat) : Nat := 0x100020 + n * 0x2000
/-- R275 IL, fields below. -/
def R.MACn_PAUSE_CFG (n : Nat) : Nat := 0x100024 + n * 0x2000
/-- R275 IL, [3p+2:3p] class held by priority p, p = 0 to 7. -/
def R.MACn_PFC_MAP (n : Nat) : Nat := 0x100028 + n * 0x2000
/-- R275 RO, [15:8] classes held now; [0] 802.3x pause in effect. -/
def R.MACn_PAUSE_STAT (n : Nat) : Nat := 0x10002C + n * 0x2000
/-- R275 IL, [31] AUTO; [19:16] PATEN; [15:0] IDLE, s. -/
def R.MACn_ISLET_CFG (n : Nat) : Nat := 0x100030 + n * 0x2000
/-- R275 RO, [27:24] SSM received; [23:16] eSSM received; [11:8] SSM sent; [7:0] eSSM sent. -/
def R.MACn_ESMC_STAT (n : Nat) : Nat := 0x100034 + n * 0x2000
/-- R275 RO, frames delivered [31:0], wrapping; a read latches. -/
def R.MACn_RX_FRAMES_LO (n : Nat) : Nat := 0x100100 + n * 0x2000
/-- R275 RO, [31:0] of bits [63:32]. -/
def R.MACn_RX_FRAMES_HI (n : Nat) : Nat := 0x100104 + n * 0x2000
/-- R275 RO, bytes delivered [31:0]; a read latches. -/
def R.MACn_RX_BYTES_LO (n : Nat) : Nat := 0x100108 + n * 0x2000
/-- R275 RO, bits [63:32]. -/
def R.MACn_RX_BYTES_HI (n : Nat) : Nat := 0x10010C + n * 0x2000
/-- R275 RO, frames sent [31:0]; a read latches. -/
def R.MACn_TX_FRAMES_LO (n : Nat) : Nat := 0x100110 + n * 0x2000
/-- R275 RO, bits [63:32]. -/
def R.MACn_TX_FRAMES_HI (n : Nat) : Nat := 0x100114 + n * 0x2000
/-- R275 RO, bytes sent [31:0]; a read latches. -/
def R.MACn_TX_BYTES_LO (n : Nat) : Nat := 0x100118 + n * 0x2000
/-- R275 RO, bits [63:32]. -/
def R.MACn_TX_BYTES_HI (n : Nat) : Nat := 0x10011C + n * 0x2000
/-- R275 RC, R256, saturating. -/
def R.MACn_RX_FCS_ERR (n : Nat) : Nat := 0x100120 + n * 0x2000
/-- R275 RC, R256, saturating. -/
def R.MACn_RX_RUNT (n : Nat) : Nat := 0x100124 + n * 0x2000
/-- R275 RC, R256, saturating. -/
def R.MACn_RX_OVERSIZE (n : Nat) : Nat := 0x100128 + n * 0x2000
/-- R275 RC, R256, saturating. -/
def R.MACn_RX_PCS_ERR (n : Nat) : Nat := 0x10012C + n * 0x2000
/-- R275 RC, codewords corrected, saturating. -/
def R.MACn_RX_FEC_CORR (n : Nat) : Nat := 0x100130 + n * 0x2000
/-- R275 RC, codewords uncorrectable, saturating. -/
def R.MACn_RX_FEC_UNCORR (n : Nat) : Nat := 0x100134 + n * 0x2000
/-- R275 RC, R256, saturating. -/
def R.MACn_RX_OVF (n : Nat) : Nat := 0x100138 + n * 0x2000
/-- R275 RC, R24, R256, saturating. -/
def R.MACn_RX_FERRY_DROP (n : Nat) : Nat := 0x10013C + n * 0x2000
/-- R275 RC, R7, R256, saturating. -/
def R.MACn_RX_UNSUP (n : Nat) : Nat := 0x100140 + n * 0x2000
/-- R275 RC, R265, saturating. -/
def R.MACn_RX_CTRL_IGN (n : Nat) : Nat := 0x100144 + n * 0x2000
/-- R275 RC, 802.3x frames acted on, saturating. -/
def R.MACn_RX_PAUSE (n : Nat) : Nat := 0x100148 + n * 0x2000
/-- R275 RC, PFC frames acted on, saturating. -/
def R.MACn_RX_PFC (n : Nat) : Nat := 0x10014C + n * 0x2000
/-- R275 RC, R262, saturating. -/
def R.MACn_RX_ASM_ERR (n : Nat) : Nat := 0x100150 + n * 0x2000
/-- R275 RC, fragments received, saturating. -/
def R.MACn_RX_FRAG (n : Nat) : Nat := 0x100154 + n * 0x2000
/-- R275 RC, frames preempted, saturating. -/
def R.MACn_TX_PREEMPT (n : Nat) : Nat := 0x100158 + n * 0x2000
/-- R275 RC, R254, R271, saturating. -/
def R.MACn_TX_LINKDOWN_DROP (n : Nat) : Nat := 0x10015C + n * 0x2000
/-- R275 RC, R255, saturating. -/
def R.MACn_TX_OVERSIZE (n : Nat) : Nat := 0x100160 + n * 0x2000
/-- R275 RC, µs with a class held, saturating. -/
def R.MACn_TX_HELD (n : Nat) : Nat := 0x100164 + n * 0x2000
/-- R275 RC, link-down events, saturating. -/
def R.MACn_LINK_DOWN (n : Nat) : Nat := 0x100168 + n * 0x2000
/-- R275 RC, PDUs accepted, saturating. -/
def R.MACn_ESMC_RX (n : Nat) : Nat := 0x10016C + n * 0x2000
/-- R275 RC, PDUs ignored, saturating. -/
def R.MACn_ESMC_ERR (n : Nat) : Nat := 0x100170 + n * 0x2000
/-- R275 RC, PDUs sent, saturating. -/
def R.MACn_ESMC_TX (n : Nat) : Nat := 0x100174 + n * 0x2000
/-- R275 RC, wakes, saturating. -/
def R.MACn_WAKES (n : Nat) : Nat := 0x100178 + n * 0x2000
/-- R275 RC, frames received in Islet mode, saturating. -/
def R.MACn_WAKE_DROP (n : Nat) : Nat := 0x10017C + n * 0x2000
/-- R275 IL, [7:4] quad 1, [3:0] quad 0: 0 local oscillator, 1 to 4 OSYN0 to OSYN3; other values fail verificatio. -/
def R.MAC_QREF : Nat := 0x110000
/-- R275 IL, [11:8] SSM, [7:0] eSSM sent in holdover (R269). -/
def R.MAC_ESMC_HOQL : Nat := 0x110004
/-- R301 IL, fields below. -/
def R.PE_CFG : Nat := 0x120000
/-- R301 IL, [14:12] ESMC; [11:9] NTS; [8:6] NTP; [5:3] PTP general; [2:0] PTP event. -/
def R.PE_CLASSMAP : Nat := 0x120004
/-- R301 RO, NTS fill rate, millions of requests/s. -/
def R.PE_NTS_ADMIT : Nat := 0x120008
/-- R301 RO, [25:16] SHA load, [9:0] AES load, units 1/1 024, over the last ms. -/
def R.PE_CRYPTO_LOAD : Nat := 0x12000C
/-- R301 RC, R27 replies dropped, saturating. -/
def R.PE_REPLYQ_DROP : Nat := 0x120010
/-- R301 RC, descriptors skipped (R296), saturating. -/
def R.PE_HTX_BAD : Nat := 0x120014
/-- R301 RO, host commands completed, wrapping. -/
def R.PE_HOSTOPS : Nat := 0x120018
/-- R301 IL, IPv4 address, i = 0 to 15. -/
def R.PE_IP4 (i : Nat) : Nat := 0x120100 + i * 0x8
/-- R301 IL, [31] VALID; [7:0] ports. -/
def R.PE_IP4M (i : Nat) : Nat := 0x120104 + i * 0x8
/-- R301 IL, four words, IPv6 address, i = 0 to 15. -/
def R.PE_IP6 (i w : Nat) : Nat := 0x120200 + i * 0x20 + w * 0x4
/-- R301 IL, [31] VALID; [7:0] ports. -/
def R.PE_IP6M (i : Nat) : Nat := 0x120210 + i * 0x20
/-- R301 RC, R26 drops on port n, saturating. -/
def R.PE_EGQ_TMO_DROP (n : Nat) : Nat := 0x120800 + n * 0x4
/-- R301 IL, [31:1] reserved; [0] UNTAG. -/
def R.PEn_CFG (n : Nat) : Nat := 0x121000 + n * 0x100
/-- R301 RO, [7:0] classes full now. -/
def R.PEn_STAT (n : Nat) : Nat := 0x121004 + n * 0x100
/-- R301 IL, [12] VALID; [11:0] VID; v = 0 to 7. -/
def R.PEn_VLAN (n v : Nat) : Nat := 0x121008 + n * 0x100 + v * 0x4
/-- R301 RC, cause c of R282, c = 0 to 11, saturating. -/
def R.PEn_RXDROP (n c : Nat) : Nat := 0x121040 + n * 0x100 + c * 0x4
/-- R301 IL, [9:0] class quota, KiB. -/
def R.PEn_EGQ_QUOTA (n k : Nat) : Nat := 0x121080 + n * 0x100 + k * 0x4
/-- R301 RO, [26:16] frames held; [9:0] KiB held. -/
def R.PEn_EGQ_LVL (n k : Nat) : Nat := 0x1210A0 + n * 0x100 + k * 0x4
/-- R301 RW, fields below. -/
def R.PE_RINGk_CFG (k : Nat) : Nat := 0x122000 + k * 0x40
/-- R301 mixed, fields below. -/
def R.PE_RINGk_STAT (k : Nat) : Nat := 0x122004 + k * 0x40
/-- R301 RW, address [31:12]; [11:0] ignored. -/
def R.PE_RINGk_BASE_LO (k : Nat) : Nat := 0x122008 + k * 0x40
/-- R301 RW, address [63:32]. -/
def R.PE_RINGk_BASE_HI (k : Nat) : Nat := 0x12200C + k * 0x40
/-- R301 RW, write-back address [31:3]; [2:0] ignored. -/
def R.PE_RINGk_WB_LO (k : Nat) : Nat := 0x122010 + k * 0x40
/-- R301 RW, write-back address [63:32]. -/
def R.PE_RINGk_WB_HI (k : Nat) : Nat := 0x122014 + k * 0x40
/-- R301 RO, device index (R290). -/
def R.PE_RINGk_HEAD (k : Nat) : Nat := 0x122018 + k * 0x40
/-- R301 RW, host index. -/
def R.PE_RINGk_TAIL (k : Nat) : Nat := 0x12201C + k * 0x40
/-- R301 RW, [15:0] timeout, µs, 1 to 65 535; 0 ignored. -/
def R.PE_RINGk_TMO (k : Nat) : Nat := 0x122020 + k * 0x40
/-- R301 RW, [15:0] interrupt moderation, µs; 0 after each record. -/
def R.PE_RINGk_IMOD (k : Nat) : Nat := 0x122024 + k * 0x40
/-- R301 RC, records or frames dropped, saturating. -/
def R.PE_RINGk_DROP (k : Nat) : Nat := 0x122028 + k * 0x40
/-- R301 RO, records written or descriptors consumed, wrapping. -/
def R.PE_RINGk_RECS (k : Nat) : Nat := 0x12202C + k * 0x40
/-- R332 IL, fields below. -/
def R.NTS_CFG : Nat := 0x130000
/-- R332 mixed, fields below. -/
def R.NTS_STAT : Nat := 0x130004
/-- R332 RO, [31] VALID; [15:0] E_now. -/
def R.NTS_EPOCH : Nat := 0x130008
/-- R332 RO, key check value (R320). -/
def R.NTS_KCV : Nat := 0x13000C
/-- R332 IL, service identity, SVCID0 [31:24] first. -/
def R.NTS_SVCID (w : Nat) : Nat := 0x130010 + w * 0x4
/-- R332 IL, [31:24] PREC, signed; [23:16] reserved; [15:8] TTL; [7:6] reserved; [5:0] DSCP. -/
def R.NTP_HDR : Nat := 0x130020
/-- R332 IL, root delay, NTP short format. -/
def R.NTP_ROOTDLY : Nat := 0x130024
/-- R332 IL, [11:0] statistics period, s; 0 disables. -/
def R.NTP_STAT_PER : Nat := 0x130028
/-- R332 IL, fields below. -/
def R.NTP_RL_CFG : Nat := 0x130030
/-- R332 IL, [15:0] requests/s per prefix, 1 to 65 535. -/
def R.NTP_RL_LIMIT : Nat := 0x130034
/-- R332 IL, [13:0] window, ms, 100 to 10 000. -/
def R.NTP_RL_WIN : Nat := 0x130038
/-- R332 IL, IPv4 exempt prefix, i = 0 to 7. -/
def R.NTP_RL_EX4 (i : Nat) : Nat := 0x130040 + i * 0x8
/-- R332 IL, [31] VALID; [5:0] prefix length, 0 to 32. -/
def R.NTP_RL_EX4M (i : Nat) : Nat := 0x130044 + i * 0x8
/-- R332 IL, four words, IPv6 exempt prefix, i = 0 to 3. -/
def R.NTP_RL_EX6 (i w : Nat) : Nat := 0x130080 + i * 0x20 + w * 0x4
/-- R332 IL, [31] VALID; [7:0] prefix length, 0 to 128. -/
def R.NTP_RL_EX6M (i : Nat) : Nat := 0x130090 + i * 0x20
/-- R332 RO, plain requests classified [31:0], wrapping; a read latches. -/
def R.NTP_RX_LO : Nat := 0x130100
/-- R332 RO, bits [63:32]. -/
def R.NTP_RX_HI : Nat := 0x130104
/-- R332 RO, plain responses sent [31:0]; a read latches. -/
def R.NTP_TX_LO : Nat := 0x130108
/-- R332 RO, bits [63:32]. -/
def R.NTP_TX_HI : Nat := 0x13010C
/-- R332 RO, NTS requests classified [31:0]; a read latches. -/
def R.NTS_RX_LO : Nat := 0x130110
/-- R332 RO, bits [63:32]. -/
def R.NTS_RX_HI : Nat := 0x130114
/-- R332 RO, NTS responses sent [31:0]; a read latches. -/
def R.NTS_TX_LO : Nat := 0x130118
/-- R332 RO, bits [63:32]. -/
def R.NTS_TX_HI : Nat := 0x13011C
/-- R332 RC, Kiss-o'-Death RATE sent, saturating. -/
def R.NTP_KOD : Nat := 0x130120
/-- R332 RC, plain requests dropped by the limiter, saturating. -/
def R.NTP_RLDROP : Nat := 0x130124
/-- R332 RC, NTS requests dropped by the limiter, saturating. -/
def R.NTS_RLDROP : Nat := 0x130128
/-- R332 RC, NAKs at step 2 of R312, saturating. -/
def R.NTS_NAK_HDR : Nat := 0x13012C
/-- R332 RC, NAKs at step 3, saturating. -/
def R.NTS_NAK_OPEN : Nat := 0x130130
/-- R332 RC, NAKs at step 4, saturating. -/
def R.NTS_NAK_AUTH : Nat := 0x130134
/-- R332 RO, cookies sealed for the host, wrapping. -/
def R.NTS_ISSUED : Nat := 0x130138
/-- R332 RC, commands with non-zero STATUS, saturating. -/
def R.NTS_ISSUE_ERR : Nat := 0x13013C
/-- R332 RC, heavy hitters not recorded, saturating. -/
def R.NTP_HH_MISS : Nat := 0x130140
/-- R363 IL, fields below. -/
def R.PTPi_CFG (i : Nat) : Nat := 0x140000 + i * 0x400
/-- R363 IL, fields below. -/
def R.PTPi_PROF (i : Nat) : Nat := 0x140004 + i * 0x400
/-- R363 mixed, fields below. -/
def R.PTPi_STAT (i : Nat) : Nat := 0x140008 + i * 0x400
/-- R363 IL, clockIdentity [63:32]. -/
def R.PTPi_CLKID_HI (i : Nat) : Nat := 0x14000C + i * 0x400
/-- R363 IL, clockIdentity [31:0]. -/
def R.PTPi_CLKID_LO (i : Nat) : Nat := 0x140010 + i * 0x400
/-- R363 IL, [15:8] priority1; [7:0] priority2. -/
def R.PTPi_PRIO (i : Nat) : Nat := 0x140014 + i * 0x400
/-- R363 IL, [31:24] logAnnounceInterval; [23:16] logSyncInterval; [15:8] logMinDelayReqInterval or logMinPdelayR. -/
def R.PTPi_INTV (i : Nat) : Nat := 0x140018 + i * 0x400
/-- R363 IL, minimum log intervals granted, signed: [23:16] Announce; [15:8] Sync; [7:0] Delay_Resp. -/
def R.PTPi_UCFG (i : Nat) : Nat := 0x14001C + i * 0x400
/-- R363 IL, [31:16] DMAX, s; [15:0] DMIN, s, at least 10; DMIN above DMAX fails verification. -/
def R.PTPi_UDUR (i : Nat) : Nat := 0x140020 + i * 0x400
/-- R363 IL, [31:16] RDUR, duration requested as client, s; [12:0] session quota, 0 to 4 096. -/
def R.PTPi_UQUOTA (i : Nat) : Nat := 0x140024 + i * 0x400
/-- R363 IL, [31] AUTH; [30:0] reserved. -/
def R.PTPi_SEC (i : Nat) : Nat := 0x140028 + i * 0x400
/-- R363 IL, one bit per SA accepted on receive. -/
def R.PTPi_RXSA (i : Nat) : Nat := 0x14002C + i * 0x400
/-- R363 RW, [4:0] SA used for transmission (R359). -/
def R.PTPi_TXSA (i : Nat) : Nat := 0x140030 + i * 0x400
/-- R363 IL, [31:16] offsetScaledLogVariance; [7:0] clockAccuracy (R339). -/
def R.PTPi_FIXQ (i : Nat) : Nat := 0x140034 + i * 0x400
/-- R363 IL, [15:0] grandmasterID (R343). -/
def R.PTPi_C37 (i : Nat) : Nat := 0x140038 + i * 0x400
/-- R363 IL, [5:0] delay measurements in the median, odd, 1 to 63. -/
def R.PTPi_DWIN (i : Nat) : Nat := 0x14003C + i * 0x400
/-- R363 RO, last announced: [31:24] clockClass; [23:16] clockAccuracy; [15:0] offsetScaledLogVariance. -/
def R.PTPi_CQ (i : Nat) : Nat := 0x140040 + i * 0x400
/-- R363 RO, parent clockIdentity [63:32]. -/
def R.PTPi_PARENT_HI (i : Nat) : Nat := 0x140044 + i * 0x400
/-- R363 RO, parent clockIdentity [31:0]. -/
def R.PTPi_PARENT_LO (i : Nat) : Nat := 0x140048 + i * 0x400
/-- R363 RO, [31:16] parent portNumber; [15:0] parent stepsRemoved. -/
def R.PTPi_PARENT_PN (i : Nat) : Nat := 0x14004C + i * 0x400
/-- R363 RO, M [31:0], signed ps; a read latches. -/
def R.PTPi_OFS_LO (i : Nat) : Nat := 0x140050 + i * 0x400
/-- R363 RO, M [63:32]. -/
def R.PTPi_OFS_HI (i : Nat) : Nat := 0x140054 + i * 0x400
/-- R363 RO, D, signed ps, saturating. -/
def R.PTPi_MPD (i : Nat) : Nat := 0x140058 + i * 0x400
/-- R363 RO, Sync messages sent, wrapping. -/
def R.PTPi_TXSYNC (i : Nat) : Nat := 0x140060 + i * 0x400
/-- R363 RO, Sync messages accepted, wrapping. -/
def R.PTPi_RXSYNC (i : Nat) : Nat := 0x140064 + i * 0x400
/-- R363 RO, Delay_Req messages answered, wrapping. -/
def R.PTPi_RXDREQ (i : Nat) : Nat := 0x140068 + i * 0x400
/-- R363 RC, R358, saturating. -/
def R.PTPi_AUTHFAIL (i : Nat) : Nat := 0x14006C + i * 0x400
/-- R363 RC, R358, saturating. -/
def R.PTPi_NOAUTH (i : Nat) : Nat := 0x140070 + i * 0x400
/-- R363 RC, R354, saturating. -/
def R.PTPi_RATEDROP (i : Nat) : Nat := 0x140074 + i * 0x400
/-- R363 RC, grants denied (R352), saturating. -/
def R.PTPi_DENY (i : Nat) : Nat := 0x140078 + i * 0x400
/-- R363 RC, R354, saturating. -/
def R.PTPi_NOSESS (i : Nat) : Nat := 0x14007C + i * 0x400
/-- R363 RC, Announce receipt timeouts, saturating. -/
def R.PTPi_ANNTMO (i : Nat) : Nat := 0x140080 + i * 0x400
/-- R363 RC, foreign masters not kept, saturating. -/
def R.PTPi_FMOVF (i : Nat) : Nat := 0x140084 + i * 0x400
/-- R363 RC, messages suppressed (R360), saturating. -/
def R.PTPi_TXSUPP (i : Nat) : Nat := 0x140088 + i * 0x400
/-- R363 RC, R349, saturating. -/
def R.PTPi_SEQERR (i : Nat) : Nat := 0x14008C + i * 0x400
/-- R363 RO, [7:4] foreign masters qualified; [3:0] port state (R345). -/
def R.PTPi_Pp_STAT (i p : Nat) : Nat := 0x140100 + i * 0x400 + p * 0x10
/-- R363 IL, [15:8] localPriority, 1 to 255; [0] masterOnly. -/
def R.PTPi_Pp_CFG (i p : Nat) : Nat := 0x140104 + i * 0x400 + p * 0x10
/-- R363 RO, meanLinkDelay of the latest Pdelay exchange, ps. -/
def R.PTPi_Pp_MLD (i p : Nat) : Nat := 0x140108 + i * 0x400 + p * 0x10
/-- R363 IL, four words, master IP address, as PEER_IP of R356; j = 0 to 7. -/
def R.PTPi_UMj_IP (i j w : Nat) : Nat := 0x140200 + i * 0x400 + j * 0x20 + w * 0x4
/-- R363 IL, [31] VALID; [18:16] port; [15:8] localPriority. -/
def R.PTPi_UMj_CFG (i j : Nat) : Nat := 0x140210 + i * 0x400 + j * 0x20
/-- R363 RO, [12:0] entries in use. -/
def R.PTP_SESS_USED : Nat := 0x142000
/-- R363 WO, [31] CANCEL (R353); [11:0] session index. -/
def R.PTP_SESS_CMD : Nat := 0x142004
/-- R363 RC, R336, saturating. -/
def R.PTP_NOINST : Nat := 0x142008
/-- R363 IL, [23:0] organizationId of the bound TLV. -/
def R.PTP_BTLV_ORG : Nat := 0x14200C
/-- R363 IL, fields below. -/
def R.PTP_SAs_CFG (s : Nat) : Nat := 0x142100 + s * 0x10
/-- R363 IL, keyID. -/
def R.PTP_SAs_KEYID (s : Nat) : Nat := 0x142104 + s * 0x10
/-- R363 RO, [0] USABLE (R360). -/
def R.PTP_SAs_STAT (s : Nat) : Nat := 0x142108 + s * 0x10
/-- R388 RO, fields below. -/
def R.KS_STAT : Nat := 0x1C0000
/-- R388 WO, [2] LOCK; [1] UNLOCK; [0] CHAL (R385). -/
def R.KS_CMD : Nat := 0x1C0004
/-- R388 RW, [16:0] s, 0 to 86 400; larger values ignored (R386, R546). -/
def R.KS_UNLOCK_DUR : Nat := 0x1C0008
/-- R388 RO, [31] this port Custodian; [16:0] s remaining, 0 without limit. -/
def R.KS_ROLE : Nat := 0x1C000C
/-- R388 RO, device identity, KS_DEVID0 [31:24] first. -/
def R.KS_DEVID (w : Nat) : Nat := 0x1C0010 + w * 0x4
/-- R388 RO, stored counter [31:0]; a read latches. -/
def R.KS_CTR_LO : Nat := 0x1C0020
/-- R388 RO, stored counter [63:32]. -/
def R.KS_CTR_HI : Nat := 0x1C0024
/-- R388 RC, messages applied, saturating. -/
def R.KS_APGOR_OK : Nat := 0x1C0028
/-- R388 RC, messages rejected or abandoned, saturating. -/
def R.KS_APGOR_REJ : Nat := 0x1C002C
/-- R388 RO, [31] VALID; [30] STALE (R373); [29] derived; [25:24] ATTR; [13:8] source slot. -/
def R.KS_WKR_STAT : Nat := 0x1C0030
/-- R388 RC, failed unlocks, this port, saturating. -/
def R.KS_UNLOCK_FAIL : Nat := 0x1C0034
/-- R388 RO, challenge. -/
def R.KS_CHAL (w : Nat) : Nat := 0x1C0040 + w * 0x4
/-- R388 WO, signature r then s. -/
def R.KS_RESP (w : Nat) : Nat := 0x1C0060 + w * 0x4
/-- R388 RO, [31:30] 0 empty, 1 usable, 2 BAD, 3 STORING; [25:24] ATTR; [16] 0 128-bit, 1 256-bit; [15:0] CTR [15. -/
def R.KS_SLOTs (s : Nat) : Nat := 0x1C0100 + s * 0x4
/-- R388 RO, static ECDH public key, X then Y. -/
def R.KS_DEVPUB (w : Nat) : Nat := 0x1C0200 + w * 0x4
/-- R388 RO, SHA-384 of the authority public key (R378). -/
def R.KS_AUTHHASH (w : Nat) : Nat := 0x1C0260 + w * 0x4
/-- R421 IL, fields below. -/
def R.PAIR_CFG : Nat := 0x1D0000
/-- R421 mixed, fields below. -/
def R.PAIR_STAT : Nat := 0x1D0004
/-- R421 WO, [1] HANDOVER; [0] TAKE (R415). -/
def R.PAIR_CMD : Nat := 0x1D0008
/-- R421 RO, fields below. -/
def R.PAIR_STATE : Nat := 0x1D000C
/-- R421 IL, [9:0] µs, 30 to 1 000. -/
def R.PAIR_SILENCE : Nat := 0x1D0010
/-- R421 IL, [11:0] s, 0 to 3 600. -/
def R.PAIR_WTR : Nat := 0x1D0014
/-- R421 IL, [7:0] service ports. -/
def R.PAIR_SVC : Nat := 0x1D0018
/-- R421 IL, [15:0] PAIR_VMAC [47:32]. -/
def R.PAIR_VMAC_HI : Nat := 0x1D001C
/-- R421 IL, PAIR_VMAC [31:0]. -/
def R.PAIR_VMAC_LO : Nat := 0x1D0020
/-- R421 IL, signed ps, lane 0. -/
def R.PAIR_ASYM0 : Nat := 0x1D0024
/-- R421 IL, signed ps, lane 1. -/
def R.PAIR_ASYM1 : Nat := 0x1D0028
/-- R421 RO, M_TB0 [31:0], signed ps; a read latches. -/
def R.PAIR_MOFS_LO : Nat := 0x1D002C
/-- R421 RO, M_TB0 [63:32]. -/
def R.PAIR_MOFS_HI : Nat := 0x1D0030
/-- R421 RO, signed ps (R395). -/
def R.PAIR_LANEDIFF : Nat := 0x1D0034
/-- R421 RO, [11:0] s left (R414). -/
def R.PAIR_WTR_REM : Nat := 0x1D0038
/-- R421 RO, ps (R414); all ones when none. -/
def R.PAIR_BCAND : Nat := 0x1D003C
/-- R421 RO, µs, saturating. -/
def R.PAIR_MIR_AGE : Nat := 0x1D0040
/-- R421 RC, saturating. -/
def R.PAIR_TAKEOVERS : Nat := 0x1D0044
/-- R421 RC, R404, saturating. -/
def R.PAIR_YIELDS : Nat := 0x1D0048
/-- R421 RC, overrides started, saturating. -/
def R.PAIR_OVERRIDES : Nat := 0x1D004C
/-- R421 RO, [1] SILENT; [0] UP. -/
def R.PAIR_Ll_STAT (l : Nat) : Nat := 0x1D0050 + l * 0x10
/-- R421 RC, saturating. -/
def R.PAIR_Ll_CORR (l : Nat) : Nat := 0x1D0054 + l * 0x10
/-- R421 RC, saturating. -/
def R.PAIR_Ll_UNCORR (l : Nat) : Nat := 0x1D0058 + l * 0x10
/-- R421 RC, saturating. -/
def R.PAIR_Ll_FRDROP (l : Nat) : Nat := 0x1D005C + l * 0x10
/-- R421 RC, single-path silences, saturating. -/
def R.PAIR_ALARMS : Nat := 0x1D0070
/-- R421 RC, R413, R415, saturating. -/
def R.PAIR_HO_REJ : Nat := 0x1D0074
/-- R421 RC, saturating. -/
def R.PAIR_SESS_MOVED : Nat := 0x1D0078
/-- R421 RC, saturating. -/
def R.PAIR_SESS_LOST : Nat := 0x1D007C
/-- R421 RC, R411, saturating. -/
def R.PAIR_NOSVC_DROP : Nat := 0x1D0080
/-- R421 RO, [15:8] mate FMT; [7:0] own FMT. -/
def R.PAIR_FMT : Nat := 0x1D0084
/-- R421 RC, saturating. -/
def R.PAIR_FMT_REJ : Nat := 0x1D0088
/-- R421 RO, mate's NTS_KCV. -/
def R.PAIR_MATE_KCV : Nat := 0x1D008C
/-- R448 IL, fields below. -/
def R.CLK_CFG : Nat := 0x10000
/-- R448 mixed, fields below. -/
def R.CLK_STAT : Nat := 0x10004
/-- R448 WO, [0] RETRY (R426). -/
def R.CLK_CMD : Nat := 0x10008
/-- R448 RO, [31:21] MOD; [20:10] FRAC; [8:0] N (R425). -/
def R.CLK_FBDIV : Nat := 0x1000C
/-- R448 RO, [10:8] tries at the latest attempt; [5:0] band in use. -/
def R.CLK_BANDSEL : Nat := 0x10010
/-- R448 IL, [9:0] qualification time, ms, 10 to 1 000. -/
def R.CLK_XOQUAL : Nat := 0x10014
/-- R448 IL, [13:0] relock hold, ms, 10 to 10 000. -/
def R.CLK_RELOCK : Nat := 0x10018
/-- R448 RO, [15:0] XO_IN offset against RC taken as nominal, signed, units 0.01 %; −100.00 % with no edges (R433. -/
def R.CLK_XOFREQ : Nat := 0x1001C
/-- R448 RC, entries to LO bypass, saturating. -/
def R.CLK_LOL : Nat := 0x10020
/-- R448 RC, XO_IN defects, saturating. -/
def R.CLK_XODEF : Nat := 0x10024
/-- R448 RC, entries to RC bypass, saturating. -/
def R.CLK_RCBYP : Nat := 0x10028
/-- R448 RC, ms in either bypass, saturating. -/
def R.CLK_BYPMS : Nat := 0x1002C
/-- R448 IL, [23:0] gating allowed per island (R438). -/
def R.CLK_GATE_EN : Nat := 0x10030
/-- R448 RO, [23:0] island clocks running now. -/
def R.CLK_GATE_OPEN : Nat := 0x10034
/-- R448 IL, [15:0] idle cycles before a close attempt, 16 to 65 535. -/
def R.CLK_GATE_IDLE : Nat := 0x10038
/-- R448 RW, band b, b = 0 to 63; fields below. -/
def R.CLK_BAND (b : Nat) : Nat := 0x10100 + b * 0x4
/-- R448 RC, deferred closures of island i, i = 0 to 23, saturating. -/
def R.CLK_GATE_DEFER (i : Nat) : Nat := 0x10200 + i * 0x4
/-- R451 IL, [31] EN; [30:28] TB; [23:16] QDIV, 8 to 255; other bits reserved. -/
def R.OSYNk_CFG (k : Nat) : Nat := 0x20000 + k * 0x40
/-- R451 IL, [9:0] integer part of the nominal word. -/
def R.OSYNk_NOM_INT (k : Nat) : Nat := 0x20004 + k * 0x40
/-- R451 IL, [15:0] fraction [47:32]. -/
def R.OSYNk_NOM_FHI (k : Nat) : Nat := 0x20008 + k * 0x40
/-- R451 IL, fraction [31:0]. -/
def R.OSYNk_NOM_FLO (k : Nat) : Nat := 0x2000C + k * 0x40
/-- R451 RO, [9:0] W in use; a read latches. -/
def R.OSYNk_WORD_INT (k : Nat) : Nat := 0x20010 + k * 0x40
/-- R451 RO, [15:0] fraction [47:32]. -/
def R.OSYNk_WORD_FHI (k : Nat) : Nat := 0x20014 + k * 0x40
/-- R451 RO, fraction [31:0]. -/
def R.OSYNk_WORD_FLO (k : Nat) : Nat := 0x20018 + k * 0x40
/-- R451 RO, [2] STOPPED (R445); [1] LOCK; [0] STEERED. -/
def R.OSYNk_STAT (k : Nat) : Nat := 0x2001C + k * 0x40
/-- R451 mixed, fields below. -/
def R.CLKOj_CFG (j : Nat) : Nat := 0x20200 + j * 0x20
/-- R451 IL, [23:0] divider, 8 to 16 777 215. -/
def R.CLKOj_DIV (j : Nat) : Nat := 0x20204 + j * 0x20
/-- R451 RW, [15:0] signed board delay, ps. -/
def R.CLKOj_DLY (j : Nat) : Nat := 0x20208 + j * 0x20
/-- R451 RO, [31] ALOCK; [15:0] measured error, signed ps. -/
def R.CLKOj_ADLL (j : Nat) : Nat := 0x2020C + j * 0x20
/-- R451 mixed, [2] SYNC_STKY (W1C), restarted by SYNC_IN; [1] STOPPED (RO); [0] RUN (RO). -/
def R.CLKOj_STAT (j : Nat) : Nat := 0x20210 + j * 0x20
/-- R451 RW, [0] EN (R443). -/
def R.OUT_SYNC_CFG : Nat := 0x20400
/-- R451 RO, TB0 seconds [31:0] of the latest SYNC_IN edge. -/
def R.OUT_SYNC_TS_SEC : Nat := 0x20404
/-- R451 RO, nanoseconds. -/
def R.OUT_SYNC_TS_NS : Nat := 0x20408
/-- R451 RO, [15:0] fractional ns. -/
def R.OUT_SYNC_TS_FRAC : Nat := 0x2040C
/-- R451 RO, SYNC_IN edges acted on, wrapping. -/
def R.OUT_SYNC_CNT : Nat := 0x20410
/-- R451 RC, SYNC_IN edges ignored, saturating. -/
def R.OUT_SYNC_IGN : Nat := 0x20414
/-- R451 IL, [16:0] ps/s, 10 to 100 000; Famate default 1 000. -/
def R.OUT_ADLL_SLEW : Nat := 0x20418
/-- R451 IL, [31] EN; [28:24] DEPTH, units 0.1 %, 1 to 20; [22:16] RATE, kHz, 30 to 120; [10:0] NAUX, VCO = f_LO . -/
def R.AUX_CFG : Nat := 0x20500
/-- R451 RW, [3:0] AUXCLK0–3 running. -/
def R.AUX_EN : Nat := 0x20504
/-- R451 IL, [15:0] divider, 4 to 65 535. -/
def R.AUXCLKa_DIV (a : Nat) : Nat := 0x20510 + a * 0x4
/-- R473 mixed, fields below. -/
def R.CFG_STAT : Nat := 0x220000
/-- R473 RO, VERSION of the running image. -/
def R.CFG_VERSION : Nat := 0x220004
/-- R473 RO, [15:0] build time, seconds [47:32]. -/
def R.CFG_BUILD_HI : Nat := 0x220008
/-- R473 RO, build time, seconds [31:0]. -/
def R.CFG_BUILD_LO : Nat := 0x22000C
/-- R473 RO, IMGLEN of the running image, bytes. -/
def R.CFG_IMGLEN : Nat := 0x220010
/-- R473 RO, bank a: [31:24] code of R463, 0 none or not tried; [23:0] record offset, bytes. -/
def R.CFG_ERRa (a : Nat) : Nat := 0x220014 + a * 0x4
/-- R473 RO, register address for codes 7 and 8. -/
def R.CFG_ERR_ADDR : Nat := 0x22001C
/-- R473 RO, SEQ of the directory copy used. -/
def R.CFG_DIRSEQ : Nat := 0x220020
/-- R473 IL, [10:8] SLOT, client slot 0 to 5; [2] PTP; [1] GNSS; [0] MATE; Famate default 0x0000_0003. -/
def R.CFG_SETSRC : Nat := 0x220024
/-- R473 RO, SHA-384 of the image signing key. -/
def R.CFG_ROOTHASH (w : Nat) : Nat := 0x220040 + w * 0x4
/-- R473 RW, [25:0] flash byte address. -/
def R.CFG_FL_ADDR : Nat := 0x220080
/-- R473 WO, [2:0] OP of R471. -/
def R.CFG_FL_CMD : Nat := 0x220084
/-- R473 RO, [31] BUSY; [2:0] RESULT. -/
def R.CFG_FL_STAT : Nat := 0x220088
/-- R473 RO, [23:0] JEDEC ID read at start. -/
def R.CFG_FL_JEDEC : Nat := 0x22008C
/-- R473 RO, VERSION of the checked image. -/
def R.CFG_CHK_VER : Nat := 0x220090
/-- R473 RW, buffer word w, 0 to 63; byte 0 in [31:24]. -/
def R.CFG_FL_BUF (w : Nat) : Nat := 0x220100 + w * 0x4
/-- R475 RO, part and revision. -/
def R.SYS_ID : Nat := 0x0
/-- R475 IL, [1:0] service mode (R2). -/
def R.SYS_MODE : Nat := 0x4
/-- R475 RO, fields below. -/
def R.SYS_STAT : Nat := 0x8
/-- R475 WO, [0] RESTART (R453). -/
def R.SYS_CMD : Nat := 0xC
/-- R475 RO, [31:16] resets since power-on, saturating; [2:0] cause: 0 power-on, 1 RESET_N, 2 RESTART, 3 chip-res. -/
def R.SYS_RSTCAUSE : Nat := 0x10
/-- R475 RO, [1] TEST_MODE; [0] PAIR_PREF (R455). -/
def R.SYS_STRAP : Nat := 0x14
/-- R475 RO, ms since the last reset, SUP domain, saturating. -/
def R.SYS_UPTIME : Nat := 0x18
/-- R475 RO, ms after reset: k = 0 CLOCK, 1 REDUCED, 2 first FULL, 3 TB0 set; all ones when not yet reached. -/
def R.SYS_STAGE_Tk (k : Nat) : Nat := 0x20 + k * 0x4
/-- R500 mixed, fields below. -/
def R.FLT_STAT : Nat := 0x1E0000
/-- R500 WO, [31] GO; [6:0] source; factory test mode only (R488). -/
def R.FLT_INJ : Nat := 0x1E0008
/-- R500 W1C, one bit per source, 0 to 95. -/
def R.FLT_PEND (w : Nat) : Nat := 0x1E0010 + w * 0x4
/-- R500 RO, level sources active. -/
def R.FLT_ACTIVE (w : Nat) : Nat := 0x1E0020 + w * 0x4
/-- R500 RW, interrupt enable per source. -/
def R.FLT_INTEN (w : Nat) : Nat := 0x1E0030 + w * 0x4
/-- R500 IL, [31:28] N, 1 to 15; [27:16] WIN, s, 1 to 3 600; [2:0] REACT, 4 or 5; other values fail verification . -/
def R.FLT_ESC : Nat := 0x1E0040
/-- R500 RO, TB0 seconds [31:0] of the latest occurrence. -/
def R.FLT_LAST_SEC : Nat := 0x1E0044
/-- R500 RO, nanoseconds. -/
def R.FLT_LAST_NS : Nat := 0x1E0048
/-- R500 IL, [15:0] corrected errors per second for source 30; Famate 16. -/
def R.FLT_CE_THR : Nat := 0x1E004C
/-- R500 RC, corrected SRAM errors, saturating. -/
def R.FLT_CE_CNT : Nat := 0x1E0050
/-- R500 IL, [9] FLUSH; [8] FNEN; [2:0] REACT (R478). -/
def R.FLT_SRCs_CFG (s : Nat) : Nat := 0x1E0100 + s * 0x4
/-- R500 RC, occurrences, saturating. -/
def R.FLT_CNTs (s : Nat) : Nat := 0x1E0300 + s * 0x4
/-- R500 RO, information word [31:0]; a read latches. -/
def R.FLT_INFOs_LO (s : Nat) : Nat := 0x1E0500 + s * 0x8
/-- R500 RO, [63:32]; for SRAM sources: word address and syndrome. -/
def R.FLT_INFOs_HI (s : Nat) : Nat := 0x1E0504 + s * 0x8
/-- R502 RW, [0] DMA (R496). -/
def R.REC_CFG : Nat := 0x1F0000
/-- R502 mixed, fields below. -/
def R.REC_STAT : Nat := 0x1F0004
/-- R502 WO, [2] MARK; [1] UNFREEZE; [0] FREEZE. -/
def R.REC_CMD : Nat := 0x1F0008
/-- R502 IL, [9:0] s, 1 to 600; Famate 60. -/
def R.REC_FREEZE_MAX : Nat := 0x1F000C
/-- R502 IL, [11:0] s, 1 to 3 600; Famate 10. -/
def R.REC_FLPER : Nat := 0x1F0010
/-- R502 RO, BOOT of this start. -/
def R.REC_BOOT : Nat := 0x1F0014
/-- R502 RO, next SEQ. -/
def R.REC_SEQ : Nat := 0x1F0018
/-- R502 RO, [8:0] current segment. -/
def R.REC_SEG : Nat := 0x1F001C
/-- R502 RO, its SEGSEQ. -/
def R.REC_SEGSEQ : Nat := 0x1F0020
/-- R502 RO, [17:0] next append offset. -/
def R.REC_RING_WR : Nat := 0x1F0024
/-- R502 RO, [17:0] flushed up to. -/
def R.REC_RING_FL : Nat := 0x1F0028
/-- R502 RO, [17:0] oldest record held. -/
def R.REC_RING_OLD : Nat := 0x1F002C
/-- R502 RC, R489, saturating. -/
def R.REC_DROP : Nat := 0x1F0030
/-- R502 RC, R494, saturating. -/
def R.REC_STG_OVF : Nat := 0x1F0034
/-- R502 RO, [14:0] staged bytes. -/
def R.REC_STG_LVL : Nat := 0x1F0038
/-- R502 RO, flushes, wrapping. -/
def R.REC_FLUSHES : Nat := 0x1F003C
/-- R502 RO, duration of the latest flush, µs. -/
def R.REC_FLUSH_US : Nat := 0x1F0040
/-- R502 RW, [31] SRC: 0 ring, 1 flash; [24:8] page; [7:0] ignored. -/
def R.REC_WIN_ADDR : Nat := 0x1F0044
/-- R502 WO, [0] LOAD (R495). -/
def R.REC_WIN_CMD : Nat := 0x1F0048
/-- R502 RO, [31] BUSY; [0] ERR, offset outside the ring or region. -/
def R.REC_WIN_STAT : Nat := 0x1F004C
/-- R502 RW, MARK body. -/
def R.REC_MARK (w : Nat) : Nat := 0x1F0050 + w * 0x4
/-- R502 RO, window word w, 0 to 63; byte 0 in [31:24]. -/
def R.REC_WIN (w : Nat) : Nat := 0x1F0100 + w * 0x4
/-- R504 RW, [0] OBSEN (R499). -/
def R.PMC_CFG : Nat := 0x200000
/-- R504 WO, [3] CLEAR all counters; [2] SNAP; [1] STOP; [0] START. -/
def R.PMC_CMD : Nat := 0x200004
/-- R504 RO, [0] RUN. -/
def R.PMC_STAT : Nat := 0x200008
/-- R504 W1C, one sticky bit per counter. -/
def R.PMC_WRAP (w : Nat) : Nat := 0x200010 + w * 0x4
/-- R504 RW, [31] EN; [23:16] INST; [15:0] EVENT. -/
def R.PMCc_SEL (c : Nat) : Nat := 0x200100 + c * 0x20
/-- R504 RO, count [31:0]; a read latches. -/
def R.PMCc_LO (c : Nat) : Nat := 0x200104 + c * 0x20
/-- R504 RO, [15:0] count [47:32]. -/
def R.PMCc_HI (c : Nat) : Nat := 0x200108 + c * 0x20
/-- R504 RO, snapshot [31:0]. -/
def R.PMCc_SNAP_LO (c : Nat) : Nat := 0x20010C + c * 0x20
/-- R504 RO, [15:0] snapshot [47:32]. -/
def R.PMCc_SNAP_HI (c : Nat) : Nat := 0x200110 + c * 0x20
/-- R504 RW, [31] EN; [30] DMA; [27:24] CORES; [19:0] PERIOD, 16 to 1 048 575. -/
def R.PMC_SAMP_CFG : Nat := 0x201100
/-- R504 RO, [31] FULL; [10:0] entries held. -/
def R.PMC_SAMP_STAT : Nat := 0x201104
/-- R504 WO, [0] RESET, empties the buffer. -/
def R.PMC_SAMP_CMD : Nat := 0x201108
/-- R504 RO, samples taken, wrapping. -/
def R.PMC_SAMP_CNT : Nat := 0x20110C
/-- R523 RO, [31:16] 0x9256; [15:0] Vendor ID. -/
def R.HIF_PCI_ID : Nat := 0x210000
/-- R523 IL, [31:16] subsystem ID; [15:0] subsystem vendor ID. -/
def R.HIF_SUBSYS : Nat := 0x210004
/-- R523 RO, [31] UP; [18:16] speed: 1 Gen1 to 4 Gen4, 0 while UP is 0; [12:8] width, 0 while UP is 0; [5:0] LTSS. -/
def R.HIF_LINK : Nat := 0x210008
/-- R523 RO, [0] 0 PCIe, 1 SPI: the port making the access. -/
def R.HIF_PORT : Nat := 0x21000C
/-- R523 W1C, [12:0] sources of R519; writable in either role. -/
def R.HIF_ISTAT : Nat := 0x210010
/-- R523 RW, [12:0] enables; writable in either role. -/
def R.HIF_IEN : Nat := 0x210014
/-- R523 RW, [3:0] MSI-X vector of source s, s = 0 to 12. -/
def R.HIF_IVEC (s : Nat) : Nat := 0x210040 + s * 0x4
/-- R523 RC, ignored writes (R510), saturating. -/
def R.HIF_WRIGN : Nat := 0x210080
/-- R523 RC, unmapped accesses, saturating. -/
def R.HIF_UNMAPPED : Nat := 0x210084
/-- R523 RC, partial PCIe writes (R508), saturating. -/
def R.HIF_BADACC : Nat := 0x210088
/-- R523 RC, FLR, hot resets and link-downs (R507), saturating. -/
def R.HIF_LINKEV : Nat := 0x21008C
/-- R523 RO, [3] WROVF as last reported; [0] BUSY. -/
def R.HIF_SPI_STAT : Nat := 0x210090
/-- R523 RC, transactions ignored for BUSY (R513), saturating. -/
def R.HIF_SPI_BUSYREJ : Nat := 0x210094
/-- R523 RC, reads ended with 0xFF (R514), saturating. -/
def R.HIF_SPI_RDTMO : Nat := 0x210098
/-- R222 RO, navigation ring entry k, word w. -/
def R.GNSS_NAV (k w : Nat) : Nat := 0x98000 + k * 0x80 + w * 0x4
/-- R356 RO, session table entry x, word w, big-endian. -/
def R.PTP_SESS (x w : Nat) : Nat := 0x180000 + x * 0x40 + w * 0x4
/-- R504 RO, sample buffer entry e, word w. -/
def R.PMC_SAMPLE (e w : Nat) : Nat := 0x204000 + e * 0x10 + w * 0x4

/-- Rows of the register table of R64. -/
def rowsR64_0 : List RegRow :=
  [ ⟨0x30000, [(8, 0x100)], .il, 0x0, 0x0, false, 0x7F⟩ /- TBn_CFG -/
    , ⟨0x30004, [(8, 0x100)], .mixed, 0x0, 0x300, false, 0x0⟩ /- TBn_STAT -/
    , ⟨0x30008, [(8, 0x100)], .wo, 0xFFFFFFFF, 0x0, false, 0x0⟩ /- TBn_CMD -/
    , ⟨0x3000C, [(8, 0x100)], .ro, 0x0, 0x0, false, 0x0⟩ /- TBn_NOW_SEC_HI -/
    , ⟨0x30010, [(8, 0x100)], .ro, 0x0, 0x0, false, 0x0⟩ /- TBn_NOW_SEC_LO -/
    , ⟨0x30014, [(8, 0x100)], .ro, 0x0, 0x0, false, 0x0⟩ /- TBn_NOW_NS -/
    , ⟨0x30018, [(8, 0x100)], .ro, 0x0, 0x0, false, 0x0⟩ /- TBn_NOW_FRAC -/
    , ⟨0x3001C, [(8, 0x100)], .ro, 0x0, 0x0, false, 0x0⟩ /- TBn_PRES_SEC_HI -/
    , ⟨0x30020, [(8, 0x100)], .ro, 0x0, 0x0, false, 0x0⟩ /- TBn_PRES_SEC_LO -/
    , ⟨0x30024, [(8, 0x100)], .ro, 0x0, 0x0, false, 0x0⟩ /- TBn_PRES_NS -/
    , ⟨0x30028, [(8, 0x100)], .ro, 0x0, 0x0, false, 0x0⟩ /- TBn_PRES_FRAC -/
    , ⟨0x3002C, [(8, 0x100)], .rw, 0xFFFFF, 0x0, false, 0x0⟩ /- TBn_INC_HI -/
    , ⟨0x30030, [(8, 0x100)], .rw, 0xFFFFFFFF, 0x0, false, 0x0⟩ /- TBn_INC_LO -/
    , ⟨0x30034, [(8, 0x100)], .rw, 0xFFFFF, 0x0, false, 0xFFFFF⟩ /- TBn_BINC_HI -/
    , ⟨0x30038, [(8, 0x100)], .rw, 0xFFFFFFFF, 0x0, false, 0xFFFFFFFF⟩ /- TBn_BINC_LO -/
    , ⟨0x3003C, [(8, 0x100)], .rw, 0x8000FFFF, 0x0, false, 0x0⟩ /- TBn_PADJ_HI -/
    , ⟨0x30040, [(8, 0x100)], .rw, 0xFFFFFFFF, 0x0, false, 0x0⟩ /- TBn_PADJ_LO -/
    , ⟨0x30044, [(8, 0x100)], .ro, 0x0, 0x0, false, 0x0⟩ /- TBn_PREM_HI -/
    , ⟨0x30048, [(8, 0x100)], .ro, 0x0, 0x0, false, 0x0⟩ /- TBn_PREM_LO -/
    , ⟨0x3004C, [(8, 0x100)], .rw, 0x3FF, 0x0, false, 0x0⟩ /- TBn_PSLOPE -/
    , ⟨0x30050, [(8, 0x100)], .rw, 0xFFFF, 0x0, false, 0x0⟩ /- TBn_SET_SEC_HI -/
    , ⟨0x30054, [(8, 0x100)], .rw, 0xFFFFFFFF, 0x0, false, 0x0⟩ /- TBn_SET_SEC_LO -/
    , ⟨0x30058, [(8, 0x100)], .rw, 0xFFFFFFFF, 0x0, false, 0x0⟩ /- TBn_SET_NS -/
    , ⟨0x3005C, [(8, 0x100)], .rw, 0xFFFFFFFF, 0x0, false, 0x0⟩ /- TBn_SET_AT_SEC -/ ]

/-- Rows of the register table of R64. -/
def rowsR64_1 : List RegRow :=
  [ ⟨0x30060, [(8, 0x100)], .rw, 0xFFFFFFFF, 0x0, false, 0x0⟩ /- TBn_SET_AT_NS -/
    , ⟨0x30064, [(8, 0x100)], .rc, 0x0, 0x0, false, 0x0⟩ /- TBn_SET_REJ -/
    , ⟨0x30068, [(8, 0x100)], .rw, 0x1F, 0x0, false, 0x0⟩ /- TBn_LEAP_CTL -/
    , ⟨0x3006C, [(8, 0x100)], .rw, 0xFFFF, 0x0, false, 0x0⟩ /- TBn_LEAP_AT_HI -/
    , ⟨0x30070, [(8, 0x100)], .rw, 0xFFFFFFFF, 0x0, false, 0x0⟩ /- TBn_LEAP_AT_LO -/
    , ⟨0x30074, [(8, 0x100)], .rw, 0x1FFFF, 0x0, false, 0x1FFFF⟩ /- TBn_SMEAR_LEN -/
    , ⟨0x30078, [(8, 0x100)], .ro, 0x0, 0x0, false, 0x0⟩ /- TBn_LEAPCNT -/
    , ⟨0x3007C, [(8, 0x100)], .ro, 0x0, 0x0, false, 0x0⟩ /- TBn_SNAP_SEC_HI -/
    , ⟨0x30080, [(8, 0x100)], .ro, 0x0, 0x0, false, 0x0⟩ /- TBn_SNAP_SEC_LO -/
    , ⟨0x30084, [(8, 0x100)], .ro, 0x0, 0x0, false, 0x0⟩ /- TBn_SNAP_NS -/
    , ⟨0x30088, [(8, 0x100)], .ro, 0x0, 0x0, false, 0x0⟩ /- TBn_SNAP_FRAC -/
    , ⟨0x3008C, [(8, 0x100)], .rw, 0xFFFF, 0x0, false, 0x0⟩ /- TBn_SET_FRAC -/
    , ⟨0x30800, [], .wo, 0xFFFFFFFF, 0x0, false, 0x0⟩ /- TB_SNAP_CMD -/
    , ⟨0x30804, [], .w1c, 0x0, 0x1, false, 0x0⟩ /- TB_SNAP_STAT -/
    , ⟨0x30808, [], .il, 0x0, 0x0, false, 0xFFFFF⟩ /- TB_RCINC_HI -/
    , ⟨0x3080C, [], .il, 0x0, 0x0, false, 0xFFFFFFFF⟩ /- TB_RCINC_LO -/ ]

/-- Rows of the register table of R69. -/
def rowsR69_0 : List RegRow :=
  [ ⟨0x60000, [(32, 0x80)], .rw, 0x1FFF, 0x0, false, 0x0⟩ /- EIOn_CFG -/
    , ⟨0x60004, [(32, 0x80)], .mixed, 0x0, 0x7F8, false, 0x0⟩ /- EIOn_STAT -/
    , ⟨0x60008, [(32, 0x80)], .wo, 0xFFFFFFFF, 0x0, false, 0x0⟩ /- EIOn_CMD -/
    , ⟨0x6000C, [(32, 0x80)], .rw, 0xFFFFFFFF, 0x0, false, 0x0⟩ /- EIOn_T0_SEC -/
    , ⟨0x60010, [(32, 0x80)], .rw, 0xFFFFFFFF, 0x0, false, 0x0⟩ /- EIOn_T0_NS -/
    , ⟨0x60014, [(32, 0x80)], .rw, 0xFFFF, 0x0, false, 0x0⟩ /- EIOn_T0_FRAC -/
    , ⟨0x60018, [(32, 0x80)], .rw, 0xFFFFFFFF, 0x0, false, 0x0⟩ /- EIOn_PER_NS -/
    , ⟨0x6001C, [(32, 0x80)], .rw, 0xFFFFFFFF, 0x0, false, 0x0⟩ /- EIOn_PER_FRAC -/
    , ⟨0x60020, [(32, 0x80)], .rw, 0xFFFFFFFF, 0x0, false, 0x0⟩ /- EIOn_WIDTH -/
    , ⟨0x60024, [(32, 0x80)], .rw, 0xFFFFFFFF, 0x0, false, 0x0⟩ /- EIOn_COUNT -/
    , ⟨0x60028, [(32, 0x80)], .ro, 0x0, 0x0, false, 0x0⟩ /- EIOn_DONE -/
    , ⟨0x6002C, [(32, 0x80)], .rw, 0xFFFF, 0x0, false, 0x0⟩ /- EIOn_DLY -/
    , ⟨0x60030, [(32, 0x80)], .rw, 0xFFFFF, 0x0, false, 0x0⟩ /- EIOn_STUCK -/
    , ⟨0x60034, [(32, 0x80)], .ro, 0x0, 0x0, false, 0x0⟩ /- EIOn_CAP0 -/
    , ⟨0x60038, [(32, 0x80)], .ro, 0x0, 0x0, false, 0x0⟩ /- EIOn_CAP1 -/
    , ⟨0x6003C, [(32, 0x80)], .ro, 0x0, 0x0, false, 0x0⟩ /- EIOn_CAP2 -/
    , ⟨0x60040, [(32, 0x80)], .ro, 0x0, 0x0, false, 0x0⟩ /- EIOn_CAP3 -/
    , ⟨0x60044, [(32, 0x80)], .ro, 0x0, 0x0, false, 0x0⟩ /- EIOn_FIFO_LVL -/
    , ⟨0x60048, [(32, 0x80)], .rc, 0x0, 0x0, false, 0x0⟩ /- EIOn_DROP -/
    , ⟨0x6004C, [(32, 0x80)], .rc, 0x0, 0x0, false, 0x0⟩ /- EIOn_OVF -/
    , ⟨0x60050, [(32, 0x80)], .rc, 0x0, 0x0, false, 0x0⟩ /- EIOn_LATE -/
    , ⟨0x60054, [(32, 0x80)], .rc, 0x0, 0x0, false, 0x0⟩ /- EIOn_SUPP -/ ]

/-- Rows of the register table of R97. -/
def rowsR97_0 : List RegRow :=
  [ ⟨0x40000, [(8, 0x100)], .rw, 0xB, 0x0, false, 0x0⟩ /- TSUn_CFG -/
    , ⟨0x40004, [(8, 0x100)], .mixed, 0x0, 0x78, false, 0x0⟩ /- TSUn_STAT -/
    , ⟨0x40008, [(8, 0x100)], .rw, 0xFFFFFFFF, 0x0, false, 0x0⟩ /- TSUn_RX_LAT -/
    , ⟨0x4000C, [(8, 0x100)], .rw, 0xFFFFFFFF, 0x0, false, 0x0⟩ /- TSUn_TX_LAT -/
    , ⟨0x40010, [(8, 0x100)], .rw, 0xFFFFFFFF, 0x0, false, 0x0⟩ /- TSUn_ASYM -/
    , ⟨0x40014, [(8, 0x100)], .ro, 0x0, 0x0, false, 0x0⟩ /- TSUn_RX_FIX -/
    , ⟨0x40018, [(8, 0x100)], .ro, 0x0, 0x0, false, 0x0⟩ /- TSUn_TX_FIX -/
    , ⟨0x4001C, [(8, 0x100)], .rw, 0xFFFF, 0x0, false, 0x0⟩ /- TSUn_LAUNCH_TOL -/
    , ⟨0x40020, [(8, 0x100)], .ro, 0x0, 0x0, false, 0x0⟩ /- TSUn_TXQ_LVL -/
    , ⟨0x40024, [(8, 0x100)], .rc, 0x0, 0x0, false, 0x0⟩ /- TSUn_TX_MISPRED -/
    , ⟨0x40028, [(8, 0x100)], .rc, 0x0, 0x0, false, 0x0⟩ /- TSUn_TX_MISPRED_MAX -/
    , ⟨0x4002C, [(8, 0x100)], .rc, 0x0, 0x0, false, 0x0⟩ /- TSUn_LAUNCH_LATE -/
    , ⟨0x40030, [(8, 0x100)], .rc, 0x0, 0x0, false, 0x0⟩ /- TSUn_INS_ERR -/
    , ⟨0x40800, [(8, 0x40)], .rw, 0x1FF, 0x0, false, 0x0⟩ /- PPSm_CFG -/
    , ⟨0x40804, [(8, 0x40)], .mixed, 0x0, 0x4, false, 0x0⟩ /- PPSm_STAT -/
    , ⟨0x40808, [(8, 0x40)], .rw, 0xFFFFFFFF, 0x0, false, 0x0⟩ /- PPSm_OFS -/
    , ⟨0x4080C, [(8, 0x40)], .rw, 0xFFFFFFFF, 0x0, false, 0x0⟩ /- PPSm_WIDTH -/
    , ⟨0x40810, [(8, 0x40)], .rw, 0xFFFF, 0x0, false, 0x0⟩ /- PPSm_DLY -/
    , ⟨0x40814, [(8, 0x40)], .rc, 0x0, 0x0, false, 0x0⟩ /- PPSm_SUPP -/
    , ⟨0x40C00, [], .rw, 0x7FFF, 0x0, false, 0x0⟩ /- TSU_LAUNCH_LEAD -/
    , ⟨0x40C04, [], .ro, 0x0, 0x0, false, 0x0⟩ /- TSU_CAL_STAT -/
    , ⟨0x40C08, [], .ro, 0x0, 0x0, false, 0x0⟩ /- TSU_CAL_AGE -/
    , ⟨0x40C0C, [], .rc, 0x0, 0x0, false, 0x0⟩ /- TSU_CAL_FAIL -/ ]

/-- Rows of the register table of R121. -/
def rowsR121_0 : List RegRow :=
  [ ⟨0x50000, [(8, 0x100)], .il, 0x0, 0x0, false, 0x1⟩ /- EBn_CFG -/
    , ⟨0x50004, [(8, 0x100)], .mixed, 0x0, 0xE0, false, 0x0⟩ /- EBn_STAT -/
    , ⟨0x50008, [(8, 0x100)], .ro, 0x0, 0x0, false, 0x0⟩ /- EBn_B_LO -/
    , ⟨0x5000C, [(8, 0x100)], .ro, 0x0, 0x0, false, 0x0⟩ /- EBn_B_HI -/
    , ⟨0x50010, [(8, 0x100)], .ro, 0x0, 0x0, false, 0x0⟩ /- EBn_LO_LO -/
    , ⟨0x50014, [(8, 0x100)], .ro, 0x0, 0x0, false, 0x0⟩ /- EBn_LO_HI -/
    , ⟨0x50018, [(8, 0x100)], .ro, 0x0, 0x0, false, 0x0⟩ /- EBn_HI_LO -/
    , ⟨0x5001C, [(8, 0x100)], .ro, 0x0, 0x0, false, 0x0⟩ /- EBn_HI_HI -/
    , ⟨0x50020, [(8, 0x100)], .ro, 0x0, 0x0, false, 0x0⟩ /- EBn_RATE -/
    , ⟨0x50024, [(8, 0x100)], .ro, 0x0, 0x0, false, 0x0⟩ /- EBn_TAU -/
    , ⟨0x50028, [(8, 0x100)], .ro, 0x0, 0x0, false, 0x0⟩ /- EBn_P_LO -/
    , ⟨0x5002C, [(8, 0x100)], .ro, 0x0, 0x0, false, 0x0⟩ /- EBn_P_HI -/
    , ⟨0x50030, [(8, 0x100)], .ro, 0x0, 0x0, false, 0x0⟩ /- EBn_PRATE -/
    , ⟨0x50034, [(8, 0x100)], .ro, 0x0, 0x0, false, 0x0⟩ /- EBn_Y -/
    , ⟨0x50038, [(8, 0x100)], .ro, 0x0, 0x0, false, 0x0⟩ /- EBn_D -/
    , ⟨0x5003C, [(8, 0x100)], .ro, 0x0, 0x0, false, 0x0⟩ /- EBn_K -/
    , ⟨0x50040, [(8, 0x100)], .ro, 0x0, 0x0, false, 0x0⟩ /- EBn_DT -/
    , ⟨0x50044, [(8, 0x100)], .ro, 0x0, 0x0, false, 0x0⟩ /- EBn_SEQ -/
    , ⟨0x50048, [(8, 0x100)], .il, 0x0, 0x0, false, 0xFFFFFFFF⟩ /- EBn_THR_SPEC -/
    , ⟨0x5004C, [(8, 0x100)], .il, 0x0, 0x0, false, 0xFFFFFFFF⟩ /- EBn_THR_SERVE -/
    , ⟨0x50050, [(8, 0x100)], .il, 0x0, 0x0, false, 0xFFFF⟩ /- EBn_LOCK_WIN -/
    , ⟨0x50054, [(8, 0x100)], .il, 0x0, 0x0, false, 0xFFF⟩ /- EBn_LPER -/
    , ⟨0x50058, [(8, 0x100)], .rc, 0x0, 0x0, false, 0x0⟩ /- EBn_CONFLICT -/
    , ⟨0x5005C, [(8, 0x100)], .rc, 0x0, 0x0, false, 0x0⟩ /- EBn_MISS -/ ]

/-- Rows of the register table of R121. -/
def rowsR121_1 : List RegRow :=
  [ ⟨0x50060, [(8, 0x100)], .rc, 0x0, 0x0, false, 0x0⟩ /- EBn_TSTEP -/
    , ⟨0x50800, [], .il, 0x0, 0x0, false, 0xFFFFFFFF⟩ /- EB_EGRESS_ADD -/
    , ⟨0x50804, [], .il, 0x0, 0x0, false, 0xFFFFFFFF⟩ /- EB_STRAIT_UNC -/
    , ⟨0x50808, [], .rc, 0x0, 0x0, false, 0x0⟩ /- EB_DMA_DROP -/
    , ⟨0x50900, [(24, 0x4)], .il, 0x0, 0x0, false, 0xFFFFFFFF⟩ /- EB_RUNC -/
    , ⟨0x50980, [(24, 0x4)], .il, 0x0, 0x0, false, 0xFFFFFFFF⟩ /- EB_RPATH -/ ]

/-- Rows of the register table of R154. -/
def rowsR154_0 : List RegRow :=
  [ ⟨0x70000, [(24, 0x40)], .il, 0x0, 0x0, false, 0xFFFFFF3⟩ /- REFr_CFG -/
    , ⟨0x70004, [(24, 0x40)], .mixed, 0x0, 0x7F0000, false, 0x0⟩ /- REFr_STAT -/
    , ⟨0x70008, [(24, 0x40)], .il, 0x0, 0x0, false, 0x3FFF⟩ /- REFr_HOLDOFF -/
    , ⟨0x7000C, [(24, 0x40)], .il, 0x0, 0x0, false, 0xFFF⟩ /- REFr_WTR -/
    , ⟨0x70010, [(24, 0x40)], .il, 0x0, 0x0, false, 0xFFFF⟩ /- REFr_FTOL -/
    , ⟨0x70014, [(24, 0x40)], .il, 0x0, 0x0, false, 0xFFFFFFFF⟩ /- REFr_NOMF -/
    , ⟨0x70018, [(24, 0x40)], .il, 0x0, 0x0, false, 0xFFF⟩ /- REFr_TRWIN -/
    , ⟨0x7001C, [(24, 0x40)], .il, 0x0, 0x0, false, 0xFFFF⟩ /- REFr_TRTOL -/
    , ⟨0x70020, [(24, 0x40)], .il, 0x0, 0x0, false, 0xFFFFF⟩ /- REFr_REENTRY -/
    , ⟨0x70024, [(24, 0x40)], .ro, 0x0, 0x0, false, 0x0⟩ /- REFr_TIMER -/
    , ⟨0x70028, [(24, 0x40)], .ro, 0x0, 0x0, false, 0x0⟩ /- REFr_QLMSG -/
    , ⟨0x7002C, [(24, 0x40)], .ro, 0x0, 0x0, false, 0x0⟩ /- REFr_FREQ -/
    , ⟨0x70030, [(24, 0x40)], .rc, 0x0, 0x0, false, 0x0⟩ /- REFr_FAILS -/
    , ⟨0x70034, [(24, 0x40)], .rc, 0x0, 0x0, false, 0x0⟩ /- REFr_GLITCH -/
    , ⟨0x70800, [(8, 0x40)], .il, 0x0, 0x0, false, 0x7FF⟩ /- REF_TBn_CFG -/
    , ⟨0x70804, [(8, 0x40)], .mixed, 0x0, 0x8400, false, 0x0⟩ /- REF_TBn_STAT -/
    , ⟨0x70808, [(8, 0x40)], .ro, 0x0, 0x0, false, 0x0⟩ /- REF_TBn_SUSP -/
    , ⟨0x7080C, [(8, 0x40)], .wo, 0xFFFFFFFF, 0x0, false, 0x0⟩ /- REF_TBn_ACCEPT -/
    , ⟨0x70810, [(8, 0x40)], .rw, 0x8000001F, 0x0, false, 0x0⟩ /- REF_TBn_FORCE -/
    , ⟨0x70814, [(8, 0x40)], .ro, 0x0, 0x0, false, 0x0⟩ /- REF_TBn_SELABLE -/
    , ⟨0x70818, [(8, 0x40)], .il, 0x0, 0x0, false, 0xFFFFFFFF⟩ /- REF_TBn_PMAX -/
    , ⟨0x7081C, [(8, 0x40)], .ro, 0x0, 0x0, false, 0x0⟩ /- REF_TBn_STEER_LO -/
    , ⟨0x70820, [(8, 0x40)], .ro, 0x0, 0x0, false, 0x0⟩ /- REF_TBn_STEER_HI -/
    , ⟨0x70824, [(8, 0x40)], .rc, 0x0, 0x0, false, 0x0⟩ /- REF_TBn_SWITCHES -/ ]

/-- Rows of the register table of R154. -/
def rowsR154_1 : List RegRow :=
  [ ⟨0x70828, [(8, 0x40)], .rc, 0x0, 0x0, false, 0x0⟩ /- REF_TBn_ABANDON -/
    , ⟨0x7082C, [(8, 0x40)], .rc, 0x0, 0x0, false, 0x0⟩ /- REF_TBn_CONFLICT_DQ -/
    , ⟨0x70830, [(8, 0x40)], .rc, 0x0, 0x0, false, 0x0⟩ /- REF_TBn_PREDDIS -/
    , ⟨0x70C00, [], .rw, 0xFFFFFF, 0x0, false, 0x0⟩ /- REF_LOCKOUT -/
    , ⟨0x70C04, [], .ro, 0x0, 0x0, false, 0xFFFF⟩ /- REF_TAIUTC -/
    , ⟨0x70C08, [], .il, 0x0, 0x0, false, 0xFFFFFFFF⟩ /- REF_PPSWIN -/
    , ⟨0x70C0C, [], .il, 0x0, 0x0, false, 0x107⟩ /- REF_ATOM_CFG -/
    , ⟨0x70C10, [], .ro, 0x0, 0x0, false, 0x0⟩ /- REF_TICKS -/ ]

/-- Rows of the register table of R184. -/
def rowsR184_0 : List RegRow :=
  [ ⟨0x80000, [(8, 0x100)], .il, 0x0, 0x0, false, 0xFF80⟩ /- SRVn_CFG -/
    , ⟨0x80004, [(8, 0x100)], .rw, 0x80000007, 0x0, false, 0x0⟩ /- SRVn_CTL -/
    , ⟨0x80008, [(8, 0x100)], .mixed, 0x0, 0xE00, false, 0x0⟩ /- SRVn_STAT -/
    , ⟨0x8000C, [(8, 0x100)], .ro, 0x0, 0x0, false, 0x0⟩ /- SRVn_ERR -/
    , ⟨0x80010, [(8, 0x100)], .ro, 0x0, 0x0, false, 0x0⟩ /- SRVn_INTEG -/
    , ⟨0x80014, [(8, 0x100)], .ro, 0x0, 0x0, false, 0x0⟩ /- SRVn_CORR -/
    , ⟨0x80018, [(8, 0x100)], .ro, 0x0, 0x0, false, 0x0⟩ /- SRVn_MODELINC_HI -/
    , ⟨0x8001C, [(8, 0x100)], .ro, 0x0, 0x0, false, 0x0⟩ /- SRVn_MODELINC_LO -/
    , ⟨0x80020, [(8, 0x100)], .ro, 0x0, 0x0, false, 0x0⟩ /- SRVn_BW_EFF -/
    , ⟨0x80024, [(8, 0x100)], .ro, 0x0, 0x0, false, 0x0⟩ /- SRVn_STEPTIME -/
    , ⟨0x80028, [(8, 0x100)], .il, 0x0, 0x0, false, 0xFFFF⟩ /- SRVn_HOSTWD -/
    , ⟨0x8002C, [(8, 0x100)], .rc, 0x0, 0x0, false, 0x0⟩ /- SRVn_WR_IGN -/
    , ⟨0x80030, [(8, 0x100)], .rc, 0x0, 0x0, false, 0x0⟩ /- SRVn_CLAMPS -/
    , ⟨0x80034, [(8, 0x100)], .ro, 0x0, 0x0, false, 0x0⟩ /- SRVn_UPD -/
    , ⟨0x80080, [(8, 0x100), (8, 0x8)], .il, 0x0, 0x0, false, 0x3FFF00FF⟩ /- SRVn_SCHk_A -/
    , ⟨0x80084, [(8, 0x100), (8, 0x8)], .il, 0x0, 0x0, false, 0xFFFFFFFF⟩ /- SRVn_SCHk_B -/
    , ⟨0x80800, [], .il, 0x0, 0x0, false, 0xF⟩ /- SRV_CFG -/
    , ⟨0x80804, [], .mixed, 0x0, 0xC0, false, 0x0⟩ /- SRV_STAT -/
    , ⟨0x80808, [], .rc, 0x0, 0x0, false, 0x0⟩ /- SRV_DEADLINE_MISS -/
    , ⟨0x8080C, [], .ro, 0x0, 0x0, false, 0x0⟩ /- SRV_FW_VER -/
    , ⟨0x80810, [], .ro, 0x0, 0x0, false, 0x0⟩ /- SRV_LAST_END -/
    , ⟨0x80814, [], .ro, 0x0, 0x0, false, 0x0⟩ /- SRV_TEMP0 -/
    , ⟨0x80818, [], .ro, 0x0, 0x0, false, 0x0⟩ /- SRV_TEMP1 -/
    , ⟨0x8081C, [], .ro, 0x0, 0x0, false, 0x0⟩ /- SRV_TFILT -/ ]

/-- Rows of the register table of R184. -/
def rowsR184_1 : List RegRow :=
  [ ⟨0x80820, [], .il, 0x0, 0x0, false, 0x1FFFFFF⟩ /- SRV_TW -/
    , ⟨0x80824, [], .rc, 0x0, 0x0, false, 0x0⟩ /- SRV_PREDCORR -/
    , ⟨0x80900, [(2, 0x40)], .ro, 0x0, 0x0, false, 0x0⟩ /- SRV_Mm_STAT -/
    , ⟨0x80904, [(2, 0x40)], .ro, 0x0, 0x0, false, 0x0⟩ /- SRV_Mm_Y0 -/
    , ⟨0x80908, [(2, 0x40)], .ro, 0x0, 0x0, false, 0x0⟩ /- SRV_Mm_AGE -/
    , ⟨0x8090C, [(2, 0x40)], .ro, 0x0, 0x0, false, 0x0⟩ /- SRV_Mm_TC -/
    , ⟨0x80910, [(2, 0x40)], .ro, 0x0, 0x0, false, 0x0⟩ /- SRV_Mm_TREF -/
    , ⟨0x80914, [(2, 0x40)], .ro, 0x0, 0x0, false, 0x0⟩ /- SRV_Mm_EPOCH -/
    , ⟨0x80918, [(2, 0x40)], .ro, 0x0, 0x0, false, 0x0⟩ /- SRV_Mm_Y -/
    , ⟨0x8091C, [(2, 0x40)], .ro, 0x0, 0x0, false, 0x0⟩ /- SRV_Mm_D -/
    , ⟨0x80920, [(2, 0x40)], .ro, 0x0, 0x0, false, 0x0⟩ /- SRV_Mm_K -/
    , ⟨0x80924, [(2, 0x40)], .il, 0x0, 0x0, false, 0xFFFFFFFF⟩ /- SRV_Mm_YCOLD -/
    , ⟨0x80928, [(2, 0x40)], .il, 0x0, 0x0, false, 0xFFFFFFFF⟩ /- SRV_Mm_DCOLD -/
    , ⟨0x8092C, [(2, 0x40)], .il, 0x0, 0x0, false, 0xFFFFFFFF⟩ /- SRV_Mm_KCOLD -/
    , ⟨0x80930, [(2, 0x40)], .il, 0x0, 0x0, false, 0xFFFFFFFF⟩ /- SRV_Mm_YFLOOR -/
    , ⟨0x80934, [(2, 0x40)], .il, 0x0, 0x0, false, 0xFFFFFFFF⟩ /- SRV_Mm_DFLOOR -/
    , ⟨0x80938, [(2, 0x40)], .il, 0x0, 0x0, false, 0xFFFFFFFF⟩ /- SRV_Mm_KFLOOR -/
    , ⟨0x8093C, [(2, 0x40)], .il, 0x0, 0x0, false, 0xFFFF⟩ /- SRV_Mm_LCFG -/ ]

/-- Rows of the register table of R222. -/
def rowsR222_0 : List RegRow :=
  [ ⟨0x90000, [], .il, 0x0, 0x0, false, 0xFF0⟩ /- GNSS_CFG -/
    , ⟨0x90004, [], .mixed, 0x0, 0xF000002, false, 0x0⟩ /- GNSS_STAT -/
    , ⟨0x90008, [], .ro, 0x0, 0x0, false, 0x0⟩ /- GNSS_FW_VER -/
    , ⟨0x9000C, [], .rc, 0x0, 0x0, false, 0x0⟩ /- GNSS_FW_MISS -/
    , ⟨0x90010, [], .il, 0x0, 0x0, false, 0xFFFFFC00⟩ /- GNSS_BURST -/
    , ⟨0x90014, [], .il, 0x0, 0x0, false, 0xFFFFFFFF⟩ /- GNSS_LOOPCFG -/
    , ⟨0x90018, [], .ro, 0x0, 0x0, false, 0x0⟩ /- GNSS_CHUSE -/
    , ⟨0x90020, [], .rw, 0xFFFFFFFF, 0x0, false, 0x0⟩ /- GNSS_EXCL_GPS -/
    , ⟨0x90024, [], .rw, 0xFFFFFFFF, 0x0, false, 0x0⟩ /- GNSS_EXCL_GAL_LO -/
    , ⟨0x90028, [], .rw, 0xF, 0x0, false, 0x0⟩ /- GNSS_EXCL_GAL_HI -/
    , ⟨0x9002C, [], .rw, 0xFFFFFFFF, 0x0, false, 0x0⟩ /- GNSS_EXCL_BDS_LO -/
    , ⟨0x90030, [], .rw, 0x7FFFFFFF, 0x0, false, 0x0⟩ /- GNSS_EXCL_BDS_HI -/
    , ⟨0x90034, [], .rw, 0x3FF, 0x0, false, 0x0⟩ /- GNSS_EXCL_QZS -/
    , ⟨0x90040, [], .rw, 0x8100003F, 0x0, false, 0x0⟩ /- GNSS_FESPI_CTL -/
    , ⟨0x90044, [], .rw, 0xFFFFFFFF, 0x0, false, 0x0⟩ /- GNSS_FESPI_TX -/
    , ⟨0x90048, [], .ro, 0x0, 0x0, false, 0x0⟩ /- GNSS_FESPI_RX -/
    , ⟨0x90050, [], .ro, 0x0, 0x0, false, 0x0⟩ /- GNSS_NAV_WR -/
    , ⟨0x90054, [], .rw, 0xFF, 0x0, false, 0x0⟩ /- GNSS_NAV_RD -/
    , ⟨0x90058, [], .rc, 0x0, 0x0, false, 0x0⟩ /- GNSS_NAV_DROP -/
    , ⟨0x90100, [(4, 0x20)], .il, 0x0, 0x0, false, 0xFFFFFFFF⟩ /- GNSS_Ss_IF -/
    , ⟨0x90104, [(4, 0x20)], .il, 0x0, 0x0, false, 0xC3FF0FFF⟩ /- GNSS_Ss_AGCCFG -/
    , ⟨0x90108, [(4, 0x20)], .ro, 0x0, 0x0, false, 0x0⟩ /- GNSS_Ss_AGC -/
    , ⟨0x9010C, [(4, 0x20)], .rc, 0x0, 0x0, false, 0x0⟩ /- GNSS_Ss_SLIP -/
    , ⟨0x90110, [(4, 0x20)], .rc, 0x0, 0x0, false, 0x0⟩ /- GNSS_Ss_LOS -/ ]

/-- Rows of the register table of R222. -/
def rowsR222_1 : List RegRow :=
  [ ⟨0x98000, [(256, 0x80), (32, 0x4)], .ro, 0x0, 0x0, false, 0x0⟩ /- GNSS_NAV -/ ]

/-- Rows of the register table of R225. -/
def rowsR225_0 : List RegRow :=
  [ ⟨0xA0000, [(256, 0x100)], .ro, 0x0, 0x0, false, 0x0⟩ /- GCHc_CFG -/
    , ⟨0xA0004, [(256, 0x100)], .ro, 0x0, 0x0, false, 0x0⟩ /- GCHc_STAT -/
    , ⟨0xA0008, [(256, 0x100)], .ro, 0x0, 0x0, false, 0x0⟩ /- GCHc_CODEFREQ -/
    , ⟨0xA000C, [(256, 0x100)], .ro, 0x0, 0x0, false, 0x0⟩ /- GCHc_CARRFREQ -/
    , ⟨0xA0010, [(256, 0x100)], .ro, 0x0, 0x0, false, 0x0⟩ /- GCHc_CODE_INT -/
    , ⟨0xA0014, [(256, 0x100)], .ro, 0x0, 0x0, false, 0x0⟩ /- GCHc_CODE_FRAC -/
    , ⟨0xA0018, [(256, 0x100)], .ro, 0x0, 0x0, false, 0x0⟩ /- GCHc_CARR_CYC -/
    , ⟨0xA001C, [(256, 0x100)], .ro, 0x0, 0x0, false, 0x0⟩ /- GCHc_CARR_FRAC -/
    , ⟨0xA0020, [(256, 0x100)], .ro, 0x0, 0x0, false, 0x0⟩ /- GCHc_TAPSP -/
    , ⟨0xA0024, [(256, 0x100)], .ro, 0x0, 0x0, false, 0x0⟩ /- GCHc_DUMPCNT -/
    , ⟨0xA0028, [(256, 0x100)], .ro, 0x0, 0x0, false, 0x0⟩ /- GCHc_VE_I -/
    , ⟨0xA002C, [(256, 0x100)], .ro, 0x0, 0x0, false, 0x0⟩ /- GCHc_VE_Q -/
    , ⟨0xA0030, [(256, 0x100)], .ro, 0x0, 0x0, false, 0x0⟩ /- GCHc_E_I -/
    , ⟨0xA0034, [(256, 0x100)], .ro, 0x0, 0x0, false, 0x0⟩ /- GCHc_E_Q -/
    , ⟨0xA0038, [(256, 0x100)], .ro, 0x0, 0x0, false, 0x0⟩ /- GCHc_P_I -/
    , ⟨0xA003C, [(256, 0x100)], .ro, 0x0, 0x0, false, 0x0⟩ /- GCHc_P_Q -/
    , ⟨0xA0040, [(256, 0x100)], .ro, 0x0, 0x0, false, 0x0⟩ /- GCHc_L_I -/
    , ⟨0xA0044, [(256, 0x100)], .ro, 0x0, 0x0, false, 0x0⟩ /- GCHc_L_Q -/
    , ⟨0xA0048, [(256, 0x100)], .ro, 0x0, 0x0, false, 0x0⟩ /- GCHc_VL_I -/
    , ⟨0xA004C, [(256, 0x100)], .ro, 0x0, 0x0, false, 0x0⟩ /- GCHc_VL_Q -/
    , ⟨0xA0050, [(256, 0x100)], .ro, 0x0, 0x0, false, 0x0⟩ /- GCHc_DP_I -/
    , ⟨0xA0054, [(256, 0x100)], .ro, 0x0, 0x0, false, 0x0⟩ /- GCHc_DP_Q -/
    , ⟨0xA0058, [(256, 0x100)], .ro, 0x0, 0x0, false, 0x0⟩ /- GCHc_MEAS_EPOCH -/
    , ⟨0xA005C, [(256, 0x100)], .ro, 0x0, 0x0, false, 0x0⟩ /- GCHc_MEAS_CODE_INT -/ ]

/-- Rows of the register table of R225. -/
def rowsR225_1 : List RegRow :=
  [ ⟨0xA0060, [(256, 0x100)], .ro, 0x0, 0x0, false, 0x0⟩ /- GCHc_MEAS_CODE_FRAC -/
    , ⟨0xA0064, [(256, 0x100)], .ro, 0x0, 0x0, false, 0x0⟩ /- GCHc_MEAS_CARR_CYC -/
    , ⟨0xA0068, [(256, 0x100)], .ro, 0x0, 0x0, false, 0x0⟩ /- GCHc_MEAS_CARR_FRAC -/
    , ⟨0xA006C, [(256, 0x100)], .ro, 0x0, 0x0, false, 0x0⟩ /- GCHc_MEAS_DOPP -/
    , ⟨0xA0070, [(256, 0x100)], .ro, 0x0, 0x0, false, 0x0⟩ /- GCHc_LOCKTIME -/
    , ⟨0xA0074, [(256, 0x100)], .rc, 0x0, 0x0, false, 0x0⟩ /- GCHc_LOSTCNT -/
    , ⟨0xA0078, [(256, 0x100)], .rc, 0x0, 0x0, false, 0x0⟩ /- GCHc_BURSTMISS -/ ]

/-- Rows of the register table of R228. -/
def rowsR228_0 : List RegRow :=
  [ ⟨0xB0000, [], .il, 0x0, 0x0, false, 0xFFFFFFFF⟩ /- GACQ_CFG -/
    , ⟨0xB0004, [], .ro, 0x0, 0x0, false, 0x0⟩ /- GACQ_STAT -/
    , ⟨0xB0008, [], .wo, 0xFFFFFFFF, 0x0, false, 0x0⟩ /- GACQ_CMD -/
    , ⟨0xB000C, [], .rc, 0x0, 0x0, false, 0x0⟩ /- GACQ_HITS -/
    , ⟨0xB0010, [], .rc, 0x0, 0x0, false, 0x0⟩ /- GACQ_FALSE -/
    , ⟨0xB0014, [], .ro, 0x0, 0x0, false, 0x0⟩ /- GACQ_LAST -/
    , ⟨0xB0018, [], .ro, 0x0, 0x0, false, 0x0⟩ /- GACQ_LAST_DOPP -/
    , ⟨0xB001C, [], .ro, 0x0, 0x0, false, 0x0⟩ /- GACQ_LAST_CODE -/
    , ⟨0xB0020, [], .ro, 0x0, 0x0, false, 0x0⟩ /- GACQ_SWEEP_MS -/
    , ⟨0xB0100, [(16, 0x20)], .ro, 0x0, 0x0, false, 0x0⟩ /- GACQ_AIDk_STAT -/
    , ⟨0xB0104, [(16, 0x20)], .ro, 0x0, 0x0, false, 0x0⟩ /- GACQ_AIDk_WIN -/
    , ⟨0xB0108, [(16, 0x20)], .ro, 0x0, 0x0, false, 0x0⟩ /- GACQ_AIDk_DOPP -/
    , ⟨0xB010C, [(16, 0x20)], .ro, 0x0, 0x0, false, 0x0⟩ /- GACQ_AIDk_TINT -/ ]

/-- Rows of the register table of R250. -/
def rowsR250_0 : List RegRow :=
  [ ⟨0x90200, [], .il, 0x0, 0x0, false, 0x3F3F⟩ /- GNSS_TCFG -/
    , ⟨0x90204, [], .il, 0x0, 0x0, false, 0x3FFF⟩ /- GNSS_SVYTIME -/
    , ⟨0x90208, [], .il, 0x0, 0x0, false, 0xFF⟩ /- GNSS_KSIG -/
    , ⟨0x9020C, [], .il, 0x0, 0x0, false, 0xFFFFFFFF⟩ /- GNSS_UIONO -/
    , ⟨0x90210, [], .il, 0x0, 0x0, false, 0xFFFFFFFF⟩ /- GNSS_UUTCK -/
    , ⟨0x90214, [], .il, 0x0, 0x0, false, 0x3FF⟩ /- GNSS_DA_THR -/
    , ⟨0x90218, [], .il, 0x0, 0x0, false, 0xFFFF⟩ /- GNSS_ISO_TOL -/
    , ⟨0x9021C, [], .il, 0x0, 0x0, false, 0xFFFF⟩ /- GNSS_PTOL -/
    , ⟨0x90220, [], .il, 0x0, 0x0, false, 0xFFFF⟩ /- GNSS_INTEG_HOLD -/
    , ⟨0x90224, [], .il, 0x0, 0x0, false, 0xFFFFFFFF⟩ /- GNSS_BASE_E -/
    , ⟨0x90228, [], .il, 0x0, 0x0, false, 0xFFFFFFFF⟩ /- GNSS_BASE_N -/
    , ⟨0x9022C, [], .il, 0x0, 0x0, false, 0xFFFFFFFF⟩ /- GNSS_BASE_U -/
    , ⟨0x90230, [], .il, 0x0, 0x0, false, 0xFFFFFFFF⟩ /- GNSS_POS_X -/
    , ⟨0x90234, [], .il, 0x0, 0x0, false, 0xFFFFFFFF⟩ /- GNSS_POS_Y -/
    , ⟨0x90238, [], .il, 0x0, 0x0, false, 0xFFFFFFFF⟩ /- GNSS_POS_Z -/
    , ⟨0x9023C, [], .il, 0x0, 0x0, false, 0xFFFFFFFF⟩ /- GNSS_POSUNC_IMG -/
    , ⟨0x90240, [(4, 0x4)], .il, 0x0, 0x0, false, 0xFFFFFFFF⟩ /- GNSS_CALs -/
    , ⟨0x90250, [], .ro, 0x0, 0x0, false, 0x0⟩ /- GNSS_HPOS_X -/
    , ⟨0x90254, [], .ro, 0x0, 0x0, false, 0x0⟩ /- GNSS_HPOS_Y -/
    , ⟨0x90258, [], .ro, 0x0, 0x0, false, 0x0⟩ /- GNSS_HPOS_Z -/
    , ⟨0x9025C, [], .ro, 0x0, 0x0, false, 0x0⟩ /- GNSS_HPOS_UNC -/
    , ⟨0x90260, [], .ro, 0x0, 0x0, false, 0x0⟩ /- GNSS_POSSTAT -/
    , ⟨0x90264, [], .wo, 0xFFFFFFFF, 0x0, false, 0x0⟩ /- GNSS_TCMD -/
    , ⟨0x90268, [], .rc, 0x0, 0x0, false, 0x0⟩ /- GNSS_SPOOF -/ ]

/-- Rows of the register table of R250. -/
def rowsR250_1 : List RegRow :=
  [ ⟨0x9026C, [], .rc, 0x0, 0x0, false, 0x0⟩ /- GNSS_INTEG_CHG -/
    , ⟨0x90270, [], .rc, 0x0, 0x0, false, 0x0⟩ /- GNSS_RAIM_EXCL -/
    , ⟨0x90280, [(2, 0x20)], .ro, 0x0, 0x0, false, 0x0⟩ /- GNSS_SOLr_STAT -/
    , ⟨0x90284, [(2, 0x20)], .ro, 0x0, 0x0, false, 0x0⟩ /- GNSS_SOLr_M_LO -/
    , ⟨0x90288, [(2, 0x20)], .ro, 0x0, 0x0, false, 0x0⟩ /- GNSS_SOLr_M_HI -/
    , ⟨0x9028C, [(2, 0x20)], .ro, 0x0, 0x0, false, 0x0⟩ /- GNSS_SOLr_U -/
    , ⟨0x90290, [(2, 0x20)], .ro, 0x0, 0x0, false, 0x0⟩ /- GNSS_SOLr_DRIFT -/
    , ⟨0x90294, [(2, 0x20)], .ro, 0x0, 0x0, false, 0x0⟩ /- GNSS_SOLr_CHK -/
    , ⟨0x90298, [(2, 0x20)], .ro, 0x0, 0x0, false, 0x0⟩ /- GNSS_SOLr_DA -/ ]

/-- Rows of the register table of R275. -/
def rowsR275_0 : List RegRow :=
  [ ⟨0x100000, [(8, 0x2000)], .il, 0x0, 0x0, false, 0x3FF⟩ /- MACn_CFG -/
    , ⟨0x100004, [(8, 0x2000)], .mixed, 0x0, 0x1880, false, 0x0⟩ /- MACn_STAT -/
    , ⟨0x100008, [(8, 0x2000)], .wo, 0xFFFFFFFF, 0x0, false, 0x0⟩ /- MACn_CMD -/
    , ⟨0x10000C, [(8, 0x2000)], .il, 0x0, 0x0, false, 0xFFFF⟩ /- MACn_ADDR_HI -/
    , ⟨0x100010, [(8, 0x2000)], .il, 0x0, 0x0, false, 0xFFFFFFFF⟩ /- MACn_ADDR_LO -/
    , ⟨0x100014, [(8, 0x2000)], .il, 0x0, 0x0, false, 0x3FFF⟩ /- MACn_MAXLEN -/
    , ⟨0x100018, [(8, 0x2000)], .il, 0x0, 0x0, false, 0x3F3F3F⟩ /- MACn_TXEQ -/
    , ⟨0x10001C, [(8, 0x2000)], .il, 0x0, 0x0, false, 0xC0FF0307⟩ /- MACn_PREEMPT -/
    , ⟨0x100020, [(8, 0x2000)], .ro, 0x0, 0x0, false, 0x0⟩ /- MACn_PREEMPT_STAT -/
    , ⟨0x100024, [(8, 0x2000)], .il, 0x0, 0x0, false, 0x1FF03⟩ /- MACn_PAUSE_CFG -/
    , ⟨0x100028, [(8, 0x2000)], .il, 0x0, 0x0, false, 0xFFFFFF⟩ /- MACn_PFC_MAP -/
    , ⟨0x10002C, [(8, 0x2000)], .ro, 0x0, 0x0, false, 0x0⟩ /- MACn_PAUSE_STAT -/
    , ⟨0x100030, [(8, 0x2000)], .il, 0x0, 0x0, false, 0x800FFFFF⟩ /- MACn_ISLET_CFG -/
    , ⟨0x100034, [(8, 0x2000)], .ro, 0x0, 0x0, false, 0x0⟩ /- MACn_ESMC_STAT -/
    , ⟨0x100100, [(8, 0x2000)], .ro, 0x0, 0x0, false, 0x0⟩ /- MACn_RX_FRAMES_LO -/
    , ⟨0x100104, [(8, 0x2000)], .ro, 0x0, 0x0, false, 0x0⟩ /- MACn_RX_FRAMES_HI -/
    , ⟨0x100108, [(8, 0x2000)], .ro, 0x0, 0x0, false, 0x0⟩ /- MACn_RX_BYTES_LO -/
    , ⟨0x10010C, [(8, 0x2000)], .ro, 0x0, 0x0, false, 0x0⟩ /- MACn_RX_BYTES_HI -/
    , ⟨0x100110, [(8, 0x2000)], .ro, 0x0, 0x0, false, 0x0⟩ /- MACn_TX_FRAMES_LO -/
    , ⟨0x100114, [(8, 0x2000)], .ro, 0x0, 0x0, false, 0x0⟩ /- MACn_TX_FRAMES_HI -/
    , ⟨0x100118, [(8, 0x2000)], .ro, 0x0, 0x0, false, 0x0⟩ /- MACn_TX_BYTES_LO -/
    , ⟨0x10011C, [(8, 0x2000)], .ro, 0x0, 0x0, false, 0x0⟩ /- MACn_TX_BYTES_HI -/
    , ⟨0x100120, [(8, 0x2000)], .rc, 0x0, 0x0, false, 0x0⟩ /- MACn_RX_FCS_ERR -/
    , ⟨0x100124, [(8, 0x2000)], .rc, 0x0, 0x0, false, 0x0⟩ /- MACn_RX_RUNT -/ ]

/-- Rows of the register table of R275. -/
def rowsR275_1 : List RegRow :=
  [ ⟨0x100128, [(8, 0x2000)], .rc, 0x0, 0x0, false, 0x0⟩ /- MACn_RX_OVERSIZE -/
    , ⟨0x10012C, [(8, 0x2000)], .rc, 0x0, 0x0, false, 0x0⟩ /- MACn_RX_PCS_ERR -/
    , ⟨0x100130, [(8, 0x2000)], .rc, 0x0, 0x0, false, 0x0⟩ /- MACn_RX_FEC_CORR -/
    , ⟨0x100134, [(8, 0x2000)], .rc, 0x0, 0x0, false, 0x0⟩ /- MACn_RX_FEC_UNCORR -/
    , ⟨0x100138, [(8, 0x2000)], .rc, 0x0, 0x0, false, 0x0⟩ /- MACn_RX_OVF -/
    , ⟨0x10013C, [(8, 0x2000)], .rc, 0x0, 0x0, false, 0x0⟩ /- MACn_RX_FERRY_DROP -/
    , ⟨0x100140, [(8, 0x2000)], .rc, 0x0, 0x0, false, 0x0⟩ /- MACn_RX_UNSUP -/
    , ⟨0x100144, [(8, 0x2000)], .rc, 0x0, 0x0, false, 0x0⟩ /- MACn_RX_CTRL_IGN -/
    , ⟨0x100148, [(8, 0x2000)], .rc, 0x0, 0x0, false, 0x0⟩ /- MACn_RX_PAUSE -/
    , ⟨0x10014C, [(8, 0x2000)], .rc, 0x0, 0x0, false, 0x0⟩ /- MACn_RX_PFC -/
    , ⟨0x100150, [(8, 0x2000)], .rc, 0x0, 0x0, false, 0x0⟩ /- MACn_RX_ASM_ERR -/
    , ⟨0x100154, [(8, 0x2000)], .rc, 0x0, 0x0, false, 0x0⟩ /- MACn_RX_FRAG -/
    , ⟨0x100158, [(8, 0x2000)], .rc, 0x0, 0x0, false, 0x0⟩ /- MACn_TX_PREEMPT -/
    , ⟨0x10015C, [(8, 0x2000)], .rc, 0x0, 0x0, false, 0x0⟩ /- MACn_TX_LINKDOWN_DROP -/
    , ⟨0x100160, [(8, 0x2000)], .rc, 0x0, 0x0, false, 0x0⟩ /- MACn_TX_OVERSIZE -/
    , ⟨0x100164, [(8, 0x2000)], .rc, 0x0, 0x0, false, 0x0⟩ /- MACn_TX_HELD -/
    , ⟨0x100168, [(8, 0x2000)], .rc, 0x0, 0x0, false, 0x0⟩ /- MACn_LINK_DOWN -/
    , ⟨0x10016C, [(8, 0x2000)], .rc, 0x0, 0x0, false, 0x0⟩ /- MACn_ESMC_RX -/
    , ⟨0x100170, [(8, 0x2000)], .rc, 0x0, 0x0, false, 0x0⟩ /- MACn_ESMC_ERR -/
    , ⟨0x100174, [(8, 0x2000)], .rc, 0x0, 0x0, false, 0x0⟩ /- MACn_ESMC_TX -/
    , ⟨0x100178, [(8, 0x2000)], .rc, 0x0, 0x0, false, 0x0⟩ /- MACn_WAKES -/
    , ⟨0x10017C, [(8, 0x2000)], .rc, 0x0, 0x0, false, 0x0⟩ /- MACn_WAKE_DROP -/
    , ⟨0x110000, [], .il, 0x0, 0x0, false, 0xFF⟩ /- MAC_QREF -/
    , ⟨0x110004, [], .il, 0x0, 0x0, false, 0xFFF⟩ /- MAC_ESMC_HOQL -/ ]

/-- Rows of the register table of R301. -/
def rowsR301_0 : List RegRow :=
  [ ⟨0x120000, [], .il, 0x0, 0x0, false, 0x3F⟩ /- PE_CFG -/
    , ⟨0x120004, [], .il, 0x0, 0x0, false, 0x7FFF⟩ /- PE_CLASSMAP -/
    , ⟨0x120008, [], .ro, 0x0, 0x0, false, 0x0⟩ /- PE_NTS_ADMIT -/
    , ⟨0x12000C, [], .ro, 0x0, 0x0, false, 0x0⟩ /- PE_CRYPTO_LOAD -/
    , ⟨0x120010, [], .rc, 0x0, 0x0, false, 0x0⟩ /- PE_REPLYQ_DROP -/
    , ⟨0x120014, [], .rc, 0x0, 0x0, false, 0x0⟩ /- PE_HTX_BAD -/
    , ⟨0x120018, [], .ro, 0x0, 0x0, false, 0x0⟩ /- PE_HOSTOPS -/
    , ⟨0x120100, [(16, 0x8)], .il, 0x0, 0x0, false, 0xFFFFFFFF⟩ /- PE_IP4 -/
    , ⟨0x120104, [(16, 0x8)], .il, 0x0, 0x0, false, 0x800000FF⟩ /- PE_IP4M -/
    , ⟨0x120200, [(16, 0x20), (4, 0x4)], .il, 0x0, 0x0, false, 0xFFFFFFFF⟩ /- PE_IP6 -/
    , ⟨0x120210, [(16, 0x20)], .il, 0x0, 0x0, false, 0x800000FF⟩ /- PE_IP6M -/
    , ⟨0x120800, [(8, 0x4)], .rc, 0x0, 0x0, false, 0x0⟩ /- PE_EGQ_TMO_DROP -/
    , ⟨0x121000, [(8, 0x100)], .il, 0x0, 0x0, false, 0x1⟩ /- PEn_CFG -/
    , ⟨0x121004, [(8, 0x100)], .ro, 0x0, 0x0, false, 0x0⟩ /- PEn_STAT -/
    , ⟨0x121008, [(8, 0x100), (8, 0x4)], .il, 0x0, 0x0, false, 0x1FFF⟩ /- PEn_VLAN -/
    , ⟨0x121040, [(8, 0x100), (12, 0x4)], .rc, 0x0, 0x0, false, 0x0⟩ /- PEn_RXDROP -/
    , ⟨0x121080, [(8, 0x100), (8, 0x4)], .il, 0x0, 0x0, false, 0x3FF⟩ /- PEn_EGQ_QUOTA -/
    , ⟨0x1210A0, [(8, 0x100), (8, 0x4)], .ro, 0x0, 0x0, false, 0x0⟩ /- PEn_EGQ_LVL -/
    , ⟨0x122000, [(8, 0x40)], .rw, 0x801F0000, 0x0, false, 0x0⟩ /- PE_RINGk_CFG -/
    , ⟨0x122004, [(8, 0x40)], .mixed, 0x0, 0x1E, false, 0x0⟩ /- PE_RINGk_STAT -/
    , ⟨0x122008, [(8, 0x40)], .rw, 0xFFFFF000, 0x0, false, 0x0⟩ /- PE_RINGk_BASE_LO -/
    , ⟨0x12200C, [(8, 0x40)], .rw, 0xFFFFFFFF, 0x0, false, 0x0⟩ /- PE_RINGk_BASE_HI -/
    , ⟨0x122010, [(8, 0x40)], .rw, 0xFFFFFFF8, 0x0, false, 0x0⟩ /- PE_RINGk_WB_LO -/
    , ⟨0x122014, [(8, 0x40)], .rw, 0xFFFFFFFF, 0x0, false, 0x0⟩ /- PE_RINGk_WB_HI -/ ]

/-- Rows of the register table of R301. -/
def rowsR301_1 : List RegRow :=
  [ ⟨0x122018, [(8, 0x40)], .ro, 0x0, 0x0, false, 0x0⟩ /- PE_RINGk_HEAD -/
    , ⟨0x12201C, [(8, 0x40)], .rw, 0xFFFFFFFF, 0x0, false, 0x0⟩ /- PE_RINGk_TAIL -/
    , ⟨0x122020, [(8, 0x40)], .rw, 0xFFFF, 0x0, false, 0x0⟩ /- PE_RINGk_TMO -/
    , ⟨0x122024, [(8, 0x40)], .rw, 0xFFFF, 0x0, false, 0x0⟩ /- PE_RINGk_IMOD -/
    , ⟨0x122028, [(8, 0x40)], .rc, 0x0, 0x0, false, 0x0⟩ /- PE_RINGk_DROP -/
    , ⟨0x12202C, [(8, 0x40)], .ro, 0x0, 0x0, false, 0x0⟩ /- PE_RINGk_RECS -/ ]

/-- Rows of the register table of R332. -/
def rowsR332_0 : List RegRow :=
  [ ⟨0x130000, [], .il, 0x0, 0x0, false, 0xC7FF3F07⟩ /- NTS_CFG -/
    , ⟨0x130004, [], .mixed, 0x0, 0x10, false, 0x0⟩ /- NTS_STAT -/
    , ⟨0x130008, [], .ro, 0x0, 0x0, false, 0x0⟩ /- NTS_EPOCH -/
    , ⟨0x13000C, [], .ro, 0x0, 0x0, false, 0x0⟩ /- NTS_KCV -/
    , ⟨0x130010, [(4, 0x4)], .il, 0x0, 0x0, false, 0xFFFFFFFF⟩ /- NTS_SVCID -/
    , ⟨0x130020, [], .il, 0x0, 0x0, false, 0xFF00FF3F⟩ /- NTP_HDR -/
    , ⟨0x130024, [], .il, 0x0, 0x0, false, 0xFFFFFFFF⟩ /- NTP_ROOTDLY -/
    , ⟨0x130028, [], .il, 0x0, 0x0, false, 0xFFF⟩ /- NTP_STAT_PER -/
    , ⟨0x130030, [], .il, 0x0, 0x0, false, 0xFF3FFFFF⟩ /- NTP_RL_CFG -/
    , ⟨0x130034, [], .il, 0x0, 0x0, false, 0xFFFF⟩ /- NTP_RL_LIMIT -/
    , ⟨0x130038, [], .il, 0x0, 0x0, false, 0x3FFF⟩ /- NTP_RL_WIN -/
    , ⟨0x130040, [(8, 0x8)], .il, 0x0, 0x0, false, 0xFFFFFFFF⟩ /- NTP_RL_EX4 -/
    , ⟨0x130044, [(8, 0x8)], .il, 0x0, 0x0, false, 0x8000003F⟩ /- NTP_RL_EX4M -/
    , ⟨0x130080, [(4, 0x20), (4, 0x4)], .il, 0x0, 0x0, false, 0xFFFFFFFF⟩ /- NTP_RL_EX6 -/
    , ⟨0x130090, [(4, 0x20)], .il, 0x0, 0x0, false, 0x800000FF⟩ /- NTP_RL_EX6M -/
    , ⟨0x130100, [], .ro, 0x0, 0x0, false, 0x0⟩ /- NTP_RX_LO -/
    , ⟨0x130104, [], .ro, 0x0, 0x0, false, 0x0⟩ /- NTP_RX_HI -/
    , ⟨0x130108, [], .ro, 0x0, 0x0, false, 0x0⟩ /- NTP_TX_LO -/
    , ⟨0x13010C, [], .ro, 0x0, 0x0, false, 0x0⟩ /- NTP_TX_HI -/
    , ⟨0x130110, [], .ro, 0x0, 0x0, false, 0x0⟩ /- NTS_RX_LO -/
    , ⟨0x130114, [], .ro, 0x0, 0x0, false, 0x0⟩ /- NTS_RX_HI -/
    , ⟨0x130118, [], .ro, 0x0, 0x0, false, 0x0⟩ /- NTS_TX_LO -/
    , ⟨0x13011C, [], .ro, 0x0, 0x0, false, 0x0⟩ /- NTS_TX_HI -/
    , ⟨0x130120, [], .rc, 0x0, 0x0, false, 0x0⟩ /- NTP_KOD -/ ]

/-- Rows of the register table of R332. -/
def rowsR332_1 : List RegRow :=
  [ ⟨0x130124, [], .rc, 0x0, 0x0, false, 0x0⟩ /- NTP_RLDROP -/
    , ⟨0x130128, [], .rc, 0x0, 0x0, false, 0x0⟩ /- NTS_RLDROP -/
    , ⟨0x13012C, [], .rc, 0x0, 0x0, false, 0x0⟩ /- NTS_NAK_HDR -/
    , ⟨0x130130, [], .rc, 0x0, 0x0, false, 0x0⟩ /- NTS_NAK_OPEN -/
    , ⟨0x130134, [], .rc, 0x0, 0x0, false, 0x0⟩ /- NTS_NAK_AUTH -/
    , ⟨0x130138, [], .ro, 0x0, 0x0, false, 0x0⟩ /- NTS_ISSUED -/
    , ⟨0x13013C, [], .rc, 0x0, 0x0, false, 0x0⟩ /- NTS_ISSUE_ERR -/
    , ⟨0x130140, [], .rc, 0x0, 0x0, false, 0x0⟩ /- NTP_HH_MISS -/ ]

/-- Rows of the register table of R356. -/
def rowsR356_0 : List RegRow :=
  [ ⟨0x180000, [(4096, 0x40), (16, 0x4)], .ro, 0x0, 0x0, false, 0x0⟩ /- PTP_SESS -/ ]

/-- Rows of the register table of R363. -/
def rowsR363_0 : List RegRow :=
  [ ⟨0x140000, [(8, 0x400)], .il, 0x0, 0x0, false, 0xFFFC00FF⟩ /- PTPi_CFG -/
    , ⟨0x140004, [(8, 0x400)], .il, 0x0, 0x0, false, 0xFCFFF0FF⟩ /- PTPi_PROF -/
    , ⟨0x140008, [(8, 0x400)], .mixed, 0x0, 0x1C, false, 0x0⟩ /- PTPi_STAT -/
    , ⟨0x14000C, [(8, 0x400)], .il, 0x0, 0x0, false, 0xFFFFFFFF⟩ /- PTPi_CLKID_HI -/
    , ⟨0x140010, [(8, 0x400)], .il, 0x0, 0x0, false, 0xFFFFFFFF⟩ /- PTPi_CLKID_LO -/
    , ⟨0x140014, [(8, 0x400)], .il, 0x0, 0x0, false, 0xFFFF⟩ /- PTPi_PRIO -/
    , ⟨0x140018, [(8, 0x400)], .il, 0x0, 0x0, false, 0xFFFFFFFF⟩ /- PTPi_INTV -/
    , ⟨0x14001C, [(8, 0x400)], .il, 0x0, 0x0, false, 0xFFFFFF⟩ /- PTPi_UCFG -/
    , ⟨0x140020, [(8, 0x400)], .il, 0x0, 0x0, false, 0xFFFFFFFF⟩ /- PTPi_UDUR -/
    , ⟨0x140024, [(8, 0x400)], .il, 0x0, 0x0, false, 0xFFFF1FFF⟩ /- PTPi_UQUOTA -/
    , ⟨0x140028, [(8, 0x400)], .il, 0x0, 0x0, false, 0x80000000⟩ /- PTPi_SEC -/
    , ⟨0x14002C, [(8, 0x400)], .il, 0x0, 0x0, false, 0xFFFFFFFF⟩ /- PTPi_RXSA -/
    , ⟨0x140030, [(8, 0x400)], .rw, 0x1F, 0x0, false, 0x1F⟩ /- PTPi_TXSA -/
    , ⟨0x140034, [(8, 0x400)], .il, 0x0, 0x0, false, 0xFFFF00FF⟩ /- PTPi_FIXQ -/
    , ⟨0x140038, [(8, 0x400)], .il, 0x0, 0x0, false, 0xFFFF⟩ /- PTPi_C37 -/
    , ⟨0x14003C, [(8, 0x400)], .il, 0x0, 0x0, false, 0x3F⟩ /- PTPi_DWIN -/
    , ⟨0x140040, [(8, 0x400)], .ro, 0x0, 0x0, false, 0x0⟩ /- PTPi_CQ -/
    , ⟨0x140044, [(8, 0x400)], .ro, 0x0, 0x0, false, 0x0⟩ /- PTPi_PARENT_HI -/
    , ⟨0x140048, [(8, 0x400)], .ro, 0x0, 0x0, false, 0x0⟩ /- PTPi_PARENT_LO -/
    , ⟨0x14004C, [(8, 0x400)], .ro, 0x0, 0x0, false, 0x0⟩ /- PTPi_PARENT_PN -/
    , ⟨0x140050, [(8, 0x400)], .ro, 0x0, 0x0, false, 0x0⟩ /- PTPi_OFS_LO -/
    , ⟨0x140054, [(8, 0x400)], .ro, 0x0, 0x0, false, 0x0⟩ /- PTPi_OFS_HI -/
    , ⟨0x140058, [(8, 0x400)], .ro, 0x0, 0x0, false, 0x0⟩ /- PTPi_MPD -/
    , ⟨0x140060, [(8, 0x400)], .ro, 0x0, 0x0, false, 0x0⟩ /- PTPi_TXSYNC -/ ]

/-- Rows of the register table of R363. -/
def rowsR363_1 : List RegRow :=
  [ ⟨0x140064, [(8, 0x400)], .ro, 0x0, 0x0, false, 0x0⟩ /- PTPi_RXSYNC -/
    , ⟨0x140068, [(8, 0x400)], .ro, 0x0, 0x0, false, 0x0⟩ /- PTPi_RXDREQ -/
    , ⟨0x14006C, [(8, 0x400)], .rc, 0x0, 0x0, false, 0x0⟩ /- PTPi_AUTHFAIL -/
    , ⟨0x140070, [(8, 0x400)], .rc, 0x0, 0x0, false, 0x0⟩ /- PTPi_NOAUTH -/
    , ⟨0x140074, [(8, 0x400)], .rc, 0x0, 0x0, false, 0x0⟩ /- PTPi_RATEDROP -/
    , ⟨0x140078, [(8, 0x400)], .rc, 0x0, 0x0, false, 0x0⟩ /- PTPi_DENY -/
    , ⟨0x14007C, [(8, 0x400)], .rc, 0x0, 0x0, false, 0x0⟩ /- PTPi_NOSESS -/
    , ⟨0x140080, [(8, 0x400)], .rc, 0x0, 0x0, false, 0x0⟩ /- PTPi_ANNTMO -/
    , ⟨0x140084, [(8, 0x400)], .rc, 0x0, 0x0, false, 0x0⟩ /- PTPi_FMOVF -/
    , ⟨0x140088, [(8, 0x400)], .rc, 0x0, 0x0, false, 0x0⟩ /- PTPi_TXSUPP -/
    , ⟨0x14008C, [(8, 0x400)], .rc, 0x0, 0x0, false, 0x0⟩ /- PTPi_SEQERR -/
    , ⟨0x140100, [(8, 0x400), (8, 0x10)], .ro, 0x0, 0x0, false, 0x0⟩ /- PTPi_Pp_STAT -/
    , ⟨0x140104, [(8, 0x400), (8, 0x10)], .il, 0x0, 0x0, false, 0xFF01⟩ /- PTPi_Pp_CFG -/
    , ⟨0x140108, [(8, 0x400), (8, 0x10)], .ro, 0x0, 0x0, false, 0x0⟩ /- PTPi_Pp_MLD -/
    , ⟨0x140200, [(8, 0x400), (8, 0x20), (4, 0x4)], .il, 0x0, 0x0, false, 0xFFFFFFFF⟩ /- PTPi_UMj_IP -/
    , ⟨0x140210, [(8, 0x400), (8, 0x20)], .il, 0x0, 0x0, false, 0x8007FF00⟩ /- PTPi_UMj_CFG -/
    , ⟨0x142000, [], .ro, 0x0, 0x0, false, 0x0⟩ /- PTP_SESS_USED -/
    , ⟨0x142004, [], .wo, 0xFFFFFFFF, 0x0, false, 0x0⟩ /- PTP_SESS_CMD -/
    , ⟨0x142008, [], .rc, 0x0, 0x0, false, 0x0⟩ /- PTP_NOINST -/
    , ⟨0x14200C, [], .il, 0x0, 0x0, false, 0xFFFFFF⟩ /- PTP_BTLV_ORG -/
    , ⟨0x142100, [(32, 0x10)], .il, 0x0, 0x0, false, 0xC0FF3F3F⟩ /- PTP_SAs_CFG -/
    , ⟨0x142104, [(32, 0x10)], .il, 0x0, 0x0, false, 0xFFFFFFFF⟩ /- PTP_SAs_KEYID -/
    , ⟨0x142108, [(32, 0x10)], .ro, 0x0, 0x0, false, 0x0⟩ /- PTP_SAs_STAT -/ ]

/-- Rows of the register table of R388. -/
def rowsR388_0 : List RegRow :=
  [ ⟨0x1C0000, [], .ro, 0x0, 0x0, false, 0x0⟩ /- KS_STAT -/
    , ⟨0x1C0004, [], .wo, 0xFFFFFFFF, 0x0, false, 0x0⟩ /- KS_CMD -/
    , ⟨0x1C0008, [], .rw, 0x1FFFF, 0x0, true, 0x0⟩ /- KS_UNLOCK_DUR -/
    , ⟨0x1C000C, [], .ro, 0x0, 0x0, true, 0x0⟩ /- KS_ROLE -/
    , ⟨0x1C0010, [(4, 0x4)], .ro, 0x0, 0x0, false, 0x0⟩ /- KS_DEVID -/
    , ⟨0x1C0020, [], .ro, 0x0, 0x0, false, 0x0⟩ /- KS_CTR_LO -/
    , ⟨0x1C0024, [], .ro, 0x0, 0x0, false, 0x0⟩ /- KS_CTR_HI -/
    , ⟨0x1C0028, [], .rc, 0x0, 0x0, false, 0x0⟩ /- KS_APGOR_OK -/
    , ⟨0x1C002C, [], .rc, 0x0, 0x0, false, 0x0⟩ /- KS_APGOR_REJ -/
    , ⟨0x1C0030, [], .ro, 0x0, 0x0, false, 0x0⟩ /- KS_WKR_STAT -/
    , ⟨0x1C0034, [], .rc, 0x0, 0x0, true, 0x0⟩ /- KS_UNLOCK_FAIL -/
    , ⟨0x1C0040, [(8, 0x4)], .ro, 0x0, 0x0, true, 0x0⟩ /- KS_CHAL -/
    , ⟨0x1C0060, [(24, 0x4)], .wo, 0xFFFFFFFF, 0x0, true, 0x0⟩ /- KS_RESP -/
    , ⟨0x1C0100, [(64, 0x4)], .ro, 0x0, 0x0, false, 0x0⟩ /- KS_SLOTs -/
    , ⟨0x1C0200, [(24, 0x4)], .ro, 0x0, 0x0, false, 0x0⟩ /- KS_DEVPUB -/
    , ⟨0x1C0260, [(12, 0x4)], .ro, 0x0, 0x0, false, 0x0⟩ /- KS_AUTHHASH -/ ]

/-- Rows of the register table of R421. -/
def rowsR421_0 : List RegRow :=
  [ ⟨0x1D0000, [], .il, 0x0, 0x0, false, 0xF0000000⟩ /- PAIR_CFG -/
    , ⟨0x1D0004, [], .mixed, 0x0, 0x1C0, false, 0x0⟩ /- PAIR_STAT -/
    , ⟨0x1D0008, [], .wo, 0xFFFFFFFF, 0x0, false, 0x0⟩ /- PAIR_CMD -/
    , ⟨0x1D000C, [], .ro, 0x0, 0x0, false, 0x0⟩ /- PAIR_STATE -/
    , ⟨0x1D0010, [], .il, 0x0, 0x0, false, 0x3FF⟩ /- PAIR_SILENCE -/
    , ⟨0x1D0014, [], .il, 0x0, 0x0, false, 0xFFF⟩ /- PAIR_WTR -/
    , ⟨0x1D0018, [], .il, 0x0, 0x0, false, 0xFF⟩ /- PAIR_SVC -/
    , ⟨0x1D001C, [], .il, 0x0, 0x0, false, 0xFFFF⟩ /- PAIR_VMAC_HI -/
    , ⟨0x1D0020, [], .il, 0x0, 0x0, false, 0xFFFFFFFF⟩ /- PAIR_VMAC_LO -/
    , ⟨0x1D0024, [], .il, 0x0, 0x0, false, 0xFFFFFFFF⟩ /- PAIR_ASYM0 -/
    , ⟨0x1D0028, [], .il, 0x0, 0x0, false, 0xFFFFFFFF⟩ /- PAIR_ASYM1 -/
    , ⟨0x1D002C, [], .ro, 0x0, 0x0, false, 0x0⟩ /- PAIR_MOFS_LO -/
    , ⟨0x1D0030, [], .ro, 0x0, 0x0, false, 0x0⟩ /- PAIR_MOFS_HI -/
    , ⟨0x1D0034, [], .ro, 0x0, 0x0, false, 0x0⟩ /- PAIR_LANEDIFF -/
    , ⟨0x1D0038, [], .ro, 0x0, 0x0, false, 0x0⟩ /- PAIR_WTR_REM -/
    , ⟨0x1D003C, [], .ro, 0x0, 0x0, false, 0x0⟩ /- PAIR_BCAND -/
    , ⟨0x1D0040, [], .ro, 0x0, 0x0, false, 0x0⟩ /- PAIR_MIR_AGE -/
    , ⟨0x1D0044, [], .rc, 0x0, 0x0, false, 0x0⟩ /- PAIR_TAKEOVERS -/
    , ⟨0x1D0048, [], .rc, 0x0, 0x0, false, 0x0⟩ /- PAIR_YIELDS -/
    , ⟨0x1D004C, [], .rc, 0x0, 0x0, false, 0x0⟩ /- PAIR_OVERRIDES -/
    , ⟨0x1D0050, [(2, 0x10)], .ro, 0x0, 0x0, false, 0x0⟩ /- PAIR_Ll_STAT -/
    , ⟨0x1D0054, [(2, 0x10)], .rc, 0x0, 0x0, false, 0x0⟩ /- PAIR_Ll_CORR -/
    , ⟨0x1D0058, [(2, 0x10)], .rc, 0x0, 0x0, false, 0x0⟩ /- PAIR_Ll_UNCORR -/
    , ⟨0x1D005C, [(2, 0x10)], .rc, 0x0, 0x0, false, 0x0⟩ /- PAIR_Ll_FRDROP -/ ]

/-- Rows of the register table of R421. -/
def rowsR421_1 : List RegRow :=
  [ ⟨0x1D0070, [], .rc, 0x0, 0x0, false, 0x0⟩ /- PAIR_ALARMS -/
    , ⟨0x1D0074, [], .rc, 0x0, 0x0, false, 0x0⟩ /- PAIR_HO_REJ -/
    , ⟨0x1D0078, [], .rc, 0x0, 0x0, false, 0x0⟩ /- PAIR_SESS_MOVED -/
    , ⟨0x1D007C, [], .rc, 0x0, 0x0, false, 0x0⟩ /- PAIR_SESS_LOST -/
    , ⟨0x1D0080, [], .rc, 0x0, 0x0, false, 0x0⟩ /- PAIR_NOSVC_DROP -/
    , ⟨0x1D0084, [], .ro, 0x0, 0x0, false, 0x0⟩ /- PAIR_FMT -/
    , ⟨0x1D0088, [], .rc, 0x0, 0x0, false, 0x0⟩ /- PAIR_FMT_REJ -/
    , ⟨0x1D008C, [], .ro, 0x0, 0x0, false, 0x0⟩ /- PAIR_MATE_KCV -/ ]

/-- Rows of the register table of R448. -/
def rowsR448_0 : List RegRow :=
  [ ⟨0x10000, [], .il, 0x0, 0x0, false, 0x87700003⟩ /- CLK_CFG -/
    , ⟨0x10004, [], .mixed, 0x0, 0xE0, false, 0x0⟩ /- CLK_STAT -/
    , ⟨0x10008, [], .wo, 0xFFFFFFFF, 0x0, false, 0x0⟩ /- CLK_CMD -/
    , ⟨0x1000C, [], .ro, 0x0, 0x0, false, 0x0⟩ /- CLK_FBDIV -/
    , ⟨0x10010, [], .ro, 0x0, 0x0, false, 0x0⟩ /- CLK_BANDSEL -/
    , ⟨0x10014, [], .il, 0x0, 0x0, false, 0x3FF⟩ /- CLK_XOQUAL -/
    , ⟨0x10018, [], .il, 0x0, 0x0, false, 0x3FFF⟩ /- CLK_RELOCK -/
    , ⟨0x1001C, [], .ro, 0x0, 0x0, false, 0x0⟩ /- CLK_XOFREQ -/
    , ⟨0x10020, [], .rc, 0x0, 0x0, false, 0x0⟩ /- CLK_LOL -/
    , ⟨0x10024, [], .rc, 0x0, 0x0, false, 0x0⟩ /- CLK_XODEF -/
    , ⟨0x10028, [], .rc, 0x0, 0x0, false, 0x0⟩ /- CLK_RCBYP -/
    , ⟨0x1002C, [], .rc, 0x0, 0x0, false, 0x0⟩ /- CLK_BYPMS -/
    , ⟨0x10030, [], .il, 0x0, 0x0, false, 0xFFFFFF⟩ /- CLK_GATE_EN -/
    , ⟨0x10034, [], .ro, 0x0, 0x0, false, 0x0⟩ /- CLK_GATE_OPEN -/
    , ⟨0x10038, [], .il, 0x0, 0x0, false, 0xFFFF⟩ /- CLK_GATE_IDLE -/
    , ⟨0x10100, [(64, 0x4)], .rw, 0x80FF3FFF, 0x0, false, 0x80FF3FFF⟩ /- CLK_BAND -/
    , ⟨0x10200, [(24, 0x4)], .rc, 0x0, 0x0, false, 0x0⟩ /- CLK_GATE_DEFER -/ ]

/-- Rows of the register table of R451. -/
def rowsR451_0 : List RegRow :=
  [ ⟨0x20000, [(4, 0x40)], .il, 0x0, 0x0, false, 0xF0FF0000⟩ /- OSYNk_CFG -/
    , ⟨0x20004, [(4, 0x40)], .il, 0x0, 0x0, false, 0x3FF⟩ /- OSYNk_NOM_INT -/
    , ⟨0x20008, [(4, 0x40)], .il, 0x0, 0x0, false, 0xFFFF⟩ /- OSYNk_NOM_FHI -/
    , ⟨0x2000C, [(4, 0x40)], .il, 0x0, 0x0, false, 0xFFFFFFFF⟩ /- OSYNk_NOM_FLO -/
    , ⟨0x20010, [(4, 0x40)], .ro, 0x0, 0x0, false, 0x0⟩ /- OSYNk_WORD_INT -/
    , ⟨0x20014, [(4, 0x40)], .ro, 0x0, 0x0, false, 0x0⟩ /- OSYNk_WORD_FHI -/
    , ⟨0x20018, [(4, 0x40)], .ro, 0x0, 0x0, false, 0x0⟩ /- OSYNk_WORD_FLO -/
    , ⟨0x2001C, [(4, 0x40)], .ro, 0x0, 0x0, false, 0x0⟩ /- OSYNk_STAT -/
    , ⟨0x20200, [(12, 0x20)], .mixed, 0x43, 0x0, false, 0x7F⟩ /- CLKOj_CFG -/
    , ⟨0x20204, [(12, 0x20)], .il, 0x0, 0x0, false, 0xFFFFFF⟩ /- CLKOj_DIV -/
    , ⟨0x20208, [(12, 0x20)], .rw, 0xFFFF, 0x0, false, 0x0⟩ /- CLKOj_DLY -/
    , ⟨0x2020C, [(12, 0x20)], .ro, 0x0, 0x0, false, 0x0⟩ /- CLKOj_ADLL -/
    , ⟨0x20210, [(12, 0x20)], .mixed, 0x0, 0x4, false, 0x0⟩ /- CLKOj_STAT -/
    , ⟨0x20400, [], .rw, 0x1, 0x0, false, 0x0⟩ /- OUT_SYNC_CFG -/
    , ⟨0x20404, [], .ro, 0x0, 0x0, false, 0x0⟩ /- OUT_SYNC_TS_SEC -/
    , ⟨0x20408, [], .ro, 0x0, 0x0, false, 0x0⟩ /- OUT_SYNC_TS_NS -/
    , ⟨0x2040C, [], .ro, 0x0, 0x0, false, 0x0⟩ /- OUT_SYNC_TS_FRAC -/
    , ⟨0x20410, [], .ro, 0x0, 0x0, false, 0x0⟩ /- OUT_SYNC_CNT -/
    , ⟨0x20414, [], .rc, 0x0, 0x0, false, 0x0⟩ /- OUT_SYNC_IGN -/
    , ⟨0x20418, [], .il, 0x0, 0x0, false, 0x1FFFF⟩ /- OUT_ADLL_SLEW -/
    , ⟨0x20500, [], .il, 0x0, 0x0, false, 0x9F7F07FF⟩ /- AUX_CFG -/
    , ⟨0x20504, [], .rw, 0xF, 0x0, false, 0x0⟩ /- AUX_EN -/
    , ⟨0x20510, [(4, 0x4)], .il, 0x0, 0x0, false, 0xFFFF⟩ /- AUXCLKa_DIV -/ ]

/-- Rows of the register table of R473. -/
def rowsR473_0 : List RegRow :=
  [ ⟨0x220000, [], .mixed, 0x0, 0x80, false, 0x0⟩ /- CFG_STAT -/
    , ⟨0x220004, [], .ro, 0x0, 0x0, false, 0x0⟩ /- CFG_VERSION -/
    , ⟨0x220008, [], .ro, 0x0, 0x0, false, 0x0⟩ /- CFG_BUILD_HI -/
    , ⟨0x22000C, [], .ro, 0x0, 0x0, false, 0x0⟩ /- CFG_BUILD_LO -/
    , ⟨0x220010, [], .ro, 0x0, 0x0, false, 0x0⟩ /- CFG_IMGLEN -/
    , ⟨0x220014, [(2, 0x4)], .ro, 0x0, 0x0, false, 0x0⟩ /- CFG_ERRa -/
    , ⟨0x22001C, [], .ro, 0x0, 0x0, false, 0x0⟩ /- CFG_ERR_ADDR -/
    , ⟨0x220020, [], .ro, 0x0, 0x0, false, 0x0⟩ /- CFG_DIRSEQ -/
    , ⟨0x220024, [], .il, 0x0, 0x0, false, 0x707⟩ /- CFG_SETSRC -/
    , ⟨0x220040, [(12, 0x4)], .ro, 0x0, 0x0, false, 0x0⟩ /- CFG_ROOTHASH -/
    , ⟨0x220080, [], .rw, 0x3FFFFFF, 0x0, false, 0x0⟩ /- CFG_FL_ADDR -/
    , ⟨0x220084, [], .wo, 0xFFFFFFFF, 0x0, false, 0x0⟩ /- CFG_FL_CMD -/
    , ⟨0x220088, [], .ro, 0x0, 0x0, false, 0x0⟩ /- CFG_FL_STAT -/
    , ⟨0x22008C, [], .ro, 0x0, 0x0, false, 0x0⟩ /- CFG_FL_JEDEC -/
    , ⟨0x220090, [], .ro, 0x0, 0x0, false, 0x0⟩ /- CFG_CHK_VER -/
    , ⟨0x220100, [(64, 0x4)], .rw, 0xFFFFFFFF, 0x0, false, 0x0⟩ /- CFG_FL_BUF -/ ]

/-- Rows of the register table of R475. -/
def rowsR475_0 : List RegRow :=
  [ ⟨0x0, [], .ro, 0x0, 0x0, false, 0x0⟩ /- SYS_ID -/
    , ⟨0x4, [], .il, 0x0, 0x0, false, 0x3⟩ /- SYS_MODE -/
    , ⟨0x8, [], .ro, 0x0, 0x0, false, 0x0⟩ /- SYS_STAT -/
    , ⟨0xC, [], .wo, 0xFFFFFFFF, 0x0, false, 0x0⟩ /- SYS_CMD -/
    , ⟨0x10, [], .ro, 0x0, 0x0, false, 0x0⟩ /- SYS_RSTCAUSE -/
    , ⟨0x14, [], .ro, 0x0, 0x0, false, 0x0⟩ /- SYS_STRAP -/
    , ⟨0x18, [], .ro, 0x0, 0x0, false, 0x0⟩ /- SYS_UPTIME -/
    , ⟨0x20, [(4, 0x4)], .ro, 0x0, 0x0, false, 0x0⟩ /- SYS_STAGE_Tk -/ ]

/-- Rows of the register table of R500. -/
def rowsR500_0 : List RegRow :=
  [ ⟨0x1E0000, [], .mixed, 0x0, 0x20, false, 0x0⟩ /- FLT_STAT -/
    , ⟨0x1E0008, [], .wo, 0xFFFFFFFF, 0x0, false, 0x0⟩ /- FLT_INJ -/
    , ⟨0x1E0010, [(3, 0x4)], .w1c, 0x0, 0xFFFFFFFF, false, 0x0⟩ /- FLT_PEND -/
    , ⟨0x1E0020, [(3, 0x4)], .ro, 0x0, 0x0, false, 0x0⟩ /- FLT_ACTIVE -/
    , ⟨0x1E0030, [(3, 0x4)], .rw, 0xFFFFFFFF, 0x0, false, 0x0⟩ /- FLT_INTEN -/
    , ⟨0x1E0040, [], .il, 0x0, 0x0, false, 0xFFFF0007⟩ /- FLT_ESC -/
    , ⟨0x1E0044, [], .ro, 0x0, 0x0, false, 0x0⟩ /- FLT_LAST_SEC -/
    , ⟨0x1E0048, [], .ro, 0x0, 0x0, false, 0x0⟩ /- FLT_LAST_NS -/
    , ⟨0x1E004C, [], .il, 0x0, 0x0, false, 0xFFFF⟩ /- FLT_CE_THR -/
    , ⟨0x1E0050, [], .rc, 0x0, 0x0, false, 0x0⟩ /- FLT_CE_CNT -/
    , ⟨0x1E0100, [(96, 0x4)], .il, 0x0, 0x0, false, 0x307⟩ /- FLT_SRCs_CFG -/
    , ⟨0x1E0300, [(96, 0x4)], .rc, 0x0, 0x0, false, 0x0⟩ /- FLT_CNTs -/
    , ⟨0x1E0500, [(96, 0x8)], .ro, 0x0, 0x0, false, 0x0⟩ /- FLT_INFOs_LO -/
    , ⟨0x1E0504, [(96, 0x8)], .ro, 0x0, 0x0, false, 0x0⟩ /- FLT_INFOs_HI -/ ]

/-- Rows of the register table of R502. -/
def rowsR502_0 : List RegRow :=
  [ ⟨0x1F0000, [], .rw, 0x1, 0x0, false, 0x0⟩ /- REC_CFG -/
    , ⟨0x1F0004, [], .mixed, 0x0, 0x70, false, 0x0⟩ /- REC_STAT -/
    , ⟨0x1F0008, [], .wo, 0xFFFFFFFF, 0x0, false, 0x0⟩ /- REC_CMD -/
    , ⟨0x1F000C, [], .il, 0x0, 0x0, false, 0x3FF⟩ /- REC_FREEZE_MAX -/
    , ⟨0x1F0010, [], .il, 0x0, 0x0, false, 0xFFF⟩ /- REC_FLPER -/
    , ⟨0x1F0014, [], .ro, 0x0, 0x0, false, 0x0⟩ /- REC_BOOT -/
    , ⟨0x1F0018, [], .ro, 0x0, 0x0, false, 0x0⟩ /- REC_SEQ -/
    , ⟨0x1F001C, [], .ro, 0x0, 0x0, false, 0x0⟩ /- REC_SEG -/
    , ⟨0x1F0020, [], .ro, 0x0, 0x0, false, 0x0⟩ /- REC_SEGSEQ -/
    , ⟨0x1F0024, [], .ro, 0x0, 0x0, false, 0x0⟩ /- REC_RING_WR -/
    , ⟨0x1F0028, [], .ro, 0x0, 0x0, false, 0x0⟩ /- REC_RING_FL -/
    , ⟨0x1F002C, [], .ro, 0x0, 0x0, false, 0x0⟩ /- REC_RING_OLD -/
    , ⟨0x1F0030, [], .rc, 0x0, 0x0, false, 0x0⟩ /- REC_DROP -/
    , ⟨0x1F0034, [], .rc, 0x0, 0x0, false, 0x0⟩ /- REC_STG_OVF -/
    , ⟨0x1F0038, [], .ro, 0x0, 0x0, false, 0x0⟩ /- REC_STG_LVL -/
    , ⟨0x1F003C, [], .ro, 0x0, 0x0, false, 0x0⟩ /- REC_FLUSHES -/
    , ⟨0x1F0040, [], .ro, 0x0, 0x0, false, 0x0⟩ /- REC_FLUSH_US -/
    , ⟨0x1F0044, [], .rw, 0x81FFFF00, 0x0, true, 0x0⟩ /- REC_WIN_ADDR -/
    , ⟨0x1F0048, [], .wo, 0xFFFFFFFF, 0x0, false, 0x0⟩ /- REC_WIN_CMD -/
    , ⟨0x1F004C, [], .ro, 0x0, 0x0, true, 0x0⟩ /- REC_WIN_STAT -/
    , ⟨0x1F0050, [(4, 0x4)], .rw, 0xFFFFFFFF, 0x0, false, 0x0⟩ /- REC_MARK -/
    , ⟨0x1F0100, [(64, 0x4)], .ro, 0x0, 0x0, true, 0x0⟩ /- REC_WIN -/ ]

/-- Rows of the register table of R504. -/
def rowsR504_0 : List RegRow :=
  [ ⟨0x200000, [], .rw, 0x1, 0x0, false, 0x0⟩ /- PMC_CFG -/
    , ⟨0x200004, [], .wo, 0xFFFFFFFF, 0x0, false, 0x0⟩ /- PMC_CMD -/
    , ⟨0x200008, [], .ro, 0x0, 0x0, false, 0x0⟩ /- PMC_STAT -/
    , ⟨0x200010, [(4, 0x4)], .w1c, 0x0, 0xFFFFFFFF, false, 0x0⟩ /- PMC_WRAP -/
    , ⟨0x200100, [(128, 0x20)], .rw, 0x80FFFFFF, 0x0, false, 0x0⟩ /- PMCc_SEL -/
    , ⟨0x200104, [(128, 0x20)], .ro, 0x0, 0x0, false, 0x0⟩ /- PMCc_LO -/
    , ⟨0x200108, [(128, 0x20)], .ro, 0x0, 0x0, false, 0x0⟩ /- PMCc_HI -/
    , ⟨0x20010C, [(128, 0x20)], .ro, 0x0, 0x0, false, 0x0⟩ /- PMCc_SNAP_LO -/
    , ⟨0x200110, [(128, 0x20)], .ro, 0x0, 0x0, false, 0x0⟩ /- PMCc_SNAP_HI -/
    , ⟨0x201100, [], .rw, 0xCF0FFFFF, 0x0, false, 0x0⟩ /- PMC_SAMP_CFG -/
    , ⟨0x201104, [], .ro, 0x0, 0x0, false, 0x0⟩ /- PMC_SAMP_STAT -/
    , ⟨0x201108, [], .wo, 0xFFFFFFFF, 0x0, false, 0x0⟩ /- PMC_SAMP_CMD -/
    , ⟨0x20110C, [], .ro, 0x0, 0x0, false, 0x0⟩ /- PMC_SAMP_CNT -/
    , ⟨0x204000, [(1024, 0x10), (4, 0x4)], .ro, 0x0, 0x0, false, 0x0⟩ /- PMC_SAMPLE -/ ]

/-- Rows of the register table of R523. -/
def rowsR523_0 : List RegRow :=
  [ ⟨0x210000, [], .ro, 0x0, 0x0, false, 0x0⟩ /- HIF_PCI_ID -/
    , ⟨0x210004, [], .il, 0x0, 0x0, false, 0xFFFFFFFF⟩ /- HIF_SUBSYS -/
    , ⟨0x210008, [], .ro, 0x0, 0x0, false, 0x0⟩ /- HIF_LINK -/
    , ⟨0x21000C, [], .ro, 0x0, 0x0, true, 0x0⟩ /- HIF_PORT -/
    , ⟨0x210010, [], .w1c, 0x0, 0x1FFF, true, 0x0⟩ /- HIF_ISTAT -/
    , ⟨0x210014, [], .rw, 0x1FFF, 0x0, true, 0x0⟩ /- HIF_IEN -/
    , ⟨0x210040, [(13, 0x4)], .rw, 0xF, 0x0, false, 0x0⟩ /- HIF_IVEC -/
    , ⟨0x210080, [], .rc, 0x0, 0x0, true, 0x0⟩ /- HIF_WRIGN -/
    , ⟨0x210084, [], .rc, 0x0, 0x0, true, 0x0⟩ /- HIF_UNMAPPED -/
    , ⟨0x210088, [], .rc, 0x0, 0x0, false, 0x0⟩ /- HIF_BADACC -/
    , ⟨0x21008C, [], .rc, 0x0, 0x0, false, 0x0⟩ /- HIF_LINKEV -/
    , ⟨0x210090, [], .ro, 0x0, 0x0, false, 0x0⟩ /- HIF_SPI_STAT -/
    , ⟨0x210094, [], .rc, 0x0, 0x0, false, 0x0⟩ /- HIF_SPI_BUSYREJ -/
    , ⟨0x210098, [], .rc, 0x0, 0x0, false, 0x0⟩ /- HIF_SPI_RDTMO -/ ]

/-- The whole register map. -/
def regRows : List RegRow :=
  rowsR64_0 ++ rowsR64_1 ++ rowsR69_0 ++ rowsR97_0 ++ rowsR121_0 ++
  rowsR121_1 ++ rowsR154_0 ++ rowsR154_1 ++ rowsR184_0 ++ rowsR184_1 ++
  rowsR222_0 ++ rowsR222_1 ++ rowsR225_0 ++ rowsR225_1 ++ rowsR228_0 ++
  rowsR250_0 ++ rowsR250_1 ++ rowsR275_0 ++ rowsR275_1 ++ rowsR301_0 ++
  rowsR301_1 ++ rowsR332_0 ++ rowsR332_1 ++ rowsR356_0 ++ rowsR363_0 ++
  rowsR363_1 ++ rowsR388_0 ++ rowsR421_0 ++ rowsR421_1 ++ rowsR448_0 ++
  rowsR451_0 ++ rowsR473_0 ++ rowsR475_0 ++ rowsR500_0 ++ rowsR502_0 ++
  rowsR504_0 ++ rowsR523_0

/-- Does an offset into a register array fall on one of its elements? -/
def dimsCover : List (Nat × Nat) → Nat → Bool
  | [], off => off == 0
  | (n, s) :: r, off => decide (off / s < n) && dimsCover r (off % s)

/-- The row that holds a (word-aligned) address. -/
def RegRow.covers (r : RegRow) (a : Nat) : Bool := decide (r.base ≤ a) && dimsCover r.dims (a - r.base)

/-- The register at an address; none is a gap or an address outside every block (R510). -/
def regAt (a : Nat) : Option RegRow := regRows.find? (fun r => r.covers a)

/-- The registers whose reset value is not zero, with that value (register tables; HIF_PCI_ID from R505, OWNGATE of
CLKOj_CFG from R452). -/
def resetRows : List (Nat × List (Nat × Nat) × Nat) :=
  [ (0x30004, [(8, 0x100)], 0x2) /- TBn_STAT -/
    , (0x3002C, [(8, 0x100)], 0xA000) /- TBn_INC_HI -/
    , (0x3004C, [(8, 0x100)], 0xA) /- TBn_PSLOPE -/
    , (0x30808, [], 0x5000) /- TB_RCINC_HI -/
    , (0x60000, [(32, 0x80)], 0x800) /- EIOn_CFG -/
    , (0x60020, [(32, 0x80)], 0x5) /- EIOn_WIDTH -/
    , (0x4001C, [(8, 0x100)], 0x100) /- TSUn_LAUNCH_TOL -/
    , (0x40800, [(8, 0x40)], 0x100) /- PPSm_CFG -/
    , (0x4080C, [(8, 0x40)], 0x5F5E100) /- PPSm_WIDTH -/
    , (0x40C00, [], 0x3E8) /- TSU_LAUNCH_LEAD -/
    , (0x50008, [(8, 0x100)], 0xFFFFFFFF) /- EBn_B_LO -/
    , (0x5000C, [(8, 0x100)], 0xFFFFFFFF) /- EBn_B_HI -/
    , (0x70004, [(24, 0x40)], 0x8) /- REFr_STAT -/
    , (0x70804, [(8, 0x40)], 0xBFF) /- REF_TBn_STAT -/
    , (0x80018, [(8, 0x100)], 0xA000) /- SRVn_MODELINC_HI -/
    , (0x90108, [(4, 0x20)], 0x8000000) /- GNSS_Ss_AGC -/
    , (0x9025C, [], 0xFFFFFFFF) /- GNSS_HPOS_UNC -/
    , (0x9028C, [(2, 0x20)], 0xFFFFFFFF) /- GNSS_SOLr_U -/
    , (0x90298, [(2, 0x20)], 0xFFFF) /- GNSS_SOLr_DA -/
    , (0x120004, [], 0x58F7) /- PE_CLASSMAP -/
    , (0x122020, [(8, 0x40)], 0x64) /- PE_RINGk_TMO -/
    , (0x130004, [], 0x2) /- NTS_STAT -/
    , (0x140008, [(8, 0x400)], 0x2) /- PTPi_STAT -/
    , (0x140040, [(8, 0x400)], 0xF8FEFFFF) /- PTPi_CQ -/
    , (0x140100, [(8, 0x400), (8, 0x10)], 0x1) /- PTPi_Pp_STAT -/
    , (0x1D003C, [], 0xFFFFFFFF) /- PAIR_BCAND -/
    , (0x1D0040, [], 0xFFFFFFFF) /- PAIR_MIR_AGE -/
    , (0x1D0084, [], 0x1) /- PAIR_FMT -/
    , (0x10004, [], 0x2) /- CLK_STAT -/
    , (0x10034, [], 0xFFFFFF) /- CLK_GATE_OPEN -/
    , (0x20200, [(12, 0x20)], 0x2) /- CLKOj_CFG -/
    , (0x0, [], 0x92560001) /- SYS_ID -/
    , (0x20, [(4, 0x4)], 0xFFFFFFFF) /- SYS_STAGE_Tk -/
    , (0x1E0030, [(3, 0x4)], 0xFFFFFFFF) /- FLT_INTEN -/
    , (0x210000, [], 0x92561F6A) /- HIF_PCI_ID -/ ]

/-- The reset value of the word at an address: GCHc_CFG.PRIV resets to 1 for c < 16 (R225), the registers of
`resetRows` to the value there, every other register to zero. A register whose reset column reads image, fuses,
flash, straps or mode holds zero until that source is read. DESIGN CHOICE (log 3). -/
def resetNat (a : Nat) : Nat :=
  if 0xA0000 ≤ a ∧ a < 0xA1000 ∧ a % 0x100 = 0 then 0x1000000
  else match resetRows.find? (fun p => decide (p.1 ≤ a) && dimsCover p.2.1 (a - p.1)) with
    | some p => p.2.2
    | none => 0

/-- `resetNat` as a word; a per-port copy of the SPI port (address + 0x1000000) resets as the PCIe copy, but HIF_PORT
reads 1 there (R523). -/
def resetWord (a : Nat) : Word :=
  if a = 0x121000C then 1 else BitVec.ofNat 32 (resetNat (a % 0x1000000))

end Sys2Proof.Machine
end

