-- ==== Sys2Proof/Machine/State.lean ====
section
/-! DEFINITION. The state of the device as plain data: the registers of the address map, the state the spec gives the
device that no register holds, and the queue of the commands that wait. -/
namespace Sys2Proof.Machine

/-- An armed initial set (R42): the target and the instant as they stood at the write of SET. -/
structure SetArm where
  /-- target, 2^-48 ns -/
  target : Nat
  atSec : Nat
  atNs : Nat
deriving DecidableEq, Repr

/-- A committed leap schedule (R45, R46), instants of the linear count in 2^-48 ns. -/
structure Leap where
  smear : Bool
  del : Bool
  /-- L -/
  at_ : Nat
  /-- start of the leap: L − 1 s for a step, Ws or Wc for a smear -/
  start : Nat
  /-- end of the leap: L + 1 s for a step, the window's end for a smear -/
  stop : Nat
  /-- the presented value has already taken the leap -/
  done : Bool := false
deriving DecidableEq, Repr

/-- The state of a time base that no register holds. -/
structure TbHid where
  /-- the linear count (R30), 2^-48 ns, below 2^48 s -/
  count : Nat := 0
  /-- the active increment (R14), 2^-48 ns -/
  inc : Nat := 0xA00000000000
  /-- the active bypass increment (R36), 2^-40 ns -/
  binc : Nat := 0
  /-- the last accepted increment (R34) -/
  incC : Nat := 0xA00000000000
  /-- the last accepted bypass increment -/
  bincC : Nat := 0
  /-- the active slope (R39), ns/s -/
  slope : Nat := 10
  /-- the remaining phase adjustment being applied (R39), 2^-48 ns -/
  rem : Int := 0
  /-- numerator remainder of the per-cycle slope step (R39) -/
  padjAcc : Nat := 0
  /-- a phase adjustment committed for the next epoch: replace?, amount in 2^-48 ns (R38) -/
  padjNew : Option (Bool × Int) := none
  /-- PABORT waits for the next epoch (R40) -/
  abortPend : Bool := false
  /-- the armed initial set (R42) -/
  armed : Option SetArm := none
  /-- the committed leap schedule (R47) -/
  leap : Option Leap := none
  /-- phase applied by commanded adjustments and by increments away from the model (R142), 2^-48 ns -/
  steer : Int := 0
  /-- the linear count just after the initial set (R92), 2^-48 ns -/
  setAt : Nat := 0
  /-- the uncertainty, ps, that the setter of the armed or taken set gives; none for a host set or an unbounded setter
  (R113) -/
  setU : Option Nat := none
  /-- the frequency estimate and its uncertainty that the setter gives (R174), 2^-16 ppt -/
  setFreq : Option (Int × Nat) := none
  /-- the set comes from the mate (R416) -/
  setMate : Bool := false
  /-- by how much the initial set moved the count, 2^-48 ns -/
  setShift : Int := 0
  /-- ms since the host's last increment, for the host watchdog (R168) -/
  hostIncAge : Nat := 0
deriving DecidableEq, Repr

/-- One capture (R60, R69). -/
structure Capture where
  rising : Bool
  clksrc : Nat
  /-- the instant, 2^-16 ns -/
  at_ : Nat
  seq : Nat
deriving DecidableEq, Repr

/-- The state of an event pin that no register holds. -/
structure EioHid where
  /-- an arm waits for its check at the next epoch (R54) -/
  armPend : Bool := false
  /-- a disarm waits for the next epoch (R55) -/
  disarmPend : Bool := false
  /-- the arm has been accepted and positions run (R54) -/
  running : Bool := false
  /-- index k of the next position in its grid (R51) -/
  k : Nat := 0
  /-- with RESYNC, whole seconds since T0's second (R52) -/
  sec : Nat := 0
  /-- positions passed since the arm (R549) -/
  passed : Nat := 0
  /-- T0 as an instant of the time base, 2^-32 ns, its high seconds taken by the signed difference (R50) -/
  t0 : Int := 0
  /-- next capture sequence number (R69) -/
  seq : Nat := 0
  /-- the capture FIFO, head first (R60) -/
  fifo : List Capture := []
  /-- instant of the last accepted edge by the TIME clock (R59), 2^-16 ns -/
  lastAcc : Option Nat := none
  /-- the pin's level, true high (R61) -/
  level : Bool := false
  /-- from when the stuck timeout counts, and from when the pin has been inactive, ns on the model's own clock (R61) -/
  stuckAt : Nat := 0
  idleAt : Nat := 0
  /-- what the device drives on the pin: none at high impedance, else the level, true high (R63, R70) -/
  pin : Option Bool := none
  /-- emission instant of the latest leading edge, 2^-48 ps of the time base (R73) -/
  lastLead : Option Int := none
deriving DecidableEq, Repr

/-- One recorder record in the ring (R489). -/
structure RingRec where
  /-- ring offset of its first byte -/
  off : Nat
  bytes : List Byte
deriving DecidableEq, Repr

/-- The recorder's state that no register holds (R489 to R495). -/
structure RecHid where
  /-- records still held in the ring, oldest first -/
  held : List RingRec := []
  /-- how many of the newest held records are not yet flushed -/
  unflushed : Nat := 0
  /-- records in staging, oldest first (R494) -/
  staged : List (List Byte) := []
  /-- how many of the oldest staged records a flush has already written (R494) -/
  stagedFlushed : Nat := 0
  /-- records dropped for want of ring space since the last LOSS record -/
  lossRing : Nat := 0
  /-- records dropped at full staging since the last LOSS record -/
  lossStg : Nat := 0
  /-- reason of the running flush (R490) -/
  flushReason : Nat := 0
  /-- next free byte of the current segment -/
  segOff : Nat := 0
  /-- the segment after the current one is erased (R492) -/
  nextErased : Bool := false
  /-- per host port: the window load that waits or runs, with its REC_WIN_ADDR (R495) -/
  winLoad : Map (Option Word) := []
  /-- when the freeze began, and when the latest flush ended, ns on the model's own clock (R494, R489) -/
  freezeAt : Nat := 0
  flushedAt : Nat := 0
deriving DecidableEq, Repr

/-- The fault controller's state that no register holds. -/
structure FltHid where
  /-- targets in a block reset (R481) -/
  running : List Target := []
  /-- per source: the uptimes, ms, of its block resets (R482) -/
  blkTimes : Map (List Nat) := []
  /-- the reset cause that follows the running flush (R453) -/
  resetAfterFlush : Option Nat := none
  /-- ALIVE is frozen (R486) -/
  aliveFrozen : Bool := false
  /-- corrected SRAM errors in a second, and the second of SYS_UPTIME they fall in (source 30) -/
  ceSecond : Nat := 0
  ceAt : Nat := 0
  /-- the blocks that stop 100 µs after PFW_N are stopped (R493) -/
  pfwStopped : Bool := false
  /-- when PFW_N was last asserted and deasserted, ns on the model's own clock (R493) -/
  pfwAt : Nat := 0
  pfwOffAt : Nat := 0
deriving DecidableEq, Repr

/-- The host interface's state that no register holds. -/
structure HifHid where
  /-- vectors masked in the MSI-X table, one bit each -/
  msixMask : BitVec 16 := 0xFFFF#16
  /-- MSI-X pending bits (R521) -/
  msixPend : BitVec 16 := 0#16
  /-- the function is in D3hot (R507) -/
  d3hot : Bool := false
  /-- FRY_SPI: words waiting to be performed, oldest first: address, word (R515) -/
  ferry : List (Nat × Word) := []
  /-- WROVF since the previous status byte (R513) -/
  wrovf : Bool := false
deriving DecidableEq, Repr

/-- A record accepted into a ring's staging (R291). -/
structure Staged where
  typ : Nat
  seq : Nat
  body : List Byte
  /-- the source's own drop counter, counted as well when the record times out -/
  ctr : Option Nat
  /-- when it was accepted, ns on the model's own clock (R291) -/
  at_ : Nat
deriving DecidableEq, Repr

/-- A DMA ring's state that no register holds (R288 to R292). -/
structure RingHid where
  /-- next sequence number (R289) -/
  seq : Nat := 0
  /-- staging, oldest first -/
  staged : List Staged := []
  /-- the ring's total of dropped records, for the write-back word (R290) -/
  drops : Nat := 0
  /-- the interrupt moderation period runs (R520) -/
  quiet : Bool := true
  /-- records arrived during the moderation period -/
  more : Bool := false
  /-- when the ring last set its interrupt bit, ns on the model's own clock (R520) -/
  irqAt : Nat := 0
deriving DecidableEq, Repr

/-- A received frame in a receive buffer: bytes without the FCS, and its receive timestamps (R79). -/
structure RxFrame where
  bytes : List Byte
  ats : List Nat
  clksrc : Nat
  /-- the time bases' steering phases at that instant (R142), 2^-48 ns -/
  steers : List Int
deriving DecidableEq, Repr

/-- An insertion command (R82): kind, offset, second offset, and the value PTP_TURN subtracts (the receive timestamp,
2^-16 ns; 0 for a host frame) or the lowest code PTP_QUAL may write. -/
structure Ins where
  kind : InsKind
  off : Nat
  off2 : Nat := 0
  arg : Nat := 0
deriving DecidableEq, Repr

/-- Where an egress frame comes from, for what its departure counts and returns. -/
inductive FrameSrc
  | ntp | nts | kod | nak | esmc
  /-- a host frame: its TAG, and whether its transmit timestamp is asked for (R295) -/
  | host (tag : Nat) (tsreq : Bool)
  /-- a message of a PTP instance: messageType and sequenceId -/
  | ptp (inst typ seq : Nat)
deriving DecidableEq, Repr

/-- A frame on its way out, with its egress descriptor (R82). -/
structure EgFrame where
  port : Nat
  cls : Nat
  /-- from the destination MAC address; with its FCS when fcs is set (R295) -/
  bytes : List Byte
  fcs : Bool := false
  tb : Nat := 0
  ins : List Ins := []
  /-- checksum method of R84, and offset of the UDP checksum, 0 for none -/
  cksum : Nat := 0
  ckOff : Nat := 0
  /-- launch instant on tb, 2^-16 ns (R86) -/
  launch : Option Nat := none
  /-- sent two-step, with this sequence tag (R89) -/
  twoStep : Option Nat := none
  /-- to be sent launch-time: crypto output fixes its launch instant (R86) -/
  wantLaunch : Bool := false
  /-- holds a Follow_Up slot of the scheduler, so that it never waits there (R27) -/
  slot : Bool := false
  src : FrameSrc
deriving DecidableEq, Repr

/-- A request classified as NTP or NTS: what the response builder needs (R306). -/
structure NtpReq where
  port : Nat
  /-- the VLAN tags' bytes -/
  tags : List Byte
  srcMac : List Byte
  dstMac : List Byte
  srcIp : List Byte
  dstIp : List Byte
  srcPort : Nat
  payload : List Byte
  /-- receive timestamp on the serving time base, 2^-16 ns -/
  rx : Nat
deriving DecidableEq, Repr

/-- A received PTP message on its way to an instance (R336). -/
structure PtpIn where
  inst : Nat
  port : Nat
  tags : List Byte
  srcMac : List Byte
  /-- 16 bytes as PEER_IP of R356; zeros for Ethernet -/
  srcIp : List Byte
  srcPort : Nat
  /-- sent to a group address -/
  mcast : Bool
  msg : List Byte
  /-- receive timestamp on the instance's time base, 2^-16 ns (R79) -/
  at_ : Nat
  clksrc : Nat
  steers : List Int
  /-- passed authentication under R358 -/
  auth : Bool
deriving DecidableEq, Repr

/-- A job in the crypto input queue (R286). -/
inductive Job
  /-- a plain NTP request, which needs no engine -/
  | ntp (r : NtpReq)
  /-- an NTS request, E_now at its entry, the NAK the classifier built, and the epoch keys at its entry (R312, R321) -/
  | nts (r : NtpReq) (eNow : Nat) (nak : EgFrame) (keys : List (Nat × List Byte))
  /-- a received PTP message whose authentication TLV is to be verified, or that needs no engine -/
  | ptpIn (m : PtpIn)
  /-- a frame to send; with an SA, its PTP message starts at the offset and takes an ICV (R358) -/
  | send (f : EgFrame) (sa : Option (Nat × Nat))
deriving DecidableEq, Repr

/-- What a response builder holds (R279): the job, the engine it runs on, and the finished frame once it waits for its
egress queue. -/
structure Build where
  job : Job
  /-- for an NTS request: its cookie's C2S, S2C and CLASS -/
  keys : List Byte := []
  engine : Nat := 0
  ready : Option EgFrame := none
  /-- from when the frame has waited for its egress queue, ns on the model's own clock (R26) -/
  readyAt : Nat := 0
deriving DecidableEq, Repr

/-- The packet engine: what no register holds. -/
structure PeHid where
  /-- the port the classifier looks at first (R280) -/
  rr : Nat := 0
  /-- the crypto input queue, oldest first -/
  input : List Job := []
  /-- the response builders, oldest first -/
  builders : List Build := []
  /-- the Kiss-o'-Death and NAK reply queue -/
  replies : List EgFrame := []
  /-- the host command queue: descriptors (R297) -/
  hostCmds : List (List Byte) := []
  /-- how many commands at the front of that queue have lost their result records (R507) -/
  lostResults : Nat := 0
  /-- the host frame that waits for its class queue (R296) -/
  htx : Option EgFrame := none
  /-- from when it has waited, ns on the model's own clock (R296) -/
  htxAt : Nat := 0
  /-- the NTS token bucket (R287), thousandths of a request, and the ns of the model's own clock up to which it has been filled -/
  tokens : Nat := 65536000
  tokAt : Nat := 0
  /-- messages for the PTP instances, oldest first -/
  ptp : List PtpIn := []
deriving DecidableEq, Repr

/-- One delay-locked line of an interpolator position (R72 to R74). -/
structure Line where
  /-- the last accepted table, 64 tap centres in 2^-16 ns; none accepted yet when empty -/
  tab : List Nat := []
  /-- uptime, ms, at which it was taken -/
  acc : Option Nat := none
  /-- uptime, ms, at which the latest calibration started -/
  start : Option Nat := none
  /-- the table is older than four calibration periods -/
  stale : Bool := false
deriving DecidableEq, Repr

/-- One interpolator position's pair of lines (R72 to R74). -/
structure LineHid where
  a : Line := {}
  b : Line := {}
  /-- the serving line: false A, true B -/
  serving : Bool := false
  /-- the other line's code-density test runs -/
  calibrating : Bool := false
  /-- the other line is freshly calibrated and waits for its swap -/
  swapDue : Bool := false
  /-- consecutive deferrals of the swap -/
  deferrals : Nat := 0
  /-- instant of the latest swap by the TIME clock, 2^-48 ns -/
  swapAt : Option Nat := none
deriving DecidableEq, Repr

/-- The state of a PPS output that no register holds (R90 to R92). -/
structure PpsHid where
  /-- writes that wait for their instant, oldest first (R91) -/
  pend : List (PpsReg × Word) := []
  /-- the settings in effect -/
  cfg : Word := 0x100
  ofs : Word := 0
  width : Word := 0x05F5E100
  dly : Word := 0
  /-- emission instants of the latest pulse's leading and trailing edges, ps of the time base -/
  lastLead : Option Int := none
  lastTrail : Option Int := none
  /-- what the device drives on the pin: none at high impedance, else the level, true high (R94, R100) -/
  pin : Option Bool := none
deriving DecidableEq, Repr

/-- A measured departure in a port's transmit timestamp queue (R89). -/
structure TxStamp where
  /-- the frame's sequence tag -/
  tag : Nat
  tb : Nat
  /-- the instant on that time base, 2^-16 ns -/
  at_ : Nat
  clksrc : Nat
  /-- BE of R114 at the departure, ps -/
  be_ : Nat
deriving DecidableEq, Repr

/-- An offset sample of a reference against a time base (R103, R104). -/
structure Sample where
  /-- offset M at the sample's instant, 2^-16 ps -/
  m : Int
  /-- U_REF, U_PATH, U_TS, ps -/
  uRef : Nat
  uPath : Nat
  uTs : Nat
  /-- TB0's linear count at the sample's instant, 2^-48 ns -/
  at_ : Nat
  /-- the time base's steering phase S at that instant, 2^-48 ns -/
  steer : Int
  clksrc : Nat
  /-- the quality message gives a measurement (R103, R111) -/
  meas : Bool
deriving DecidableEq, Repr

/-- What the latest tick incorporated, for the ledger's extension (R119). -/
structure Incorp where
  /-- M carried to the tick, 2^-16 ps -/
  m : Int
  uRef : Nat
  uPath : Nat
  uTs : Nat
  /-- LO_PRE and HI_PRE, 2^-16 ps -/
  loPre : Int
  hiPre : Int
deriving DecidableEq, Repr

/-- The error bound of a time base: what no register holds (R101 to R117), phases in 2^-16 ps, parameters in 2^-16 ppt
and its derivatives, temperatures in 2^-8 K. -/
structure EbHid where
  /-- an interval is held (R102) -/
  bounded : Bool := false
  /-- LO₀ and HI₀ at the anchor -/
  lo0 : Int := 0
  hi0 : Int := 0
  /-- LO and HI at the latest tick -/
  lo : Int := 0
  hi : Int := 0
  /-- Y, D, K at the anchor -/
  y : Nat := 0
  dd : Nat := 0
  k : Nat := 0
  /-- S at the anchor, 2^-48 ns -/
  steer0 : Int := 0
  /-- TB0's linear count, S and the presented value (2^-16 ns) at the latest tick -/
  tickAt : Nat := 0
  steerT : Int := 0
  presT : Nat := 0
  /-- TB0's linear count and S at the ticks and at the epochs that changed what a cycle adds, newest first, for the last
  2 ms (R104) -/
  marks : List (Nat × Int) := []
  /-- the tick's sample and its publication wait for the loop update of the tick (R108, R109) -/
  due : Bool := false
  /-- TB0's linear count at the tick of the published values (R114) -/
  pubAt : Nat := 0
  /-- sensor readings at the anchor -/
  ta0 : Int := 0
  ta1 : Int := 0
  /-- ΔT since the anchor -/
  dt : Nat := 0
  /-- ms since the anchor -/
  tau : Nat := 0
  /-- ms since the latest measurement anchor (R116) -/
  measAge : Option Nat := none
  /-- presented value at the latest measurement anchor, 2^-16 ns; none without one (R306) -/
  measPres : Option Nat := none
  /-- predicted offset p before and after the tick's commit, ppt -/
  pOld : Rat := 0
  pNew : Rat := 0
  /-- consecutive ticks that met a better state, and the worst of the better states met (R117) -/
  better : Nat := 0
  worstBetter : Nat := 0
  /-- ledger causes waiting for the next tick's entries (R118) -/
  causes : List Nat := []
  inc : Option Incorp := none
  /-- the frequency-only reference whose uncertainty replaces Y (R106) -/
  freqRef : Option Nat := none
deriving DecidableEq, Repr

/-- A reference: what no register holds (R124 to R134). -/
structure RefHid where
  /-- a signal loss that a message or an edge ends -/
  los : Bool := true
  /-- frequency out of tolerance at the latest tick -/
  freq : Bool := false
  /-- a missing message that a message ends -/
  msg : Bool := false
  /-- a time-of-day mismatch (R126) -/
  tod : Bool := false
  /-- level of the latest message, 1 to 15; 0 before the first (R130) -/
  level : Nat := 0
  /-- elapsed hold-off or wait-to-restore, ms -/
  timer : Nat := 0
  /-- became QUALIFIED at step 3 of this tick -/
  fresh : Bool := false
  /-- became QUALIFIED during RC bypass (R153) -/
  rcQual : Bool := false
  /-- last accepted edge on TB0, less what the initial set moved it, 2^-16 ns (R125) -/
  lastEdge : Option Int := none
  /-- the TAI − UTC that the reference carries validly, s (R129) -/
  taiUtc : Option Int := none
  /-- its leap announcement: the UTC second of 00:00:00 after the leap, counted without it, and deletion (R129) -/
  leap : Option (Nat × Bool) := none
  /-- frequency offset at the latest tick, 2^-8 ppt -/
  freqOff : Int := 0
  /-- when the latest solution message, accepted edge, valid frame or usable Sync came, and the latest ESMC information
  PDU, ns on the model's own clock (R124) -/
  sigAt : Nat := 0
  msgAt : Nat := 0
deriving DecidableEq, Repr

/-- A reference against one time base (key 8 r + n). -/
structure RnHid where
  /-- samples since the previous tick, oldest first (R16) -/
  inbox : List Sample := []
  /-- the latest sample of this tick -/
  cur : Option Sample := none
  /-- the latest sample at all (R143) -/
  latest : Option Sample := none
  /-- the last sample taken while QUALIFIED, from before the reference left that state (R150) -/
  last : Option Sample := none
  /-- the tests of R145 and R150 wait for a sample -/
  waitTest : Bool := false
  /-- the re-entry test applies: the reference had been FAILED -/
  reentry : Bool := false
  /-- the trend window: TB0 instants, ns, and model offsets x, 2^-16 ps, oldest first (R146) -/
  points : List (Int × Int) := []
  /-- TAI − UTC in use for a UTC time base and TBn_LEAPCNT when it was taken (R550) -/
  tu : Option (Int × Int) := none
  /-- a TREND defect from this time base's test holds (R147 to R149), and ms since it -/
  trend : Bool := false
  trendAge : Nat := 0
  /-- REF_TICKS at the last ticks that brought a sample, newest first, at most 16 (R162) -/
  times : List Nat := []
deriving DecidableEq, Repr

/-- The selector per time base: what no register holds. -/
structure SelHid where
  /-- a pull toward the selected reference waits for the servo (R143) -/
  pullDue : Bool := false
  /-- accept bits written since the previous tick (R151) -/
  accept : Word := 0
  /-- a force was written since the previous tick (R140) -/
  forceNew : Bool := false
  /-- a conflict EB reported at the previous tick: the reference, LO_PRE, HI_PRE (R148) -/
  conflict : Option (Nat × Int × Int) := none
  /-- the peers' samples at that tick, as intervals (reference, low, high) -/
  conflictPeers : List (Nat × Int × Int) := []
  /-- the selected reference's latest sample that the loop has not yet taken (R160, R182) -/
  fresh : Option Sample := none
  /-- mean slope of the three references that agree at a tick counted in PREDDIS, ppt, and the reference (R179) -/
  predFix : Option (Rat × Nat) := none
deriving DecidableEq, Repr

/-- The atomic status UART (R127); the patterns and the poll string come from the image. -/
structure AtomHid where
  /-- polls in a row without a reply -/
  misses : Nat := 0
  /-- a poll waits for its reply -/
  waiting : Bool := false
  /-- when the latest poll was sent, and the latest line came, ns on the model's own clock (R127) -/
  pollAt : Option Nat := none
  lineAt : Nat := 0
  /-- reply patterns with their level and the poll string, from the image -/
  patterns : List (List Byte × Nat) := []
  pollString : List Byte := []
deriving DecidableEq, Repr

/-- The loop of a time base: what no register holds (R160 to R169). -/
structure SrvHid where
  /-- the integrator I and the correction c, ppt -/
  i : Rat := 0
  c : Rat := 0
  /-- TB0 count, 2^-48 ns, of the previous fresh sample (R160) -/
  lastFresh : Option Nat := none
  /-- |e| of the last fresh samples, 2^-16 ps, newest first, at most 16 (R164) -/
  errs : List Nat := []
  /-- ms in the current step -/
  stepMs : Nat := 0
  /-- an OPEN waits: 1 for the next tick's update, 2 for its 500 µs (R166) -/
  openDue : Nat := 0
  /-- a close waits for the next tick's update (R169) -/
  closeDue : Bool := false
  /-- the schedule restarts at this step at the next update (R165) -/
  restart : Option Nat := none
  /-- at the next update I and c are taken from the present increment and the schedule goes on at this step (R169, R484) -/
  retake : Option Nat := none
  /-- the last phase error e formed (R160), ps -/
  e : Rat := 0
deriving DecidableEq, Repr

/-- A 60 s epoch of a model's data (R175). -/
structure Epoch where
  /-- the model learned throughout it -/
  on : Bool
  /-- mean phase of the oscillator against the reference, ps -/
  x : Rat
  /-- mean T̄, °C -/
  temp : Rat
deriving DecidableEq, Repr

/-- A holdover model (R171 to R176): what no register holds. -/
structure ModelHid where
  /-- y0, ppt; a, ppt/day; cT, ppt/K; Tref, °C; t_M, TB0 seconds (R171) -/
  y0 : Rat := 0
  a : Rat := 0
  c : Rat := 0
  tref : Rat := 0
  tm : Rat := 0
  /-- K as seeded or fitted, 2^-16 ppt/K; SRV_Mm_K shows the cold value while a sensor is bad (R173) -/
  k : Nat := 0
  /-- the seed waits for a defect-free ATOM_10M (R174) -/
  seedDue : Bool := false
  /-- the present epoch: sum and number of its phases, ps, and the ticks at which the model learned (R175) -/
  acc : Rat := 0
  accN : Nat := 0
  accLearn : Nat := 0
  /-- the epochs of the window, newest first, with those taken while learning was paused in their place -/
  epochs : List Epoch := []
  /-- the epochs that have entered the fit: the learning time in minutes -/
  learned : Nat := 0
deriving DecidableEq, Repr

/-- The predictor and the servo as a whole: what no register holds. -/
structure SrvGHid where
  /-- INC_M (R171) -/
  incM : Nat := 0xA00000000000
  /-- T̄, °C; none before the first reading (R172) -/
  tfilt : Option Rat := none
  /-- consecutive good readings of each sensor since it turned bad (R173) -/
  good0 : Nat := 0
  good1 : Nat := 0
  /-- the sensors have been read -/
  read : Bool := false
  /-- the readings of the latest tick, 2^-8 °C -/
  ta0 : Int := 0
  ta1 : Int := 0
  /-- y_meas at the latest tick, 2^-16 ppt -/
  yMeas : Int := 0
  /-- ticks and sum of T̄ in the present epoch, and the middle of the newest one, TB0 seconds (R175) -/
  epTicks : Nat := 0
  epTemp : Rat := 0
  epAt : Rat := 0
  /-- the phase by which INC_M has moved a clock from the nominal increment, and that of y_meas, ps -/
  yInt : Rat := 0
  mInt : Rat := 0
  /-- consecutive ticks with a deadline miss, per core (R159) -/
  misses : Map Nat := []
  /-- the cores that have missed a deadline in the present tick -/
  missNow : List Nat := []
  /-- latest finish of the present tick, µs -/
  endNow : Nat := 0
  /-- ms for which SRV_TEMP1 has been above 110 °C (source 4) -/
  hotMs : Nat := 0
  /-- ms since the latest correction of R179 -/
  predAge : Option Nat := none
  /-- finish times of the last ticks, µs, newest first -/
  ends : List Nat := []
  /-- ms for which ATOM_10M has been free of defect (R178) -/
  atomOkMs : Nat := 0
deriving DecidableEq, Repr

/-- A tracking channel's state that no register holds (R198 to R201). -/
structure ChHid where
  /-- consecutive dumps with a lock indicator of at least 0.8, and of less than 0.5, and with C/N₀ below CN0MIN (R201) -/
  lockRun : Nat := 0
  lockLow : Nat := 0
  cnLow : Nat := 0
  /-- words the firmware wrote for the next dump boundary: code, carrier without the IF -/
  words : Option (Nat × Int) := none
  /-- the change of the carrier word, per ms -/
  rate : Int := 0
  /-- the twelve sums of the running integration, VE_I to DP_Q (R198, R199) -/
  acc : List Int := []
  /-- a dump waits for the firmware -/
  dumpDue : Bool := false
  /-- consecutive burst misses (R219) -/
  misses : Nat := 0
  /-- the instant of the gate that holds the channel, on the model's own clock, 2^-48 ns (R218) -/
  gatedAt : Option Nat := none
  /-- the satellite was excluded: released at the next millisecond boundary (R208) -/
  excl : Bool := false
  /-- the instant since which no symbol has been lost, on the model's own clock, 2^-48 ns (R193, R210) -/
  since : Nat := 0
  /-- when the channel entered its state, ns on the same clock (R201) -/
  stAt : Nat := 0
  /-- D29 and D30 of the last LNAV word (R209) -/
  lastD : Option (Bool × Bool) := none
deriving DecidableEq, Repr

/-- A detection of the acquisition engine (R214). -/
structure Detect where
  sig : Nat
  svid : Nat
  /-- peak ratio, units 1/16 -/
  ratio : Nat
  /-- Doppler, Hz -/
  dopp : Int
  /-- code phase at the snapshot epoch, units 1/64 chip -/
  code : Nat
  /-- the snapshot's number -/
  snap : Nat
deriving DecidableEq, Repr

/-- The smoothing of one satellite's ionosphere-free range (R233). -/
structure Hatch where
  /-- satellite: 256 × constellation + PRN -/
  sat : Nat
  /-- seconds in the window -/
  n : Nat
  /-- smoothed range at the latest epoch on the model's own clock, ps -/
  range : Rat
  /-- the carrier phases of the two channels at that epoch, 2^-32 cycle -/
  carr1 : Int
  carr5 : Int
  /-- the epoch on the model's own clock, 2^-48 ns -/
  at_ : Nat
deriving DecidableEq, Repr

/-- The GNSS baseband as a whole: what no register holds. -/
structure GnssHid where
  /-- the image's front-end sequences, by 3 × chip select + kind (R194) -/
  feSeqs : Map (List FeEntry) := []
  /-- sequences running and waiting, first in front: chip select, kind -/
  feRun : List (Nat × Nat) := []
  /-- which chip selects have completed their start sequence -/
  feStarted : List Nat := []
  /-- the host's transaction: 0 none, 1 waiting, 2 running (R195) -/
  feHost : Nat := 0
  /-- instants of the dumps missed in the last second, ns on the model's own clock (R200) -/
  fwMisses : List Nat := []
  /-- when each stream's latest slip came, and each aided search was exhausted, on the same clock (R192, R216) -/
  slipAt : Map Nat := []
  aidAt : Map Nat := []
  /-- entries in the navigation ring and the next SEQ (R211) -/
  navCount : Nat := 0
  navSeq : Nat := 0
  /-- detections that wait for their verification, oldest first (R214) -/
  detect : List Detect := []
  /-- the running sweep: the last satellite searched and the points so far (R213) -/
  sweepAt : Option (Nat × Nat) := none
  sweepPts : Nat := 0
  /-- samples in each stream's ferry (R24, R25) -/
  ferry : Map Nat := []
  /-- the accumulators of the AGC outputs' sigma-delta modulators (R196) -/
  sd : Map Nat := []
  /-- satellites (256 × constellation + PRN) whose orbit the navigation data since reset give (R216) -/
  orbits : List Nat := []
  /-- satellites rejected by check NAV until their next ephemeris, and those rejected since the last 100 ms epoch, where a
  new ephemeris came (R239) -/
  rejected : List Nat := []
  navNew : Option Nat := none
  /-- elevations at the latest epoch, by satellite, 0.001 degree (R206) -/
  elev : Map Int := []
  /-- TB0 second in which DANT last ran (R239) -/
  dantSec : Option Nat := none
  /-- the burst window is open (R218) -/
  window : Bool := true
  /-- TB0 second until which the baseband tracks continuously (R219) -/
  fullUntil : Nat := 0
  /-- GOOD IF epochs of the survey with the sums of their positions, 0.01 m, and of the squares (R234), and a RESURVEY
  that waits for the next epoch -/
  svyEpochs : Nat := 0
  svySum : Int × Int × Int := (0, 0, 0)
  svySq : Int := 0
  resurvey : Bool := false
  /-- streams whose JAM has been set since the previous integrity epoch (R239) -/
  jamPrev : Nat := 0
deriving DecidableEq, Repr

/-- A timing solution's state that no register holds (R239 to R244). -/
structure SolHid where
  /-- the state held, and the all-GOOD seconds needed to leave it and counted (R243) -/
  held : Option Nat := none
  need : Nat := 0
  good : Nat := 0
  /-- worst state of the 100 ms epochs since the previous message -/
  worst : Nat := 1
  ran : Nat := 0
  failed : Nat := 0
  /-- latest DA_RMS since the previous message -/
  da : Option Nat := none
  /-- TB0 second, x and U of the last ten fixes, newest first, ps (check PRED) -/
  hist : List (Nat × Int × Nat) := []
  /-- the offsets of GPS, Galileo and BeiDou time estimated at the previous epoch, ps (check ISYS) -/
  iso : List (Option Int) := []
  /-- the Hatch windows (R233) -/
  hatch : List Hatch := []
deriving DecidableEq, Repr

/-- The preemptable frame on a port's wire (R259). -/
structure WireHid where
  bytes : List Byte
  /-- bytes sent in its earlier fragments, and whether it has been preempted -/
  sent : Nat
  preempted : Bool
deriving DecidableEq, Repr

/-- A port: what no register holds (R252 to R273, R279). -/
structure PortHid where
  /-- frames in the receive buffer, oldest first -/
  rx : List RxFrame := []
  /-- frames in the MAC transmit FIFO, oldest first -/
  fifo : List EgFrame := []
  wire : Option WireHid := none
  /-- serial bits of the recovered clock counted in the last millisecond of TIME (R76); 0 before the first count -/
  rxBits : Nat := 0
  /-- verify attempts without an answer (R258) -/
  attempts : Nat := 0
  /-- PFC priorities whose timer runs (R264) -/
  pfc : List Nat := []
  /-- when the latest verify mPacket left, when each pause timer ends (8: 802.3x), and when a frame other than ESMC was last
  received or sent, ns on the model's own clock (R258, R263, R270) -/
  verifyAt : Nat := 0
  pauseEnd : Map Nat := []
  frameAt : Nat := 0
  /-- TB0 µs up to which MACn_TX_HELD has been accumulated (R265) -/
  heldMark : Nat := 0
deriving DecidableEq, Repr

/-- A heavy hitter of the present statistics interval (R330): family, prefix length, prefix, and the highest rate,
requests/s. -/
structure Heavy where
  fam : Nat
  plen : Nat
  pre : List Byte
  rate : Nat
deriving DecidableEq, Repr

/-- The counts of the present statistics interval (R330). -/
structure StatHid where
  ntp : Nat := 0
  nts : Nat := 0
  kod : Nat := 0
  nak : Nat := 0
  rl : Nat := 0
  cap : Nat := 0
  heavy : List Heavy := []
  hhMiss : Nat := 0
deriving DecidableEq, Repr

/-- NTP and NTS service: what no register holds. -/
structure NtsHid where
  /-- the rate limiter's banks (R327): counters by row × 262 144 + index -/
  cur : Map Nat := []
  prev : Map Nat := []
  /-- which draw of the noise source keys the sketch's hashes -/
  seed : Nat := 0
  /-- TB0 count, 2^-48 ns, at the latest window exchange (R328) -/
  winAt : Nat := 0
  /-- over-limit plain requests since the last Kiss-o'-Death (R329) -/
  kodRun : Nat := 0
  stat : StatHid := {}
  /-- the epoch keys held (R318): epoch day and key -/
  keys : List (Nat × List Byte) := []
  /-- the epochs a derivation in progress derives; and whether the root key changed (R321) -/
  deriving_ : List Nat := []
  rekey : Bool := false
  /-- per pipeline: the nonce counter (R315) -/
  nonces : Map Nat := []
deriving DecidableEq, Repr

/-- Where a PTP instance sends a message. -/
structure PtpDest where
  mac : List Byte
  /-- 4 or 16 bytes; none over Ethernet -/
  ip : List Byte
  /-- the VLAN tags' bytes -/
  tags : List Byte
deriving DecidableEq, Repr

/-- A foreign master of a port (R345). -/
structure Foreign where
  /-- its sourcePortIdentity -/
  id : List Byte
  /-- its latest Announce -/
  msg : List Byte
  /-- instants, ns on the model's own clock, of its latest two Announce messages, newest first -/
  times : List Nat
  /-- its source address, as PEER_IP of R356 -/
  ip : List Byte
deriving DecidableEq, Repr

/-- A Pdelay_Resp that waits for its Follow_Up (R349). -/
structure PdResp where
  src : List Byte
  /-- t4, and requestReceiptTimestamp, 2^-16 ns; correctionField -/
  t4 : Nat
  t2 : Int
  corr : Int
deriving DecidableEq, Repr

/-- A Delay_Req or Pdelay_Req of the device that waits for its response (R349). -/
structure PtpReq where
  seq : Nat
  /-- its measured departure on the instance's time base, 2^-16 ns -/
  left : Option Nat := none
  resp : Option PdResp := none
deriving DecidableEq, Repr

/-- A port of an instance (key 8 i + p): what no register holds. -/
structure PtpPortHid where
  foreign : List Foreign := []
  /-- next sequenceIds of the port's multicast Announce and Sync, its requests and its Signaling -/
  annSeq : Nat := 0
  syncSeq : Nat := 0
  reqSeq : Nat := 0
  sigSeq : Nat := 0
  /-- delay measurements, 2^-16 ps, newest first (R350) -/
  delays : List Int := []
  /-- requests that wait for their responses, oldest first -/
  reqs : List PtpReq := []
  /-- when the port took its present state, ns on the model's own clock (R345) -/
  since : Nat := 0
  /-- the interval instants its latest multicast Announce and Sync were due at, counted in intervals (R344) -/
  annK : Option Int := none
  syncK : Option Int := none
deriving DecidableEq, Repr

/-- A Sync that waits for its Follow_Up (R349). -/
structure WaitSync where
  msg : PtpIn
  seq : Nat
  /-- when it was taken, ns on the model's own clock -/
  at_ : Nat
deriving DecidableEq, Repr

/-- A PTP instance: what no register holds. -/
structure PtpInstHid where
  /-- the parent: the port it was heard on and its portIdentity -/
  parent : Option (Nat × List Byte) := none
  waits : List WaitSync := []
  /-- t2 − t1 − c_S of the parent's latest Sync, 2^-16 ns -/
  forward : Option Int := none
deriving DecidableEq, Repr

/-- A unicast session: what its 64 bytes do not hold. -/
structure PtpSessHid where
  /-- Delay_Req messages of the TB0 second they are counted in (R354) -/
  dreqSec : Nat := 0
  dreqs : Nat := 0
  /-- times CANCEL has been sent (R353) -/
  cancels : Nat := 0
  /-- the granted durations, s, of a client session's kinds (R355) -/
  durs : List Nat := [0, 0, 0]
  /-- kinds requested and not yet held, one bit each -/
  asked : Nat := 0
  /-- when a client last requested, and when CANCEL was last sent, ns on the model's own clock (R353, R355) -/
  askedAt : Nat := 0
  cancelAt : Nat := 0
  /-- the interval instants the latest Announce and Sync were due at, counted in intervals (R344) -/
  annK : Option Int := none
  syncK : Option Int := none
deriving DecidableEq, Repr

/-- A two-step frame on its way, and what its Follow_Up will carry (R348). -/
structure TwoStep where
  tag : Nat
  inst : Nat
  port : Nat
  dest : PtpDest
  unicast : Bool
  /-- messageType of the two-step message: 0 Sync, 3 Pdelay_Resp -/
  typ : Nat
  seq : Nat
  log : Int
  /-- correctionField of the request, and the requester's portIdentity -/
  corr : Int := 0
  reqId : List Byte := []
deriving DecidableEq, Repr

/-- The PTP processor as a whole. -/
structure PtpGHid where
  twoStep : List TwoStep := []
  /-- next sequence tag of a two-step frame -/
  tag : Nat := 0
deriving DecidableEq, Repr

/-- A host port's unlock state (R386, R387). -/
structure PortKs where
  /-- a challenge is held and not consumed, and when it was issued, ns on the model's own clock -/
  chal : Bool := false
  chalAt : Nat := 0
  /-- consecutive failures -/
  fails : Nat := 0
  /-- CHAL and UNLOCK are ignored for 60 s from an instant of that clock -/
  locked : Bool := false
  lockAt : Nat := 0
  /-- ms left of the Custodian duration; none without limit or as Observer -/
  leftMs : Option Nat := none
deriving DecidableEq, Repr

/-- The Working Key Register (R373). -/
structure Wkr where
  key : List Byte
  attr : Nat
deriving DecidableEq, Repr

/-- An Apgor store in progress (R380): the operations still to store as slot, ATTR and key (none to erase), the message's
counter and the command's TAG. -/
structure StoreHid where
  ops : List (Nat × Nat × Option (List Byte))
  counter : Nat
  tag : List Byte
  /-- its result record is dropped (R507) -/
  lost : Bool := false
deriving DecidableEq, Repr

/-- The key store: what no register holds. -/
structure KsHid where
  /-- the wrapped slot records in the key store's SRAM (R371), 64 bytes each -/
  sram : Map (List Byte) := []
  wkr : Option Wkr := none
  store : Option StoreHid := none
  /-- slots whose abandoned store the key store has yet to act on -/
  recheck : List Nat := []
  /-- per host port -/
  role : Map PortKs := []
deriving DecidableEq, Repr

/-- A change of the ownership latch that waits for the end of a PPS edge window (R406). -/
structure LatchChange where
  set : Bool
  /-- it follows a declaration of failure (R410) -/
  takeover : Bool
  /-- the state that goes with it -/
  state : Nat
deriving DecidableEq, Repr

/-- The pair's state that no register holds (R390 to R418). -/
structure PairHid where
  /-- the latest STATE frame of the mate: the global record and the eight time-base records, 448 bytes (R397) -/
  mate : Option (List Byte) := none
  /-- the tick whose state it holds, TB0 ns -/
  mateTick : Nat := 0
  /-- STATUS of the latest heartbeat (R394) -/
  status : Option Nat := none
  /-- lanes with block lock -/
  lock : List Bool := [false, false]
  /-- when each lane delivered its latest valid heartbeat, ns on the model's own clock (R391) -/
  heardAt : List (Option Nat) := [none, none]
  /-- from when heartbeats have been exchanged without a silence, on the same clock (R416) -/
  xchSince : Option Nat := none
  /-- when SUP logic last refreshed the ownership latch, on the same clock (R402) -/
  refreshAt : Nat := 0
  /-- when OWN_SENSE last changed what it counts as, on the same clock (R403, R407) -/
  senseAt : Nat := 0
  /-- when the image was applied, when a lane or the Causeway was first heard of, and when an override began, on the same
  clock (R408, R405) -/
  appliedAt : Nat := 0
  listenAt : Option Nat := none
  overAt : Nat := 0
  /-- whether the key fields differed at the latest tick, and since when, on the same clock (R417) -/
  kcvDiff : Bool := false
  kcvAt : Nat := 0
  /-- the fault state that the Causeway reports -/
  cwFault : Bool := false
  /-- SEQ of the latest frame sent of each type: HEARTBEAT, STATE, SESSION, SET -/
  txSeq : List Nat := [0, 0, 0, 0]
  /-- SEQ of the latest frame received of each type -/
  rxSeq : List (Option Nat) := [none, none, none, none]
  /-- latest heartbeats sent, newest first: SEQ and departure, 2^-16 ns of TB0 -/
  sent : List (Nat × Nat) := []
  /-- SEQ and arrival of the latest heartbeat received -/
  echo : Nat × Nat := (0, 0)
  /-- per lane: exchanges, newest first: offset x in 2^-16 ps, t2 and t3 in 2^-16 ns (R395) -/
  xch : Map (List (Int × Nat × Nat)) := []
  /-- M_TB0 of the latest tick that had one, 2^-16 ps -/
  mofs : Option Int := none
  /-- M_TB0 of the last 100 ticks that had one, newest first, with its mean instant, 2^-16 ns of TB0 (R416) -/
  mhist : List (Nat × Int) := []
  /-- TBn − TB0 at the previous tick, 2^-48 ns (R396) -/
  diffs : List Int := []
  /-- shadow table: per segment its mirror instant, TB0 ns, and its 4 096 bytes (R398) -/
  shadow : Map (Option (Nat × List Byte)) := []
  /-- ticks in a row with |M_TB0| at most 2 000 ps (R413), READY (R414), and PAIR_BCAND within the owner's bound (R414) -/
  okRun : Nat := 0
  readyRun : Nat := 0
  candRun : Nat := 0
  /-- HO sent, and the handover instant T, TB0 ns (R413) -/
  ho : Nat := 0
  hoT : Nat := 0
  /-- HO of the mate's latest heartbeat -/
  mateHo : Nat := 0
  /-- the latest T answered -/
  hoSeen : Option Nat := none
  /-- PAIR_CMD.HANDOVER waits for the next tick -/
  hoCmd : Bool := false
  /-- a latch change that waits (R406) -/
  deferred : Option LatchChange := none
  /-- a SET frame has been sent since the mate last had an unset time base (R416) -/
  setSent : Bool := false
deriving DecidableEq, Repr

/-- An output synthesizer's state that no register holds (R441). -/
structure OsynHid where
  /-- the word written for the next alignment epoch, 10.48 bits -/
  next : Option Nat := none
deriving DecidableEq, Repr

/-- A clock output's state that no register holds (R442, R444). -/
structure ClkOutHid where
  /-- the pin: 2 running, 1 high impedance, 0 low -/
  level : Nat := 1
  /-- an aligned output's divider runs, started at a whole second of TB0 -/
  started : Bool := false
deriving DecidableEq, Repr

/-- The clock generator's state that no register holds (R426 to R446). -/
structure ClkHid where
  /-- XO_IN has no edges, and its measured frequency is outside ±6 % (R433) -/
  edgesGone : Bool := false
  freqBad : Bool := false
  /-- the bands left to try in the running lock attempt with their CAPs, the one being tried first (R426, R427) -/
  attempt : List (Nat × Nat) := []
  /-- the VCO's capacitor code in use -/
  cap : Nat := 0
  /-- a band survey is due (R427) -/
  surveyDue : Bool := true
  /-- islands with a quiesce request (R439) -/
  quiesce : List Nat := []
  /-- instants of the model's own clock, ns: the present try's or the attempt's end (R426), from when XO_IN has been free
  of defect (R433), the latest lock (R434), and the latest change of source (R467) -/
  tryAt : Nat := 0
  xoGoodAt : Nat := 0
  lockAt : Nat := 0
  srcAt : Nat := 0
  /-- the RC oscillator has stopped (R433) -/
  rcStopped : Bool := false
  /-- instant of the latest SYNC_IN edge on TB0, less what the initial set moved it, 2^-16 ns (R443) -/
  lastSync : Option Int := none
  /-- time by the TIME clock since reset, each cycle at its nominal period, 2^-48 ns: the model's own measure of elapsed
  time -/
  mono : Nat := 0
  /-- AUXCLK outputs that run (R446) -/
  auxRun : BitVec 4 := 0#4
deriving DecidableEq, Repr

/-- What the records of a verified image hold (R461, R462, R547). -/
structure ImageHid where
  version : Nat := 0
  /-- build time, TAI s -/
  build : Nat := 0
  mode : Nat := 0
  len : Nat := 0
  /-- the REG pairs in order, with the byte offset of their record: offset, address, value -/
  pairs : List (Nat × Nat × Word) := []
  /-- MAJOR and MINOR of the servo and the tracking firmware -/
  srvVer : Nat := 0
  gnssVer : Nat := 0
  custKey : List Byte := []
  authKey : Option (List Byte) := none
deriving DecidableEq, Repr

/-- A host operation of the flash (R471) that runs. -/
structure FlOp where
  op : Nat
  /-- CFG_FL_ADDR; for ACTIVATE the directory copy's address -/
  addr : Nat
  /-- the buffer's 256 bytes at its start -/
  data : List Byte := []
deriving DecidableEq, Repr

/-- Start-up and configuration state that no register holds. -/
structure SysHid where
  /-- the level of RESET_N, true high -/
  resetN : Bool := false
  /-- the supply monitor holds the device in reset (R453, R528) -/
  supplyLow : Bool := false
  /-- the flash read its JEDEC ID at the last start (R463) -/
  jedec : Option Nat := none
  /-- the image that passed verification and waits to be applied (R463) -/
  image : Option ImageHid := none
  /-- the image has been applied (R466) -/
  applied : Bool := false
  /-- the configuration shadow: the register values of the image (R484) -/
  shadow : List (Nat × Word) := []
  /-- the host's flash operation that runs (R471) -/
  fl : Option FlOp := none
  /-- the bank that passed the latest CHECK (R471) -/
  chkBank : Nat := 0
  /-- the image's wake patterns (R272): 4 × port + index, 128 bytes and their byte mask -/
  wakePats : List (Nat × List Byte × List Byte) := []
  /-- the Custodian public key the image carries (R386), X then Y -/
  custKey : List Byte := []
deriving DecidableEq, Repr

/-- The device: everything but the queue of waiting commands. -/
structure Dev where
  /-- the registers of the address map, by byte address (R8); a register not listed holds its reset value -/
  regs : Map Word := []
  /-- what the latches of the host ports hold (R48), by the latched register's address -/
  latch : Map Word := []
  /-- counter of the free values used: the model's own field -/
  fresh : Nat := 0
  /-- what the device has sent to the outside, newest first: the model's own log -/
  out : List Out := []
  /-- per time base: what no register holds -/
  tb : Map TbHid := []
  /-- per event pin: what no register holds -/
  eio : Map EioHid := []
  /-- the recorder: what no register holds -/
  recd : RecHid := {}
  /-- the fault controller: what no register holds -/
  flt : FltHid := {}
  /-- the host interface: what no register holds -/
  hif : HifHid := {}
  /-- per DMA ring: what no register holds -/
  rings : Map RingHid := []
  /-- the packet engine: what no register holds -/
  pe : PeHid := {}
  /-- per port and class (8 n + k): the egress queue, oldest first -/
  egress : Map (List EgFrame) := []
  /-- per interpolator position: its pair of lines (ports receive 0-7, transmit 8-15, EIO 16-47, PPS_OUT 48-55, PPS_IN 56-59, ATOM_PPS 60, SYNC_IN 61) -/
  lines : Map LineHid := []
  /-- per PPS output: what no register holds -/
  pps : Map PpsHid := []
  /-- per port: the transmit timestamp queue (R89) -/
  txq : Map (List TxStamp) := []
  /-- per time base: its error bound, what no register holds -/
  eb : Map EbHid := []
  /-- per reference: what no register holds -/
  refs : Map RefHid := []
  /-- per reference and time base (8 r + n) -/
  rn : Map RnHid := []
  /-- per time base: the selector -/
  sel : Map SelHid := []
  /-- the atomic status UART -/
  atom : AtomHid := {}
  /-- per time base: the loop -/
  srv : Map SrvHid := []
  /-- per holdover model -/
  models : Map ModelHid := []
  /-- the predictor and the servo as a whole -/
  srvg : SrvGHid := {}
  /-- per tracking channel: what no register holds -/
  ch : Map ChHid := []
  /-- the GNSS baseband as a whole: what no register holds -/
  gnss : GnssHid := {}
  /-- per timing solution: what no register holds -/
  sols : Map SolHid := []
  /-- per port: what no register holds -/
  ports : Map PortHid := []
  /-- NTP and NTS service: what no register holds -/
  nts : NtsHid := {}
  /-- per PTP instance and port (8 i + p): what no register holds -/
  ptpp : Map PtpPortHid := []
  /-- per PTP instance: what no register holds -/
  ptpi : Map PtpInstHid := []
  /-- per unicast session: what its 64 bytes do not hold -/
  ptpx : Map PtpSessHid := []
  /-- the PTP processor as a whole -/
  ptpg : PtpGHid := {}
  /-- the key store: what no register holds -/
  ks : KsHid := {}
  /-- the pair: what no register holds -/
  pair : PairHid := {}
  /-- per output synthesizer: what no register holds -/
  osyn : Map OsynHid := []
  /-- per clock output: what no register holds -/
  clkOut : Map ClkOutHid := []
  /-- the clock generator: what no register holds -/
  clk : ClkHid := {}
  /-- start-up and configuration: what no register holds -/
  sys : SysHid := {}
  /-- the flash (R457, R458): bytes by address; a byte not listed is erased, 0xFF -/
  flash : Map Byte := []
deriving DecidableEq, Repr

/-- `tb` of one instance. -/
def Dev.tbAt (d : Dev) (k : Nat) : TbHid := Map.get d.tb (fun _ => {}) k
/-- Replace `tb` of one instance. -/
def Dev.setTb (d : Dev) (k : Nat) (x : TbHid) : Dev := { d with tb := Map.put d.tb (fun _ => {}) k x }
/-- `eio` of one instance. -/
def Dev.eioAt (d : Dev) (k : Nat) : EioHid := Map.get d.eio (fun _ => {}) k
/-- Replace `eio` of one instance. -/
def Dev.setEio (d : Dev) (k : Nat) (x : EioHid) : Dev := { d with eio := Map.put d.eio (fun _ => {}) k x }
/-- `rings` of one instance. -/
def Dev.ringsAt (d : Dev) (k : Nat) : RingHid := Map.get d.rings (fun _ => {}) k
/-- Replace `rings` of one instance. -/
def Dev.setRings (d : Dev) (k : Nat) (x : RingHid) : Dev := { d with rings := Map.put d.rings (fun _ => {}) k x }
/-- `egress` of one instance. -/
def Dev.egressAt (d : Dev) (k : Nat) : (List EgFrame) := Map.get d.egress (fun _ => []) k
/-- Replace `egress` of one instance. -/
def Dev.setEgress (d : Dev) (k : Nat) (x : (List EgFrame)) : Dev := { d with egress := Map.put d.egress (fun _ => []) k x }
/-- `lines` of one instance. -/
def Dev.linesAt (d : Dev) (k : Nat) : LineHid := Map.get d.lines (fun _ => {}) k
/-- Replace `lines` of one instance. -/
def Dev.setLines (d : Dev) (k : Nat) (x : LineHid) : Dev := { d with lines := Map.put d.lines (fun _ => {}) k x }
/-- `pps` of one instance. -/
def Dev.ppsAt (d : Dev) (k : Nat) : PpsHid := Map.get d.pps (fun _ => {}) k
/-- Replace `pps` of one instance. -/
def Dev.setPps (d : Dev) (k : Nat) (x : PpsHid) : Dev := { d with pps := Map.put d.pps (fun _ => {}) k x }
/-- `txq` of one instance. -/
def Dev.txqAt (d : Dev) (k : Nat) : (List TxStamp) := Map.get d.txq (fun _ => []) k
/-- Replace `txq` of one instance. -/
def Dev.setTxq (d : Dev) (k : Nat) (x : (List TxStamp)) : Dev := { d with txq := Map.put d.txq (fun _ => []) k x }
/-- `eb` of one instance. -/
def Dev.ebAt (d : Dev) (k : Nat) : EbHid := Map.get d.eb (fun _ => {}) k
/-- Replace `eb` of one instance. -/
def Dev.setEb (d : Dev) (k : Nat) (x : EbHid) : Dev := { d with eb := Map.put d.eb (fun _ => {}) k x }
/-- `refs` of one instance. -/
def Dev.refsAt (d : Dev) (k : Nat) : RefHid := Map.get d.refs (fun _ => {}) k
/-- Replace `refs` of one instance. -/
def Dev.setRefs (d : Dev) (k : Nat) (x : RefHid) : Dev := { d with refs := Map.put d.refs (fun _ => {}) k x }
/-- `rn` of one instance. -/
def Dev.rnAt (d : Dev) (k : Nat) : RnHid := Map.get d.rn (fun _ => {}) k
/-- Replace `rn` of one instance. -/
def Dev.setRn (d : Dev) (k : Nat) (x : RnHid) : Dev := { d with rn := Map.put d.rn (fun _ => {}) k x }
/-- `sel` of one instance. -/
def Dev.selAt (d : Dev) (k : Nat) : SelHid := Map.get d.sel (fun _ => {}) k
/-- Replace `sel` of one instance. -/
def Dev.setSel (d : Dev) (k : Nat) (x : SelHid) : Dev := { d with sel := Map.put d.sel (fun _ => {}) k x }
/-- `srv` of one instance. -/
def Dev.srvAt (d : Dev) (k : Nat) : SrvHid := Map.get d.srv (fun _ => {}) k
/-- Replace `srv` of one instance. -/
def Dev.setSrv (d : Dev) (k : Nat) (x : SrvHid) : Dev := { d with srv := Map.put d.srv (fun _ => {}) k x }
/-- `models` of one instance. -/
def Dev.modelsAt (d : Dev) (k : Nat) : ModelHid := Map.get d.models (fun _ => {}) k
/-- Replace `models` of one instance. -/
def Dev.setModels (d : Dev) (k : Nat) (x : ModelHid) : Dev := { d with models := Map.put d.models (fun _ => {}) k x }
/-- `ch` of one instance. -/
def Dev.chAt (d : Dev) (k : Nat) : ChHid := Map.get d.ch (fun _ => {}) k
/-- Replace `ch` of one instance. -/
def Dev.setCh (d : Dev) (k : Nat) (x : ChHid) : Dev := { d with ch := Map.put d.ch (fun _ => {}) k x }
/-- `sols` of one instance. -/
def Dev.solsAt (d : Dev) (k : Nat) : SolHid := Map.get d.sols (fun _ => {}) k
/-- Replace `sols` of one instance. -/
def Dev.setSols (d : Dev) (k : Nat) (x : SolHid) : Dev := { d with sols := Map.put d.sols (fun _ => {}) k x }
/-- `ports` of one instance. -/
def Dev.portsAt (d : Dev) (k : Nat) : PortHid := Map.get d.ports (fun _ => {}) k
/-- Replace `ports` of one instance. -/
def Dev.setPorts (d : Dev) (k : Nat) (x : PortHid) : Dev := { d with ports := Map.put d.ports (fun _ => {}) k x }
/-- `ptpp` of one instance. -/
def Dev.ptppAt (d : Dev) (k : Nat) : PtpPortHid := Map.get d.ptpp (fun _ => {}) k
/-- Replace `ptpp` of one instance. -/
def Dev.setPtpp (d : Dev) (k : Nat) (x : PtpPortHid) : Dev := { d with ptpp := Map.put d.ptpp (fun _ => {}) k x }
/-- `ptpi` of one instance. -/
def Dev.ptpiAt (d : Dev) (k : Nat) : PtpInstHid := Map.get d.ptpi (fun _ => {}) k
/-- Replace `ptpi` of one instance. -/
def Dev.setPtpi (d : Dev) (k : Nat) (x : PtpInstHid) : Dev := { d with ptpi := Map.put d.ptpi (fun _ => {}) k x }
/-- `ptpx` of one instance. -/
def Dev.ptpxAt (d : Dev) (k : Nat) : PtpSessHid := Map.get d.ptpx (fun _ => {}) k
/-- Replace `ptpx` of one instance. -/
def Dev.setPtpx (d : Dev) (k : Nat) (x : PtpSessHid) : Dev := { d with ptpx := Map.put d.ptpx (fun _ => {}) k x }
/-- `osyn` of one instance. -/
def Dev.osynAt (d : Dev) (k : Nat) : OsynHid := Map.get d.osyn (fun _ => {}) k
/-- Replace `osyn` of one instance. -/
def Dev.setOsyn (d : Dev) (k : Nat) (x : OsynHid) : Dev := { d with osyn := Map.put d.osyn (fun _ => {}) k x }
/-- `clkOut` of one instance. -/
def Dev.clkOutAt (d : Dev) (k : Nat) : ClkOutHid := Map.get d.clkOut (fun _ => {}) k
/-- Replace `clkOut` of one instance. -/
def Dev.setClkOut (d : Dev) (k : Nat) (x : ClkOutHid) : Dev := { d with clkOut := Map.put d.clkOut (fun _ => {}) k x }

/-- The state: the device and the queue of waiting commands, first in, first out. -/
structure State where
  dev : Dev := {}
  pending : List Instr := []
deriving DecidableEq, Repr

/-- Reasons a step stops with a fault: none. Every command of the table has an effect or no effect by the spec. -/
inductive Fault
deriving DecidableEq, Repr

/-- Reasons a step is refused. -/
inductive Refusal
  /-- A command whose meaning is not written yet, rejected by name by its arm of `exec`: safe. -/
  | notModelled (mnemonic : String)
deriving DecidableEq, Repr

/-- The device right after reset with an empty queue (R453): every register at the reset value of its table. -/
def State.reset : State := {}

/-- A meaning's outcome: the command's effect on everything but the queue. -/
abbrev Result := Host.Outcome State Fault Refusal

/-- The next state in which the device has changed and the queue has not. -/
def State.on (s : State) (f : Dev → Dev) : Result := .next { s with dev := f s.dev }

end Sys2Proof.Machine
end

