-- ==== Sys2Proof/Machine/Regs.lean ====
section
/-! DEFINITION. Reading and writing registers: the one place every register access of the model goes through, with
bit fields, saturating and wrapping counters, and 64-bit register pairs. A register of the SPI port's own copy
(R523: registers marked per port) lies at the register's address plus 0x1000000. -/
namespace Sys2Proof.Machine

/-- The register word at an address. -/
def Dev.rd (d : Dev) (a : Nat) : Word := Map.get d.regs resetWord a

/-- Write a whole register word. -/
def Dev.wr (d : Dev) (a : Nat) (v : Word) : Dev := { d with regs := Map.put d.regs resetWord a v }

/-- Bits [hi:lo] of a word, as a number. -/
def wfld (w : Word) (hi lo : Nat) : Nat := w.toNat / 2 ^ lo % 2 ^ (hi + 1 - lo)

/-- The word with bits [hi:lo] replaced by a number (taken modulo the field's width). -/
def setWfld (w : Word) (hi lo v : Nat) : Word :=
  BitVec.ofNat 32 (w.toNat % 2 ^ lo + v % 2 ^ (hi + 1 - lo) * 2 ^ lo + w.toNat / 2 ^ (hi + 1) * 2 ^ (hi + 1))

/-- Bit i of a word. -/
def wbit (w : Word) (i : Nat) : Bool := w.getLsbD i

/-- The word with bit i set or cleared. -/
def setWbit (w : Word) (i : Nat) (b : Bool) : Word :=
  if b then w ||| BitVec.twoPow 32 i else w &&& ~~~ BitVec.twoPow 32 i

/-- Bits [hi:lo] of a register. -/
def Dev.fld (d : Dev) (a hi lo : Nat) : Nat := wfld (d.rd a) hi lo
/-- Replace bits [hi:lo] of a register. -/
def Dev.setFld (d : Dev) (a hi lo v : Nat) : Dev := d.wr a (setWfld (d.rd a) hi lo v)
/-- Bit i of a register. -/
def Dev.bit (d : Dev) (a i : Nat) : Bool := wbit (d.rd a) i
/-- Set or clear bit i of a register. -/
def Dev.setBit (d : Dev) (a i : Nat) (b : Bool) : Dev := d.wr a (setWbit (d.rd a) i b)
/-- A register as a number. -/
def Dev.nat (d : Dev) (a : Nat) : Nat := (d.rd a).toNat
/-- A register as a signed number. -/
def Dev.int (d : Dev) (a : Nat) : Int := (d.rd a).toInt
/-- Write a number, modulo 2^32. -/
def Dev.wrNat (d : Dev) (a v : Nat) : Dev := d.wr a (BitVec.ofNat 32 v)
/-- Write a signed number, modulo 2^32. -/
def Dev.wrInt (d : Dev) (a : Nat) (v : Int) : Dev := d.wr a (BitVec.ofInt 32 v)

/-- The sum of a counter and a number of events, stopping at all ones. -/
def satAdd (w : Word) (k : Nat) : Word := BitVec.ofNat 32 (min (w.toNat + k) 0xFFFFFFFF)

/-- Add to a saturating counter register. -/
def Dev.bumpBy (d : Dev) (a k : Nat) : Dev := d.wr a (satAdd (d.rd a) k)
/-- Count one event in a saturating counter register. -/
def Dev.bump (d : Dev) (a : Nat) : Dev := d.bumpBy a 1
/-- Count one event in a wrapping counter register. -/
def Dev.bumpWrap (d : Dev) (a : Nat) : Dev := d.wr a (d.rd a + 1)
/-- Keep the larger of a register and a number. -/
def Dev.maxReg (d : Dev) (a v : Nat) : Dev := if d.nat a < v then d.wrNat a v else d

/-- A 64-bit value held in two registers, low half first. -/
def Dev.nat64 (d : Dev) (lo hi : Nat) : Nat := d.nat lo + d.nat hi * 2 ^ 32
/-- Write a 64-bit value into two registers. -/
def Dev.wrNat64 (d : Dev) (lo hi v : Nat) : Dev := (d.wrNat lo v).wrNat hi (v / 2 ^ 32)
/-- A signed 64-bit value held in two registers. -/
def Dev.int64 (d : Dev) (lo hi : Nat) : Int := (BitVec.ofNat 64 (d.nat64 lo hi)).toInt
/-- Write a signed 64-bit value, modulo 2^64, into two registers. -/
def Dev.wrInt64 (d : Dev) (lo hi : Nat) (v : Int) : Dev := d.wrNat64 lo hi (BitVec.ofInt 64 v).toNat
/-- Count one event in a 64-bit wrapping counter. -/
def Dev.bump64 (d : Dev) (lo hi : Nat) : Dev := d.wrNat64 lo hi (d.nat64 lo hi + 1)
/-- Add to a 64-bit wrapping counter. -/
def Dev.bump64By (d : Dev) (lo hi k : Nat) : Dev := d.wrNat64 lo hi (d.nat64 lo hi + k)

/-- The value an n-bit two's-complement field holds. -/
def signed (n v : Nat) : Int := if v % 2 ^ n < 2 ^ (n - 1) then (v % 2 ^ n : Nat) else (v % 2 ^ n : Nat) - (2 ^ n : Nat)

/-- A signed number limited to a two's-complement range. -/
def satInt (n : Nat) (v : Int) : Int := max (-(2 ^ (n - 1) : Nat)) (min ((2 ^ (n - 1) : Nat) - 1) v)

/-- The address of a register, or of a host port's own copy of it. -/
def pAddr (p : Port) (a : Nat) : Nat := match p with
  | .pcie => a
  | .spi => a + 0x1000000

/-- The latched copy of a register that a host port's latch holds (R48). -/
def Dev.latched (d : Dev) (p : Port) (a : Nat) : Word := Map.get d.latch resetWord (pAddr p a)
/-- Load a host port's latch of some registers with their present values. -/
def Dev.latchRegs (d : Dev) (p : Port) (as : List Nat) : Dev :=
  { d with latch := as.foldl (fun m a => Map.put m resetWord (pAddr p a) (d.rd a)) d.latch }
/-- Load one entry of a host port's latch with a given word. -/
def Dev.latchWord (d : Dev) (p : Port) (a : Nat) (v : Word) : Dev :=
  { d with latch := Map.put d.latch resetWord (pAddr p a) v }

/-- Append to the model's log of what the device sends to the outside. -/
def Dev.emit (d : Dev) (o : Out) : Dev := { d with out := o :: d.out }
/-- Append several outputs, the first one first. -/
def Dev.emits (d : Dev) (os : List Out) : Dev := os.foldl Dev.emit d

/-- Run an update for each index below n, in rising order. -/
def forRange (n : Nat) (f : Nat → Dev → Dev) (d : Dev) : Dev := (List.range n).foldl (fun d i => f i d) d

/-- n bytes of a number, most significant first. -/
def be : Nat → Nat → List Byte
  | 0, _ => []
  | n + 1, v => BitVec.ofNat 8 (v / 256 ^ n) :: be n v
/-- n bytes of a number, least significant first. -/
def le : Nat → Nat → List Byte
  | 0, _ => []
  | n + 1, v => BitVec.ofNat 8 v :: le n (v / 256)
/-- n bytes of a signed number in two's complement, most significant first. -/
def beInt (n : Nat) (v : Int) : List Byte := be n (v % (256 ^ n : Nat)).toNat
/-- The number that bytes spell, most significant first. -/
def ofBe (bs : List Byte) : Nat := bs.foldl (fun a b => a * 256 + b.toNat) 0
/-- The number that bytes spell, least significant first. -/
def ofLe (bs : List Byte) : Nat := bs.foldr (fun b a => b.toNat + 256 * a) 0
/-- Bytes [i, i+n) of a list. -/
def slice (bs : List Byte) (i n : Nat) : List Byte := (bs.drop i).take n
/-- The big-endian number in bytes [i, i+n). -/
def beAt (bs : List Byte) (i n : Nat) : Nat := ofBe (slice bs i n)
/-- The little-endian number in bytes [i, i+n). -/
def leAt (bs : List Byte) (i n : Nat) : Nat := ofLe (slice bs i n)
/-- Zero bytes. -/
def zeros (n : Nat) : List Byte := List.replicate n 0
/-- Pad with zeros to a multiple of n. -/
def padTo (n : Nat) (bs : List Byte) : List Byte := bs ++ zeros ((n - bs.length % n) % n)
/-- Replace bytes from offset i on. -/
def patch (bs : List Byte) (i : Nat) (x : List Byte) : List Byte :=
  bs.take i ++ x ++ bs.drop (i + x.length)
/-- 1 for true. -/
def b2n (b : Bool) : Nat := if b then 1 else 0

/-- One step of the bit-serial CRC-32 of IEEE 802.3 (reflected polynomial 0xEDB88320). -/
def crcBit (c : Nat) : Nat := if c % 2 = 1 then c / 2 ^^^ 0xEDB88320 else c / 2
/-- Take one byte into the CRC-32. -/
def crcByte (c : Nat) (b : Byte) : Nat :=
  crcBit (crcBit (crcBit (crcBit (crcBit (crcBit (crcBit (crcBit (c ^^^ b.toNat))))))))
/-- The CRC-32 of IEEE 802.3 over bytes. PRESUMED (log 4): the spec says CRC-32 and names no polynomial for its records. -/
def crc32 (bs : List Byte) : Nat := bs.foldl crcByte 0xFFFFFFFF ^^^ 0xFFFFFFFF

end Sys2Proof.Machine
end

