-- ==== Sys2Proof/Machine/Crypto.lean ====
section
/-! DEFINITION. The cryptographic functions the spec names, from their standards: AES (FIPS 197), CMAC and AES-SIV
(RFC 5297), GCM and GMAC (SP 800-38D), AES-KW (RFC 3394), SHA-256 and SHA-384 (FIPS 180-4), HMAC, and ECDSA P-384
verification. Bytes are numbers below 256 inside, byte lists outside. -/
namespace Sys2Proof.Machine

/-- Bytes as numbers. -/
def nums (bs : List Byte) : List Nat := bs.map BitVec.toNat
/-- Numbers as bytes. -/
def bytesOf (ns : List Nat) : List Byte := ns.map (BitVec.ofNat 8)
/-- Bitwise exclusive or of two byte lists, as long as the shorter. -/
def xorB (a b : List Byte) : List Byte := List.zipWith (· ^^^ ·) a b

/-! ### AES -/

/-- Multiplication by x in GF(2^8). -/
def xtime (a : Nat) : Nat := if a < 128 then 2 * a else (2 * a) % 256 ^^^ 0x1B
/-- Product in GF(2^8). -/
def gmul (a b : Nat) : Nat :=
  ((List.range 8).foldl (fun (s : Nat × Nat) i => (if b.testBit i then s.1 ^^^ s.2 else s.1, xtime s.2)) (0, a)).1
/-- Inverse in GF(2^8): the 254th power. -/
def ginv (a : Nat) : Nat := (List.range 253).foldl (fun x _ => gmul x a) a
/-- Rotate a byte left. -/
def rotl8 (a k : Nat) : Nat := (a * 2 ^ k) % 256 + a / 2 ^ (8 - k)
/-- The S-box. -/
def sbox (a : Nat) : Nat :=
  let b := ginv a
  b ^^^ rotl8 b 1 ^^^ rotl8 b 2 ^^^ rotl8 b 3 ^^^ rotl8 b 4 ^^^ 0x63
/-- The inverse S-box. -/
def invSbox (a : Nat) : Nat :=
  let b := rotl8 a 1 ^^^ rotl8 a 3 ^^^ rotl8 a 6 ^^^ 0x05
  ginv b

/-- Extend the key schedule, newest word first: nk words of key, i the index of the next word. -/
def aesExpand (nk : Nat) : Nat → Nat → Nat → List (List Nat) → List (List Nat)
  | 0, _, _, ws => ws
  | fuel + 1, i, rc, ws =>
    let t := ws.headD []
    let (t, rc) :=
      if i % nk = 0 then
        ((List.zipWith (· ^^^ ·) ((t.drop 1 ++ t.take 1).map sbox) [rc, 0, 0, 0]), xtime rc)
      else if 6 < nk ∧ i % nk = 4 then (t.map sbox, rc)
      else (t, rc)
    aesExpand nk fuel (i + 1) rc (List.zipWith (· ^^^ ·) (ws.getD (nk - 1) []) t :: ws)

/-- Rounds for a key of 16 or 32 bytes. -/
def aesRounds (key : List Byte) : Nat := key.length / 4 + 6

/-- The round keys, 16 numbers each. -/
def aesKeys (key : List Byte) : List (List Nat) :=
  let nk := key.length / 4
  let ws := (List.range nk).map (fun i => nums (slice key (4 * i) 4))
  let n := 4 * (aesRounds key + 1)
  let all := (aesExpand nk (n - nk) nk 1 ws.reverse).reverse
  (List.range (aesRounds key + 1)).map (fun r => ((all.drop (4 * r)).take 4).flatten)

/-- ShiftRows on 16 numbers in column order. -/
def shiftRows (s : List Nat) : List Nat := (List.range 16).map (fun i => s.getD ((i + 4 * (i % 4)) % 16) 0)
/-- The inverse of ShiftRows. -/
def invShiftRows (s : List Nat) : List Nat := (List.range 16).map (fun i => s.getD ((i + 12 * (i % 4)) % 16) 0)
/-- Multiply each column by a circulant matrix whose first row is given. -/
def mixWith (m : List Nat) (s : List Nat) : List Nat :=
  (List.range 16).map (fun i => (List.range 4).foldl (fun x j =>
    x ^^^ gmul (m.getD ((j + 4 - i % 4) % 4) 0) (s.getD (i / 4 * 4 + j) 0)) 0)

/-- AES encryption of one block under a 128- or 256-bit key. -/
def aesEnc (key blk : List Byte) : List Byte :=
  let ks := aesKeys key
  let s := List.zipWith (· ^^^ ·) (nums blk) (ks.headD [])
  let n := aesRounds key
  let s := (List.range (n - 1)).foldl (fun s r =>
    List.zipWith (· ^^^ ·) (mixWith [2, 3, 1, 1] (shiftRows (s.map sbox))) (ks.getD (r + 1) [])) s
  bytesOf (List.zipWith (· ^^^ ·) (shiftRows (s.map sbox)) (ks.getD n []))

/-- AES decryption of one block. -/
def aesDec (key blk : List Byte) : List Byte :=
  let ks := aesKeys key
  let n := aesRounds key
  let s := List.zipWith (· ^^^ ·) (nums blk) (ks.getD n [])
  let s := (List.range (n - 1)).foldl (fun s r =>
    mixWith [14, 11, 13, 9] (List.zipWith (· ^^^ ·) ((invShiftRows s).map invSbox) (ks.getD (n - 1 - r) []))) s
  bytesOf (List.zipWith (· ^^^ ·) ((invShiftRows s).map invSbox) (ks.headD []))

/-! ### CMAC, S2V, SIV -/

/-- Doubling in GF(2^128) as CMAC defines it. -/
def dbl (b : List Byte) : List Byte :=
  let v := ofBe b
  be 16 (if v < 2 ^ 127 then 2 * v else (2 * v) % 2 ^ 128 ^^^ 0x87)

/-- Split into blocks of 16 bytes; the last may be shorter. -/
def blocks16 : Nat → List Byte → List (List Byte)
  | 0, _ => []
  | n + 1, bs => if bs.length ≤ 16 then [bs] else bs.take 16 :: blocks16 n (bs.drop 16)
/-- The blocks of a byte string, at least one. -/
def blocksOf (bs : List Byte) : List (List Byte) := blocks16 (bs.length + 1) bs

/-- AES-CMAC. -/
def cmac (key msg : List Byte) : List Byte :=
  let k1 := dbl (aesEnc key (zeros 16))
  let bl := blocksOf msg
  let last := bl.getLastD []
  let fin := if last.length = 16 then xorB last k1 else xorB (last ++ [0x80] ++ zeros (15 - last.length)) (dbl k1)
  aesEnc key (xorB ((bl.dropLast).foldl (fun x b => aesEnc key (xorB x b)) (zeros 16)) fin)

/-- S2V of RFC 5297 over associated strings and a plaintext. -/
def s2v (key : List Byte) (ad : List (List Byte)) (pt : List Byte) : List Byte :=
  let d := ad.foldl (fun d a => xorB (dbl d) (cmac key a)) (cmac key (zeros 16))
  if 16 ≤ pt.length then
    let n := pt.length - 16
    cmac key (pt.take n ++ xorB (pt.drop n) d)
  else cmac key (xorB (dbl d) (pt ++ [0x80] ++ zeros (15 - pt.length)))

/-- The CTR keystream applied to bytes, from an initial counter block. -/
def ctr (key iv data : List Byte) : List Byte :=
  let n := (data.length + 15) / 16
  xorB data ((List.range n).flatMap (fun i => aesEnc key (be 16 ((ofBe iv + i) % 2 ^ 128))))

/-- The counter block of SIV: two bits of the synthetic IV cleared. -/
def sivCtr (v : List Byte) : List Byte := bytesOf (List.zipWith (· &&& ·) (nums v)
  [255, 255, 255, 255, 255, 255, 255, 255, 0x7F, 255, 255, 255, 0x7F, 255, 255, 255])

/-- AES-SIV encryption under a 256-bit key: the synthetic IV and the ciphertext. -/
def sivSeal (key : List Byte) (ad : List (List Byte)) (pt : List Byte) : List Byte :=
  let v := s2v (key.take 16) ad pt
  v ++ ctr (key.drop 16) (sivCtr v) pt

/-- AES-SIV decryption: the plaintext when the synthetic IV is right. -/
def sivOpen (key : List Byte) (ad : List (List Byte)) (c : List Byte) : Option (List Byte) :=
  let pt := ctr (key.drop 16) (sivCtr (c.take 16)) (c.drop 16)
  if s2v (key.take 16) ad pt = c.take 16 then some pt else none

/-! ### GCM -/

/-- Product in GF(2^128) with GCM's bit order. -/
def ghMul (x y : Nat) : Nat :=
  ((List.range 128).foldl (fun (s : Nat × Nat) i =>
    (if x.testBit (127 - i) then s.1 ^^^ s.2 else s.1, if s.2 % 2 = 1 then s.2 / 2 ^^^ 0xE1 * 2 ^ 120 else s.2 / 2)) (0, y)).1

/-- GHASH over bytes padded to blocks. -/
def ghash (h : Nat) (bs : List Byte) : Nat :=
  (List.range ((bs.length + 15) / 16)).foldl (fun x i => ghMul (x ^^^ ofBe (slice (padTo 16 bs) (16 * i) 16)) h) 0

/-- The GCM tag. -/
def gcmTag (key iv aad c : List Byte) : List Byte :=
  let h := ofBe (aesEnc key (zeros 16))
  let s := ghash h (padTo 16 aad ++ padTo 16 c ++ be 8 (8 * aad.length) ++ be 8 (8 * c.length))
  xorB (be 16 s) (aesEnc key (iv ++ be 4 1))

/-- The counter blocks of GCM with a 96-bit IV. -/
def gcmCtr (key iv data : List Byte) : List Byte :=
  xorB data ((List.range ((data.length + 15) / 16)).flatMap (fun i => aesEnc key (iv ++ be 4 (i + 2))))

/-! ### AES key wrap -/

/-- The initial value of RFC 3394. -/
def kwIv : List Byte := List.replicate 8 0xA6
/-- 8-byte parts of a byte string. -/
def parts8 (bs : List Byte) : List (List Byte) := (List.range (bs.length / 8)).map (fun i => slice bs (8 * i) 8)

/-- RFC 3394 wrapping. -/
def kwWrap (kek pt : List Byte) : List Byte :=
  let n := pt.length / 8
  let (a, r) := (List.range (6 * n)).foldl (fun (s : List Byte × List (List Byte)) t =>
    let b := aesEnc kek (s.1 ++ s.2.getD (t % n) [])
    (xorB (b.take 8) (be 8 (t + 1)), s.2.set (t % n) (b.drop 8))) (kwIv, parts8 pt)
  a ++ r.flatten

/-- RFC 3394 unwrapping: the key data when the integrity value is right. -/
def kwUnwrap (kek c : List Byte) : Option (List Byte) :=
  let n := c.length / 8 - 1
  let (a, r) := (List.range (6 * n)).foldl (fun (s : List Byte × List (List Byte)) j =>
    let t := 6 * n - 1 - j
    let b := aesDec kek (xorB s.1 (be 8 (t + 1)) ++ s.2.getD (t % n) [])
    (b.take 8, s.2.set (t % n) (b.drop 8))) (c.take 8, parts8 (c.drop 8))
  if a = kwIv then some r.flatten else none

/-! ### SHA-2 -/

/-- The first primes below 410, of which SHA-2 uses 80. -/
def primes : List Nat :=
  (List.range 410).filter (fun n => decide (2 ≤ n) && (List.range n).all (fun k => decide (k < 2) || n % k != 0))

/-- The largest x of at most b bits with x^e ≤ v. -/
def iroot (e v : Nat) : Nat → Nat → Nat
  | 0, x => x
  | b + 1, x => iroot e v b (if (x + 2 ^ b) ^ e ≤ v then x + 2 ^ b else x)

/-- The first w bits of the fractional part of the e-th root of a number. -/
def rootFrac (e w p : Nat) : Nat := iroot e (p * 2 ^ (e * w)) (w + 6) 0 % 2 ^ w

/-- Rotate a w-bit word right. -/
def ror (w k x : Nat) : Nat := x / 2 ^ k + x % 2 ^ k * 2 ^ (w - k)

/-- The rotations of a SHA-2 of word size w: for Σ0, Σ1, σ0, σ1 (the last of each σ is a shift). -/
def shaRots (w : Nat) : List (Nat × Nat × Nat) :=
  if w = 32 then [(2, 13, 22), (6, 11, 25), (7, 18, 3), (17, 19, 10)] else [(28, 34, 39), (14, 18, 41), (1, 8, 7), (19, 61, 6)]
/-- Σ of a word. -/
def shaBig (w i x : Nat) : Nat :=
  let (a, b, c) := (shaRots w).getD i (0, 0, 0)
  ror w a x ^^^ ror w b x ^^^ ror w c x
/-- σ of a word. -/
def shaSmall (w i x : Nat) : Nat :=
  let (a, b, c) := (shaRots w).getD i (0, 0, 0)
  ror w a x ^^^ ror w b x ^^^ x / 2 ^ c

/-- The message schedule, newest word first. -/
def shaSched (w : Nat) : Nat → List Nat → List Nat
  | 0, ws => ws
  | n + 1, ws => shaSched w n ((shaSmall w 3 (ws.getD 1 0) + ws.getD 6 0 + shaSmall w 2 (ws.getD 14 0) + ws.getD 15 0) % 2 ^ w :: ws)

/-- One round over the eight working words. -/
def shaRound (w : Nat) (s : List Nat) (kw : Nat) : List Nat :=
  match s with
  | [a, b, c, d, e, f, g, h] =>
    let t1 := h + shaBig w 1 e + ((e &&& f) ^^^ ((2 ^ w - 1 - e) &&& g)) + kw
    let t2 := shaBig w 0 a + ((a &&& b) ^^^ (a &&& c) ^^^ (b &&& c))
    [(t1 + t2) % 2 ^ w, a, b, c, (d + t1) % 2 ^ w, e, f, g]
  | _ => s

/-- One block. -/
def shaBlock (w rounds : Nat) (hs : List Nat) (blk : List Byte) : List Nat :=
  let m := (List.range 16).map (fun i => beAt blk (w / 8 * i) (w / 8))
  let ws := (shaSched w (rounds - 16) m.reverse).reverse
  let ks := (primes.take rounds).map (rootFrac 3 w)
  let out := (List.zipWith (· + ·) ks ws).foldl (shaRound w) hs
  List.zipWith (fun a b => (a + b) % 2 ^ w) hs out

/-- Pad a message for blocks of b bytes. -/
def shaPad (b : Nat) (msg : List Byte) : List Byte :=
  let l := msg.length + 1 + b / 8
  msg ++ [0x80] ++ zeros ((b - l % b) % b) ++ be (b / 8) (8 * msg.length)

/-- A SHA-2 of word size w from initial words. -/
def sha2 (w rounds : Nat) (iv : List Nat) (msg : List Byte) : List Nat :=
  let p := shaPad (2 * w) msg
  (List.range (p.length / (2 * w))).foldl (fun hs i => shaBlock w rounds hs (slice p (2 * w * i) (2 * w))) iv

/-- SHA-256. -/
def sha256 (msg : List Byte) : List Byte := (sha2 32 64 ((primes.take 8).map (rootFrac 2 32)) msg).flatMap (be 4)
/-- SHA-384. -/
def sha384 (msg : List Byte) : List Byte :=
  ((sha2 64 80 (((primes.drop 8).take 8).map (rootFrac 2 64)) msg).take 6).flatMap (be 8)

/-- HMAC-SHA-256 with a key of at most 64 bytes. -/
def hmac256 (key msg : List Byte) : List Byte :=
  let k := key ++ zeros (64 - key.length)
  sha256 (k.map (· ^^^ 0x5C) ++ sha256 (k.map (· ^^^ 0x36) ++ msg))

/-! ### ECDSA P-384 -/

/-- The field prime. -/
def p384 : Nat := 2 ^ 384 - 2 ^ 128 - 2 ^ 96 + 2 ^ 32 - 1
/-- The group order. -/
def n384 : Nat := 0xFFFFFFFFFFFFFFFFFFFFFFFFFFFFFFFFFFFFFFFFFFFFFFFFC7634D81F4372DDF581A0DB248B0A77AECEC196ACCC52973
/-- The curve's coefficient b. -/
def b384 : Nat := 0xB3312FA7E23EE7E4988E056BE3F82D19181D9C6EFE8141120314088F5013875AC656398D8A2ED19D2A85C8EDD3EC2AEF
/-- The base point. -/
def g384 : Nat × Nat :=
  (0xAA87CA22BE8B05378EB1C71EF320AD746E1D3B628BA79B9859F741E082542A385502F25DBF55296C3A545E3872760AB7,
   0x3617DE4A96262C6F5D9E98BF9292DC29F8F41DBD289A147CE9DA3113B5F0B8C00A60B1CE1D7E819D7A431D7C90EA0E5F)

/-- x^e modulo m, over the low k bits of e. -/
def powMod (m x e : Nat) : Nat → Nat
  | 0 => 1 % m
  | k + 1 => let r := powMod m x (e / 2) k
    if e % 2 = 1 then r * r % m * x % m else r * r % m

/-- The inverse modulo a prime of 384 bits. -/
def invMod (m x : Nat) : Nat := powMod m (x % m) (m - 2) 384

/-- Sum of two points; none is the point at infinity. -/
def ecAdd : Option (Nat × Nat) → Option (Nat × Nat) → Option (Nat × Nat)
  | none, q => q
  | p, none => p
  | some (x1, y1), some (x2, y2) =>
    if x1 = x2 ∧ (y1 + y2) % p384 = 0 then none
    else
      let l := if x1 = x2 then (3 * x1 * x1 + p384 * 3 - 3) * invMod p384 (2 * y1) % p384
        else (y2 + p384 - y1) * invMod p384 (x2 + p384 - x1) % p384
      let x3 := (l * l + 2 * p384 - x1 - x2) % p384
      some (x3, (l * (x1 + p384 - x3) + p384 - y1) % p384)

/-- A multiple of a point, over the low k bits of the factor. -/
def ecMul (q : Nat × Nat) : Nat → Nat → Option (Nat × Nat)
  | 0, _ => none
  | k + 1, e =>
    let r := ecMul q k (e / 2)
    let r := ecAdd r r
    if e % 2 = 1 then ecAdd r (some q) else r

/-- A 96-byte public key is a point of the curve. -/
def onCurve (x y : Nat) : Bool :=
  decide (x < p384) && decide (y < p384) && (y * y) % p384 == (x * x * x + (p384 - 3) * x + b384) % p384

/-- ECDSA P-384 verification with SHA-384: a public key (X then Y) and a signature (r then s) of 96 bytes each. -/
def ecdsaOk (pub msg sig : List Byte) : Bool :=
  let (x, y) := (beAt pub 0 48, beAt pub 48 48)
  let (r, s) := (beAt sig 0 48, beAt sig 48 48)
  let w := invMod n384 s
  let z := ofBe (sha384 msg)
  onCurve x y && decide (0 < r) && decide (r < n384) && decide (0 < s) && decide (s < n384) &&
  (match ecAdd (ecMul g384 384 (z * w % n384)) (ecMul (x, y) 384 (r * w % n384)) with
   | some (px, _) => px % n384 == r
   | none => false)

end Sys2Proof.Machine
end

