-- ==== Sys2Proof/Config.lean ====
section
/-! DEFINITION. What an implementation fixes and the spec leaves open: opaque constants without a body, so that no proof
can see a value of them. -/
namespace Sys2Proof

/-- The values the spec leaves open, one per use (log 5). -/
opaque Config.freeWord : Nat → Word

/-- What the servo firmware's π has past the 31st decimal, units of 10^-37; the spec states no precision (R160). -/
opaque Config.piTail : Fin 1000000

/-- π of R160 and R163 to 31 decimals, and a free tail. -/
def Config.pi : Rat := ((31415926535897932384626433832795 * 1000000 + Config.piTail.val : Nat) : Rat) / ((10 : Nat) ^ 37 : Nat)

/-- Whether a value between two integers is rounded up where the spec states no rounding. -/
opaque Config.roundsUp : Rat → Bool

/-- An exact value as an integer field holds it where the spec states no rounding: itself where it is whole, else one of
its two neighbours, free. -/
def Config.shown (x : Rat) : Int := if x.den = 1 then x.num else if Config.roundsUp x then x.ceil else x.floor

/-- The receive and transmit latencies of a port and a port mode that the fuses hold, ps (R77). -/
opaque Config.rxFix : Nat → Nat → Word
opaque Config.txFix : Nat → Nat → Word

/-- The fused receive latency of a Strait lane, and the fused transmit latency of both, 2^-16 ns (R395). -/
opaque Config.straitRx : Nat → Nat
opaque Config.straitTx : Nat

/-- A chip of a signal's tracked component (0) or data component (1), with its secondary code: signal, PRN, component,
secondary chip index, primary chip index; true for −1. The codes are the systems' own, not the spec's (R197). -/
opaque Config.chip : Nat → Nat → Nat → Nat → Nat → Bool

/-- The carrier replica's two values at a phase in 2^-32 cycle, of which the spec states no amplitude (R198). -/
opaque Config.carrier : Nat → Int × Int

/-- The variance of a signal's code range, ps², and of its Doppler, ppt², at a C/N₀ in 0.1 dB-Hz, less 1 (R237, R238);
the spec states no formula. -/
opaque Config.codeNoise : Nat → Nat → Nat
opaque Config.doppNoise : Nat → Nat → Nat

/-- The threshold of the weighted residual test for a number of degrees of freedom, false-alarm probability 10^-5
(R239). -/
opaque Config.raimLimit : Nat → Rat

/-- The time since the previous fresh sample when there has been none (R160 states none), s. -/
opaque Config.firstDelta : Rat

/-- Byte j of what the ledger's extension holds for an initial set that brings no measurement (R113, R119), at a count of
TB0. -/
opaque Config.unmeasured : Nat → Nat → Byte

/-- The counter a prefix falls on in a row of the rate limiter's sketch, for a draw of the noise source (R327). -/
opaque Config.sketchIndex : Nat → Nat → List Byte → Nat

/-- The slot wrapping key and the tag key, derived from the fuse key by a function the spec does not give (R369): byte i
of each. -/
opaque Config.slotWrapKey : Nat → Byte
opaque Config.slotTagKey : Nat → Byte

/-- The static ECDH private key, derived from the fuse key by a function the spec does not give (R377). -/
opaque Config.staticPriv : Nat

end Sys2Proof
end

