-- ==== Sys2Proof/Machine/Lsq.lean ====
section
/-! DEFINITION. Exact arithmetic on rationals that several blocks share: rounding, square roots, and weighted least
squares by Gauss and Jordan. -/
namespace Sys2Proof.Machine

/-- Round to the nearest integer (the round() of R161 and R171); a tie goes up: DESIGN CHOICE (log 9). -/
def roundR (x : Rat) : Int := (x + 1 / 2).floor

/-- The square root of a rational as a whole number, rounded up; 0 for a negative one. -/
def sqrtUp (x : Rat) : Nat :=
  let n := x.ceil.toNat
  if n.sqrt * n.sqrt = n then n.sqrt else n.sqrt + 1

/-- An observation: its regressors, its value and its weight. -/
abbrev Obs := List Rat × Rat × Rat

/-- One step of Gauss and Jordan on column k; none where no pivot is left. -/
def pivotStep (rows : List (List Rat)) (k : Nat) : Option (List (List Rat)) :=
  let at_ (r : List Rat) : Rat := r.getD k 0
  match ((List.range rows.length).drop k).find? (fun j => decide (at_ (rows.getD j []) ≠ 0)) with
  | none => none
  | some j =>
    let p := (rows.getD j []).map (· / at_ (rows.getD j []))
    let rows := (rows.set j (rows.getD k [])).set k p
    some ((List.range rows.length).map (fun i =>
      let r := rows.getD i []
      if i = k then p else (r.zip p).map (fun q => q.1 - at_ r * q.2)))

/-- The weighted sum of a quantity over observations. -/
def obsSum (ps : List Obs) (f : List Rat → Rat → Rat) : Rat := (ps.map (fun p => p.2.2 * f p.1 p.2.1)).sum

/-- The weighted least-squares solution for k unknowns, with the diagonal of the inverse of the normal matrix; none
where the observations do not determine them. -/
def lsq (k : Nat) (ps : List Obs) : Option (List Rat × List Rat) :=
  let g (r : List Rat) (i : Nat) : Rat := r.getD i 0
  let rows := (List.range k).map (fun i =>
    (List.range k).map (fun j => obsSum ps (fun r _ => g r i * g r j)) ++ [obsSum ps (fun r x => g r i * x)] ++
      (List.range k).map (fun j => if i = j then (1 : Rat) else 0))
  match (List.range k).foldl (fun o i => o.bind (fun r => pivotStep r i)) (some rows) with
  | none => none
  | some r => some (r.map (g · k), (List.range k).map (fun i => g (r.getD i []) (k + 1 + i)))

/-- The value that a solution gives regressors. -/
def fitted (b r : List Rat) : Rat := ((r.zip b).map (fun p => p.1 * p.2)).sum

/-- The weighted sum of squared residuals of a solution. -/
def residual (ps : List Obs) (b : List Rat) : Rat := obsSum ps (fun r x => (x - fitted b r) * (x - fitted b r))

end Sys2Proof.Machine
end

