-- ==== Sys2Proof/Machine/Ops.lean ====
section
/-! DEFINITION. The shared operations: roles, the counts of time, interrupts, DMA rings, the event recorder, and the
occurrence of a fault source with its reaction. -/
namespace Sys2Proof.Machine

/-! ### Free values -/

/-- A free 32-bit value (an opaque constant applied to a counter that each use advances): nothing constrains it. -/
def Dev.freeWord (d : Dev) : Word × Dev := (Config.freeWord d.fresh, { d with fresh := d.fresh + 1 })

/-- n free bytes. -/
def Dev.freeBytes (d : Dev) (n : Nat) : List Byte × Dev :=
  ((List.range n).map (fun i => (Config.freeWord (d.fresh + i)).setWidth 8), { d with fresh := d.fresh + n })

/-- Write a signed number in a 32-bit register; a number outside the register's range has no stated value there and
leaves a free one. -/
def Dev.wrFit (d : Dev) (a : Nat) (v : Int) : Dev :=
  if -(2 ^ 31 : Int) ≤ v ∧ v < 2 ^ 31 then d.wrInt a v
  else
    let (w, d) := d.freeWord
    d.wr a w

/-! ### Roles and host writes -/

/-- The port holds the Custodian role (R10, R385): KS_ROLE of the port shows it. -/
def Dev.isCust (d : Dev) (p : Port) : Bool := d.bit (pAddr p R.KS_ROLE) 31

/-- An access of a port reaches the registers: on SPI while RESET_N is high (R517); on PCIe outside D3hot, and not
before the image is applied but for NOIMAGE and factory test mode (R506, R507). -/
def Dev.reaches (d : Dev) (p : Port) : Bool := match p with
  | .spi => d.sys.resetN && !d.sys.supplyLow
  | .pcie => !d.hif.d3hot && (d.sys.applied || d.fld R.SYS_STAT 3 0 == 15 || d.fld R.SYS_STAT 3 0 == 14)

/-- A write that R10, R9 or an IL code causes to be ignored counts in HIF_WRIGN of the writing port (R510). -/
def Dev.writeIgnored (d : Dev) (p : Port) : Dev := d.bump (pAddr p R.HIF_WRIGN)

/-- Perform a write that either role may make; before the image is applied it is ignored and counted (R517). -/
def Dev.asAny (d : Dev) (p : Port) (f : Dev → Dev) : Dev :=
  if !d.reaches p then d else if d.sys.applied then f d else d.writeIgnored p

/-- Perform a write as a Custodian, or ignore and count it for an Observer (R10). -/
def Dev.asCust (d : Dev) (p : Port) (f : Dev → Dev) : Dev :=
  if !d.reaches p then d else if d.isCust p then f d else d.writeIgnored p

/-- Perform a read with a side effect; before the image is applied a register outside SYS and CFG reads 0 without one
(R517). A read that PCIe refuses completes as Unsupported Request (R506, R507). -/
def Dev.asRead (d : Dev) (p : Port) (f : Dev → Dev) : Dev :=
  if !d.reaches p then (if p = .pcie then d.emit .unsupported else d)
  else if d.sys.applied then f d else d.emit (.readData p 0)

/-! ### Clock source and time -/

/-- The source of the clock tree: 0 root, 1 LO bypass, 2 RC bypass (CLK_STAT.SRC). -/
def Dev.clkSrc (d : Dev) : Nat := d.fld R.CLK_STAT 1 0

/-- 2^48 units are one nanosecond of a linear count. -/
def nsUnit : Nat := 2 ^ 48
/-- The model's own clock in whole ns: what it has run since the reset, whatever the time bases do (log 68). -/
def Dev.nowNs (d : Dev) : Nat := d.clk.mono / nsUnit
/-- One second of a linear count. -/
def secUnit : Nat := 1000000000 * 2 ^ 48

/-- The linear count of a time base, 2^-48 ns (R30). -/
def Dev.count (d : Dev) (n : Nat) : Nat := (d.tbAt n).count
/-- Whole seconds of a count. -/
def cSec (c : Nat) : Nat := c / secUnit
/-- Nanoseconds of a count. -/
def cNs (c : Nat) : Nat := c % secUnit / nsUnit
/-- The 16 exposed fractional bits of a count (R14). -/
def cFrac (c : Nat) : Nat := c % nsUnit / 2 ^ 32
/-- A count built from seconds, nanoseconds and a 16-bit fraction. -/
def mkCount (sec ns frac : Nat) : Nat := sec * secUnit + ns * nsUnit + frac * 2 ^ 32
/-- An instant in 2^-16 ns split as seconds, nanoseconds, fraction. -/
def sec16 (t : Nat) : Nat := t / (1000000000 * 2 ^ 16)
def ns16 (t : Nat) : Nat := t / 2 ^ 16 % 1000000000
def frac16 (t : Nat) : Nat := t % 2 ^ 16
/-- A count in units of 2^-16 ns. -/
def c16 (c : Nat) : Nat := c / 2 ^ 32

/-- The signed difference D of R50 in 2^-16 ns: a target's low 32 bits of seconds, nanoseconds and fraction against a
linear count. -/
def signedDiff (sec ns frac : Nat) (c : Nat) : Int :=
  let s := signed 32 ((sec % 2 ^ 32 + 2 ^ 32 - cSec c % 2 ^ 32) % 2 ^ 32)
  s * (1000000000 * 2 ^ 16) + ((ns : Int) - cNs c) * 2 ^ 16 + ((frac : Int) - cFrac c)

/-- A time base has been set (R41). -/
def Dev.isSet (d : Dev) (n : Nat) : Bool := d.bit (R.TBn_STAT n) 0

/-- This unit owns the outputs: always without pair operation (R390), else while its ownership latch is set. -/
def Dev.owns (d : Dev) : Bool := !d.bit R.PAIR_CFG 31 || d.bit R.PAIR_STATE 0

/-- The bound published at the last tick, ps; all ones is unbounded (R121). -/
def Dev.bound (d : Dev) (n : Nat) : Nat := d.nat64 (R.EBn_B_LO n) (R.EBn_B_HI n)

/-! ### Interrupts (R519 to R521) -/

/-- A vector's message: sent, or pending while the vector is masked (R521). -/
def Dev.msixSend (d : Dev) (v : Nat) : Dev :=
  if d.hif.msixMask.getLsbD v then { d with hif := { d.hif with msixPend := d.hif.msixPend ||| BitVec.twoPow 16 v } }
  else d.emit (.msix v)

/-- The sources the PCIe port delivers that are mapped to a vector (R521). -/
def Dev.delivered (d : Dev) (v : Nat) : List Nat :=
  (List.range 13).filter (fun s => wbit (d.rd R.HIF_ISTAT &&& d.rd R.HIF_IEN) s && d.fld (R.HIF_IVEC s) 3 0 == v)

/-- Send the messages of the vectors whose OR of delivered sources has risen between two states (R521). -/
def Dev.msixRises (before after : Dev) : Dev :=
  (List.range 16).foldl (fun d v => if (before.delivered v).isEmpty && !(after.delivered v).isEmpty then d.msixSend v else d) after

/-- An interrupt source's event sets its bit in HIF_ISTAT of both ports (R519). -/
def Dev.interrupt (d : Dev) (s : Nat) : Dev :=
  Dev.msixRises d ((d.setBit R.HIF_ISTAT s true).setBit (pAddr .spi R.HIF_ISTAT) s true)

/-- SPI_INT_N is driven low while the SPI port delivers an interrupt (R521). -/
def Dev.spiIntLow (d : Dev) : Bool := d.rd (pAddr .spi R.HIF_ISTAT) &&& d.rd (pAddr .spi R.HIF_IEN) != 0

/-! ### Performance counters (R497) -/

/-- Add to a 48-bit counter; a wrap sets its bit in PMC_WRAP. -/
def Dev.pmcAdd (d : Dev) (c k : Nat) : Dev :=
  let v := d.nat64 (R.PMCc_LO c) (R.PMCc_HI c) + k
  let d := d.wrNat64 (R.PMCc_LO c) (R.PMCc_HI c) (v % 2 ^ 48)
  if 2 ^ 48 ≤ v then d.setBit (R.PMC_WRAP (c / 32)) (c % 32) true else d

/-- A counter counts an event of an instance: EN set, its EVENT, and its INST or all instances (R497). -/
def pmcMatch (sel : Word) (ev : Nat) (inst : Option Nat) : Bool :=
  wbit sel 31 && wfld sel 15 0 == ev && (wfld sel 23 16 == 0xFF || match inst with
    | some i => wfld sel 23 16 == i
    | none => true)

/-- Count k events of an instance in every counter that selects them, while the counters run (R497). -/
def Dev.pmc (d : Dev) (ev : Nat) (inst : Option Nat) (k : Nat) : Dev :=
  if !d.bit R.PMC_STAT 0 || k == 0 then d
  else forRange 128 (fun c d => if pmcMatch (d.rd (R.PMCc_SEL c)) ev inst then d.pmcAdd c k else d) d

/-! ### DMA rings (R289 to R292) -/

/-- Bytes a record takes in staging. -/
def Staged.size (s : Staged) : Nat := 8 + s.body.length
/-- Bytes held in a ring's staging. -/
def RingHid.level (r : RingHid) : Nat := (r.staged.map Staged.size).sum

/-- A ring's staging has room for a record: the ring runs and 16 KiB are not exceeded (R279, R292). -/
def Dev.ringRoom (d : Dev) (k len : Nat) : Bool :=
  d.bit (R.PE_RINGk_CFG k) 31 && decide ((d.ringsAt k).level + 8 + len ≤ 16384)

/-- Count a record dropped at a ring (R291, R292), with the source's own counter where it has one. -/
def Dev.ringCount (d : Dev) (k : Nat) (ctr : Option Nat) : Dev :=
  let d := (d.bump (R.PE_RINGk_DROP k)).pmc 0x0605 (some k) 1
  let d := d.setRings k { d.ringsAt k with drops := (d.ringsAt k).drops + 1 }
  match ctr with
  | some a => d.bump a
  | none => d

/-- A record dropped for want of room or at its timeout sets its bit of STAT too (R291). -/
def Dev.ringDrop (d : Dev) (k bitNo : Nat) (ctr : Option Nat) : Dev :=
  (d.ringCount k ctr).setBit (R.PE_RINGk_STAT k) bitNo true

/-- Accept a record into a ring's staging. -/
def Dev.ringAccept (d : Dev) (k typ : Nat) (body : List Byte) (ctr : Option Nat) : Dev :=
  let r := d.ringsAt k
  d.setRings k { r with seq := (r.seq + 1) % 2 ^ 32, staged := r.staged ++ [⟨typ, r.seq, body, ctr, d.nowNs⟩] }

/-- A source without a FIFO of its own offers a record: accepted, or dropped and counted (R291). -/
def Dev.ringOffer (d : Dev) (k typ : Nat) (body : List Byte) (ctr : Option Nat) : Dev :=
  if d.ringRoom k body.length then d.ringAccept k typ body ctr
  else
    let r := d.ringsAt k
    (d.setRings k { r with seq := (r.seq + 1) % 2 ^ 32 }).ringDrop k 1 ctr

/-- A command's result record for ring 5; one of a command fetched before a reset of the host interface is dropped
(R297, R507). -/
def Dev.resultOffer (d : Dev) (lost : Bool) (body : List Byte) : Dev :=
  if lost then (d.setRings 5 { d.ringsAt 5 with seq := ((d.ringsAt 5).seq + 1) % 2 ^ 32 }).ringCount 5 none
  else d.ringOffer 5 0x0B body none

/-- The command at the front of the host command queue leaves it; the second component says that its result is lost. -/
def Dev.popCmd (d : Dev) : Dev × Bool :=
  ({ d with pe := { d.pe with hostCmds := d.pe.hostCmds.tail, lostResults := d.pe.lostResults - 1 } },
    decide (0 < d.pe.lostResults))

/-- Drop every staged record of a ring, counted (R292, R483). -/
def Dev.ringFlushStaging (d : Dev) (k : Nat) : Dev :=
  let r := d.ringsAt k
  r.staged.foldl (fun d s => d.ringCount k s.ctr) (d.setRings k { r with staged := [] })

/-! ### The event recorder (R489, R490, R494) -/

/-- A record of the recorder: its type, the originating block's address-map base [23:16], and its body. -/
structure Rec where
  typ : Nat
  blk : Nat
  body : List Byte
deriving DecidableEq, Repr

/-- The bytes of a record: header, body, zeros to a multiple of 8 (R490). -/
def Dev.recBytes (d : Dev) (r : Rec) (staged : Bool) : List Byte :=
  let c := d.count 0
  padTo 8 (be 2 r.typ ++ be 2 r.body.length ++ be 4 (d.nat R.REC_SEQ) ++ be 6 (cSec c) ++ be 4 (cNs c) ++
    be 1 (b2n (d.isSet 0) * 128 + d.clkSrc * 32 + b2n staged) ++ be 1 r.blk ++ be 4 (d.nat R.SYS_UPTIME) ++ r.body)

/-- Bytes of the newest n records. -/
def unflushedBytes (r : RecHid) : Nat :=
  ((r.held.drop (r.held.length - r.unflushed)).map (fun x => x.bytes.length)).sum

/-- Drop the oldest flushed records until at most 256 KiB are held. -/
def trimHeld : Nat → List RingRec → List RingRec
  | 0, l => l
  | n + 1, l => if 262144 < (l.map (fun x => x.bytes.length)).sum then trimHeld n l.tail else l

/-- Refresh the registers that show the ring's offsets and the staging level (R502). -/
def Dev.recShow (d : Dev) : Dev :=
  let r := d.recd
  let wr := d.nat R.REC_RING_WR
  let old := match r.held with
    | x :: _ => x.off
    | [] => wr
  let fl := match r.held.drop (r.held.length - r.unflushed) with
    | x :: _ => x.off
    | [] => wr
  ((d.wrNat R.REC_RING_OLD old).wrNat R.REC_RING_FL fl).wrNat R.REC_STG_LVL ((r.staged.map List.length).sum)

/-- Put a record's bytes into the ring if flushed space is there (R489): the new state and whether it fitted. -/
def Dev.recRing (d : Dev) (bytes : List Byte) : Dev × Bool :=
  if unflushedBytes d.recd + bytes.length ≤ 262144 then
    let off := d.nat R.REC_RING_WR
    let held := d.recd.held ++ [⟨off, bytes⟩]
    let d := { d with recd := { d.recd with held := trimHeld held.length held, unflushed := d.recd.unflushed + 1 } }
    ((d.wrNat R.REC_RING_WR ((off + bytes.length) % 262144)).recShow, true)
  else (d, false)

/-- With REC_CFG.DMA set an appended record is also offered to ring 2 (R496). -/
def Dev.recDma (d : Dev) (bytes : List Byte) : Dev :=
  if d.bit R.REC_CFG 0 then d.ringOffer 2 0x08 bytes none else d

/-- Append one record: to the ring, or to staging during a freeze; a record that finds no room is counted (R489, R494).
The second component says that the record was dropped. -/
def Dev.recAppend1 (d : Dev) (r : Rec) : Dev × Bool :=
  let frozen := d.bit R.REC_STAT 3
  let bytes := d.recBytes r frozen
  let d := d.bumpWrap R.REC_SEQ
  if frozen then
    if (d.recd.staged.map List.length).sum + bytes.length ≤ 16384 then
      (((({ d with recd := { d.recd with staged := d.recd.staged ++ [bytes] } }).recShow).recDma bytes).pmc 0x0B00 none 1, false)
    else
      (({ d with recd := { d.recd with lossStg := d.recd.lossStg + 1 } }.bump R.REC_STG_OVF).setBit R.REC_STAT 4 true, true)
  else
    match d.recRing bytes with
    | (d, true) => ((d.recDma bytes).pmc 0x0B00 none 1, false)
    | (d, false) => (({ d with recd := { d.recd with lossRing := d.recd.lossRing + 1 } }.bump R.REC_DROP).setBit R.REC_STAT 4 true, true)

/-- Append a record; the next record that fits after a loss is preceded by a LOSS record (R489). Nothing is appended
before the recorder runs (R492). The second component says that the record was dropped. -/
def Dev.recAppend (d : Dev) (r : Rec) : Dev × Bool :=
  if !d.bit R.REC_STAT 0 then (d, false)
  else if d.recd.lossRing + d.recd.lossStg = 0 then d.recAppend1 r
  else
    let room := if d.bit R.REC_STAT 3
      then decide ((d.recd.staged.map List.length).sum + 32 + 32 + r.body.length ≤ 16384)
      else decide (unflushedBytes d.recd + 32 + 32 + r.body.length ≤ 262144)
    if room then
      let loss : Rec := ⟨0x000A, 0x1F, be 4 d.recd.lossRing ++ be 4 d.recd.lossStg⟩
      let d := (d.recAppend1 loss).1
      ({ d with recd := { d.recd with lossRing := 0, lossStg := 0 } }).recAppend1 r
    else d.recAppend1 r

/-! ### Flushes and the flash controller (R483, R493) -/

/-- The slot whose store is abandoned is BAD at once; the NTS root key is then unusable (R381, R319). -/
def Dev.slotAbandon (d : Dev) (s : Nat) : Dev :=
  let d := { d with ks := { d.ks with sram := Map.put d.ks.sram (fun _ => []) s [], recheck := s :: d.ks.recheck } }
  let d := (d.wrNat (R.KS_SLOTs (s % 64)) (2 ^ 31)).setBit R.KS_STAT 2 true
  if s = d.fld R.NTS_CFG 13 8 then
    (({ d with nts := { d.nts with keys := [], deriving_ := [] } }).setBit R.NTS_STAT 3 true).setBit R.NTS_STAT 2 false
  else d

/-- The key store's store in progress is abandoned: the slot being stored is BAD, the counter is not advanced, and a
result with STATUS 18 goes to ring 5 (R381, R483). -/
def Dev.ksAbandon (d : Dev) : Dev :=
  match d.ks.store with
  | none => d
  | some st =>
    let d := ({ d with ks := { d.ks with store := none } }).setBit R.KS_STAT 4 false
    let d := match st.ops with
      | (s, _, _) :: _ => d.slotAbandon s
      | [] => d
    let d := ((d.bump R.KS_APGOR_REJ).recAppend ⟨0x0006, 0x1C, be 1 18 ++ zeros 3 ++ be 8 st.counter⟩).1
    (d.resultOffer st.lost ([0x08, 18, 0, 0] ++ st.tag ++ zeros 8)).bumpWrap R.PE_HOSTOPS

/-- The flash bytes that an interrupted host operation works on: base and length (R471, R472). -/
def FlOp.region (o : FlOp) : Nat × Nat :=
  match o.op with
  | 1 => (o.addr / 65536 * 65536, 65536)
  | 2 => (o.addr, 256)
  | 5 => (o.addr, 4096)
  | _ => (0, 0)

/-- A host operation that is cut off leaves no stated contents in the bytes it works on: free values. -/
def Dev.flTorn (d : Dev) : Dev := match d.sys.fl with
  | none => d
  | some o =>
    let (a, n) := o.region
    let (bs, d) := d.freeBytes n
    { d with
      flash := ((List.range n).zip bs).foldl (fun m p => Map.put m (fun _ => 0xFF) (a + p.1) p.2) d.flash
      sys := { d.sys with fl := none } }

/-- A flash operation of the configuration block in progress ends with result 4 (R472, R483). -/
def Dev.flAbandon (d : Dev) : Dev :=
  if d.sys.fl.isSome then (d.flTorn.setBit R.CFG_FL_STAT 31 false).setFld R.CFG_FL_STAT 2 0 4 else d

/-- A flush of all unflushed content starts: the recorder takes the flash controller at once (R493, R483). Reasons:
0 background, 1 fault, 2 PFW_N, 3 reset (R490). A background flush waits for the controller's other users. -/
def Dev.startFlush (d : Dev) (reason : Nat) : Dev :=
  if !d.bit R.REC_STAT 0 then d
  else if d.bit R.REC_STAT 2 ∧ reason = 0 then d
  else
    let d := if reason = 0 then d else d.ksAbandon.flAbandon
    ({ d with recd := { d.recd with flushReason := reason } }).setBit R.REC_STAT 2 true

/-! ### Fault sources (R477 to R482) -/

/-- FLT_SRCs_CFG.REACT; source 29 is STOPALIVE, fixed (R479, R480). -/
def Dev.react (d : Dev) (s : Nat) : Nat := if s = 29 then 5 else d.fld (R.FLT_SRCs_CFG s) 2 0

/-- The block-reset target of a source (R479). -/
def target? (s : Nat) : Option Target :=
  if 8 ≤ s ∧ s ≤ 11 then some (.servo (s - 8))
  else if s = 13 ∨ s = 40 then some .gnss
  else if s = 33 then some .tsu
  else if 36 ≤ s ∧ s ≤ 39 then some (.servo (s - 36))
  else if s = 41 then some .gacq
  else if 43 ≤ s ∧ s ≤ 50 then some (.mac (s - 43))
  else if 51 ≤ s ∧ s ≤ 55 then some .pe
  else if s = 56 then some .ks
  else if s = 57 then some .pair
  else if s = 58 then some .recorder
  else if s = 59 then some .pmc
  else if 72 ≤ s ∧ s ≤ 87 then some (.aes (s - 72))
  else if 88 ≤ s ∧ s ≤ 91 then some (.sha (s - 88))
  else none

/-- Address-map base [23:16] of the block a source belongs to (R479, R522). -/
def srcBlk (s : Nat) : Nat :=
  if s ≤ 2 then 0x01 else if s ≤ 4 then 0x08 else if s = 5 then 0x00 else if s = 6 then 0x04
  else if s = 7 then 0x05 else if s ≤ 12 then 0x08 else if s ≤ 19 then 0x09 else if s = 20 then 0x06
  else if s = 21 then 0x12 else if s = 22 then 0x13 else if s = 23 then 0x14 else if s = 24 then 0x1C
  else if s ≤ 26 then 0x1D else if s = 27 then 0x22 else if s = 28 then 0x00 else if s ≤ 30 then 0x1E
  else if s = 32 then 0x03 else if s = 33 then 0x04 else if s = 34 then 0x05 else if s = 35 then 0x07
  else if s ≤ 39 then 0x08 else if s = 40 then 0x09 else if s = 41 then 0x0B else if s ≤ 50 then 0x10
  else if s ≤ 53 then 0x12 else if s = 54 then 0x13 else if s = 55 then 0x14 else if s = 56 then 0x1C
  else if s = 57 then 0x1D else if s = 58 then 0x1F else if s = 59 then 0x20 else if s = 60 then 0x21
  else if s = 61 then 0x22 else if s ≤ 63 then 0x21 else if s ≤ 65 then 0x10 else if s ≤ 70 then 0x02
  else if s ≤ 91 then 0x12 else if s = 92 then 0x09 else if s = 93 then 0x1F else 0x1E

/-- FAULT_N is asserted during reset and NOIMAGE, during STOPALIVE, and while a source with FNEN set is pending
(R487). -/
def Dev.faultNAsserted (d : Dev) : Bool :=
  !d.sys.applied || d.bit R.FLT_STAT 3 ||
  (List.range 96).any (fun s => d.bit (R.FLT_SRCs_CFG s) 8 && d.bit (R.FLT_PEND (s / 32)) (s % 32))

/-- Show FAULT_N in FLT_STAT.FAULTN, and log a change of the pin. -/
def Dev.refreshFaultN (d : Dev) : Dev :=
  let b := d.faultNAsserted
  if d.bit R.FLT_STAT 0 = b then d else (d.setBit R.FLT_STAT 0 b).emit (.faultN b)

/-! ### The fault state and ownership (R401, R402) -/

/-- PFW_N is asserted. -/
def Dev.pfw (d : Dev) : Bool := d.bit R.SYS_STAT 5

/-- The unit is in a fault state (R401). -/
def Dev.faultCond (d : Dev) : Bool :=
  d.bit R.FLT_STAT 3 || d.bit R.FLT_STAT 2 || d.pfw || d.clkSrc == 2 || (d.clkSrc == 1 && d.bit R.PAIR_CFG 29)

/-- Show the pair state; a change interrupts (R407, R519). -/
def Dev.setPairState (d : Dev) (st : Nat) : Dev :=
  if d.fld R.PAIR_STATE 31 28 = st then d else (d.setFld R.PAIR_STATE 31 28 st).interrupt 10

/-- A clock output runs: enabled, its synthesizer locked, an aligned divider started at a whole second, and the outputs
owned where OWNGATE asks for it (R442, R444, R445). -/
def Dev.clkRuns (d : Dev) (j : Nat) : Bool :=
  let c := R.CLKOj_CFG j
  d.bit c 0 && d.bit (R.OSYNk_STAT (d.fld c 5 4)) 1 && (!d.bit c 3 || (d.clkOutAt j).started) && (!d.bit c 1 || d.owns)

/-- The pin of a clock output: 2 running, 1 high impedance, 0 low (R442, R454). -/
def Dev.clkLevel (d : Dev) (j : Nat) : Nat :=
  let c := R.CLKOj_CFG j
  if d.clkRuns j then 2 else if !d.sys.applied || d.bit c 6 || (d.bit c 1 && !d.owns) then 1 else 0

/-- Bring a clock output up to date: RUN and STOPPED, ALOCK, and the pin when it starts or stops (R442, R451). -/
def clkShow (j : Nat) (d : Dev) : Dev :=
  let run := d.clkRuns j
  let lv := d.clkLevel j
  let d := (d.setBit (R.CLKOj_STAT j) 0 run).setBit (R.CLKOj_STAT j) 1 (d.bit (R.CLKOj_CFG j) 0 && !run)
  let d := if run then d else d.setBit (R.CLKOj_ADLL j) 31 false
  if (d.clkOutAt j).level = lv then d else (d.setClkOut j { d.clkOutAt j with level := lv }).emit (.clkOut j lv (d.fld (R.CLKOj_DIV j) 23 0))

/-- An event pin takes a level or high impedance outside a pulse. -/
def Dev.eioPinTo (d : Dev) (n : Nat) (lv : Option Bool) : Dev :=
  if (d.eioAt n).pin = lv then d else (d.setEio n { d.eioAt n with pin := lv }).emit (.pin (.eio n) lv)
/-- A PPS output takes a level or high impedance outside a pulse. -/
def Dev.ppsPinTo (d : Dev) (m : Nat) (lv : Option Bool) : Dev :=
  if (d.ppsAt m).pin = lv then d else (d.setPps m { d.ppsAt m with pin := lv }).emit (.pin (.pps m) lv)

/-- A trigger's pin is driven: always without OWNGATE, else with ownership (R63). -/
def Dev.eioDrives (d : Dev) (n : Nat) : Bool := !d.bit (R.EIOn_CFG n) 11 || d.owns
/-- A PPS output is driven (R94), by the settings in effect. -/
def Dev.ppsDrives (d : Dev) (m : Nat) : Bool := !wbit (d.ppsAt m).cfg 8 || d.owns

/-- With ownership gone, a pin that is gated and has no pulse in progress stops driving at once; one with a pulse stops
when it ends (R63, R94). A new owner's pin starts to drive at its first leading edge. -/
def eioOwn (n : Nat) (d : Dev) : Dev :=
  if d.bit (R.EIOn_STAT n) 1 || d.eioDrives n then d else d.eioPinTo n none
def ppsOwn (m : Nat) (d : Dev) : Dev :=
  if d.bit (R.PPSm_STAT m) 1 || d.ppsDrives m then d else d.ppsPinTo m none

/-- Set or clear the ownership latch: OWN_OUT, the gated pins, and the PTP instances' OWN (R402, R63, R94, R346). -/
def Dev.setOwn (d : Dev) (b : Bool) : Dev :=
  if d.bit R.PAIR_STATE 0 = b then d
  else
    let d := forRange 12 clkShow ((d.setBit R.PAIR_STATE 0 b).emit (.ownOut (b2n b)))
    let d := forRange 8 ppsOwn (forRange 32 eioOwn d)
    forRange 8 (fun i d => d.setBit (R.PTPi_STAT i) 0 (b && d.bit (R.PTPi_CFG i) 31)) d

/-- A unit of a pair enters its fault state: it reports it, and an owner releases ownership at once; a unit that still
listens stays in INIT (R401, R400, R408). FLT_STAT.FAULTSTATE shows the fault state of any unit (R501). -/
def Dev.faultEnter (d : Dev) : Dev :=
  let d := d.setBit R.FLT_STAT 1 d.faultCond
  if !d.bit R.PAIR_CFG 31 || d.bit R.PAIR_STATE 11 || !d.faultCond then d
  else
    let d := { d with pair := { d.pair with deferred := none, ho := 0, hoCmd := false } }
    let d := (((d.setBit R.PAIR_STATE 11 true).emit (.causeway true)).setOwn false).setBit R.PAIR_STAT 9 false
    if d.fld R.PAIR_STATE 31 28 = 0 then d else d.setPairState 7

/-- STOPALIVE: ALIVE freezes, FAULT_N asserts, the recorder flushes, the unit enters its fault state (R478). -/
def Dev.stopAlive (d : Dev) : Dev :=
  let d := if d.flt.aliveFrozen then d else ({ d with flt := { d.flt with aliveFrozen := true } }).emit .aliveFrozen
  let d := d.setBit R.FLT_STAT 3 true
  let d := if d.flt.resetAfterFlush = some 3 then { d with flt := { d.flt with resetAfterFlush := none } } else d
  ((d.setBit R.FLT_STAT 2 false).faultEnter).startFlush 1

/-- CHIPRST: a flush, then a reset of cause 3; STOPALIVE prevails over it (R478, R481). -/
def Dev.chipRst (d : Dev) : Dev :=
  if d.bit R.FLT_STAT 3 then d
  else (({ d with flt := { d.flt with resetAfterFlush := d.flt.resetAfterFlush.or (some 3) } }).setBit R.FLT_STAT 2 true).faultEnter.startFlush 3

/-- The leases of a target are revoked (R483): the rings' staged records of the packet engine, the key store's flash
store, the recorder's flush. -/
def Dev.revoke (d : Dev) (t : Target) : Dev :=
  match t with
  | .pe => (List.range 6).foldl (fun d k => d.ringFlushStaging k) d
  | .ks => d.ksAbandon
  | .recorder => d.setBit R.REC_STAT 2 false
  | _ => d

/-- The islands of a block-reset target (R438). -/
def Target.islands : Target → List Nat
  | .servo c => [18 + c]
  | .gnss => [13, 14, 15, 16]
  | .gacq => [17]
  | .mac n => [n]
  | .aes p => [8 + p / 4]
  | .sha _ => [12]
  | .pair => [22]
  | _ => []

/-- Open an island's gate; a MAC island stays closed in Islet mode and with MODE 0 (R440). -/
def Dev.gateOpen (d : Dev) (i : Nat) : Dev :=
  let d := { d with clk := { d.clk with quiesce := d.clk.quiesce.filter (· != i) } }
  if i < 8 ∧ (d.bit (R.MACn_STAT i) 10 ∨ d.fld (R.MACn_CFG i) 3 0 = 0) then d else d.setBit R.CLK_GATE_OPEN i true

/-- A block reset of a target begins: its gates open and its leases are revoked (R484, steps 1 and 2). -/
def Dev.startBlkRst (d : Dev) (t : Target) : Dev :=
  let d := t.islands.foldl Dev.gateOpen d
  (({ d with flt := { d.flt with running := t :: d.flt.running } }).setBit R.FLT_STAT 4 true).revoke t

/-- Every servo core takes a non-maskable trap and writes one SRV_TRAP record of opaque firmware state (R478). -/
def Dev.nmiTraps (d : Dev) : Dev :=
  (List.range 4).foldl (fun d c =>
    let (bs, d) := (d.gateOpen (18 + c)).freeBytes 120
    (d.recAppend ⟨0x0008, 0x08, be 1 c ++ zeros 3 ++ bs⟩).1) d

/-- Block resets of a source within the last FLT_ESC.WIN seconds, the present one excluded (R482). -/
def Dev.recentResets (d : Dev) (s : Nat) : List Nat :=
  let now := d.nat R.SYS_UPTIME
  (Map.get d.flt.blkTimes (fun _ => []) s).filter (fun t => now < t + d.fld R.FLT_ESC 27 16 * 1000)

/-- The reaction an occurrence takes, and whether it is an escalation: the FLT_ESC.N-th block reset within the window
takes FLT_ESC.REACT instead (R482). -/
def Dev.reactionOf (d : Dev) (s : Nat) : Nat × Bool :=
  let r := d.react s
  match target? s with
  | some t =>
    if r = 3 ∧ t ∉ d.flt.running ∧ d.fld R.FLT_ESC 31 28 ≤ (d.recentResets s).length + 1 ∧ d.fld R.FLT_ESC 31 28 ≠ 0
    then (d.fld R.FLT_ESC 2 0, true) else (r, false)
  | none => (r, false)

/-- Remember the instant of a source's block reset (R482). -/
def Dev.noteReset (d : Dev) (s : Nat) : Dev :=
  let times := d.nat R.SYS_UPTIME :: d.recentResets s
  { d with flt := { d.flt with blkTimes := Map.put d.flt.blkTimes (fun _ => []) s times } }

/-- The body of a FAULT record (R490). -/
def Dev.faultBody (d : Dev) (s reaction flags info : Nat) : List Byte :=
  be 1 s ++ be 1 reaction ++ be 1 flags ++ be 1 0 ++ be 4 (d.nat (R.FLT_CNTs s)) ++ be 8 info

/-- What every occurrence does before its reaction: pending bit, counter, information word, latest source (R477). -/
def Dev.faultMark (d : Dev) (s info : Nat) : Dev :=
  let d := d.setBit (R.FLT_PEND (s / 32)) (s % 32) true
  let d := d.bump (R.FLT_CNTs s)
  let d := d.wrNat64 (R.FLT_INFOs_LO s) (R.FLT_INFOs_HI s) info
  let d := d.setFld R.FLT_STAT 31 24 s
  (d.wrNat R.FLT_LAST_SEC (cSec (d.count 0))).wrNat R.FLT_LAST_NS (cNs (d.count 0))

/-- An occurrence of a fault source with its reaction (R477, R478, R481, R482). The fuel bounds the sources an
occurrence itself raises: the escalation source 94 and the recorder-loss source 93. -/
def Dev.raiseF : Nat → Nat → Nat → Dev → Dev
  | 0, s, info, d => d.faultMark s info
  | fuel + 1, s, info, d =>
    let (r, esc) := d.reactionOf s
    let d := d.faultMark s info
    let tgt := target? s
    let defer := match tgt with
      | some t => decide (r = 3 ∧ t ∈ d.flt.running)
      | none => false
    let (d, lost) := d.recAppend ⟨0x0002, srcBlk s, d.faultBody s r (b2n esc + 2 * b2n defer) info⟩
    let d := if lost ∧ s ≠ 93 then Dev.raiseF fuel 93 0 d else d
    let d := if esc then Dev.raiseF fuel 94 s (d.setBit R.FLT_STAT 5 true) else d
    let d := if 1 ≤ r ∧ d.bit (R.FLT_INTEN (s / 32)) (s % 32) then d.interrupt 0 else d
    let d := if d.bit (R.FLT_SRCs_CFG s) 9 then d.startFlush 1 else d
    let d := match r with
      | 2 => d.nmiTraps
      | 3 => match tgt with
        | some t => if defer then d else (d.noteReset s).startBlkRst t
        | none => d
      | 4 => d.chipRst
      | 5 => d.stopAlive
      | _ => d
    d.refreshFaultN

/-- An occurrence of an event source (R477). -/
def Dev.raise (d : Dev) (s info : Nat) : Dev := Dev.raiseF 3 s info d

/-- The onset of a level source's condition: it occurs once, and shows in FLT_ACTIVE while the condition holds
(R477). -/
def Dev.raiseLevel (d : Dev) (s info : Nat) : Dev :=
  if d.bit (R.FLT_ACTIVE (s / 32)) (s % 32) then d
  else (d.setBit (R.FLT_ACTIVE (s / 32)) (s % 32) true).raise s info

/-- The end of a level source's condition, with its FAULT record (flag [2], R490). -/
def Dev.endLevel (d : Dev) (s : Nat) : Dev :=
  if !d.bit (R.FLT_ACTIVE (s / 32)) (s % 32) then d
  else
    let d := d.setBit (R.FLT_ACTIVE (s / 32)) (s % 32) false
    (d.recAppend ⟨0x0002, srcBlk s, d.faultBody s 0 4 0⟩).1

/-- Append a record, raising the recorder-loss source when it is dropped (R489, source 93). -/
def Dev.record (d : Dev) (typ blk : Nat) (body : List Byte) : Dev :=
  match d.recAppend ⟨typ, blk, body⟩ with
  | (d, true) => d.raise 93 0
  | (d, false) => d

end Sys2Proof.Machine
end

