-- ==== Sys2Proof/Machine/TimeBase.lean ====
section
/-! DEFINITION. Time bases (chapter 02, R30 to R50): the advance of the linear counts, increments, phase adjustments,
initial sets, leap schedules and the latches that show the time. -/
namespace Sys2Proof.Machine

/-! ### Who writes a time base (R18) -/

/-- The Custodian is the writer of a time base (SRVn_STAT.OPEN). -/
def Dev.loopOpen (d : Dev) (n : Nat) : Bool := d.bit (R.SRVn_STAT n) 6

/-- A write from the party that is not the writer is ignored and counted (R18, R167). -/
def Dev.notWriter (d : Dev) (n : Nat) : Dev := (d.bump (R.SRVn_WR_IGN n)).setBit (R.SRVn_STAT n) 9 true

/-- Perform a write of the time base's writer; the other party's write is ignored and counted (R18). -/
def Dev.asWriter (d : Dev) (w : Agent) (n : Nat) (f : Dev → Dev) : Dev :=
  match w with
  | .device => if d.loopOpen n then d.notWriter n else f d
  | .host p => d.asCust p (fun d => if d.loopOpen n then f d else d.notWriter n)

/-- Set TBn_STAT.CFG_ERR. -/
def Dev.cfgErr (d : Dev) (n : Nat) : Dev := d.setBit (R.TBn_STAT n) 9 true

/-! ### Increments (R33 to R36) -/

/-- The increment range of R34. -/
def incInRange (v : Nat) : Bool := decide (0x9FEB851EB852 ≤ v) && decide (v ≤ 0xA0147AE147AE)

/-- The nominal bypass period 2 / f_LO of CLK_CFG.XOF as a fraction of nanoseconds (R36, R425). -/
def Dev.bypassNominal (d : Dev) : Nat × Nat :=
  match d.fld R.CLK_CFG 1 0 with
  | 0 => (200, 1)
  | 1 => (100, 1)
  | 2 => (80, 1)
  | _ => (12500, 243)

/-- A bypass increment (2^-40 ns) lies within 500 ppm of the nominal bypass period (R36). -/
def Dev.bincInRange (d : Dev) (v : Nat) : Bool :=
  let (p, q) := d.bypassNominal
  let nom : Int := (p * 2 ^ 40 : Nat)
  decide (((v * q : Nat) - nom) * 1000000 ≤ nom * 500) && decide ((nom - (v * q : Nat)) * 1000000 ≤ nom * 500)

/-- R33: a write of the high half is held. -/
def effIncHi (w : Agent) (n : Nat) (v : Word) (d : Dev) : Dev :=
  d.asWriter w n (fun d => d.wr (R.TBn_INC_HI n) (v &&& 0xFFFFF))

/-- A host increment restarts the host watchdog (R168). -/
def Dev.hostIncSeen (d : Dev) (w : Agent) (n : Nat) : Dev :=
  match w with
  | .host _ => d.setTb n { d.tbAt n with hostIncAge := 0 }
  | .device => d

/-- Commit an increment (R33, R34): accepted for the next epoch, or the previous one kept with CFG_ERR. -/
def Dev.commitInc (d : Dev) (n : Nat) (lo : Word) : Dev :=
  let v := d.fld (R.TBn_INC_HI n) 19 0 * 2 ^ 32 + lo.toNat
  if incInRange v then (d.wr (R.TBn_INC_LO n) lo).setTb n { d.tbAt n with incC := v }
  else
    let c := (d.tbAt n).incC
    ((d.wrNat (R.TBn_INC_HI n) (c / 2 ^ 32)).wrNat (R.TBn_INC_LO n) c).cfgErr n

def effIncCommit (w : Agent) (n : Nat) (v : Word) (d : Dev) : Dev :=
  d.asWriter w n (fun d => (d.commitInc n v).hostIncSeen w n)

/-- R36: a write of the high half of the bypass increment is held. -/
def effBincHi (w : Agent) (n : Nat) (v : Word) (d : Dev) : Dev :=
  d.asWriter w n (fun d => d.wr (R.TBn_BINC_HI n) (v &&& 0xFFFFF))

/-- Commit a bypass increment (R36). -/
def Dev.commitBinc (d : Dev) (n : Nat) (lo : Word) : Dev :=
  let v := d.fld (R.TBn_BINC_HI n) 19 0 * 2 ^ 32 + lo.toNat
  if d.bincInRange v then (d.wr (R.TBn_BINC_LO n) lo).setTb n { d.tbAt n with bincC := v }
  else
    let c := (d.tbAt n).bincC
    ((d.wrNat (R.TBn_BINC_HI n) (c / 2 ^ 32)).wrNat (R.TBn_BINC_LO n) c).cfgErr n

def effBincCommit (w : Agent) (n : Nat) (v : Word) (d : Dev) : Dev :=
  d.asWriter w n (fun d => d.commitBinc n v)

/-! ### Phase adjustment (R38 to R40) -/

/-- The amount still to be applied, the committed one included, 2^-48 ns. -/
def TbHid.owed (t : TbHid) : Int :=
  match t.padjNew with
  | none => t.rem
  | some (true, a) => a
  | some (false, a) => t.rem + a

/-- Show the remaining amount in PREM and PADJ_BUSY (R38, R66). -/
def Dev.showPrem (d : Dev) (n : Nat) : Dev :=
  let o := (d.tbAt n).owed
  let v := ((o / (2 ^ 32 : Nat)) % (2 ^ 48 : Nat)).toNat
  ((d.wrNat (R.TBn_PREM_LO n) v).wrNat (R.TBn_PREM_HI n) (v / 2 ^ 32)).setBit (R.TBn_STAT n) 3 (decide (o ≠ 0))

/-- Commit an amount (2^-16 ns) in replace mode or add mode, saturating at ±2^31 ns (R38). It is applied from the
next epoch (R17). -/
def Dev.commitPadj (d : Dev) (n : Nat) (add : Bool) (amount : Int) : Dev :=
  let t := d.tbAt n
  let v := amount * (2 ^ 32 : Nat)
  if add then
    let want := t.owed + v
    let sat : Int := max (-(2 ^ 79 : Int)) (min ((2 ^ 79 : Int) - 2 ^ 32) want)
    let new : Option (Bool × Int) := if sat = want then
      (match t.padjNew with
        | some (true, a) => some (true, a + v)
        | some (false, a) => some (false, a + v)
        | none => some (false, v))
      else some (true, sat)
    let d := (d.setTb n { t with padjNew := new }).showPrem n
    if sat = want then d else d.setBit (R.TBn_STAT n) 8 true
  else (d.setTb n { t with padjNew := some (true, v) }).showPrem n

/-- R38: a write of TBn_PADJ_LO. -/
def effPadjCommit (w : Agent) (n : Nat) (v : Word) (d : Dev) : Dev :=
  d.asWriter w n (fun d =>
    let d := d.wr (R.TBn_PADJ_LO n) v
    d.commitPadj n (d.bit (R.TBn_PADJ_HI n) 31) (signed 48 (d.fld (R.TBn_PADJ_HI n) 15 0 * 2 ^ 32 + v.toNat)))

/-- Nothing remains to be applied: PADJ_BUSY and the selector's PULL clear (R39). -/
def Dev.padjDone (d : Dev) (n : Nat) : Dev :=
  (d.showPrem n).setBit (R.REF_TBn_STAT n) 13 false

/-- Show what is left of an adjustment; with nothing left it is complete. -/
def Dev.padjShow (d : Dev) (n : Nat) : Dev :=
  if (d.tbAt n).rem = 0 ∧ (d.tbAt n).padjNew = none then d.padjDone n else d.showPrem n

/-- R39: a slope of 1 to 1 000 ns/s is taken at the next epoch; another value is ignored and sets CFG_ERR. -/
def effPslope (w : Agent) (n : Nat) (v : Word) (d : Dev) : Dev :=
  d.asWriter w n (fun d =>
    let s := wfld v 9 0
    if 1 ≤ s ∧ s ≤ 1000 then d.wrNat (R.TBn_PSLOPE n) s else d.cfgErr n)

/-- R40: PABORT discards the remaining amount at the next epoch. -/
def effPabort (w : Agent) (n : Nat) (d : Dev) : Dev :=
  d.asWriter w n (fun d => d.setTb n { d.tbAt n with abortPend := true })

/-- What the alignment epoch does to a time base (R17, R33, R36, R38 to R40): the committed increments, slope and
phase adjustment take effect, and a pending PABORT discards the remaining amount. -/
def epochTb (n : Nat) (d : Dev) : Dev :=
  let t := d.tbAt n
  let rem := if t.abortPend then 0 else t.owed
  let d' := d.setTb n { t with
    inc := t.incC, binc := t.bincC, slope := d.nat (R.TBn_PSLOPE n)
    rem := rem, padjNew := none, abortPend := false, padjAcc := if rem = 0 then 0 else t.padjAcc }
  if t.abortPend then d'.padjDone n else d'.showPrem n

/-! ### The TIME clock (R30, R35, R37, R39) -/

/-- The increment in use, 2^-48 ns: TBn_INC on the root, TBn_BINC in LO bypass, TB_RCINC in RC bypass (R35, R37). -/
def Dev.activeInc (d : Dev) (n : Nat) : Nat :=
  match d.clkSrc with
  | 0 => (d.tbAt n).inc
  | 1 => (d.tbAt n).binc * 256
  | _ => (d.fld R.TB_RCINC_HI 19 0 * 2 ^ 32 + d.nat R.TB_RCINC_LO) * 256

/-- The slope step of one TIME cycle (R39): TBn_PSLOPE ns per second of the time base, exact on average, and never
more than remains. Answers the signed step and the numerator's remainder. -/
def slopeStep (rem : Int) (slope inc acc : Nat) : Int × Nat :=
  let num := slope * inc + acc
  let step := num / 1000000000
  let mag := min step rem.natAbs
  (if 0 ≤ rem then mag else -mag, if step < rem.natAbs then num % 1000000000 else 0)

/-- The increment that the predictor's free-running model gives for one TIME cycle, 2^-48 ns: INC_M, scaled to the
bypass period in LO bypass (R142). -/
def Dev.modelStep (d : Dev) (n : Nat) : Nat :=
  match d.clkSrc with
  | 0 => d.srvg.incM
  | 1 => d.srvg.incM * d.bypassNominal.1 * 8 / (d.bypassNominal.2 * 5)
  | _ => d.activeInc n

/-- The slope step of the present TIME cycle and the numerator's remainder; in RC bypass the device applies no steering
(R39, R142). -/
def Dev.padjStep (d : Dev) (n : Nat) : Int × Nat :=
  let t := d.tbAt n
  if d.clkSrc = 2 then (0, t.padjAcc) else slopeStep t.rem t.slope (d.activeInc n) t.padjAcc

/-- R39: the last cycle applies only what remains, which is at most one slope step, so the count lands on the requested
amount. An amount that waits for its epoch stays. -/
def effPadjComplete (n : Nat) (d : Dev) : Dev :=
  let t := d.tbAt n
  let (st, acc) := d.padjStep n
  if t.rem = 0 ∨ st ≠ t.rem then d
  else (d.setTb n { t with
    count := ((t.count + st) % (2 ^ 48 * secUnit : Nat)).toNat
    steer := t.steer + st, rem := 0, padjAcc := acc }).padjShow n

/-- One TIME clock of one time base. In RC bypass the device applies no steering (R142). -/
def tickTb (n : Nat) (d : Dev) : Dev :=
  let t := d.tbAt n
  let inc := d.activeInc n
  let (st, acc) := d.padjStep n
  let d' := d.setTb n { t with
    count := ((t.count + inc + st) % (2 ^ 48 * secUnit : Nat)).toNat
    steer := if d.isSet n then t.steer + inc + st - d.modelStep n else 0
    rem := t.rem - st, padjAcc := acc }
  let d' := if t.rem = 0 then d' else d'.padjShow n
  match t.leap with
  | none => d'
  | some l =>
    let c := (d'.tbAt n).count
    if l.done ∧ l.stop ≤ c then (d'.setTb n { d'.tbAt n with leap := none }).setBit (R.TBn_STAT n) 6 false
    else d'.setBit (R.TBn_STAT n) 6 (decide (l.start ≤ c))

/-- The nominal period of one TIME cycle, 2^-48 ns: 0.625 ns on the root, the nominal bypass period in LO bypass, and
TB_RCINC in RC bypass (R36, R37). -/
def Dev.cycle48 (d : Dev) : Nat :=
  match d.clkSrc with
  | 0 => 0xA00000000000
  | 1 => d.bypassNominal.1 * 2 ^ 48 / d.bypassNominal.2
  | _ => d.activeInc 0

/-- One TIME clock of the device: every time base advances (R30). The step on an empty queue (log 6). -/
def timeClock (d : Dev) : Dev :=
  let d := (forRange 8 tickTb d).pmc 0x0001 none 1
  { d with clk := { d.clk with mono := d.clk.mono + d.cycle48 } }

/-! ### The value at an instant ahead (R80) -/

/-- What one TIME cycle adds to a time base with the increment and the phase-adjust step in force, 2^-48 ns. -/
def Dev.cycleAdd (d : Dev) (n : Nat) : Int := d.activeInc n + (d.padjStep n).1

/-- What one TIME cycle adds after the next alignment epoch, when the committed increment, slope and adjustment are in
force (R17, R33, R39, R40). -/
def Dev.cycleAddNext (d : Dev) (n : Nat) : Int :=
  let t := d.tbAt n
  let inc := match d.clkSrc with
    | 0 => t.incC
    | 1 => t.bincC * 256
    | _ => d.activeInc n
  let st := if d.clkSrc = 2 then 0
    else (slopeStep (if t.abortPend then 0 else t.owed) (d.nat (R.TBn_PSLOPE n)) inc t.padjAcc).1
  inc + st

/-- Whole TIME cycles in a time ahead, 2^-16 ns. -/
def Dev.cyclesIn (d : Dev) (lead : Nat) : Nat := lead * 2 ^ 32 / d.cycle48

/-- A time base's linear value, 2^-16 ns, a number of 2^-16 ns after the present instant, from the increment and the
phase-adjust step in force (R80); in a bypass to the TIME cycle (R95). -/
def Dev.linearIn (d : Dev) (n lead : Nat) : Nat :=
  let ahead : Int := if d.clkSrc = 0 then lead * d.cycleAdd n / (40960 : Nat) else d.cyclesIn lead * d.cycleAdd n
  c16 ((d.count n : Int) + ahead).toNat

/-! ### Initial set (R41 to R43) -/

/-- R42: arm the set with the target and the instant as they stand, noting what its setter gives. -/
def Dev.armSet (d : Dev) (n : Nat) (who : TbHid → TbHid) : Dev :=
  d.setTb n { who (d.tbAt n) with armed := some {
    target := mkCount (d.nat (R.TBn_SET_SEC_HI n) * 2 ^ 32 + d.nat (R.TBn_SET_SEC_LO n)) (d.nat (R.TBn_SET_NS n))
      (d.nat (R.TBn_SET_FRAC n))
    atSec := d.nat (R.TBn_SET_AT_SEC n), atNs := d.nat (R.TBn_SET_AT_NS n) } }

/-- The instant lies at least 400 ns ahead (R43). -/
def Dev.setInTime (d : Dev) (n : Nat) : Bool :=
  decide ((400 * 2 ^ 16 : Nat) ≤ signedDiff (d.nat (R.TBn_SET_AT_SEC n)) (d.nat (R.TBn_SET_AT_NS n)) 0 (d.count n))

/-- R42, R43: arm, or reject and count. -/
def Dev.trySet (d : Dev) (n : Nat) (allowed : Bool) (who : TbHid → TbHid) : Dev :=
  if allowed ∧ !d.isSet n ∧ (d.tbAt n).armed = none ∧ d.setInTime n then d.armSet n who
  else d.bump (R.TBn_SET_REJ n)

/-- A host set gives no uncertainty and no frequency estimate (R113, R174). -/
def TbHid.hostSetter (t : TbHid) : TbHid := { t with setU := none, setFreq := none, setMate := false }

def effSetArm (w : Agent) (n : Nat) (d : Dev) : Dev :=
  match w with
  | .device => d.trySet n true id
  | .host p => d.asCust p (fun d => d.trySet n (d.bit (R.TBn_CFG n) 2) TbHid.hostSetter)

/-- R42: the linear count takes the target, the pending phase adjustment is discarded, the time base is set; its leap
term is 0 at the initial set. -/
def Dev.takeSet (d : Dev) (n : Nat) (target : Nat) : Dev :=
  let d := d.setTb n { d.tbAt n with
    count := target % (2 ^ 48 * secUnit), rem := 0, padjNew := none, padjAcc := 0, armed := none
    setAt := target % (2 ^ 48 * secUnit), steer := 0
    setShift := ((target % (2 ^ 48 * secUnit) : Nat) : Int) - d.count n }
  let d := ((d.showPrem n).setBit (R.TBn_STAT n) 0 true).setBit (R.TBn_STAT n) 1 false
  d.wr (R.TBn_LEAPCNT n) 0

/-! ### Leap seconds (R45 to R47) -/

/-- The writer of the leap schedule: the device with LEAPSRC 0, the Custodian with LEAPSRC 1; the other party's write
is ignored and sets CFG_ERR (R47). -/
def Dev.asLeapWriter (d : Dev) (w : Agent) (n : Nat) (f : Dev → Dev) : Dev :=
  match w with
  | .device => if d.bit (R.TBn_CFG n) 3 then d.cfgErr n else f d
  | .host p => d.asCust p (fun d => if d.bit (R.TBn_CFG n) 3 then f d else d.cfgErr n)

/-- A schedule write is ignored with CFG_ERR while the time base is unset or a leap is in progress (R47). -/
def Dev.leapLocked (d : Dev) (n : Nat) : Bool := !d.isSet n || d.bit (R.TBn_STAT n) 6

def effLeapHold (w : Agent) (n : Nat) (r : LeapReg) (v : Word) (d : Dev) : Dev :=
  d.asLeapWriter w n (fun d =>
    if d.leapLocked n then d.cfgErr n
    else match r with
      | .atHi => d.wr (R.TBn_LEAP_AT_HI n) (v &&& 0xFFFF)
      | .atLo => d.wr (R.TBn_LEAP_AT_LO n) v
      | .smearLen =>
        if 60 ≤ wfld v 16 0 ∧ wfld v 16 0 ≤ 86400 then d.wrNat (R.TBn_SMEAR_LEN n) (wfld v 16 0) else d.cfgErr n)

/-- L as held, 2^-48 ns of the linear count (R45, R47). -/
def Dev.leapAt (d : Dev) (n : Nat) : Nat := (d.nat (R.TBn_LEAP_AT_HI n) * 2 ^ 32 + d.nat (R.TBn_LEAP_AT_LO n)) * secUnit

/-- The leap that a commit of TBn_LEAP_CTL schedules with the held values at the present count, or none where R47
discards it. -/
def Dev.leapOf (d : Dev) (n : Nat) (v : Word) : Option Leap :=
  let c := d.count n
  let at_ := d.leapAt n
  let w := d.nat (R.TBn_SMEAR_LEN n) * secUnit
  let del := wbit v 3
  if at_ ≤ c then none
  else if wfld v 1 0 = 1 then some ⟨false, del, at_, at_ - secUnit, at_ + secUnit, false⟩
  else
    let ws := if wbit v 4 then at_ - w / 2 else at_ - w
    let stop := if wbit v 4 then at_ - w / 2 + w else at_
    if c ≤ ws then some ⟨true, del, at_, ws, stop, false⟩
    else if c + 60 * secUnit ≤ stop then some ⟨true, del, at_, c, stop, false⟩
    else none

/-- R47: commit the whole schedule with its checks; v holds only the writable bits. -/
def Dev.commitLeapBits (d : Dev) (n : Nat) (v : Word) : Dev :=
  if wfld v 1 0 = 3 then d.cfgErr n
  else if !wbit v 2 ∨ (wfld v 1 0 = 0 ∧ d.count n < d.leapAt n) then
    (d.wr (R.TBn_LEAP_CTL n) v).setTb n { d.tbAt n with leap := none }
  else match d.leapOf n v with
    | none => ((d.wr (R.TBn_LEAP_CTL n) (setWbit v 2 false)).setTb n { d.tbAt n with leap := none }).cfgErr n
    | some l =>
      let d := (d.wr (R.TBn_LEAP_CTL n) v).setTb n { d.tbAt n with leap := some l }
      d.setBit (R.TBn_STAT n) 6 (decide (l.start ≤ d.count n))

/-- R47: a write of TBn_LEAP_CTL, its reserved bits dropped (R11). -/
def Dev.commitLeap (d : Dev) (n : Nat) (v : Word) : Dev := d.commitLeapBits n (v &&& 0x1F)

def effLeapCtl (w : Agent) (n : Nat) (v : Word) (d : Dev) : Dev :=
  d.asLeapWriter w n (fun d => if d.leapLocked n then d.cfgErr n else d.commitLeap n v)

/-- The leap completes: PEND and LEAP_BUSY clear. -/
def Dev.leapDone (d : Dev) (n : Nat) : Dev :=
  ((d.setBit (R.TBn_LEAP_CTL n) 2 false).setBit (R.TBn_STAT n) 6 false).setTb n { d.tbAt n with leap := none }

/-- R45: at L the presented value steps back by 1 s and LEAP61 sets. -/
def effInsertStart (n : Nat) (d : Dev) : Dev :=
  match (d.tbAt n).leap with
  | some ⟨false, false, _, _, _, _⟩ => (d.setBit (R.TBn_STAT n) 7 true).setBit (R.TBn_STAT n) 6 true
  | _ => d

/-- R45: at L + 1 TBn_LEAPCNT increments and LEAP61 clears. -/
def effInsertEnd (n : Nat) (d : Dev) : Dev :=
  if d.bit (R.TBn_STAT n) 7 then
    ((d.setBit (R.TBn_STAT n) 7 false).wrInt (R.TBn_LEAPCNT n) (d.int (R.TBn_LEAPCNT n) + 1)).leapDone n
  else d

/-- R45: at L − 1 the presented value steps forward and TBn_LEAPCNT decrements; the leap stays in progress to L + 1. -/
def effDelete (n : Nat) (d : Dev) : Dev :=
  match (d.tbAt n).leap with
  | some ⟨false, true, a, b, e, false⟩ =>
    let d := d.wrInt (R.TBn_LEAPCNT n) (d.int (R.TBn_LEAPCNT n) - 1)
    let d := (d.setBit (R.TBn_LEAP_CTL n) 2 false).setBit (R.TBn_STAT n) 6 true
    d.setTb n { d.tbAt n with leap := some ⟨false, true, a, b, e, true⟩ }
  | _ => d

/-- R46: at Ws the smear term starts to run. -/
def effSmearStart (n : Nat) (d : Dev) : Dev :=
  match (d.tbAt n).leap with
  | some ⟨true, _, _, _, _, _⟩ => d.setBit (R.TBn_STAT n) 6 true
  | _ => d

/-- R46: at the window's end TBn_LEAPCNT changes by s and PEND clears. -/
def effSmearEnd (n : Nat) (d : Dev) : Dev :=
  match (d.tbAt n).leap with
  | some ⟨true, del, _, _, _, _⟩ =>
    (d.wrInt (R.TBn_LEAPCNT n) (d.int (R.TBn_LEAPCNT n) + (if del then -1 else 1))).leapDone n
  | _ => d

/-- The smear term, 2^-48 ns, computed to 2^-16 ns (R46). -/
def smearTerm (l : Leap) (c : Nat) : Int :=
  let t : Nat := (c - l.start) * secUnit / (l.stop - l.start) / 2 ^ 32 * 2 ^ 32
  if l.del then -(t : Int) else t

/-- The presented value (R31, R45, R46): the linear count less the leap term on a UTC time base. -/
def Dev.presented (d : Dev) (n : Nat) : Nat :=
  let t := d.tbAt n
  if d.fld (R.TBn_CFG n) 1 0 = 1 then
    let sm : Int := match t.leap with
      | some l => if l.smear ∧ d.bit (R.TBn_STAT n) 6 then smearTerm l t.count else 0
      | none => 0
    let step : Int := if d.bit (R.TBn_STAT n) 7 then (secUnit : Nat) else 0
    (((t.count : Int) - d.int (R.TBn_LEAPCNT n) * (secUnit : Nat) - step - sm) % (2 ^ 48 * secUnit : Nat)).toNat
  else t.count

/-! ### Reading the time (R48, R49) -/

/-- R48: latch the linear and presented values for a host port; the read returns the low seconds. -/
def effNowLatch (p : Port) (n : Nat) (d : Dev) : Dev :=
  let c := d.count n
  let q := d.presented n
  let put := fun (d : Dev) (a v : Nat) => d.latchWord p a (BitVec.ofNat 32 v)
  let d := put (put (put (put d (R.TBn_NOW_SEC_HI n) (cSec c / 2 ^ 32)) (R.TBn_NOW_SEC_LO n) (cSec c))
    (R.TBn_NOW_NS n) (cNs c)) (R.TBn_NOW_FRAC n) (cFrac c)
  let d := put (put (put (put d (R.TBn_PRES_SEC_HI n) (cSec q / 2 ^ 32)) (R.TBn_PRES_SEC_LO n) (cSec q))
    (R.TBn_PRES_NS n) (cNs q)) (R.TBn_PRES_FRAC n) (cFrac q)
  d.emit (.readData p (BitVec.ofNat 32 (cSec c)))

/-- Capture one time base into its SNAP registers (R49). -/
def snapTb (v : Word) (n : Nat) (d : Dev) : Dev :=
  if wbit v n then
    let c := d.count n
    (((d.wrNat (R.TBn_SNAP_SEC_HI n) (cSec c / 2 ^ 32 % 2 ^ 16)).wrNat (R.TBn_SNAP_SEC_LO n) (cSec c)).wrNat
      (R.TBn_SNAP_NS n) (cNs c)).wrNat (R.TBn_SNAP_FRAC n) (cFrac c)
  else d

/-- R49: capture the selected time bases on one TIME cycle and set DONE. -/
def effSnap (p : Port) (v : Word) (d : Dev) : Dev :=
  d.asCust p (fun d => (forRange 8 (snapTb v) d).setBit R.TB_SNAP_STAT 0 true)

/-! ### Meanings -/

def execTbIncHiWrite (w : Agent) (n : Fin 8) (v : Word) (s : State) : Result := s.on (effIncHi w n v)
def execTbIncCommit (w : Agent) (n : Fin 8) (v : Word) (s : State) : Result := s.on (effIncCommit w n v)
def execTbBincHiWrite (w : Agent) (n : Fin 8) (v : Word) (s : State) : Result := s.on (effBincHi w n v)
def execTbBincCommit (w : Agent) (n : Fin 8) (v : Word) (s : State) : Result := s.on (effBincCommit w n v)
def execPadjCommit (w : Agent) (n : Fin 8) (v : Word) (s : State) : Result := s.on (effPadjCommit w n v)
def execPadjComplete (n : Fin 8) (s : State) : Result := s.on (effPadjComplete n)
def execPslopeWrite (w : Agent) (n : Fin 8) (v : Word) (s : State) : Result := s.on (effPslope w n v)
def execPabort (w : Agent) (n : Fin 8) (s : State) : Result := s.on (effPabort w n)
def execTbSetArm (w : Agent) (n : Fin 8) (s : State) : Result := s.on (effSetArm w n)
def execLeapScheduleHoldWrite (w : Agent) (n : Fin 8) (r : LeapReg) (v : Word) (s : State) : Result :=
  s.on (effLeapHold w n r v)
def execLeapCtlCommit (w : Agent) (n : Fin 8) (v : Word) (s : State) : Result := s.on (effLeapCtl w n v)
def execLeapInsertStart (n : Fin 8) (s : State) : Result := s.on (effInsertStart n)
def execLeapInsertEnd (n : Fin 8) (s : State) : Result := s.on (effInsertEnd n)
def execLeapDelete (n : Fin 8) (s : State) : Result := s.on (effDelete n)
def execSmearWindowStart (n : Fin 8) (s : State) : Result := s.on (effSmearStart n)
def execSmearWindowEnd (n : Fin 8) (s : State) : Result := s.on (effSmearEnd n)
def execTbNowLatchRead (p : Port) (n : Fin 8) (s : State) : Result := s.on (fun d => d.asRead p (effNowLatch p n))
def execTbSnap (p : Port) (v : Word) (s : State) : Result := s.on (effSnap p v)

end Sys2Proof.Machine
end

