-- ==== Sys2Proof/Machine/Interp.lean ====
section
/-! DEFINITION. The interpolators (chapter 03, R72, R73, R95): the tables of tap centres, the instant of a captured edge,
and the tap that a placed edge uses. -/
namespace Sys2Proof.Machine

/-- The nominal tap centres, 2^-16 ns: 64 taps over 625 ps. A line uses them before its first table (R96, tINLU): DESIGN
CHOICE (log 8). -/
def nominalTaps : List Nat := (List.range 64).map (fun i => (2 * i + 1) * 320)

/-- The tap centres a line uses. -/
def Line.centres (l : Line) : List Nat := if l.tab = [] then nominalTaps else l.tab

/-- The line that serves is B. -/
def LineHid.line (h : LineHid) (isB : Bool) : Line := if isB then h.b else h.a
/-- Replace one line of a pair. -/
def LineHid.setLine (h : LineHid) (isB : Bool) (l : Line) : LineHid := if isB then { h with b := l } else { h with a := l }

/-- A position that places edges: an EIO pin set as a trigger, or a PPS_OUT (R73). -/
def Dev.placesEdges (d : Dev) (pos : Nat) : Bool :=
  (decide (16 ≤ pos ∧ pos < 48) && (d.fld (R.EIOn_CFG (pos - 16)) 2 0 == 1 || d.fld (R.EIOn_CFG (pos - 16)) 2 0 == 2)) ||
  decide (48 ≤ pos ∧ pos < 56)

/-- The line whose result a captured edge reports: the one that serves, or within 10 ns after a swap the one that served
before it (R73). -/
def Dev.reportLine (d : Dev) (pos : Nat) : Bool :=
  let h := d.linesAt pos
  match h.swapAt with
  | some t => if d.clk.mono < t + 10 * 2 ^ 48 then !h.serving else h.serving
  | none => h.serving

/-- The tap a hit names on one line. -/
def Hit.tap (h : Hit) (isB : Bool) : Nat := if isB then h.b.val else h.a.val

/-- The centre of the tap that an edge hit, 2^-16 ns after the start of its TIME cycle (R72); none of it in a bypass,
where the interpolators are out of use (R95). -/
def Dev.hitCentre (d : Dev) (pos : Nat) (h : Hit) : Nat :=
  if d.clkSrc = 0 then ((d.linesAt pos).line (d.reportLine pos)).centres.getD (h.tap (d.reportLine pos)) 0 else 0

/-- The instant of an edge in the present TIME cycle on a time base, 2^-16 ns. -/
def Dev.stampAt (d : Dev) (n pos : Nat) (h : Hit) : Nat := c16 (d.count n) + d.hitCentre pos h

/-- The instants of an edge on the eight time bases, latched on the same TIME cycle and tap (R79). -/
def Dev.stampAll (d : Dev) (pos : Nat) (h : Hit) : List Nat := (List.range 8).map (fun n => d.stampAt n pos h)

/-- The instant of an edge by the TIME clock, 2^-16 ns. -/
def Dev.monoAt (d : Dev) (pos : Nat) (h : Hit) : Nat := d.clk.mono / 2 ^ 32 + d.hitCentre pos h

/-- An instant in ps turned into 2^-16 ns, rounded down. -/
def ps16 (ps : Int) : Int := ps * 65536 / (1000 : Nat)

/-- Where an edge can be placed about a TIME cycle: the last tap of the cycle before, its own taps, and the first tap of
the cycle after, as instants of 2^-48 ps from the present cycle's start with the tap's number. -/
def tapGrid (cs : List Nat) (cyc step : Int) : List (Int × Nat) :=
  let at_ := fun (k : Int) (i : Nat) => (k * step + ((cs.getD i 0 * 2 ^ 32 * 1000 : Nat) : Int), i)
  at_ (cyc - 1) 63 :: (List.range 64).map (at_ cyc) ++ [at_ (cyc + 1) 0]

/-- The place nearest an instant; a tie goes to the later one: DESIGN CHOICE (log 8). -/
def nearestPlace (e : Int) : List (Int × Nat) → Int × Nat
  | [] => (e, 0)
  | [x] => x
  | x :: r => let y := nearestPlace e r; if (e - x.1).natAbs < (y.1 - e).natAbs then x else y

/-- Where an edge due at an instant (2^-48 ps of a time base) is placed (R51, R72): on the tap whose centre lies nearest,
in a bypass on the nearest bypass TIME cycle (R95). -/
def Dev.placeOn (d : Dev) (tb pos : Nat) (e : Int) : Int × Option Nat :=
  let c : Int := (d.count tb * 1000 : Nat)
  let step : Int := d.cycleAdd tb * 1000
  if d.clkSrc = 0 then
    let (x, i) := nearestPlace (e - c) (tapGrid ((d.linesAt pos).line (d.linesAt pos).serving).centres ((e - c) / step) step)
    (c + x, some i)
  else (c + (2 * (e - c) + step) / (2 * step) * step, none)

end Sys2Proof.Machine
end

