-- ==== Sys2Proof/Machine/Eio.lean ====
section
/-! DEFINITION. Event pins (chapter 02, R51 to R63, R549): triggers and captures. -/
namespace Sys2Proof.Machine

/-- EIOn_CFG.MODE. -/
def Dev.eioMode (d : Dev) (n : Nat) : Nat := d.fld (R.EIOn_CFG n) 2 0
/-- EIOn_CFG.TB. -/
def Dev.eioTb (d : Dev) (n : Nat) : Nat := d.fld (R.EIOn_CFG n) 5 3
/-- EIOn_STAT.ARMED. -/
def Dev.eioArmed (d : Dev) (n : Nat) : Bool := d.bit (R.EIOn_STAT n) 0
/-- The pin stands at its active level (EIOn_CFG.POL). -/
def Dev.eioActive (d : Dev) (n : Nat) : Bool := (d.eioAt n).level != d.bit (R.EIOn_CFG n) 6
/-- A write while armed is ignored and sets WR_IGN (R54, R55). -/
def Dev.eioWrIgn (d : Dev) (n : Nat) : Dev := d.setBit (R.EIOn_STAT n) 6 true

/-! ### Triggers -/

/-- R54: ARMED reads 1 from the write; the arm is checked at the next epoch. -/
def effEioArm (p : Port) (n : Nat) (d : Dev) : Dev :=
  d.asCust p (fun d =>
    if d.eioArmed n then d.eioWrIgn n
    else ((d.setBit (R.EIOn_STAT n) 0 true).wr (R.EIOn_DONE n) 0).setEio n
      { d.eioAt n with armPend := true, running := false, k := 0, sec := 0, passed := 0 })

/-- R55: DISARM takes effect at the next epoch. -/
def effEioDisarm (p : Port) (n : Nat) (d : Dev) : Dev :=
  d.asCust p (fun d => if d.eioArmed n then d.setEio n { d.eioAt n with disarmPend := true } else d)

/-- The period P, 2^-32 ns (R51). -/
def Dev.eioPeriod (d : Dev) (n : Nat) : Nat := d.nat (R.EIOn_PER_NS n) * 2 ^ 32 + d.nat (R.EIOn_PER_FRAC n)

/-- The conditions of R53 that apply to the mode. -/
def Dev.eioSettingsOk (d : Dev) (n : Nat) : Bool :=
  let w := d.nat (R.EIOn_WIDTH n)
  let per := d.eioPeriod n
  decide (5 ≤ w) && (d.eioMode n != 2 || (decide (50 * 2 ^ 32 ≤ per) && decide ((w + 5) * 2 ^ 32 ≤ per)))

/-- The signed difference of T0 (R50), 2^-16 ns. -/
def Dev.eioT0Ahead (d : Dev) (n : Nat) : Int :=
  signedDiff (d.nat (R.EIOn_T0_SEC n)) (d.nat (R.EIOn_T0_NS n)) (d.nat (R.EIOn_T0_FRAC n)) (d.count (d.eioTb n))

/-- A rejected arm returns ARMED to 0 and shows its cause (R54). -/
def Dev.eioReject (d : Dev) (n cause : Nat) : Dev :=
  ((d.setBit (R.EIOn_STAT n) 0 false).setBit (R.EIOn_STAT n) cause true).setEio n
    { d.eioAt n with armPend := false, running := false }

/-- The arm's checks at the epoch, in the order of R53 and R54. -/
def Dev.eioCheck (d : Dev) (n : Nat) : Dev :=
  let tb := d.eioTb n
  if d.eioMode n ≠ 1 ∧ d.eioMode n ≠ 2 then d.eioReject n 9
  else if !d.eioSettingsOk n then d.eioReject n 9
  else if !d.bit (R.TBn_CFG tb) 4 then d.eioReject n 10
  else if !d.isSet tb then d.eioReject n 7
  else if d.eioT0Ahead n < (250 * 2 ^ 16 : Nat) then (d.eioReject n 4).bump (R.EIOn_LATE n)
  else d.setEio n { d.eioAt n with
    armPend := false, running := true, t0 := ((c16 (d.count tb) : Int) + d.eioT0Ahead n) * (2 ^ 16 : Nat) }

/-- A disarm takes effect: a pulse in progress completes (R55). -/
def Dev.eioDisarmNow (d : Dev) (n : Nat) : Dev :=
  (d.setBit (R.EIOn_STAT n) 0 false).setEio n { d.eioAt n with disarmPend := false, armPend := false, running := false }

/-- What the alignment epoch does to an event pin: the arm's check with its count, then a pending disarm (R54, R55). The
spec gives no order for an ARM and a DISARM that wait for the same epoch: DESIGN CHOICE (log 62). -/
def epochEio (n : Nat) (d : Dev) : Dev :=
  let d := if (d.eioAt n).armPend then d.eioCheck n else d
  if (d.eioAt n).disarmPend then d.eioDisarmNow n else d

/-- With RESYNC, an instant that falls less than the larger of 50 ns and WIDTH + 5 ns before the first leading edge of
the next second is omitted (R52). -/
def Dev.eioOmitted (d : Dev) (n k : Nat) : Bool :=
  let guardNs := max 50 (d.nat (R.EIOn_WIDTH n) + 5)
  decide (1000000000 * 2 ^ 32 < k * d.eioPeriod n + guardNs * 2 ^ 32)

/-- The grid place (second, index) of the next position from a candidate (R51, R52); none where R52 omits every instant
of a second. -/
def Dev.eioPlace (d : Dev) (n : Nat) : Option (Nat × Nat) :=
  let e := d.eioAt n
  if d.eioMode n = 2 ∧ d.bit (R.EIOn_CFG n) 9 then
    if d.eioOmitted n 0 then none else if d.eioOmitted n e.k then some (e.sec + 1, 0) else some (e.sec, e.k)
  else some (e.sec, e.k)

/-- The target instant of a grid place, 2^-32 ns: T0 + k × P, restarting each second with RESYNC (R51, R52). -/
def Dev.eioTarget (d : Dev) (n : Nat) (place : Nat × Nat) : Int :=
  (d.eioAt n).t0 + ((place.1 * 1000000000 * 2 ^ 32 + place.2 * d.eioPeriod n : Nat) : Int)

/-- The pulse of a position is suppressed by GATE, while its time base is in UNBOUNDED or UNSYNC (R57, R92, R117), or in
RC bypass (R62, R549). -/
def Dev.gated (d : Dev) (gate : Bool) (tb : Nat) : Bool :=
  (gate && (d.fld (R.EBn_STAT tb) 2 0 == 0 || d.fld (R.EBn_STAT tb) 2 0 == 4)) || d.clkSrc == 2

/-- EIOn_CFG.POL: the pin's active level, true high. -/
def Dev.eioHigh (d : Dev) (n : Nat) : Bool := !d.bit (R.EIOn_CFG n) 6

/-- The emission instant of a position, 2^-48 ps: EIOn_DLY earlier than its target (R56), on the root and in LO bypass
alike. -/
def Dev.eioEmitAt (d : Dev) (n : Nat) (place : Nat × Nat) : Int :=
  d.eioTarget n place * (2 ^ 16 * 1000 : Nat) - signed 16 (d.nat (R.EIOn_DLY n)) * (2 ^ 48 : Nat)

/-- Place a trigger's leading edge: the pin goes to its active level where it is driven (R51, R56, R62, R63, R70). -/
def Dev.eioLead (d : Dev) (n : Nat) (place : Nat × Nat) : Dev :=
  let driven := d.eioDrives n
  let e := d.eioEmitAt n place
  let (at_, tap) := d.placeOn (d.eioTb n) (16 + n) e
  let d := (d.bumpWrap (R.EIOn_DONE n)).setBit (R.EIOn_STAT n) 1 driven
  (d.setEio n { d.eioAt n with lastLead := some e, pin := if driven then some (d.eioHigh n) else none }).emit
    (.lead (.eio n) (d.eioTarget n place) at_ tap (d.eioHigh n) driven)

/-- R549: the comparator reaches a position. EIOn_DONE wraps: the spec says neither that it saturates nor that it wraps
(DESIGN CHOICE, log 62). -/
def effEioPosition (n : Nat) (d : Dev) : Dev :=
  if !(d.eioAt n).running then d
  else match d.eioPlace n with
  | none => d
  | some place =>
    let d1 := if d.gated (d.bit (R.EIOn_CFG n) 10) (d.eioTb n) then d.bump (R.EIOn_SUPP n) else d.eioLead n place
    let passed := (d.eioAt n).passed + 1
    let last := d.eioMode n = 1 ∨ (d.nat (R.EIOn_COUNT n) ≠ 0 ∧ d.nat (R.EIOn_COUNT n) ≤ passed)
    let d2 := d1.setEio n { d1.eioAt n with sec := place.1, k := place.2 + 1, passed := passed, running := !decide last }
    if last then (d2.setBit (R.EIOn_STAT n) 0 false).setBit (R.EIOn_STAT n) 8 true else d2

/-- The level of a pin outside a pulse: high impedance unless it is set as a trigger and driven; then inactive. -/
def Dev.eioRest (d : Dev) (n : Nat) : Option Bool :=
  if (d.eioMode n = 1 ∨ d.eioMode n = 2) ∧ d.eioDrives n then some (!d.eioHigh n) else none

/-- The count reaches the end of the pulse within the coming TIME cycle (R51). -/
def Dev.eioWidthOver (d : Dev) (n : Nat) : Bool := match (d.eioAt n).lastLead with
  | some e => decide (e + (d.nat (R.EIOn_WIDTH n) * 1000 * 2 ^ 48 : Nat) ≤ (d.count (d.eioTb n) + d.cycle48 : Nat) * 1000)
  | none => true

/-- R51, R63: the pulse ends after WIDTH; without ownership a gated pin then stops driving. -/
def effEioPulseEnd (n : Nat) (d : Dev) : Dev :=
  if d.bit (R.EIOn_STAT n) 1 ∧ d.eioWidthOver n then
    ((d.setBit (R.EIOn_STAT n) 1 false).setEio n { d.eioAt n with pin := d.eioRest n }).emit (.trail (.eio n) (d.eioRest n))
  else d

/-- R70: a write of EIOn_CFG. MODE 0 takes the pin to high impedance; a pulse in progress completes. While armed every
write is ignored and sets WR_IGN, also one with MODE 4 to 7, where the spec does not say that CFG_ERR sets as well:
DESIGN CHOICE (log 62). -/
def effEioCfg (p : Port) (n : Nat) (v : Word) (d : Dev) : Dev :=
  d.asCust p (fun d =>
    if d.eioArmed n then d.eioWrIgn n
    else if 4 ≤ wfld v 2 0 then d.setBit (R.EIOn_STAT n) 9 true
    else
      let e := { d.eioAt n with stuckAt := d.nowNs, lastLead := (d.eioAt n).lastLead.map (fun t =>
        t + ((d.count (wfld v 5 3) : Int) - (d.count (d.eioTb n) : Int)) * 1000) }
      let d := (d.wr (R.EIOn_CFG n) (v &&& 0x1FFF)).setEio n e
      if d.bit (R.EIOn_STAT n) 1 then d else d.eioPinTo n (d.eioRest n))

/-- The address and the writable bits of a schedule register. -/
def EioReg.at_ (r : EioReg) (n : Nat) : Nat × Word :=
  match r with
  | .t0Sec => (R.EIOn_T0_SEC n, 0xFFFFFFFF)
  | .t0Ns => (R.EIOn_T0_NS n, 0xFFFFFFFF)
  | .t0Frac => (R.EIOn_T0_FRAC n, 0xFFFF)
  | .perNs => (R.EIOn_PER_NS n, 0xFFFFFFFF)
  | .perFrac => (R.EIOn_PER_FRAC n, 0xFFFFFFFF)
  | .width => (R.EIOn_WIDTH n, 0xFFFFFFFF)
  | .count => (R.EIOn_COUNT n, 0xFFFFFFFF)

/-- R55: a schedule write is ignored while the trigger is armed. -/
def effEioSchedule (p : Port) (n : Nat) (r : EioReg) (v : Word) (d : Dev) : Dev :=
  d.asCust p (fun d => if d.eioArmed n then d.eioWrIgn n else d.wr (r.at_ n).1 (v &&& (r.at_ n).2))

/-! ### Captures -/

/-- Show the FIFO's head and level (R60, R69). With the FIFO empty the spec gives CAP0.VALID only; the model reads 0 in
every bit: DESIGN CHOICE (log 62). -/
def Dev.eioShow (d : Dev) (n : Nat) : Dev :=
  let f := (d.eioAt n).fifo
  let d := d.wrNat (R.EIOn_FIFO_LVL n) f.length
  match f with
  | [] => (((d.wr (R.EIOn_CAP0 n) 0).wr (R.EIOn_CAP1 n) 0).wr (R.EIOn_CAP2 n) 0).wr (R.EIOn_CAP3 n) 0
  | c :: _ =>
    (((d.wrNat (R.EIOn_CAP0 n) (2 ^ 31 + b2n c.rising * 2 ^ 30 + c.clksrc * 2 ^ 28 + sec16 c.at_ / 2 ^ 32 % 2 ^ 16)).wrNat
      (R.EIOn_CAP1 n) (sec16 c.at_)).wrNat (R.EIOn_CAP2 n) (ns16 c.at_)).wrNat (R.EIOn_CAP3 n)
      (c.seq * 2 ^ 16 + frac16 c.at_)

/-- An edge of this polarity is selected by EIOn_CFG.EDGE (R58). -/
def Dev.eioSelects (d : Dev) (n : Nat) (rising : Bool) : Bool := d.bit (R.EIOn_CFG n) (if rising then 7 else 8)

/-- An instant (2^-16 ns) less a delay in ps, rounded down. -/
def lessPs (t : Nat) (ps : Int) : Nat := (((t : Int) * 1000 - ps * (2 ^ 16 : Nat)) / 1000).toNat

/-- Accept a selected edge: timestamp it on the pin's time base into the FIFO, or lose it at a full FIFO (R58, R60,
R69). -/
def Dev.eioAccept (d : Dev) (n : Nat) (rising : Bool) (h : Hit) : Dev :=
  let e := d.eioAt n
  let t := d.stampAt (d.eioTb n) (16 + n) h
  let cap : Capture := ⟨rising, d.clkSrc, lessPs t (signed 16 (d.nat (R.EIOn_DLY n))), e.seq⟩
  let e := { e with seq := (e.seq + 1) % 2 ^ 16, lastAcc := some (d.monoAt (16 + n) h), stuckAt := d.nowNs }
  if e.fifo.length < 64 then (d.setEio n { e with fifo := e.fifo ++ [cap] }).eioShow n
  else ((d.setEio n e).bump (R.EIOn_OVF n)).setBit (R.EIOn_STAT n) 5 true

/-- The pin takes a level: a move to the active level starts the stuck timeout anew, one to the inactive level the release
(R61). -/
def Dev.eioMove (d : Dev) (n : Nat) (rising : Bool) : Dev :=
  d.setEio n (if rising == d.eioHigh n then { d.eioAt n with level := rising, stuckAt := d.nowNs }
    else { d.eioAt n with level := rising, idleAt := d.nowNs })

/-- R58, R59, R61: an edge on a pin; a capture pin takes it, unless it comes less than 50 ns of the TIME clock after the
last accepted one. -/
def effEioCapture (n : Nat) (rising : Bool) (h : Hit) (d : Dev) : Dev :=
  let d := d.eioMove n rising
  if d.eioMode n ≠ 3 then d
  else if d.bit (R.EIOn_STAT n) 2 then (if d.eioActive n then d.bump (R.EIOn_DROP n) else d)
  else if !d.eioSelects n rising then d
  else match (d.eioAt n).lastAcc with
    | some l => if d.monoAt (16 + n) h < l + 50 * 2 ^ 16 then d.bump (R.EIOn_DROP n) else d.eioAccept n rising h
    | none => d.eioAccept n rising h

/-- Remove the FIFO's head. -/
def Dev.eioDropHead (d : Dev) (n : Nat) : Dev :=
  (d.setEio n { d.eioAt n with fifo := (d.eioAt n).fifo.tail }).eioShow n

/-- The 16-byte body of an EIO capture record (R294). -/
def captureBody (n : Nat) (c : Capture) : List Byte :=
  be 1 n ++ be 1 (c.clksrc * 16 + b2n c.rising) ++ be 2 c.seq ++ be 6 (sec16 c.at_) ++ be 4 (ns16 c.at_) ++
    be 2 (frac16 c.at_)

/-- R60: with DMA set a held entry moves to ring 0 when staging has room. -/
def effEioToRing (n : Nat) (d : Dev) : Dev :=
  match (d.eioAt n).fifo with
  | c :: _ =>
    if d.bit (R.EIOn_CFG n) 12 ∧ d.ringRoom 0 16 then (d.ringAccept 0 0x04 (captureBody n c) none).eioDropHead n else d
  | [] => d

/-- R60: POP removes the head entry. The spec describes POP with DMA clear only; the model does the same with DMA set:
DESIGN CHOICE (log 62). -/
def effEioPop (p : Port) (n : Nat) (d : Dev) : Dev := d.asCust p (fun d => d.eioDropHead n)

/-- R61, R546: a stuck timeout above 1 000 000 µs is ignored. -/
def effEioStuckWrite (p : Port) (n : Nat) (v : Word) (d : Dev) : Dev :=
  d.asCust p (fun d => if wfld v 19 0 ≤ 1000000
    then (d.wrNat (R.EIOn_STUCK n) (wfld v 19 0)).setEio n { d.eioAt n with stuckAt := d.nowNs } else d)

/-- An occurrence of a level source that several instances share: each onset occurs, and the source stays active
until the last of them ends. -/
def Dev.raiseOnset (d : Dev) (s info : Nat) : Dev := (d.setBit (R.FLT_ACTIVE (s / 32)) (s % 32) true).raise s info

/-- R61: the pin enters the stuck state and raises the EIO stuck source. -/
def effEioStuck (n : Nat) (d : Dev) : Dev :=
  if d.eioMode n = 3 ∧ d.nat (R.EIOn_STUCK n) ≠ 0 ∧ d.eioActive n ∧ !d.bit (R.EIOn_STAT n) 2 ∧
      (d.eioAt n).stuckAt + d.nat (R.EIOn_STUCK n) * 1000 < d.nowNs then
    ((d.setBit (R.EIOn_STAT n) 2 true).setBit (R.EIOn_STAT n) 3 true).raiseOnset 20 n
  else d

/-- R61: after 1 µs inactive the pin is released. -/
def effEioRelease (n : Nat) (d : Dev) : Dev :=
  if d.bit (R.EIOn_STAT n) 2 ∧ !d.eioActive n ∧ (d.eioAt n).idleAt + 1000 ≤ d.nowNs then
    let d := d.setBit (R.EIOn_STAT n) 2 false
    if (List.range 32).any (fun m => d.bit (R.EIOn_STAT m) 2) then d else d.endLevel 20
  else d

/-! ### Meanings -/

def execEioArm (p : Port) (n : Fin 32) (s : State) : Result := s.on (effEioArm p n)
def execEioDisarm (p : Port) (n : Fin 32) (s : State) : Result := s.on (effEioDisarm p n)
def execEioTriggerPosition (n : Fin 32) (s : State) : Result := s.on (effEioPosition n)
def execEioPulseEnd (n : Fin 32) (s : State) : Result := s.on (effEioPulseEnd n)
def execEioCfgWrite (p : Port) (n : Fin 32) (v : Word) (s : State) : Result := s.on (effEioCfg p n v)
def execEioScheduleWrite (p : Port) (n : Fin 32) (r : EioReg) (v : Word) (s : State) : Result :=
  s.on (effEioSchedule p n r v)
def execEioCaptureEdge (n : Fin 32) (rising : Bool) (hit : Hit) (s : State) : Result := s.on (effEioCapture n rising hit)
def execEioFifoToRing (n : Fin 32) (s : State) : Result := s.on (effEioToRing n)
def execEioPop (p : Port) (n : Fin 32) (s : State) : Result := s.on (effEioPop p n)
def execEioStuckWrite (p : Port) (n : Fin 32) (v : Word) (s : State) : Result := s.on (effEioStuckWrite p n v)
def execEioStuckTimeout (n : Fin 32) (s : State) : Result := s.on (effEioStuck n)
def execEioStuckRelease (n : Fin 32) (s : State) : Result := s.on (effEioRelease n)

end Sys2Proof.Machine
end

