-- ==== Sys2Proof/Machine/Tsu.lean ====
section
/-! DEFINITION. Timestamp units (chapter 03): the interpolators and their calibration, and the PPS outputs. -/
namespace Sys2Proof.Machine

/-! ### Calibration of the interpolators (R73, R74, R95) -/

/-- The calibration period, ms: 60 s in BALANCED and CAPACITY, 10 s in PRECISION and FULL (R73). -/
def Dev.calPeriod (d : Dev) : Nat := if d.fld R.SYS_MODE 1 0 ≤ 1 then 60000 else 10000

/-- The uptime at which the oldest accepted table was taken. -/
def Dev.oldestTable (d : Dev) : Option Nat :=
  (List.range 62).foldl (fun m pos =>
    let l := d.linesAt pos
    [l.a.acc, l.b.acc].foldl (fun m a => match m, a with
      | some x, some y => some (min x y)
      | none, a => a
      | m, none => m) m) none

/-- Show TSU_CAL_STAT.STALE and TSU_CAL_AGE (R97). With no table accepted yet the spec gives no age; the model shows 0:
DESIGN CHOICE (log 62). -/
def Dev.calShow (d : Dev) : Dev :=
  let d := d.setBit R.TSU_CAL_STAT 31 ((List.range 62).any (fun p => (d.linesAt p).a.stale || (d.linesAt p).b.stale))
  match d.oldestTable with
  | some t => d.wrNat R.TSU_CAL_AGE (d.nat R.SYS_UPTIME - t)
  | none => d.wr R.TSU_CAL_AGE 0

/-- A line's turn has come in the rotation: one calibration period has passed since its latest one started (R73). -/
def Dev.calDue (d : Dev) (l : Line) : Bool := match l.start with
  | none => true
  | some t => decide (t + d.calPeriod ≤ d.nat R.SYS_UPTIME)

/-- R73: the line that does not serve starts its code-density test when its turn has come; in a bypass no line can lock
and none calibrates (R95). -/
def effCalStart (pos : Nat) (d : Dev) : Dev :=
  let h := d.linesAt pos
  let l := h.line (!h.serving)
  if d.clkSrc ≠ 0 ∨ h.calibrating ∨ !d.calDue l then d
  else d.setLines pos { h.setLine (!h.serving) { l with start := some (d.nat R.SYS_UPTIME) } with calibrating := true }

/-- Tap widths between 2 ps and 20 ps, from 2^20 hits over 625 ps (R74). -/
def tapsOk (hits : List Nat) : Bool :=
  decide (hits.length = 64) && decide (hits.sum = 2 ^ 20) &&
  hits.all (fun h => decide (2 * 2 ^ 20 ≤ h * 625) && decide (h * 625 ≤ 20 * 2 ^ 20))

/-- The tap centres, 2^-16 ns, from the histogram (R72): 0.625 ns is 40 960 units over 2^20 hits. The spec states no
rounding to units of 2^-16 ns; the model rounds down: DESIGN CHOICE (log 62). -/
def tapCentres : Nat → List Nat → List Nat
  | _, [] => []
  | cum, h :: r => (2 * cum + h) * 40960 / 2 ^ 21 :: tapCentres (cum + h) r

/-- R74: accept the table, or reject the calibration, count it and raise the fault. -/
def effCalComplete (pos : Nat) (hits : List Nat) (d : Dev) : Dev :=
  let h := d.linesAt pos
  if !h.calibrating then d
  else if tapsOk hits then
    let l := { h.line (!h.serving) with tab := tapCentres 0 hits, acc := some (d.nat R.SYS_UPTIME), stale := false }
    let d := d.setLines pos { h.setLine (!h.serving) l with calibrating := false, swapDue := true, deferrals := 0 }
    (d.setFld R.TSU_CAL_STAT 15 0 (d.fld R.TSU_CAL_STAT 15 0 + 1)).calShow |>.pmc 0x0202 (some (pos % 8)) (b2n (decide (pos < 16)))
  else ((d.setLines pos { h with calibrating := false }).bump R.TSU_CAL_FAIL).raise 6 pos

/-- A calibration that runs when the tree leaves the root is lost: its line cannot lock to the bypass period (R95). -/
def calStop (pos : Nat) (d : Dev) : Dev :=
  if (d.linesAt pos).calibrating then d.setLines pos { d.linesAt pos with calibrating := false } else d

/-- Instants of scheduled edges lie within 10 ns of the present instant of a time base, all in ps. -/
def Dev.nearNow (d : Dev) (tb : Nat) (edges : List Int) : Bool :=
  edges.any (fun e => decide ((e * (2 ^ 48 : Nat) - (d.count tb * 1000 : Nat)).natAbs < 10000 * 2 ^ 48))

/-- The scheduled edges of a trigger's pin next to the present instant, ps: the last pulse's and the next position's. -/
def Dev.eioEdges (d : Dev) (n : Nat) : List Int :=
  let w : Int := (d.nat (R.EIOn_WIDTH n) * 1000 : Nat)
  let last := match (d.eioAt n).lastLead with
    | some e => [e / (2 ^ 48 : Nat), e / (2 ^ 48 : Nat) + w]
    | none => []
  match (if (d.eioAt n).running then d.eioPlace n else none) with
  | some p => let e := d.eioEmitAt n p / (2 ^ 48 : Nat); e :: (e + w) :: last
  | none => last

/-- R74: the lines of a position whose last accepted table is older than four calibration periods set STALE. -/
def effCalStale (pos : Nat) (d : Dev) : Dev :=
  let old := fun (l : Line) => match l.acc with
    | some t => decide (t + 4 * d.calPeriod < d.nat R.SYS_UPTIME)
    | none => false
  let h := d.linesAt pos
  (d.setLines pos { h with a := { h.a with stale := h.a.stale || old h.a }
                           b := { h.b with stale := h.b.stale || old h.b } }).calShow

/-- R84: a write of TSUn_CFG; CKSUM 3 is ignored and sets CFG_ERR. -/
def effTsuCfg (p : Port) (n : Nat) (v : Word) (d : Dev) : Dev :=
  d.asCust p (fun d => if wfld v 1 0 = 3 then d.setBit (R.TSUn_STAT n) 6 true else d.wr (R.TSUn_CFG n) (v &&& 0xB))

/-! ### PPS outputs (R90 to R95) -/

/-- The period of a RATE code, ps (R90). -/
def ppsPeriod (rate : Nat) : Nat := 1000000000000 / 10 ^ rate

/-- The width lies from 5 ns to the period less 50 ns (R90). -/
def ppsWidthOk (cfg width : Word) : Bool :=
  decide (5 ≤ width.toNat) && decide (width.toNat * 1000 + 50000 ≤ ppsPeriod (wfld cfg 5 4))

/-- The settings in effect place edges: the output enabled, its width in range, its time base in service and set (R65,
R90, R92, R100). -/
def Dev.ppsPlaces (d : Dev) (h : PpsHid) : Bool :=
  let tb := wfld h.cfg 3 1
  wbit h.cfg 0 && ppsWidthOk h.cfg h.width && d.bit (R.TBn_CFG tb) 4 && d.isSet tb

/-- Show RUN and CFG_ERR for the settings in effect: edges being placed, held inactive in RC bypass (R95); a width out
of range (R90). -/
def Dev.ppsShow (d : Dev) (m : Nat) : Dev :=
  let h := d.ppsAt m
  let d := d.setBit (R.PPSm_STAT m) 0 (d.ppsPlaces h && d.clkSrc != 2)
  if ppsWidthOk h.cfg h.width then d else d.setBit (R.PPSm_STAT m) 2 true

/-- Show RUN and CFG_ERR of every output. -/
def Dev.ppsShowAll (d : Dev) : Dev := forRange 8 (fun m d => d.ppsShow m) d

/-- R91: the write is held and takes effect 1 µs later; the register reads the value written. -/
def effPpsWrite (p : Port) (m : Nat) (r : PpsReg) (v : Word) (d : Dev) : Dev :=
  d.asCust p (fun d =>
    let (a, v) := match r with
      | .cfg => (R.PPSm_CFG m, v &&& 0x1FF)
      | .ofs => (R.PPSm_OFS m, v)
      | .width => (R.PPSm_WIDTH m, v)
      | .dly => (R.PPSm_DLY m, v &&& 0xFFFF)
    (d.wr a v).setPps m { d.ppsAt m with pend := (d.ppsAt m).pend ++ [(r, v)] })

/-- The grid edges of an output next to the present instant, ps: the leading edges before and after it, less PPSm_DLY,
and the trailing edges that follow them (R90). -/
def Dev.ppsEdges (d : Dev) (m : Nat) : List Int :=
  let h := d.ppsAt m
  let per : Int := (ppsPeriod (wfld h.cfg 5 4) : Nat)
  let w : Int := (h.width.toNat * 1000 : Nat)
  let now : Int := (d.count (wfld h.cfg 3 1) * 1000 / 2 ^ 48 : Nat)
  let ofs : Int := h.ofs.toInt - signed 16 h.dly.toNat
  let e := (now - ofs) / per * per + ofs
  (if d.ppsPlaces h then [e, e + w, e + per] else []) ++ h.lastLead.toList ++ h.lastTrail.toList

/-- A scheduled edge of a position that places edges lies within 10 ns of the present instant (R73). -/
def Dev.edgeNear (d : Dev) (pos : Nat) : Bool :=
  if pos < 48 then d.nearNow (d.eioTb (pos - 16)) (d.eioEdges (pos - 16))
  else d.nearNow (wfld (d.ppsAt (pos - 48)).cfg 3 1) (d.ppsEdges (pos - 48))

/-- R73: at an alignment epoch the freshly calibrated line takes over. A position that places edges defers while an edge
is near, at most 1 024 times; from then on it swaps at the first TIME cycle boundary at least 10 ns from every edge. -/
def effLineSwap (pos : Nat) (atEpoch : Bool) (d : Dev) : Dev :=
  let l := d.linesAt pos
  if !l.swapDue ∨ d.clkSrc ≠ 0 ∨ (!atEpoch ∧ l.deferrals < 1024) then d
  else if d.placesEdges pos && d.edgeNear pos then
    (if l.deferrals < 1024 then d.setLines pos { l with deferrals := l.deferrals + 1 } else d)
  else d.setLines pos { l with serving := !l.serving, swapDue := false, deferrals := 0, swapAt := some d.clk.mono }

/-- The level of an output outside a pulse: inactive where it is driven. -/
def Dev.ppsRest (d : Dev) (m : Nat) : Option Bool := if d.ppsDrives m then some (wbit (d.ppsAt m).cfg 6) else none

/-- Bring a pin without a pulse in progress to its level (R94, R100). -/
def ppsIdle (m : Nat) (d : Dev) : Dev := if d.bit (R.PPSm_STAT m) 1 then d else d.ppsPinTo m (d.ppsRest m)

/-- An instant kept in ps of one time base's count, in ps of another's. -/
def Dev.otherCount (d : Dev) (was now : Nat) (t : Int) : Int :=
  t + ((d.count now : Int) - (d.count was : Int)) * 1000 / (2 ^ 48 : Nat)

/-- R91: the old schedule ends and the new settings' grid starts. -/
def effPpsApply (m : Nat) (d : Dev) : Dev :=
  let h := d.ppsAt m
  match h.pend with
  | [] => d
  | (r, v) :: rest =>
    let h := { h with pend := rest }
    let h := match r with
      | .cfg => { h with
          cfg := v, lastTrail := h.lastTrail.map (d.otherCount (wfld h.cfg 3 1) (wfld v 3 1))
          lastLead := h.lastLead.map (d.otherCount (wfld h.cfg 3 1) (wfld v 3 1)) }
      | .ofs => { h with ofs := v }
      | .width => { h with width := v }
      | .dly => { h with dly := v }
    ppsIdle m ((d.setPps m h).ppsShow m)

/-- R90 to R95: the output reaches a leading-edge instant. PULSE reads 1 also for a pulse that falls while the output is
at high impedance for want of ownership, where the spec is silent: DESIGN CHOICE (log 62). -/
def effPpsEdge (m : Nat) (k : Int) (d : Dev) : Dev :=
  let h := d.ppsAt m
  let tb := wfld h.cfg 3 1
  let target : Int := k * (ppsPeriod (wfld h.cfg 5 4) : Nat) + h.ofs.toInt
  let emitAt := target - signed 16 h.dly.toNat
  let tooEarly := target * 2 ^ 48 < (((d.tbAt tb).setAt : Int) + 1000 * 2 ^ 48) * 1000
  if !d.ppsPlaces h || decide tooEarly then d.ppsShow m
  else if d.gated (wbit h.cfg 7) tb then (d.ppsShow m).bump (R.PPSm_SUPP m)
  else if (match h.lastTrail with
    | some t => decide (emitAt < t + 50000)
    | none => false) then (d.ppsShow m).bump (R.PPSm_SUPP m)
  else
    let driven := d.ppsDrives m
    let high := !wbit h.cfg 6
    let (at_, tap) := d.placeOn tb (48 + m) (emitAt * (2 ^ 48 : Nat))
    let d := (d.ppsShow m).setPps m { h with
      lastLead := some emitAt, lastTrail := some (emitAt + (h.width.toNat * 1000 : Nat))
      pin := if driven then some high else none }
    (d.setBit (R.PPSm_STAT m) 1 true).emit (.lead (.pps m) (target * 2 ^ 32 / 1000) at_ tap high driven)

/-- The count reaches the end of the pulse within the coming TIME cycle (R90). -/
def Dev.ppsWidthOver (d : Dev) (m : Nat) : Bool := match (d.ppsAt m).lastTrail with
  | some t => decide (t * 2 ^ 48 ≤ (d.count (wfld (d.ppsAt m).cfg 3 1) + d.cycle48 : Nat) * 1000)
  | none => true

/-- R90, R94: the pulse ends after its width; without ownership a gated output then stops driving. -/
def effPpsPulseEnd (m : Nat) (d : Dev) : Dev :=
  if d.bit (R.PPSm_STAT m) 1 ∧ d.ppsWidthOver m then
    ((d.setBit (R.PPSm_STAT m) 1 false).setPps m { d.ppsAt m with pin := d.ppsRest m }).emit (.trail (.pps m) (d.ppsRest m))
  else d

/-! ### Meanings -/

def execTsuCalStart (pos : Fin 62) (s : State) : Result := s.on (effCalStart pos)
def execTsuCalComplete (pos : Fin 62) (hits : List Nat) (s : State) : Result := s.on (effCalComplete pos hits)
def execTsuLineSwap (pos : Fin 62) (atEpoch : Bool) (s : State) : Result := s.on (effLineSwap pos atEpoch)
def execTsuCalStale (pos : Fin 62) (s : State) : Result := s.on (effCalStale pos)
def execTsuCfgWrite (p : Port) (n : Fin 8) (v : Word) (s : State) : Result := s.on (effTsuCfg p n v)
def execPpsEdge (m : Fin 8) (k : Int) (s : State) : Result := s.on (effPpsEdge m k)
def execPpsPulseEnd (m : Fin 8) (s : State) : Result := s.on (effPpsPulseEnd m)
def execPpsSettingsWrite (p : Port) (m : Fin 8) (r : PpsReg) (v : Word) (s : State) : Result := s.on (effPpsWrite p m r v)
def execPpsSettingsApply (m : Fin 8) (s : State) : Result := s.on (effPpsApply m)

end Sys2Proof.Machine
end

