-- ==== Sys2Proof/Machine/ErrorBound.lean ====
section
/-! DEFINITION. The error bound (chapter 04): growth, incorporation, service states, the ledger, and the values stamped
at egress. Phases are in 2^-16 ps, Y in 2^-16 ppt, D in 2^-16 ppt/day, K in 2^-16 ppt/K, temperatures in 2^-8 K. -/
namespace Sys2Proof.Machine

/-- Round a quotient of naturals up. -/
def ceilDiv (a b : Nat) : Nat := (a + b - 1) / b

/-- The die sensors' readings at the latest tick, 2^-8 °C (R172). -/
def Dev.ta0 (d : Dev) : Int := d.srvg.ta0
def Dev.ta1 (d : Dev) : Int := d.srvg.ta1

/-- The tick's instant, steering phase and presented value of a time base. -/
def ebStamp (n : Nat) (d : Dev) : Dev :=
  let h := d.ebAt n
  d.setEb n { h with
    tickAt := d.count 0, steerT := (d.tbAt n).steer, presT := c16 (d.presented n)
    marks := (d.count 0, (d.tbAt n).steer) :: h.marks.filter (fun m => decide (d.count 0 ≤ m.1 + 2000000 * nsUnit)) }

/-- An alignment epoch changes what the cycles add: S is linear between such instants. -/
def ebMark (n : Nat) (d : Dev) : Dev :=
  let t := d.tbAt n
  if t.inc = t.incC ∧ t.binc = t.bincC ∧ t.padjNew = none ∧ !t.abortPend ∧ t.slope = d.nat (R.TBn_PSLOPE n) then d
  else d.setEb n { d.ebAt n with marks := (d.count 0, t.steer) :: (d.ebAt n).marks }

/-- S at an instant between marks, newest first. -/
def steerBetween (t : Nat) : List (Nat × Int) → Int
  | [] => 0
  | [a] => a.2
  | a :: b :: r =>
    if a.1 ≤ t then a.2
    else if b.1 ≤ t then b.2 + (a.2 - b.2) * ((t - b.1 : Nat) : Int) / ((a.1 - b.1 : Nat) : Int)
    else steerBetween t (b :: r)

/-- S of a time base at an instant of TB0 within the last 2 ms (R104, R142). -/
def Dev.steerAt (d : Dev) (n t : Nat) : Int :=
  steerBetween t ((d.count 0, (d.tbAt n).steer) :: (d.ebAt n).marks)

/-! ### Growth (R105, R108) -/

/-- G(τ) of R105 in 2^-16 ps, rounded up (R102), from the anchor's parameters, ΔT and τ in ms. -/
def growth (y dd k dt tau : Nat) : Nat := ceilDiv ((256 * y + k * dt) * tau * 675000 + dd * tau * tau) 172800000000

/-- Increment units per ppt at the nominal increment. -/
def unitsPerPpt : Rat := (0xA00000000000 : Rat) / 1000000000000

/-- The applied increment as an equivalent increment at the root's TIME period: TBn_INC, or TBn_BINC scaled from the
bypass period (R142, R170). -/
def Dev.equivInc (d : Dev) (inc binc : Nat) : Rat :=
  if d.clkSrc = 1 then
    let (p, q) := d.bypassNominal
    (binc : Rat) * q / ((p : Rat) * 2 ^ 40) * (0xA00000000000 : Rat)
  else inc

/-- The slope in ns/s with the sign of an amount to be applied; 0 without one (R39). -/
def signedSlope (amount : Int) (slope : Nat) : Rat :=
  if 0 < amount then (slope : Nat) else if amount < 0 then -(slope : Nat) else 0

/-- The signed slope of a time base from the next alignment epoch on: what is committed by then is applied at TBn_PSLOPE,
unless a PABORT discards it (R38 to R40). -/
def Dev.nextSlope (d : Dev) (n : Nat) : Rat :=
  signedSlope (if (d.tbAt n).abortPend then 0 else (d.tbAt n).owed) (d.nat (R.TBn_PSLOPE n))

/-- The offset p of R177 that an increment and a slope give, ppt: (increment + phase-adjust step − INC_M) over the
increment units per ppt, of which the rule's 0.005 684 is the reciprocal to four digits; the step is the slope times the
increment (R39). In RC bypass nothing is steered (R142). -/
def Dev.offsetOf (d : Dev) (inc binc : Nat) (slope : Rat) : Rat :=
  if d.clkSrc = 2 then 0
  else (d.equivInc inc binc * (1 + slope / 1000000000) - (d.srvg.incM : Rat)) / unitsPerPpt

/-- p of the increment and phase-adjust step in force (R177). -/
def Dev.predicted (d : Dev) (n : Nat) : Rat :=
  d.offsetOf (d.tbAt n).inc (d.tbAt n).binc (signedSlope (d.tbAt n).rem (d.tbAt n).slope)

/-- p from the next alignment epoch on, with the increment, slope, adjustment and abort committed for it (R108). -/
def Dev.predictedNext (d : Dev) (n : Nat) : Rat := d.offsetOf (d.tbAt n).incC (d.tbAt n).bincC (d.nextSlope n)

/-- The larger magnitude. -/
def maxAbs (a b : Rat) : Rat := max (if a < 0 then -a else a) (if b < 0 then -b else b)

/-- RATE of R108 in 2^-8 ppt, rounded up. -/
def rateOf (h : EbHid) : Nat :=
  let u : Rat := 65536
  let ppt := maxAbs h.pOld h.pNew + (h.y : Rat) / u + (h.k : Rat) / u * ((h.dt : Rat) / 256 + 1 / 20) +
    (h.dd : Rat) / u / 86400 * ((h.tau : Rat) / 1000 + 2 / 1000)
  (ppt * 256).ceil.toNat

/-- Growth at RATE (2^-8 ppt) over a time in 2^-48 ns, ps, rounded up (R104, R114). -/
def rateGrowth (rate t : Nat) : Nat := ceilDiv (rate * t) (256 * secUnit)

/-! ### Model parameters (R107, R173, R177) -/

/-- The model in use: 1 while SRV_STAT.MODEL reads 1. -/
def Dev.modelInUse (d : Dev) : Nat := if d.bit R.SRV_STAT 1 then 1 else 0

/-- K of a model: its cold value while a sensor is bad, plus 1 000 ppt/K with both bad (R173). -/
def Dev.modelK (d : Dev) (m k : Nat) : Nat :=
  let bad0 := d.bit R.SRV_STAT 2
  let bad1 := d.bit R.SRV_STAT 3
  if bad0 ∧ bad1 then d.nat (R.SRV_Mm_KCOLD m) + 1000 * 65536
  else if bad0 ∨ bad1 then d.nat (R.SRV_Mm_KCOLD m) else k

/-- Y, D, K of the model in use; 0.05 ppt for y_meas with OSC 1 (R173, R177). A model that has not been seeded has its
cold values. -/
def Dev.modelParams (d : Dev) : Nat × Nat × Nat :=
  let m := d.modelInUse
  let osc := if d.bit R.SRV_CFG 3 then 3277 else 0
  if d.bit (R.SRV_Mm_STAT m) 30 then
    (d.nat (R.SRV_Mm_Y m) + osc, d.nat (R.SRV_Mm_D m), d.modelK m (d.modelsAt m).k)
  else (d.nat (R.SRV_Mm_YCOLD m) + osc, d.nat (R.SRV_Mm_DCOLD m), d.modelK m (d.nat (R.SRV_Mm_KCOLD m)))

/-- The parameters an anchor of a time base takes: the frequency reference's uncertainty with D and K zero (R106), or
the model's. -/
def Dev.anchorParams (d : Dev) (freqRef : Option Nat) : Nat × Nat × Nat :=
  match freqRef with
  | some r => (d.fld (R.EB_RUNC r) 30 0 * 256, 0, 0)
  | none => d.modelParams

/-! ### Anchors -/

/-- Start an anchor at the latest tick with an interval and parameters. -/
def Dev.anchor (d : Dev) (h : EbHid) (lo hi : Int) (par : Nat × Nat × Nat) : EbHid :=
  { h with
    bounded := true, lo0 := lo, hi0 := hi, lo := lo, hi := hi
    y := par.1, dd := par.2.1, k := par.2.2
    steer0 := h.steerT
    ta0 := d.ta0, ta1 := d.ta1
    dt := 0, tau := 0 }

/-- A measurement anchor (R116). -/
def Dev.measAnchor (d : Dev) (h : EbHid) (lo hi : Int) : EbHid :=
  { d.anchor h lo hi (d.anchorParams h.freqRef) with measAge := some 0, measPres := some h.presT }

/-- P from the anchor to the tick, 2^-16 ps, rounded down and up (R105). -/
def EbHid.phaseLo (h : EbHid) : Int := (h.steerT - h.steer0) * 1000 / (2 ^ 32 : Nat)
def EbHid.phaseHi (h : EbHid) : Int := -(-(h.steerT - h.steer0) * 1000 / (2 ^ 32 : Nat))

/-- Grow the interval to the tick (R105). -/
def EbHid.grow (h : EbHid) : EbHid :=
  let g : Int := growth h.y h.dd h.k h.dt h.tau
  { h with lo := h.lo0 + h.phaseLo - g, hi := h.hi0 + h.phaseHi + g }

/-- ΔT: the largest deviation either sensor has shown from its anchor reading; a bad sensor's holds (R105, R173). -/
def Dev.deviation (d : Dev) (h : EbHid) : Nat :=
  let d0 := if d.bit R.SRV_STAT 2 then 0 else (d.ta0 - h.ta0).natAbs
  let d1 := if d.bit R.SRV_STAT 3 then 0 else (d.ta1 - h.ta1).natAbs
  max h.dt (max d0 d1)

/-- The bound of an interval, ps, rounded up (R101, R102). -/
def boundOf (lo hi : Int) : Nat := ceilDiv (max lo.natAbs hi.natAbs) 65536

/-- Note causes for the tick's ledger entries. -/
def EbHid.because (h : EbHid) (c : Nat) : EbHid := if c ∈ h.causes then h else { h with causes := c :: h.causes }

/-- The interval is lost (R102). -/
def EbHid.unbound (h : EbHid) : EbHid :=
  if h.bounded then { h with bounded := false, measAge := none, measPres := none }.because 11 else h

/-- R107: raised parameters start a new anchor at once with the current interval, which is the latest tick's, so that P
and G go on from there; lowered ones wait. -/
def Dev.ebRaise (d : Dev) (n : Nat) (exact : Bool) : Dev :=
  let h := d.ebAt n
  if !h.bounded || h.freqRef.isSome then d
  else
    let (y, dd, k) := d.modelParams
    if h.y < y ∨ h.dd < dd ∨ h.k < k ∨ exact then
      let par := if exact then (y, dd, k) else (max h.y y, max h.dd dd, max h.k k)
      (d.setEb n ((d.anchor h h.lo h.hi par).because 4)).setBit (R.EBn_STAT n) 7 true
    else d

/-- Apply R107 to every time base. -/
def Dev.ebRaiseAll (d : Dev) (exact : Bool) : Dev := forRange 8 (fun n d => d.ebRaise n exact) d

/-! ### Egress terms and stamped values (R114, R115) -/

/-- E_PORT: 100 ps on the root PLL, 10 000 ps in LO bypass. -/
def Dev.ePort (d : Dev) : Nat := if d.clkSrc = 0 then 100 else 10000
/-- E_OPEN: 160 ps while the loop is open. -/
def Dev.eOpen (d : Dev) (n : Nat) : Nat := if d.loopOpen n then 160 else 0

/-- The unbounded value. -/
def unboundedPs : Nat := 0xFFFFFFFFFFFFFFFF

/-- BE of a frame whose time fields are fixed a time (2^-48 ns) after the tick of the published values, on a port,
launch-time or not (R114). -/
def Dev.stamped (d : Dev) (n t port : Nat) (launch : Bool) : Nat :=
  if d.bound n = unboundedPs then unboundedPs
  else d.bound n + rateGrowth (d.nat (R.EBn_RATE n)) t + d.ePort +
    (if launch then d.fld (R.TSUn_LAUNCH_TOL port) 15 0 * 1000 else 0) + d.eOpen n + d.nat R.EB_EGRESS_ADD

/-- NTP root dispersion of R115. -/
def ntpDisp (be_ : Nat) : Nat :=
  if be_ = unboundedPs then 0xFFFFFFFF
  else
    let v := max 1 (ceilDiv (be_ * 65536) 1000000000000)
    if v ≤ 0xFFFFFFFF then v else 0xFFFFFFFF

/-- The limit of a clockAccuracy code, in half ps: 1, 2.5, 10, 25 … up to 0x2F 1 s, 0x30 10 s (R115). -/
def accHalfPs (code : Nat) : Nat :=
  if code = 0x30 then 20 * 10 ^ 12
  else if (code - 0x17) % 2 = 0 then 2 * 10 ^ ((code - 0x17) / 2) else 5 * 10 ^ ((code - 0x17) / 2)

/-- The upper limit of a received clockAccuracy code in ps, rounded up; none where it gives no measurement (R103). -/
def accLimit (code : Nat) : Option Nat :=
  if 0x17 ≤ code ∧ code ≤ 0x30 then some (ceilDiv (accHalfPs code) 2) else none

/-- The smallest clockAccuracy code whose limit is at least BE, from a lowest code on (R115). -/
def clockAcc (low be_ : Nat) : Nat :=
  match ((List.range 26).map (· + 0x17)).find? (fun c => decide (low ≤ c) && decide (be_ * 2 ≤ accHalfPs c)) with
  | some c => c
  | none => 0x31

/-- The least k with a ≤ b × 2^k, for positive a and b. -/
def clog2 (a b : Nat) : Int :=
  let k0 : Int := (Nat.log2 a : Int) - Nat.log2 b - 1
  let ok : Int → Bool := fun k => if 0 ≤ k then decide (a ≤ b * 2 ^ k.toNat) else decide (a * 2 ^ (-k).toNat ≤ b)
  if ok k0 then k0 else if ok (k0 + 1) then k0 + 1 else k0 + 2

/-- offsetScaledLogVariance of R115: 0x8000 + ceil(256 × log₂(BE² in s²)), saturating. -/
def oslv (be_ : Nat) : Nat :=
  let k := (0x8000 : Int) + clog2 (max be_ 1 ^ 512) (10 ^ 6144)
  if k < 0 then 0 else if 0xFFFE < k then 0xFFFE else k.toNat

/-! ### Service states (R116, R117) -/

/-- EBn_STAT.STATE. -/
def Dev.ebState (d : Dev) (n : Nat) : Nat := d.fld (R.EBn_STAT n) 2 0

/-- How bad a state is: LOCKED, HOLD_IN, HOLD_OUT, UNSYNC, UNBOUNDED. -/
def stateRank (s : Nat) : Nat := if s = 0 then 5 else s
/-- The state of a rank. -/
def rankState (r : Nat) : Nat := if r = 5 then 0 else r

/-- The largest launch tolerance among the eight ports, ns. -/
def Dev.maxTol (d : Dev) : Nat := (List.range 8).foldl (fun m n => max m (d.fld (R.TSUn_LAUNCH_TOL n) 15 0)) 0

/-- E_MAX of R116. -/
def Dev.eMax (d : Dev) (n : Nat) : Nat := d.ePort + d.eOpen n + d.nat R.EB_EGRESS_ADD + d.maxTol * 1000

/-- The state whose condition holds, with the thresholds scaled by num/16 (R116, R117). -/
def Dev.stateMet (d : Dev) (n : Nat) (h : EbHid) (bend num : Nat) : Nat :=
  if !h.bounded then 0
  else
    let serve := d.nat (R.EBn_THR_SERVE n) * 1000 * num
    let spec := d.nat (R.EBn_THR_SPEC n) * 1000 * num
    let recent := match h.measAge with
      | some a => decide (a ≤ d.fld (R.EBn_LOCK_WIN n) 15 0)
      | none => false
    if serve < bend * 16 then 4
    else if recent then 1
    else if bend * 16 ≤ spec then 2 else 3

/-- The state after a tick (R117): worse at once, better after 1 000 consecutive ticks. -/
def Dev.nextState (d : Dev) (n : Nat) (h : EbHid) (bend : Nat) : Nat × EbHid :=
  let s := d.ebState n
  let now := d.stateMet n h bend 16
  if stateRank s < stateRank now then (now, { h with better := 0, worstBetter := 0 })
  else
    let b := stateRank (d.stateMet n h bend 15)
    if b < stateRank s then
      let w := max h.worstBetter b
      if 1000 ≤ h.better + 1 then (rankState w, { h with better := 0, worstBetter := 0 })
      else (s, { h with better := h.better + 1, worstBetter := w })
    else (s, { h with better := 0, worstBetter := 0 })

/-! ### The ledger (R118 to R120) -/

/-- The ledger entry of a cause, from the published values of the tick (R119). A Y, U_REF, U_PATH or U_TS above 32 bits
leaves its low 32 bits in its field: DESIGN CHOICE (log 62). -/
def Dev.ledgerEntry (d : Dev) (n cause : Nat) (h : EbHid) : List Byte :=
  let ext := decide (cause = 1 ∨ cause = 2 ∨ cause = 8)
  let c := h.tickAt
  let sel := d.fld (R.REF_TBn_STAT n) 4 0
  let core :=
    be 1 cause ++ be 1 (d.ebState n * 16 + n) ++ be 1 (if sel = 31 then 0xFF else sel) ++
    be 1 (d.clkSrc * 4 + b2n (d.bit (R.EBn_STAT n) 4) * 2 + b2n ext) ++ be 6 (cSec c) ++ be 2 (cNs c / 1000000) ++
    be 2 (d.nat (R.EBn_SEQ n)) ++ be 2 h.dt ++
    be 4 (d.nat (R.EBn_LO_HI n)) ++ be 4 (d.nat (R.EBn_LO_LO n)) ++ be 4 (d.nat (R.EBn_HI_HI n)) ++
    be 4 (d.nat (R.EBn_HI_LO n)) ++ be 4 (d.nat (R.EBn_P_HI n)) ++ be 4 (d.nat (R.EBn_P_LO n)) ++
    be 4 (d.nat (R.EBn_TAU n)) ++ be 4 (d.nat (R.EBn_PRATE n)) ++ be 4 h.y ++ be 4 h.dd ++ be 4 h.k ++
    be 4 (d.nat (R.EBn_RATE n))
  match ext, h.inc with
  | true, some i =>
    core ++ beInt 8 (i.m / 65536) ++ beInt 8 (i.loPre / 65536) ++ beInt 8 (-(-i.hiPre / 65536)) ++ be 4 i.uRef ++
      be 4 i.uPath ++ be 4 i.uTs ++ beInt 2 h.ta0 ++ beInt 2 h.ta1
  | true, none => core ++ (List.range 36).map (Config.unmeasured c) ++ beInt 2 h.ta0 ++ beInt 2 h.ta1
  | false, _ => core

/-- Ascending causes. -/
def sortCauses (cs : List Nat) : List Nat := (List.range 12).filter (fun c => decide (c ∈ cs))

/-- A checkpoint falls at this tick: TB0 seconds a multiple of EBn_LPER, first millisecond (R118). -/
def Dev.checkpoint (d : Dev) (n : Nat) : Bool :=
  let lper := d.fld (R.EBn_LPER n) 11 0
  let c := (d.ebAt n).tickAt
  decide (lper ≠ 0) && decide (cSec c % lper = 0) && decide (cNs c < 1000000)

/-- Write the tick's ledger entries, one per cause in ascending order (R118, R120). -/
def Dev.writeLedger (d : Dev) (n : Nat) : Dev :=
  let h := d.ebAt n
  let causes := sortCauses (if d.checkpoint n then 9 :: h.causes else h.causes)
  let causes := if causes = [] then [0] else causes
  let d := causes.foldl (fun d c =>
    let e := d.ledgerEntry n c h
    let d := if d.bit (R.EBn_CFG n) 0 then d.ringOffer 0 0x03 e (some R.EB_DMA_DROP) else d
    if c = 0 then d else d.record 0x0003 0x05 e) d
  d.setEb n { h with causes := [], inc := none }

/-! ### The tick (R105 to R112) -/

/-- Publish the tick's values (R102, R108, R121). A Y above 32 bits leaves its low 32 bits in EBn_Y: DESIGN CHOICE
(log 62). -/
def Dev.ebPublish (d : Dev) (n : Nat) : Dev :=
  let h := d.ebAt n
  let d := if h.bounded then
      ((d.wrInt64 (R.EBn_LO_LO n) (R.EBn_LO_HI n) (h.lo / 65536)).wrInt64 (R.EBn_HI_LO n) (R.EBn_HI_HI n)
        (-(-h.hi / 65536))).wrNat64 (R.EBn_B_LO n) (R.EBn_B_HI n) (boundOf h.lo h.hi)
    else d.wrNat64 (R.EBn_B_LO n) (R.EBn_B_HI n) unboundedPs
  let d := (d.wrNat (R.EBn_RATE n) (min (rateOf h) 0xFFFFFFFF)).wrNat (R.EBn_TAU n) (min h.tau 0xFFFFFFFF)
  let d := d.wrInt64 (R.EBn_P_LO n) (R.EBn_P_HI n) h.phaseLo
  let d := d.wrFit (R.EBn_PRATE n) (Config.shown (h.pNew * 65536))
  let d := ((d.wrNat (R.EBn_Y n) h.y).wrNat (R.EBn_D n) h.dd).wrNat (R.EBn_K n) h.k
  (d.setFld (R.EBn_DT n) 15 0 h.dt).setBit (R.EBn_STAT n) 4 h.freqRef.isSome

/-- The sample carried to the latest tick: M plus the steering since, U_TS plus the growth at the published RATE
(R104). -/
def Dev.carry (d : Dev) (n : Nat) (s : Sample) : Int × Nat :=
  let h := d.ebAt n
  (s.m + (h.steerT - s.steer) * 1000 / (2 ^ 32 : Nat),
   (if s.clksrc = 1 then 10000 else s.uTs) + rateGrowth (d.nat (R.EBn_RATE n)) (h.tickAt - s.at_))

/-- Incorporate a sample of the selected reference (R110, R112, R113). -/
def Dev.incorporate (d : Dev) (n r : Nat) (s : Sample) : Dev :=
  let h := d.ebAt n
  let (m, uTs) := d.carry n s
  let u : Int := ((s.uRef + s.uPath + uTs) * 65536 : Nat)
  let inc : Incorp := ⟨m, s.uRef, s.uPath, uTs, h.lo, h.hi⟩
  if !h.bounded then
    let h' := { (d.measAnchor h (m - u) (m + u)).because 8 with inc := some inc }
    (d.setEb n h').setSrv n { d.srvAt n with restart := some 0 }
  else if max h.lo (m - u) ≤ min h.hi (m + u) then
    d.setEb n { (d.measAnchor h (max h.lo (m - u)) (min h.hi (m + u))).because 1 with inc := some inc }
  else
    let h' := { (d.measAnchor h (min h.lo (m - u)) (max h.hi (m + u))).because 2 with inc := some inc }
    let d := ((d.setEb n h').bump (R.EBn_CONFLICT n)).setBit (R.EBn_STAT n) 5 true
    (d.setSel n { d.selAt n with conflict := some (r, h.lo, h.hi) }).raise 7 n

/-- A change of the frequency source starts a new anchor with the current interval (R106). -/
def Dev.ebFreqRef (d : Dev) (n : Nat) : Dev :=
  let h := d.ebAt n
  let fr := if d.bit (R.REF_TBn_STAT n) 12 then some (d.fld (R.REF_TBn_STAT n) 4 0) else none
  if h.freqRef = fr then d
  else
    let h := { h with freqRef := fr }
    let h := if h.bounded then (d.anchor h h.lo h.hi (d.anchorParams fr)).because 5 else h.because 5
    d.setEb n h

/-- The sample of the selected phase reference that this tick may incorporate (R110, R111). -/
def Dev.ebSample (d : Dev) (n : Nat) : Option (Nat × Sample) :=
  let st := R.REF_TBn_STAT n
  let r := d.fld st 4 0
  if d.bit st 11 || d.bit st 12 || decide (24 ≤ r) then none
  else if d.fld (R.REFr_STAT r) 2 0 ≠ 4 ∨ d.bit (R.REF_TBn_SUSP n) r then none
  else match (d.rnAt (8 * r + n)).cur with
    | some s => if s.meas then some (r, s) else none
    | none => none

/-- R102: a bound above the largest published value is none. -/
def Dev.ebLimit (d : Dev) (n : Nat) : Dev :=
  let h := d.ebAt n
  if h.bounded ∧ 0xFFFFFFFFFFFF < boundOf h.lo h.hi then d.setEb n h.unbound else d

/-- The tick of one time base's bound: the interval grows from the anchor to the tick (R105). -/
def ebGrow (n : Nat) (d : Dev) : Dev :=
  let h := d.ebAt n
  let h := { h with dt := d.deviation h, tau := h.tau + 1, measAge := h.measAge.map (· + 1) }
  let h := if h.bounded then h.grow else h
  let h := if !d.isSet n || d.clkSrc == 2 then h.unbound else h
  (d.setEb n h).setFld (R.EBn_SEQ n) 15 0 (d.fld (R.EBn_SEQ n) 15 0 + 1)

/-- Raised parameters, a change of frequency source, and p before the tick's commit; what follows waits for the tick's
loop update (R106 to R109). -/
def ebOpen (n : Nat) (d : Dev) : Dev :=
  let d := (d.ebRaise n false).ebFreqRef n
  d.setEb n { d.ebAt n with pOld := d.predicted n, due := true }

/-- The tick's sample is incorporated (R110 to R113). -/
def Dev.ebTake (d : Dev) (n : Nat) : Dev :=
  if !(d.ebAt n).due || !d.isSet n || d.clkSrc == 2 then d
  else match d.ebSample n with
    | some (r, s) => d.incorporate n r s
    | none => d

/-- The tick's loop update missed its deadline: no sample, counted, cause 10 (R17, R109). -/
def Dev.ebMiss (d : Dev) (n : Nat) : Dev :=
  if !(d.ebAt n).due then d
  else ((d.setEb n ((d.ebAt n).because 10)).bump (R.EBn_MISS n)).setBit (R.EBn_STAT n) 6 true

/-- The tick's RATE with p after the commit, its publication, the service state and the ledger (R108, R116 to R120). At a
miss the previous p goes on (R109). -/
def Dev.ebClose (d : Dev) (n : Nat) (missed : Bool) : Dev :=
  let h := d.ebAt n
  if !h.due then d
  else
    let d := d.setEb n { h with pNew := if missed then h.pOld else d.predictedNext n, due := false, pubAt := h.tickAt }
    let d := (d.ebLimit n).ebPublish n
    let bend := d.bound n + rateGrowth (d.nat (R.EBn_RATE n)) (2000000 * nsUnit) + d.eMax n
    let (st, h) := d.nextState n (d.ebAt n) bend
    let h := if st = d.ebState n then h else h.because 6
    ((d.setEb n h).setFld (R.EBn_STAT n) 2 0 st).writeLedger n

/-- A tick at which no loop update of the time base is due: RC bypass, and in LO bypass the ticks of the other time
bases (R182, R183). -/
def Dev.noUpdate (d : Dev) (n : Nat) : Bool := d.clkSrc == 2 || (d.clkSrc == 1 && d.nat R.REF_TICKS % 16 != 2 * n)

/-- At such a tick the bound's work ends with the tick. -/
def ebIdle (n : Nat) (d : Dev) : Dev := if d.noUpdate n then (d.ebTake n).ebClose n false else d

/-- R121: a read of EBn_B_LO latches every RO value of the time base. -/
def effEbLatch (p : Port) (n : Nat) (d : Dev) : Dev :=
  (d.latchRegs p [R.EBn_B_LO n, R.EBn_B_HI n, R.EBn_LO_LO n, R.EBn_LO_HI n, R.EBn_HI_LO n, R.EBn_HI_HI n, R.EBn_RATE n,
    R.EBn_TAU n, R.EBn_P_LO n, R.EBn_P_HI n, R.EBn_PRATE n, R.EBn_Y n, R.EBn_D n, R.EBn_K n, R.EBn_DT n, R.EBn_SEQ n]).emit
    (.readData p (d.rd (R.EBn_B_LO n)))

def execEbLatchRead (p : Port) (n : Fin 8) (s : State) : Result := s.on (fun d => d.asRead p (effEbLatch p n))

end Sys2Proof.Machine
end

