-- ==== Sys2Proof/Machine/IrigCode.lean ====
section
/-! DEFINITION. The IRIG-B code (R7, R126): the calendar, and the hundred elements of a frame sent and received. -/
namespace Sys2Proof.Machine

/-- Year and day of the year (from 1) of a day counted from 1970-01-01, by the Gregorian calendar. -/
def yearDay (days : Nat) : Nat × Nat :=
  -- days from 1600-01-01, in 400-year eras
  let z := days + 135140
  let era := z / 146097
  let doe := z % 146097
  let c := min 3 ((doe - 1) / 36524)
  let r := if c = 0 then doe else doe - 1 - c * 36524
  -- within a century: the first of the era has a leap year at its start, the others start without one
  let first := if c = 0 then 366 else 365
  if r < first then (1600 + era * 400 + c * 100, r + 1)
  else
    let q := r - first
    let y4 := q / 1461
    let d4 := q % 1461
    let yy := min 3 (d4 / 365)
    (1600 + era * 400 + c * 100 + 1 + y4 * 4 + yy, d4 - yy * 365 + 1)

/-- Bit i of the BCD digits of a number placed as units, a gap, tens, a gap, hundreds: bit 0 to 3 units, 5 to 8 tens, 10 to
13 hundreds. -/
def bcdBit (v i : Nat) : Nat :=
  if i < 4 then v % 10 / 2 ^ i % 2
  else if i < 5 then 0
  else if i < 9 then v / 10 % 10 / 2 ^ (i - 5) % 2
  else if i < 10 then 0
  else v / 100 % 10 / 2 ^ (i - 10) % 2

/-- What one frame tells: seconds (0 to 60), minutes, hours, day of the year, year, straight binary seconds of the day. -/
structure IrigTime where
  sec : Nat
  min : Nat
  hour : Nat
  day : Nat
  year : Nat
  sbs : Nat
deriving DecidableEq, Repr

/-- The time a frame carries for a presented second; the inserted second reads 23:59:60 (R45). -/
def irigTime (t : Nat) (leap61 : Bool) : IrigTime :=
  let s := t % 86400
  let (y, dd) := yearDay (t / 86400)
  ⟨if leap61 then 60 else s % 60, s / 60 % 60, s / 3600, dd, y, if leap61 then s + 1 else s⟩

/-- The codes B000 to B007 that carry the control functions, the year and the straight binary seconds. -/
def irigCf (code : Nat) : Bool := code == 0 || code == 1 || code == 4 || code == 5
def irigYear (code : Nat) : Bool := decide (4 ≤ code)
def irigSbs (code : Nat) : Bool := code == 0 || code == 3 || code == 4 || code == 7

/-- The extensions' control bits 60 to 74: leap second pending, its sign, daylight saving pending and in force, offset
sign and hours, half hour, time quality. The layout of IEEE 1344 and C37.118.1 stands outside the spec: PRESUMED (log 64). -/
def irigCtrl (pend del : Bool) (quality i : Nat) : Nat :=
  if i = 60 then (if pend then 1 else 0) else if i = 61 then (if pend && del then 1 else 0)
  else if 71 ≤ i ∧ i ≤ 74 then quality / 2 ^ (i - 71) % 2 else 0

/-- A data element of a frame before its parity; markers read 0 here. -/
def irigData (code : Nat) (ext : Bool) (t : IrigTime) (pend del : Bool) (quality i : Nat) : Nat :=
  if i % 10 = 9 ∨ i = 0 then 0
  else if i < 9 then bcdBit t.sec (i - 1)
  else if i < 19 then bcdBit t.min (i - 10)
  else if i < 29 then bcdBit t.hour (i - 20)
  else if i < 39 then bcdBit t.day (i - 30)
  else if i < 49 then (if i < 42 then t.day / 100 / 2 ^ (i - 40) % 2 else 0)
  else if i < 59 then (if irigYear code || (irigCf code && ext) then bcdBit t.year (i - 50) else 0)
  else if i < 79 then (if irigCf code && ext then irigCtrl pend del quality i else 0)
  else if i < 89 then (if irigSbs code then t.sbs / 2 ^ (i - 80) % 2 else 0)
  else if i < 98 then (if irigSbs code then t.sbs / 2 ^ (i - 81) % 2 else 0)
  else 0

/-- The hundred elements: 0, 1, or 2 for a marker. With the extensions element 75 makes the number of ones before it and
its own odd: PRESUMED (log 64). -/
def irigElems (code : Nat) (ext : Bool) (t : IrigTime) (pend del : Bool) (quality : Nat) : List Nat :=
  let data := irigData code ext t pend del quality
  let ones := ((List.range 75).map data).sum
  (List.range 100).map (fun i =>
    if i % 10 = 9 ∨ i = 0 then 2 else if i = 75 ∧ irigCf code ∧ ext then (ones + 1) % 2 else data i)

/-! ### A received frame (R126) -/

/-- A number of up to three BCD digits placed as `bcdBit` places them, read from element i on. -/
def bcdAt (e : List Nat) (i digits : Nat) : Nat :=
  let dig := fun k w => ((List.range w).map (fun b => e.getD (i + k + b) 0 % 2 * 2 ^ b)).sum
  dig 0 4 + (if 2 ≤ digits then 10 * dig 5 4 else 0) + (if 3 ≤ digits then 100 * dig 10 2 else 0)

/-- The markers stand in their places and every other element is a bit. -/
def irigValid (e : List Nat) : Bool :=
  decide (e.length = 100) && (List.range 100).all (fun i => if i % 10 = 9 ∨ i = 0 then e.getD i 0 == 2 else decide (e.getD i 0 < 2))

/-- The extensions are present with valid parity: in a code with control functions. -/
def irigExt (code : Nat) (e : List Nat) : Bool :=
  irigCf code && decide (((e.take 76).filter (· == 1)).length % 2 = 1)

/-- The time-quality code of the extensions. -/
def irigTq (e : List Nat) : Nat := ((List.range 4).map (fun b => e.getD (71 + b) 0 % 2 * 2 ^ b)).sum

/-- The straight binary seconds. -/
def irigSbsAt (e : List Nat) : Nat :=
  ((List.range 9).map (fun b => e.getD (80 + b) 0 % 2 * 2 ^ b)).sum + ((List.range 8).map (fun b => e.getD (90 + b) 0 % 2 * 2 ^ (9 + b))).sum

/-- The frame's fields down to the second, the year of the century where its code or its extensions carry one, and its
straight binary seconds where its code carries them, agree with a time (R126). -/
def irigAgrees (code : Nat) (e : List Nat) (t : IrigTime) : Bool :=
  bcdAt e 1 2 == t.sec && bcdAt e 10 2 == t.min && bcdAt e 20 2 == t.hour &&
  bcdAt e 30 3 == t.day &&
  (!(irigYear code || irigExt code e) || bcdAt e 50 2 == t.year % 100) &&
  (!irigSbs code || irigSbsAt e == t.sbs)

/-- The leap that a frame's extensions announce, at the next midnight of a UTC second: that midnight counted without the
leap, and deletion (R129). -/
def irigLeap (e : List Nat) (utc : Nat) : Option (Nat × Bool) :=
  if e.getD 60 0 = 1 then some ((utc / 86400 + 1) * 86400, e.getD 61 0 == 1) else none

end Sys2Proof.Machine
end

