-- ==== Sys2Proof/Machine/Reference.lean ====
section
/-! DEFINITION. Reference inputs, qualification, ranking and switching (chapter 05). Sample phases are in 2^-16 ps,
frequency offsets in 2^-8 ppt. -/
namespace Sys2Proof.Machine

/-! ### Configuration of a reference (R123, R155) -/

/-- REFr_CFG.USE: 0 off, 1 frequency only, 2 phase with frequency, 3 phase only. -/
def Dev.refUse (d : Dev) (r : Nat) : Nat := d.fld (R.REFr_CFG r) 1 0
/-- Used for phase. -/
def Dev.refPhase (d : Dev) (r : Nat) : Bool := decide (2 ≤ d.refUse r)
/-- Bit n of TBMASK. -/
def Dev.refServes (d : Dev) (r n : Nat) : Bool := decide (n < 8) && d.bit (R.REFr_CFG r) (20 + n)
/-- REFr_CFG.PRIO. -/
def Dev.refPrio (d : Dev) (r : Nat) : Nat := d.fld (R.REFr_CFG r) 15 8
/-- REFr_STAT.STATE: 0 OFF, 1 FAILED, 2 HOLDOFF, 3 WTR, 4 QUALIFIED (R132). -/
def Dev.refState (d : Dev) (r : Nat) : Nat := d.fld (R.REFr_STAT r) 2 0
/-- Suspect for a time base. -/
def Dev.suspect (d : Dev) (r n : Nat) : Bool := d.bit (R.REF_TBn_SUSP n) r
/-- The selection of a time base; 31 none. -/
def Dev.selRef (d : Dev) (n : Nat) : Nat := d.fld (R.REF_TBn_STAT n) 4 0
/-- Change what no register holds of a reference. -/
def Dev.modRef (d : Dev) (r : Nat) (f : RefHid → RefHid) : Dev := d.setRefs r (f (d.refsAt r))
/-- Change what no register holds of a reference against a time base. -/
def Dev.modRn (d : Dev) (r n : Nat) (f : RnHid → RnHid) : Dev := d.setRn (8 * r + n) (f (d.rnAt (8 * r + n)))

/-! ### Quality messages and levels (R130, R131) -/

/-- The level of an ESMC SSM code and eSSM code (R130). -/
def esmcLevel (ssm : Nat) (essm : Option Nat) : Nat :=
  match ssm, essm with
  | 0x2, some 0x21 => 1
  | 0x2, some 0x20 => 2
  | 0x2, some 0x23 => 3
  | 0x2, some 0xFF => 3
  | 0x2, none => 3
  | 0x4, _ => 4
  | 0x8, _ => 5
  | 0xB, some 0x22 => 6
  | 0xB, some 0xFF => 7
  | 0xB, none => 7
  | _, _ => 15

/-- The level of an Announce message (R130). -/
def announceLevel (cls acc : Nat) : Nat :=
  if cls = 6 ∨ cls = 13 then (if 0x17 ≤ acc ∧ acc ≤ 0x20 then 1 else 2)
  else if cls = 7 ∨ cls = 14 then 3
  else if cls = 52 ∨ cls = 135 ∨ cls = 140 then 4
  else if cls = 58 ∨ cls = 150 ∨ cls = 160 then 5
  else if cls = 165 then 6
  else if cls = 187 ∨ cls = 193 then 7
  else 15

/-- The level of an IEEE 1344 time-quality code (R130). -/
def irigLevel (q : Nat) : Nat :=
  if q ≤ 3 then 2 else if q ≤ 5 then 3 else if q ≤ 7 then 4 else if q ≤ 11 then 5 else 15

/-- A quality message of a reference: REFr_QLMSG shows its kind and raw code, and its level acts at the next tick
(R131). -/
def Dev.refMessage (d : Dev) (r kind raw level : Nat) : Dev :=
  (d.wrNat (R.REFr_QLMSG r) (kind * 2 ^ 24 + raw % 2 ^ 16)).modRef r (fun h => { h with level := level, msg := false })

/-- The time-base record of the mate's latest STATE frame (R397). -/
def Dev.mateTb (d : Dev) (n : Nat) : Option (List Byte) := d.pair.mate.map (fun b => slice b (64 + 48 * n) 48)

/-- The mate's level for a time base (R128); 0 before the mate's first STATE frame. -/
def Dev.mateLevel (d : Dev) (n : Nat) : Nat :=
  match d.mateTb n with
  | none => 0
  | some b =>
    match beAt b 0 1 / 16 % 8 with
    | 1 => beAt b 0 1 % 16
    | 2 => 3
    | 3 => 5
    | _ => 15

/-- The lowest-numbered time base in a reference's TBMASK. -/
def Dev.lowestServed (d : Dev) (r : Nat) : Nat := ((List.range 8).find? (fun n => d.refServes r n)).getD 0

/-- The level a reference has at a tick (R130, R128). -/
def Dev.levelNow (d : Dev) (r : Nat) : Nat :=
  if !d.bit (R.REFr_CFG r) 7 then d.fld (R.REFr_CFG r) 19 16
  else if r = 17 then d.mateLevel (d.lowestServed 17)
  else (d.refsAt r).level

/-- The level by which time base n ranks a reference (R128, R137). -/
def Dev.levelFor (d : Dev) (r n : Nat) : Nat :=
  if r = 17 ∧ d.bit (R.REFr_CFG r) 7 then d.mateLevel n else d.fld (R.REFr_STAT r) 7 4

/-! ### Samples -/

/-- Steering phase in 2^-16 ps. -/
def steer16 (s : Int) : Int := s * 1000 / (2 ^ 32 : Nat)
/-- The model offset x = M − S of a sample (R142), 2^-16 ps. -/
def Sample.x (s : Sample) : Int := s.m - steer16 s.steer
/-- U_TS of a sample: 10 000 ps in LO bypass (R104). -/
def Sample.uTsOf (s : Sample) : Nat := if s.clksrc = 1 then 10000 else s.uTs
/-- U of a sample, ps (R103). -/
def Sample.u (s : Sample) : Nat := s.uRef + s.uPath + s.uTsOf

/-- Deliver a sample of a reference against a time base it serves; the next tick gathers it (R16). -/
def Dev.deliver (d : Dev) (r n : Nat) (s : Sample) : Dev :=
  if d.refServes r n then d.modRn r n (fun h => { h with inbox := h.inbox ++ [s] }) else d

/-- An instant (2^-16 ns) modulo 1 s to the nearest whole second, as an offset in 2^-16 ps (R123). -/
def modSecond (t : Nat) : Int :=
  let u : Int := (1000000000 * 2 ^ 16 : Nat)
  let v : Int := (t : Int) % u
  (if 2 * v < u then v else v - u) * 1000

/-- A sample of an on-time edge against a time base. -/
def Dev.edgeSample (d : Dev) (n t uRef uPath uTs : Nat) (meas : Bool) : Sample :=
  ⟨modSecond t, uRef, uPath, uTs, d.count 0, (d.tbAt n).steer, d.clkSrc, meas⟩

/-- Deliver an on-time edge's samples to the time bases a reference serves. -/
def Dev.deliverEdge (d : Dev) (r : Nat) (ats : List Nat) (uRef uTs : Nat) (meas : Bool) : Dev :=
  forRange 8 (fun n d => match ats[n]? with
    | some t => d.deliver r n (d.edgeSample n t uRef (d.nat (R.EB_RPATH r)) uTs meas)
    | none => d) d

/-! ### Edges, frames and the atomic UART (R125 to R127) -/

/-- An instant of TB0, 2^-16 ns, less what its initial set moved it, so that intervals run across the set. -/
def Dev.sinceSet (d : Dev) (t : Nat) : Int := (t : Int) - (d.tbAt 0).setShift / (2 ^ 32 : Nat)

/-- Which test of R125 drops a PPS edge at an instant of TB0, 2^-16 ns; after a LOS defect there is no window. -/
def Dev.ppsDropped (d : Dev) (r : Nat) (t : Int) : Bool :=
  match (d.refsAt r).lastEdge with
  | none => false
  | some l =>
    let win : Int := (d.nat R.REF_PPSWIN * 2 ^ 16 : Nat)
    let sec : Int := (1000000000 * 2 ^ 16 : Nat)
    decide (t < l + (50 * 2 ^ 16 : Nat)) ||
      (!(d.refsAt r).los && !d.bit (R.REFr_STAT r) 8 && (decide (t + win < l + sec) || decide (l + sec + win < t)))

/-- R125: a PPS edge of the active polarity is accepted as a sample or dropped and counted. -/
def effPpsEdgeRx (r : Nat) (hit : Hit) (d : Dev) : Dev :=
  if !((10 ≤ r ∧ r ≤ 13) ∨ r = 16) ∨ !d.refPhase r then d
  else
    let ats := d.stampAll (if r = 16 then 60 else 46 + r) hit
    let t := d.sinceSet (ats.headD 0)
    if d.ppsDropped r t then d.bump (R.REFr_GLITCH r)
    else (d.modRef r (fun h => { h with los := false, lastEdge := some t, sigAt := d.nowNs })).deliverEdge r ats
      (d.fld (R.EB_RUNC r) 30 0) 80 true

/-- UTC seconds of a time base at an on-time edge, as IRIG-B compares them (R126). -/
def Dev.utcAtEdge (d : Dev) (n t : Nat) : Int :=
  let lag : Int := (d.count n : Int) - (d.presented n : Int)
  let utc : Int := if d.fld (R.TBn_CFG n) 1 0 = 1 then (t : Int) - lag / (2 ^ 32 : Nat)
    else (t : Int) - signed 16 (d.fld R.REF_TAIUTC 15 0) * (1000000000 * 2 ^ 16 : Nat)
  (utc + (500000000 * 2 ^ 16 : Nat)) / (1000000000 * 2 ^ 16 : Nat)

/-- U_REF of an IEEE 1344 time-quality code, ps; none where it gives no measurement (R103). -/
def irigUnc (q : Nat) : Option Nat :=
  if q ≤ 1 then some 1000 else if q ≤ 11 then some (1000 * 10 ^ (q - 1)) else none

/-- A frame agrees with the UTC value of a time base at its on-time edge, also in an inserted second (R126, R45). -/
def Dev.irigMatches (d : Dev) (n t code : Nat) (e : List Nat) : Bool :=
  let u := d.utcAtEdge n t
  decide (0 ≤ u) && irigAgrees code e (irigTime u.toNat (d.fld (R.TBn_CFG n) 1 0 == 1 && d.bit (R.TBn_STAT n) 7))

/-- R126: an IRIG-B frame at its on-time edge; one that is not valid is a discarded message (R154). -/
def effIrigRx (r code : Nat) (e : List Nat) (d : Dev) : Dev :=
  if (r ≠ 14 ∧ r ≠ 15) ∨ !d.refPhase r then d
  else if !irigValid e then d.bump (R.REFr_GLITCH r)
  else
    let qsrc := d.bit (R.REFr_CFG r) 7
    let ext := irigExt code e
    let tq := irigTq e
    let d := if ext then d.refMessage r 4 tq (irigLevel tq) else d
    let ats := (List.range 8).map (fun n => c16 (d.count n))
    let bad := (List.range 8).any (fun n => d.refServes r n && !d.irigMatches n (ats.getD n 0) code e)
    let leap := if ext then (List.range 8).findSome? (fun n =>
      if d.refServes r n then irigLeap e (d.utcAtEdge n (ats.getD n 0)).toNat else none) else none
    let d := d.modRef r (fun h => { h with
      los := false, msg := qsrc && !ext, tod := bad, leap := leap, sigAt := d.nowNs })
    let u := if ext then irigUnc tq else some (d.fld (R.EB_RUNC r) 30 0)
    d.deliverEdge r ats (u.getD 0) (if ext then 10000 else 80) u.isSome

/-- R127: the poll string is sent, once per second. -/
def effAtomPoll (d : Dev) : Dev :=
  if d.bit R.REF_ATOM_CFG 8 ∧ d.atom.pollAt.all (fun t => decide (t + 1000000000 ≤ d.nowNs)) then
    ({ d with atom := { d.atom with waiting := true, pollAt := some d.nowNs } }).emit (.atomTx d.atom.pollString)
  else d

/-- 500 ms have passed since the latest poll (R127). -/
def Dev.pollOver (d : Dev) : Bool := d.atom.pollAt.all (fun t => decide (t + 500000000 ≤ d.nowNs))

/-- The first pattern that matches the start of a line: its number and level (R127). -/
def matchPattern : Nat → List (List Byte × Nat) → List Byte → Option (Nat × Nat)
  | _, [], _ => none
  | i, (p, l) :: r, line => if p.isPrefixOf line then some (i, l) else matchPattern (i + 1) r line

/-- R127: a line ending in CR or LF arrives; with POLL set the first line of a poll is the reply, with POLL clear every
line is one. -/
def effAtomReply (line : List Byte) (d : Dev) : Dev :=
  let d := { d with atom := { d.atom with lineAt := d.nowNs } }
  if d.bit R.REF_ATOM_CFG 8 ∧ (!d.atom.waiting ∨ d.pollOver) then d.bump (R.REFr_GLITCH 16)
  else
    let d := { d with atom := { d.atom with waiting := false, misses := 0 } }
    match matchPattern 0 d.atom.patterns line with
    | some (i, l) => d.refMessage 16 5 i l
    | none =>
      let (w, d) := d.freeWord
      d.refMessage 16 5 (wfld w 15 0) 15

/-- R127: no reply within 500 ms; the third poll in a row without one is a MSG defect. -/
def effAtomTimeout (d : Dev) : Dev :=
  if d.bit R.REF_ATOM_CFG 8 ∧ d.atom.waiting ∧ d.pollOver then
    let m := d.atom.misses + 1
    let d := { d with atom := { d.atom with waiting := false, misses := m } }
    if 3 ≤ m then d.modRef 16 (fun h => { h with msg := true }) else d
  else d

/-- R127: 3 s without a line while listening is a MSG defect. -/
def effAtomSilence (d : Dev) : Dev :=
  if d.bit R.REF_ATOM_CFG 8 ∨ d.nowNs < d.atom.lineAt + 3000000000 then d else d.modRef 16 (fun h => { h with msg := true })

/-! ### Tick step 1: gathering (R16, R136) -/

/-- TB0's count in ns, for the trend windows. -/
def Dev.tickNs (d : Dev) : Int := (d.count 0 / nsUnit : Nat)

/-- The points still inside the trend window of REFr_TRWIN seconds (R146). -/
def Dev.trendTrim (d : Dev) (r : Nat) (ps : List (Int × Int)) : List (Int × Int) :=
  ps.filter (fun p => decide (d.tickNs - (d.fld (R.REFr_TRWIN r) 11 0 * 1000000000 : Nat) ≤ p.1))

/-- Gather the samples of a reference against a time base; one taken in RC bypass enters nothing (R16, R146, R150,
R153, R162). -/
def gatherRn (r n : Nat) (d : Dev) : Dev :=
  let h := d.rnAt (8 * r + n)
  let inbox := h.inbox.filter (fun s => s.clksrc != 2)
  let cur := inbox.getLast?
  let rc := d.clkSrc == 2
  let pts := if rc || !d.isSet n then h.points
    else d.trendTrim r (h.points ++ inbox.map (fun s => (((s.at_ / nsUnit : Nat) : Int), s.x)))
  let last := match cur with
    | some s => if d.refState r = 4 ∧ !rc ∧ !h.waitTest then some s else h.last
    | none => h.last
  d.setRn (8 * r + n) { h with
    inbox := [], cur := cur, latest := if cur.isSome then cur else h.latest, last := last, points := pts
    times := if cur.isSome then (d.nat R.REF_TICKS :: h.times).take 16 else h.times }

/-- The tick lies at the start of a second of TB0 (R146). -/
def Dev.secondTick (d : Dev) : Bool := decide (cNs (d.count 0) < 1000000)

/-- A frequency reference's point of this second for a time base (R146). -/
def freqPoint (f : FreqIn) (n : Nat) (d : Dev) : Dev :=
  match f.phase[n]? with
  | some ph =>
    if d.refServes f.r n ∧ d.refUse f.r = 1 ∧ d.secondTick ∧ d.clkSrc ≠ 2 ∧ d.isSet n then
      d.modRn f.r n (fun h => { h with
        points := d.trendTrim f.r (h.points ++ [(d.tickNs, ph - steer16 (d.tbAt n).steer)]) })
    else d
  | none => d

/-- A frequency signal's reading (R124). -/
def freqRead (f : FreqIn) (d : Dev) : Dev :=
  let out := decide ((d.fld (R.REFr_FTOL f.r) 15 0 * 10000 * 256 : Nat) < f.off.natAbs)
  let d := (d.wrFit (R.REFr_FREQ f.r) f.off).modRef f.r (fun h => { h with freqOff := f.off, freq := out })
  let d := if 2 ≤ f.r ∧ f.r ≤ 9 then d.setPorts (f.r - 2) { d.portsAt (f.r - 2) with rxBits := f.bits } else d
  forRange 8 (freqPoint f) d

/-- Step 1: samples, accepted writes. -/
def tickGather (inp : TickIn) (d : Dev) : Dev :=
  let d := forRange 24 (fun r d => if d.refUse r = 0 then d else
    forRange 8 (fun n d => if d.refServes r n then gatherRn r n d else d) d) d
  (inp.freqs.filter (fun f => decide (f.r < 24))).foldl (fun d f => freqRead f d) d

/-! ### Step 2: levels and defects (R124, R130) -/

/-- A frequency signal is present at this tick. -/
def TickIn.present (inp : TickIn) (r : Nat) : Bool := inp.freqs.any (fun f => f.r == r && f.present)

/-- The PTP instance of a client slot has a port in the SLAVE state (R124). -/
def Dev.ptpSlave (d : Dev) (r : Nat) : Bool :=
  let i := d.fld (R.REFr_CFG r) 6 4
  (List.range 8).any (fun p => d.fld (R.PTPi_Pp_STAT i p) 3 0 == 9)

/-- LOS of a reference at a tick (R124). -/
def Dev.losNow (d : Dev) (inp : TickIn) (r : Nat) : Bool :=
  let h := d.refsAt r
  if r ≤ 1 then h.los
  else if r ≤ 9 then !d.bit (R.MACn_STAT (r - 2)) 0 || d.bit (R.MACn_STAT (r - 2)) 10 || !inp.present r
  else if r ≤ 13 then (d.refUse r != 3 && !inp.present r) || (d.refPhase r && h.los)
  else if r ≤ 15 then h.los
  else if r = 16 then !inp.present 16 || (d.refPhase 16 && h.los)
  else if r = 17 then (!d.bit (R.PAIR_Ll_STAT 0) 0 && !d.bit (R.PAIR_Ll_STAT 1) 0) || d.bit R.PAIR_STAT 2
  else h.los || !d.ptpSlave r

/-- FREQ of a reference at a tick (R124). -/
def Dev.freqNow (d : Dev) (inp : TickIn) (r : Nat) : Bool :=
  inp.present r && (d.refsAt r).freq && (decide (2 ≤ r ∧ r ≤ 9) || (decide (10 ≤ r ∧ r ≤ 13) && d.refUse r != 3) || r == 16)

/-- MSG of a reference at a tick (R124). -/
def Dev.msgNow (d : Dev) (r : Nat) : Bool :=
  (d.refsAt r).msg && (decide (2 ≤ r ∧ r ≤ 9) || r == 14 || r == 15 || r == 16 || decide (18 ≤ r))

/-- A TREND defect holds for some time base. -/
def Dev.trendNow (d : Dev) (r : Nat) : Bool := (List.range 8).any (fun n => (d.rnAt (8 * r + n)).trend)

/-- The defect bits of a reference: LOS, FREQ, MSG, DNU, TREND, TOD, LOCKOUT (R156). -/
def Dev.defects (d : Dev) (inp : TickIn) (r : Nat) : Nat :=
  let l := d.levelNow r
  b2n (d.losNow inp r) + 2 * b2n (d.freqNow inp r) + 4 * b2n (d.msgNow r) + 8 * b2n (decide (l = 0 ∨ l = 15)) +
    16 * b2n (d.trendNow r) + 32 * b2n ((d.refsAt r).tod && (r == 14 || r == 15)) + 64 * b2n (d.bit R.REF_LOCKOUT r)

/-- Show a reference's defects with their sticky copies. -/
def Dev.showDef (d : Dev) (r v : Nat) : Dev :=
  let st := d.rd (R.REFr_STAT r)
  d.wr (R.REFr_STAT r) (setWfld (setWfld st 14 8 v) 22 16 (wfld st 22 16 ||| v))

/-- A static level shows in QLMSG with kind 6; the spec gives it no raw code. -/
def Dev.staticMsg (d : Dev) (r : Nat) : Dev :=
  if d.bit (R.REFr_CFG r) 7 ∨ d.fld (R.REFr_QLMSG r) 31 24 ≠ 0 then d
  else
    let (w, d) := d.freeWord
    d.wrNat (R.REFr_QLMSG r) (6 * 2 ^ 24 + wfld w 15 0)

/-- The mate's level for the lowest-numbered time base of TBMASK shows in QLMSG with kind 7 (R128). -/
def Dev.mateMsg (d : Dev) (r : Nat) : Dev :=
  if r = 17 ∧ d.bit (R.REFr_CFG r) 7 ∧ d.pair.mate.isSome then
    d.wrNat (R.REFr_QLMSG r) (7 * 2 ^ 24 + d.mateLevel (d.lowestServed r))
  else d

/-- Step 2 for one reference. -/
def tickDefects (inp : TickIn) (r : Nat) (d : Dev) : Dev :=
  if d.refUse r = 0 then d
  else
    let d := (d.staticMsg r).mateMsg r
    (d.setFld (R.REFr_STAT r) 7 4 (d.levelNow r)).showDef r (d.defects inp r)

/-! ### Step 3: hold-off and wait-to-restore (R132 to R134) -/

/-- A change of a reference's state, with its record (R490). -/
def Dev.refTo (d : Dev) (r st : Nat) : Dev :=
  let old := d.refState r
  if old = st then d
  else (d.setFld (R.REFr_STAT r) 2 0 st).record 0x000C 0x07
    (be 1 r ++ be 1 old ++ be 1 st ++ be 1 (d.fld (R.REFr_STAT r) 14 8))

/-- Enter FAILED: counted; suspect marks and waiting tests are lost (R134, R151). -/
def Dev.refFail (d : Dev) (r : Nat) : Dev :=
  if d.refState r = 1 then d
  else
    let d := ((d.refTo r 1).bump (R.REFr_FAILS r)).wr (R.REFr_TIMER r) 0
    forRange 8 (fun n d =>
      (d.setBit (R.REF_TBn_SUSP n) r false).modRn r n (fun h => { h with waitTest := false, reentry := true })) d

/-- Become QUALIFIED: the tests of R145 and R150 wait for a sample (R134, R145, R153). -/
def Dev.refQualify (d : Dev) (r : Nat) : Dev :=
  let d := ((d.refTo r 4).setBit (R.REFr_STAT r) 3 false).wr (R.REFr_TIMER r) 0
  let d := d.modRef r (fun h => { h with fresh := true, rcQual := d.clkSrc == 2 })
  if d.refPhase r then
    forRange 8 (fun n d => if d.refServes r n then d.modRn r n (fun h => { h with waitTest := true }) else d) d
  else d

/-- Show the time left of a timer. -/
def Dev.refTimer (d : Dev) (r elapsed total : Nat) : Dev :=
  (d.modRef r (fun h => { h with timer := elapsed })).wrNat (R.REFr_TIMER r) (total - elapsed)

/-- Step 3 for one reference. -/
def tickState (r : Nat) (d : Dev) : Dev :=
  let d := if d.clkSrc = 2 then d else d.modRef r (fun h => { h with rcQual := false })
  let d := d.modRef r (fun h => { h with fresh := false })
  let df := d.fld (R.REFr_STAT r) 14 8
  -- DNU 8, TREND 16, LOCKOUT 64 act at once; LOS 1, FREQ 2, MSG 4, TOD 32 are held off
  let hard := decide (df &&& 88 ≠ 0)
  let soft := decide (df &&& 39 ≠ 0)
  let hold := d.fld (R.REFr_HOLDOFF r) 13 0
  let wtr := d.fld (R.REFr_WTR r) 11 0 * 1000
  let e := (d.refsAt r).timer + 1
  if d.refUse r = 0 then d
  else if hard then d.refFail r
  else match d.refState r with
    | 4 => if !soft then d else if hold = 0 then d.refFail r else (d.refTo r 2).refTimer r 0 hold
    | 2 => if !soft then d.refQualify r else if hold ≤ e then d.refFail r else d.refTimer r e hold
    | 3 => if soft then d.refFail r else if wtr ≤ e then d.refQualify r else d.refTimer r e wtr
    | _ => if soft then d else if d.bit (R.REFr_STAT r) 3 ∨ wtr = 0 then d.refQualify r
      else (d.refTo r 3).refTimer r 0 wtr

/-! ### Steps 4 and 5: conflicts and trends (R146 to R149) -/

/-- A TREND defect of a reference from a time base's test: its window is emptied and it fails at once (R149, R133). -/
def Dev.trendFail (d : Dev) (r n : Nat) : Dev :=
  let d := d.modRn r n (fun h => { h with trend := true, trendAge := 0, points := [] })
  (d.showDef r (d.fld (R.REFr_STAT r) 14 8 ||| 16)).refFail r

/-- Step 4 for one time base (R148). -/
def tickConflict (n : Nat) (d : Dev) : Dev :=
  match (d.selAt n).conflict with
  | none => d
  | some (r, lo, hi) =>
    let hit := (d.selAt n).conflictPeers.any (fun q => q.1 != r && decide (q.2.1 ≤ hi) && decide (lo ≤ q.2.2))
    let d := d.setSel n { d.selAt n with conflict := none }
    if hit then (d.trendFail r n).bump (R.REF_TBn_CONFLICT_DQ n) else d

/-- The slope in ppt of the least-squares line through points of (ns, 2^-16 ps), if there are at least 8 and they span
at least half a window of w seconds (R146). -/
def lsqSlope (w : Nat) (ps : List (Int × Int)) : Option Rat :=
  match ps with
  | [] => none
  | (t0, x0) :: _ =>
    let span := (ps.getLastD (t0, x0)).1 - t0
    let k : Int := ps.length
    let st := (ps.map (fun p => p.1 - t0)).sum
    let sx := (ps.map (fun p => p.2 - x0)).sum
    let stt := (ps.map (fun p => (p.1 - t0) * (p.1 - t0))).sum
    let stx := (ps.map (fun p => (p.1 - t0) * (p.2 - x0))).sum
    let den := k * stt - st * st
    if ps.length < 8 ∨ 2 * span < (w * 1000000000 : Nat) ∨ den = 0 then none
    else some ((k * stx - st * sx : Int) * 1000000000 / (den * 65536 : Int))

/-- The verdict of a reference's fit for a time base (R146). -/
def Dev.verdict (d : Dev) (r n : Nat) : Option Rat :=
  if d.refUse r = 0 ∨ !d.refServes r n then none
  else lsqSlope (d.fld (R.REFr_TRWIN r) 11 0) (d.rnAt (8 * r + n)).points

/-- The verdicts for a time base, by reference. -/
def Dev.verdicts (d : Dev) (n : Nat) : List (Nat × Rat) :=
  (List.range 24).filterMap (fun r => (d.verdict r n).map (fun s => (r, s)))

/-- A reference with a verdict is a peer: QUALIFIED, not suspect, tests not waiting (R146, R145). -/
def Dev.isPeer (d : Dev) (n q : Nat) : Bool :=
  d.refState q == 4 && !d.suspect q n && !(d.rnAt (8 * q + n)).waitTest

/-- A reference whose samples come as a peer's: also one in WTR (R132), which judges no trend (R146). -/
def Dev.peerSample (d : Dev) (n q : Nat) : Bool :=
  d.isPeer n q || (d.refState q == 3 && !d.suspect q n && !(d.rnAt (8 * q + n)).waitTest)

/-- REFr_TRTOL, ppt. -/
def Dev.trTol (d : Dev) (r : Nat) : Rat := (d.fld (R.REFr_TRTOL r) 15 0 : Nat)

/-- Two slopes lie within the sum of two tolerances. -/
def near (a b t : Rat) : Bool := decide (a - b ≤ t) && decide (b - a ≤ t)

/-- The outcome of R147's tests for a reference: it fails; the three slopes where the predictor test is set aside. -/
def Dev.trendTest (d : Dev) (n : Nat) (vs : List (Nat × Rat)) (r : Nat) (s : Rat) : Bool × Option (List Rat) :=
  let peers := vs.filter (fun q => q.1 != r && d.isPeer n q.1)
  let pred := !near s 0 (((d.ebAt n).y : Rat) / 65536 + d.trTol r)
  let away := peers.filter (fun q => !near s q.2 (d.trTol r + d.trTol q.1))
  let peerFail := away.any (fun a => away.any (fun b => a.1 != b.1 && near a.2 b.2 (d.trTol a.1 + d.trTol b.1)))
  let agree := (peers.filter (fun q => near s q.2 (d.trTol r + d.trTol q.1))).map (fun q => q.2)
  let aside := pred && decide (2 ≤ agree.length)
  (peerFail || (pred && !aside), if aside then some (s :: agree.take 2) else none)

/-- R149: the conditions under which a TREND defect ends, its age apart. -/
def Dev.trendClear (d : Dev) (r n : Nat) : Bool :=
  let vs := d.verdicts n
  match d.verdict r n with
  | some s => !(d.trendTest n vs r s).1
  | none => false

/-- R147, R149: a TREND defect starts at a failed test or, TRWIN after it started, ends. -/
def Dev.trendJudge (d0 : Dev) (n r : Nat) (fails : Bool) (d : Dev) : Dev :=
  if (d0.rnAt (8 * r + n)).trend then
    if !fails ∧ d0.fld (R.REFr_TRWIN r) 11 0 * 1000 ≤ (d0.rnAt (8 * r + n)).trendAge then
      d.modRn r n (fun h => { h with trend := false })
    else d
  else if fails then d.trendFail r n
  else d

/-- The predictor test set aside (R147): the mean of the three slopes corrects the predictor, first reference first. -/
def Dev.trendFix (d : Dev) (n r : Nat) : Option (List Rat) → Dev
  | some ss => if (d.selAt n).predFix.isSome then d
    else d.setSel n { d.selAt n with predFix := some (ss.sum / 3, r) }
  | none => d

/-- The trend failures age by one tick. -/
def Dev.trendAges (d : Dev) (n : Nat) : Dev :=
  forRange 24 (fun r d => if (d.rnAt (8 * r + n)).trend
    then d.modRn r n (fun h => { h with trendAge := h.trendAge + 1 }) else d) d

/-- Step 5 for one time base: every test uses the verdicts and peers as they stand before any of them acts. -/
def tickTrend (n : Nat) (d0 : Dev) : Dev :=
  if !d0.isSet n then d0
  else
    let vs := d0.verdicts n
    let d := vs.foldl (fun d v =>
        (d0.trendJudge n v.1 (d0.trendTest n vs v.1 v.2).1 d).trendFix n v.1 (d0.trendTest n vs v.1 v.2).2)
      (d0.setSel n { d0.selAt n with predFix := none })
    let d := d.trendAges n
    if (d.selAt n).predFix.isSome then (d.bump (R.REF_TBn_PREDDIS n)).setBit (R.REF_TBn_STAT n) 15 true else d

/-! ### Step 6: tests of a returning reference (R145, R150, R151) -/

/-- G_out of R150 between two samples' instants, 2^-16 ps, rounded up, from the time base's present Y, D, K and ΔT. -/
def Dev.growthBetween (d : Dev) (n : Nat) (a b : Sample) : Int :=
  let h := d.ebAt n
  let tau : Rat := (((b.at_ : Int) - a.at_ : Int) : Rat) / (secUnit : Nat)
  (((h.y : Rat) + (h.k : Rat) * h.dt / 256) * tau + (h.dd : Rat) / 172800 * tau * tau).ceil

/-- R150: the re-entry test makes a returning reference suspect. -/
def Dev.reentryFails (d : Dev) (r n : Nat) (s : Sample) : Bool :=
  match (d.rnAt (8 * r + n)).last with
  | some l =>
    let j : Int := (((s.x - l.x).natAbs : Nat) : Int) - d.growthBetween n l s - ((s.u + l.u) * 65536 : Nat)
    (d.rnAt (8 * r + n)).reentry && (d.ebAt n).bounded &&
      decide ((d.fld (R.REFr_REENTRY r) 19 0 * 1000 * 65536 : Nat) < j)
  | none => false

/-- The tests of R145 and R150 for a reference that waits for them and has a sample; against an unset time base an
offset tests nothing. -/
def tickReturn (r n : Nat) (d : Dev) : Dev :=
  let h := d.rnAt (8 * r + n)
  match h.cur with
  | some s =>
    if !h.waitTest ∨ d.clkSrc = 2 then d
    else
      let big := decide ((d.nat (R.REF_TBn_PMAX n) * 1000 * 65536 : Nat) < (d.carry n s).1.natAbs)
      let sus := d.isSet n && (big || d.reentryFails r n s)
      (d.modRn r n (fun h => { h with waitTest := false, reentry := false, last := some s })).setBit (R.REF_TBn_SUSP n) r sus
  | none => d

/-- The peers of a time base that have a sample at this tick, with M carried to the tick and U (2^-16 ps). -/
def Dev.peerSamples (d : Dev) (n : Nat) : List (Nat × Int × Int) :=
  (d.verdicts n).filterMap (fun v =>
    match (d.rnAt (8 * v.1 + n)).cur with
    | some s => if d.peerSample n v.1 then
        (let c := d.carry n s
         some (v.1, c.1, ((s.uRef + s.uPath + c.2) * 65536 : Nat))) else none
    | none => none)

/-- R151: a suspect reference is cleared by a peer's sample or by the Custodian's accept. -/
def tickConfirm (n : Nat) (d : Dev) : Dev :=
  let acc := (d.selAt n).accept
  let peers := d.peerSamples n
  let clears (r : Nat) : Bool := wbit acc r ||
    (match (d.rnAt (8 * r + n)).cur with
      | some s =>
        let c := d.carry n s
        peers.any (fun q => q.1 != r &&
          decide (((c.1 - q.2.1).natAbs : Int) ≤ ((s.uRef + s.uPath + c.2) * 65536 : Nat) + q.2.2))
      | none => false)
  let d' := forRange 24 (fun r d' => if d.suspect r n ∧ clears r then d'.setBit (R.REF_TBn_SUSP n) r false else d') d
  d'.setSel n { d'.selAt n with accept := 0 }

/-! ### Step 7: ranking and selection (R128, R137 to R141) -/

/-- R137: selectable for a time base. -/
def Dev.selectable (d : Dev) (r n : Nat) : Bool :=
  d.refServes r n && d.refPrio r != 0 && (d.refState r == 4 || d.refState r == 2) && d.refUse r != 0 &&
  (!d.refPhase r || (!d.suspect r n && !(d.rnAt (8 * r + n)).waitTest && !(d.refsAt r).rcQual)) && !d.trendNow r

/-- Reference a ranks before b: level, PRIO, already selected, index (R137). -/
def Dev.ranksBefore (d : Dev) (n a b : Nat) : Bool :=
  let s := d.selRef n
  let key (r : Nat) : Nat := ((d.levelFor r n * 256 + d.refPrio r) * 2 + b2n (r != s)) * 32 + r
  decide (key a < key b)

/-- The best of some references by rank. -/
def Dev.best (d : Dev) (n : Nat) : List Nat → Option Nat
  | [] => none
  | r :: rs =>
    match d.best n rs with
    | none => some r
    | some b => if d.ranksBefore n r b then some r else some b

/-- Ranking with REVERT (R138): with REVERT clear the selected reference stays unless a strictly lower level is there. -/
def Dev.rank (d : Dev) (n : Nat) (rs : List Nat) : Option Nat :=
  match d.best n rs with
  | none => none
  | some b =>
    let s := d.selRef n
    if !d.bit (R.REF_TBn_CFG n) 10 ∧ s ∈ rs ∧ d.levelFor s n ≤ d.levelFor b n then some s else some b

/-- A force that can serve (R140). -/
def Dev.forceValid (d : Dev) (n : Nat) : Bool :=
  let f := d.fld (R.REF_TBn_FORCE n) 4 0
  decide (f < 24) && d.refPhase f && d.refServes f n

/-- The selection of a time base at step 7, and whether a force is in effect. -/
def Dev.choose (d : Dev) (n : Nat) : Option Nat × Bool :=
  let rs := (List.range 24).filter (fun r => d.selectable r n)
  let phase := rs.filter (fun r => d.refPhase r && (r != 17 || !d.owns))
  let f := d.fld (R.REF_TBn_FORCE n) 4 0
  if 17 ∈ phase then (some 17, false)
  else if d.bit (R.REF_TBn_FORCE n) 31 ∧ d.forceValid n ∧ f ∈ phase then (some f, true)
  else match d.rank n phase with
    | some r => (some r, false)
    | none => (d.rank n (rs.filter (fun r => !d.refPhase r)), false)

/-! ### Step 8: a change of selection (R143, R144, R152) -/

/-- A change of selection to a reference used for phase (R143, R152). A pull is commanded unless the time base is unset
(R548) or its loop is open (R166). -/
def Dev.pullTo (d : Dev) (n : Nat) : Dev :=
  let due := d.isSet n && !d.loopOpen n
  let d := if due && d.bit (R.REF_TBn_STAT n) 13 then d.bump (R.REF_TBn_ABANDON n) else d
  d.setSel n { d.selAt n with pullDue := due }

/-- A change of selection to a frequency source or to coasting (R144). -/
def Dev.pullAbort (d : Dev) (n : Nat) : Dev :=
  let d := d.setSel n { d.selAt n with pullDue := false }
  if d.bit (R.REF_TBn_STAT n) 13 ∧ !d.loopOpen n then d.setTb n { d.tbAt n with abortPend := true } else d

/-- Steps 7 and 8 for one time base. -/
def tickSelect (n : Nat) (d : Dev) : Dev :=
  let (s, forced) := d.choose n
  let st := R.REF_TBn_STAT n
  let mask := (List.range 24).foldl (fun m r => if d.selectable r n then m + 2 ^ r else m) 0
  let d := d.wrNat (R.REF_TBn_SELABLE n) mask
  let err := (d.selAt n).forceNew && d.bit (R.REF_TBn_FORCE n) 31 && !d.forceValid n
  let d := d.setSel n { d.selAt n with forceNew := false }
  let d := (if err then d.setBit st 10 true else d).setBit st 14 forced
  let new := s.getD 31
  let old := d.selRef n
  if new = old then d
  else
    let phase := s.isSome && d.refPhase new
    let d := d.setSel n { d.selAt n with fresh := none }
    let d := ((d.setFld st 9 5 old).setFld st 4 0 new).setBit st 11 s.isNone
    let d := ((d.setBit st 12 (s.isSome && !phase)).bump (R.REF_TBn_SWITCHES n)).setEb n ((d.ebAt n).because 3)
    if phase then d.pullTo n else d.pullAbort n

/-! ### Step 9: what the servo and the bound take (R110, R148, R129) -/

/-- Step 9 for one time base: the servo's sample, which waits for the loop's next update (R16, R182), and the peers'
intervals kept for R148. -/
def tickPass (n : Nat) (d : Dev) : Dev :=
  let r := d.selRef n
  let fresh : Option Sample := if r < 24 ∧ d.refPhase r ∧ d.refState r = 4 then
      (d.rnAt (8 * r + n)).cur.or (d.selAt n).fresh else none
  d.setSel n { d.selAt n with
    fresh := fresh, conflictPeers := (d.peerSamples n).map (fun q => (q.1, q.2.1 - q.2.2, q.2.1 + q.2.2)) }

/-- R129: TB0's selected reference writes REF_TAIUTC. -/
def tickTaiUtc (d : Dev) : Dev :=
  match (d.refsAt (d.selRef 0)).taiUtc with
  | some v => if d.selRef 0 < 24 then d.wrNat R.REF_TAIUTC (2 ^ 31 + (v % (2 ^ 16 : Nat)).toNat) else d
  | none => d

/-- The selector's work in a tick (R136). -/
def selectorTick (inp : TickIn) (d : Dev) : Dev :=
  let d := tickGather inp d
  let d := forRange 24 (tickDefects inp) d
  let d := forRange 24 tickState d
  let d := forRange 8 tickConflict d
  let d := forRange 8 tickTrend d
  let d := forRange 24 (fun r d => forRange 8 (tickReturn r) d) d
  let d := forRange 8 tickConfirm d
  let d := forRange 8 tickSelect d
  tickTaiUtc (forRange 8 tickPass d)

/-! ### Timers and writes -/

/-- R133: a defect that has persisted for REFr_HOLDOFF moves the reference from HOLDOFF to FAILED. The ticks count the
time; the command stands for the coming tick's part of it (log 68). -/
def effHoldoff (r : Nat) (d : Dev) : Dev :=
  if d.refState r = 2 ∧ d.fld (R.REFr_HOLDOFF r) 13 0 ≤ (d.refsAt r).timer + 1 then d.refFail r else d

/-- R134: free of defect for REFr_WTR, the reference becomes QUALIFIED; at the coming tick, as above (log 68). -/
def effWtr (r : Nat) (d : Dev) : Dev :=
  if d.refState r = 3 ∧ d.fld (R.REFr_STAT r) 14 8 = 0 ∧ d.fld (R.REFr_WTR r) 11 0 * 1000 ≤ (d.refsAt r).timer + 1
  then d.refQualify r else d

/-- R149: a TREND defect whose conditions are met ends, for every time base at which they are. -/
def effTrendClear (r : Nat) (d : Dev) : Dev :=
  let d' := forRange 8 (fun n d' => if (d.rnAt (8 * r + n)).trend ∧ d.trendClear r n
    then d'.modRn r n (fun h => { h with trend := false }) else d') d
  if d'.trendNow r then d'
  else
    let d' := d'.setBit (R.REFr_STAT r) 12 false
    if d.trendNow r ∧ d'.refState r = 1 ∧ d'.fld (R.REFr_STAT r) 14 8 = 0
    then (d'.refTo r 3).refTimer r 0 (d.fld (R.REFr_WTR r) 11 0 * 1000) else d'

/-- R135: lockout bits, taken at the next tick. -/
def effLockout (p : Port) (v : Word) (d : Dev) : Dev :=
  d.asCust p (fun d => d.wr R.REF_LOCKOUT (v &&& 0xFFFFFF))

/-- R140: a force, taken at the next tick. -/
def effForce (p : Port) (n : Nat) (v : Word) (d : Dev) : Dev :=
  d.asCust p (fun d => (d.wr (R.REF_TBn_FORCE n) (v &&& 0x8000001F)).setSel n { d.selAt n with forceNew := true })

/-- R151: accept bits, taken at the next tick. -/
def effAccept (p : Port) (n : Nat) (v : Word) (d : Dev) : Dev :=
  d.asCust p (fun d => d.setSel n { d.selAt n with accept := (d.selAt n).accept ||| (v &&& 0xFFFFFF) })

/-- S in ps, rounded down, as REF_TBn_STEER shows it (R142). -/
def Dev.showSteer (d : Dev) (n : Nat) : Dev :=
  d.wrInt64 (R.REF_TBn_STEER_LO n) (R.REF_TBn_STEER_HI n) ((d.tbAt n).steer * 1000 / (2 ^ 48 : Nat))

/-- R154: a read of REF_TBn_STEER_LO latches STEER_HI. -/
def effSteerLatch (p : Port) (n : Nat) (d : Dev) : Dev :=
  let d := d.showSteer n
  (d.latchRegs p [R.REF_TBn_STEER_LO n, R.REF_TBn_STEER_HI n]).emit (.readData p (d.rd (R.REF_TBn_STEER_LO n)))

/-! ### Meanings -/

def execRefHoldoffExpire (r : Fin 24) (s : State) : Result := s.on (effHoldoff r)
def execRefWtrExpire (r : Fin 24) (s : State) : Result := s.on (effWtr r)
def execTrendDefectClear (r : Fin 24) (s : State) : Result := s.on (effTrendClear r)
def execRefPpsEdge (r : Fin 24) (hit : Hit) (s : State) : Result := s.on (effPpsEdgeRx r hit)
def execIrigbFrameRx (r : Fin 24) (code : Fin 8) (elems : List Nat) (s : State) : Result := s.on (effIrigRx r code elems)
def execAtomPoll (s : State) : Result := s.on effAtomPoll
def execAtomReplyRx (line : List Byte) (s : State) : Result := s.on (effAtomReply line)
def execAtomReplyTimeout (s : State) : Result := s.on effAtomTimeout
def execAtomListenSilence (s : State) : Result := s.on effAtomSilence
def execRefLockoutWrite (p : Port) (v : Word) (s : State) : Result := s.on (effLockout p v)
def execRefForceWrite (p : Port) (n : Fin 8) (v : Word) (s : State) : Result := s.on (effForce p n v)
def execRefAcceptWrite (p : Port) (n : Fin 8) (v : Word) (s : State) : Result := s.on (effAccept p n v)
def execRefSteerLatchRead (p : Port) (n : Fin 8) (s : State) : Result := s.on (fun d => d.asRead p (effSteerLatch p n))

end Sys2Proof.Machine
end

