-- ==== Sys2Proof/Machine/Servo.lean ====
section
/-! DEFINITION. Servo loops and the holdover predictor (chapter 06). The integrator, the correction and the model
parameters are exact rationals in ppt, ppt/day, ppt/K and °C. -/
namespace Sys2Proof.Machine

/-- Limit a rational to an interval. -/
def clampR (lo hi x : Rat) : Rat := max lo (min hi x)

/-! ### The oscillator models (R171 to R173) -/

/-- The instant t of R171, TB0 seconds. -/
def Dev.modelTime (d : Dev) : Rat := ((d.count 0 : Nat) : Rat) / (secUnit : Nat)

/-- T̄, °C (R172). -/
def Dev.tBar (d : Dev) : Rat := d.srvg.tfilt.getD 0

/-- y_m(t) of R171, ppt. -/
def Dev.modelAt (d : Dev) (m : Nat) : Rat :=
  let h := d.modelsAt m
  h.y0 + h.a / 86400 * (d.modelTime - h.tm) + h.c * (d.tBar - h.tref)

/-- y_T, the model's offset of the TIME clock (R171, R178), ppt. -/
def Dev.yTime (d : Dev) : Rat :=
  if d.modelInUse = 1 then d.modelAt 1 + (d.srvg.yMeas : Rat) / 65536 else d.modelAt 0

/-- Recompute INC_M (R171). -/
def Dev.incModel (d : Dev) : Dev :=
  { d with srvg := { d.srvg with
    incM := (roundR ((0xA00000000000 : Rat) * (1 - d.yTime / 1000000000000))).toNat } }

/-- Show what no reading changes of a model in its registers (R184). -/
def Dev.showModel (d : Dev) (m : Nat) : Dev :=
  let h := d.modelsAt m
  let d := (d.wrFit (R.SRV_Mm_Y0 m) (Config.shown (h.y0 * 16))).wrFit (R.SRV_Mm_AGE m) (Config.shown (h.a * 65536))
  let d := d.wrFit (R.SRV_Mm_TC m) (Config.shown (h.c * 65536))
  let d := d.setFld (R.SRV_Mm_TREF m) 15 0 (Config.shown (h.tref * 256) % (2 ^ 16 : Nat)).toNat
  d.wrNat (R.SRV_Mm_EPOCH m) (h.tm.floor % (2 ^ 32 : Nat)).toNat

/-- SRV_STAT.SEEDED shows whether the model in use is seeded (R188). -/
def Dev.showSeeded (d : Dev) : Dev := d.setBit R.SRV_STAT 0 (d.bit (R.SRV_Mm_STAT d.modelInUse) 30)

/-! ### Temperature (R172, R173) -/

/-- A reading is good: inside −45 °C to +130 °C, and within 5 K of the previous one (R173). -/
def goodReading (first : Bool) (prev now : Int) : Bool :=
  decide (-(45 * 256 : Int) ≤ now) && decide (now ≤ 130 * 256) && (first || decide ((now - prev).natAbs ≤ 5 * 256))

/-- Show K of a model, its cold value while a sensor is bad (R173, R184). -/
def Dev.showK (d : Dev) (m : Nat) : Dev := d.wrNat (R.SRV_Mm_K m) (d.modelK m (d.modelsAt m).k)

/-- The bad-sensor bits of SRV_STAT change, with the models' K and the temperature-sensor source (R173). -/
def Dev.sensorBad (d : Dev) (i : Nat) (bad : Bool) : Dev :=
  if d.bit R.SRV_STAT (2 + i) = bad then d
  else
    let d := ((d.setBit R.SRV_STAT (2 + i) bad).showK 0).showK 1
    if bad then d.raiseLevel 3 i
    else if d.bit R.SRV_STAT 2 ∨ d.bit R.SRV_STAT 3 then d else d.endLevel 3

/-- One sensor's reading: a bad one is good again after 1 000 consecutive good readings (R173). -/
def Dev.sensorRead (d : Dev) (i : Nat) (good : Bool) : Dev :=
  let g := if i = 0 then d.srvg.good0 else d.srvg.good1
  let g := if good then g + 1 else 0
  let d := { d with srvg := if i = 0 then { d.srvg with good0 := g } else { d.srvg with good1 := g } }
  if !good then d.sensorBad i true else if 1000 ≤ g then d.sensorBad i false else d

/-- The weighted mean of the good sensors, °C; none with both bad (R172, R173). -/
def Dev.tWeighted (d : Dev) : Option Rat :=
  let w : Rat := ((min 256 (d.fld R.SRV_TW 24 16) : Nat) : Rat) / 256
  let a : Rat := (d.ta0 : Rat) / 256
  let b : Rat := (d.ta1 : Rat) / 256
  match d.bit R.SRV_STAT 2, d.bit R.SRV_STAT 3 with
  | false, false => some (w * a + (1 - w) * b)
  | false, true => some a
  | true, false => some b
  | true, true => none

/-- T̄ after a tick (R172): the first mean starts it, and a lag of TLAG seconds follows. -/
def Dev.tNext (d : Dev) : Option Rat :=
  let lag : Rat := (d.fld R.SRV_TW 15 0 : Nat)
  match d.tWeighted, d.srvg.tfilt with
  | none, t => t
  | some x, none => some x
  | some x, some t => if lag = 0 then some x else some (t + (x - t) * (1 / 1000) / (lag + 1 / 1000))

/-- SRV_TEMP1 above 110 °C for 1 s is fault source 4 (R479). -/
def Dev.hotCheck (d : Dev) : Dev :=
  if (110 * 256 : Int) < d.ta1 then
    let h := d.srvg.hotMs + 1
    let d := { d with srvg := { d.srvg with hotMs := h } }
    if 1000 ≤ h then d.raiseLevel 4 0 else d
  else ({ d with srvg := { d.srvg with hotMs := 0 } }).endLevel 4

/-- A good sensor's reading has moved by more than 0.05 K since the previous tick (R108). -/
def Dev.moved (d : Dev) (i : Nat) (prev now : Int) : Bool :=
  !d.bit R.SRV_STAT (2 + i) && decide (5 * 256 < (now - prev).natAbs * 100)

/-- Count a temperature step for every time base (R108). -/
def Dev.tempStep (d : Dev) (b : Bool) : Dev := if b then forRange 8 (fun n d => d.bump (R.EBn_TSTEP n)) d else d

/-- Both sensors are read at the tick (R108, R172, R173). A reading outside what its register can show leaves its low 16
bits there: DESIGN CHOICE (log 62). -/
def tickTemps (inp : TickIn) (d : Dev) : Dev :=
  let first := !d.srvg.read
  let was0 := d.ta0
  let was1 := d.ta1
  let g0 := goodReading first was0 inp.ta0
  let g1 := goodReading first was1 inp.ta1
  let d := { d with srvg := { d.srvg with read := true, yMeas := inp.yMeas } }
  let d := { d with srvg := { d.srvg with ta0 := inp.ta0, ta1 := inp.ta1 } }
  let d := d.setFld R.SRV_TEMP0 15 0 (inp.ta0 % (2 ^ 16 : Nat)).toNat
  let d := d.setFld R.SRV_TEMP1 15 0 (inp.ta1 % (2 ^ 16 : Nat)).toNat
  let d := (d.sensorRead 0 g0).sensorRead 1 g1
  let d := d.tempStep (!first && (d.moved 0 was0 inp.ta0 || d.moved 1 was1 inp.ta1))
  let d := { d with srvg := { d.srvg with tfilt := d.tNext } }
  d.hotCheck.setFld R.SRV_TFILT 15 0 (Config.shown (d.tBar * 256) % (2 ^ 16 : Nat)).toNat

/-- R173: a bad sensor that has given 1 000 consecutive good readings is good again. -/
def effTempRecover (i : Nat) (d : Dev) : Dev :=
  if 1000 ≤ (if i = 0 then d.srvg.good0 else d.srvg.good1) then d.sensorBad i false else d

/-! ### The atomic model (R177, R178) -/

/-- ATOM_10M is free of defect as the latest tick read it. -/
def Dev.atomOk (d : Dev) : Bool := decide (0 < d.srvg.atomOkMs)

/-- Model 1 returns to use (R178). -/
def Dev.atomReturn (d : Dev) : Dev :=
  if d.bit R.SRV_CFG 3 ∧ !d.bit R.SRV_STAT 1 then ((d.setBit R.SRV_STAT 1 true).ebRaiseAll false).showSeeded else d

/-- R178 at a tick: a defect of ATOM_10M with OSC set falls back to model 0; free of defect for REF16's
wait-to-restore, model 1 returns. -/
def tickAtom (inp : TickIn) (d : Dev) : Dev :=
  let ok := inp.present 16 && !(d.refsAt 16).freq
  let d := { d with srvg := { d.srvg with atomOkMs := if ok then d.srvg.atomOkMs + 1 else 0 } }
  if !d.bit R.SRV_CFG 3 then d
  else if d.bit R.SRV_STAT 1 then
    (if ok then d
     else ((((d.setBit R.SRV_STAT 1 false).setBit R.SRV_STAT 6 true).incModel).ebRaiseAll true).showSeeded)
  else if d.fld (R.REFr_WTR 16) 11 0 * 1000 < d.srvg.atomOkMs then d.atomReturn
  else d

/-- R178: the command of the return. -/
def effAtomReturn (d : Dev) : Dev := if d.atomOk then d.atomReturn.incModel else d

/-! ### Seeding and learning (R174 to R176, R179) -/

/-- Seed one model with y0 (ppt) and Y (2^-16 ppt) (R174). -/
def Dev.seedModel (d : Dev) (m : Nat) (y0 : Rat) (y : Nat) : Dev :=
  let d := d.setModels m { d.modelsAt m with
    y0 := y0, a := 0, c := 0, tref := d.tBar, tm := d.modelTime, k := d.nat (R.SRV_Mm_KCOLD m), seedDue := false }
  let d := (d.wrNat (R.SRV_Mm_Y m) y).wr (R.SRV_Mm_D m) (d.rd (R.SRV_Mm_DCOLD m))
  let d := (d.showK m).setBit (R.SRV_Mm_STAT m) 30 true
  (d.showModel m).showSeeded

/-- The seed of a model: the setter's estimate, or 0 with YCOLD where there is none or u + YFLOOR is above YCOLD
(R174). -/
def Dev.seedOf (d : Dev) (m : Nat) (est : Option (Rat × Nat)) : Rat × Nat :=
  match est with
  | some (y, u) =>
    if u + d.nat (R.SRV_Mm_YFLOOR m) ≤ d.nat (R.SRV_Mm_YCOLD m) then (y, u + d.nat (R.SRV_Mm_YFLOOR m))
    else (0, d.nat (R.SRV_Mm_YCOLD m))
  | none => (0, d.nat (R.SRV_Mm_YCOLD m))

/-- Seed both models at the initial set of the learning time base (R174): model 1 only while ATOM_10M is free of
defect. -/
def Dev.seedModels (d : Dev) (est : Option (Rat × Nat)) : Dev :=
  let s0 := d.seedOf 0 est
  let d := d.seedModel 0 s0.1 s0.2
  let d := if d.atomOk then
      (let s1 := d.seedOf 1 (est.map (fun e => (e.1 - (d.srvg.yMeas : Rat) / 65536, e.2)))
       d.seedModel 1 s1.1 s1.2)
    else d.setModels 1 { d.modelsAt 1 with seedDue := true }
  d.incModel

/-- R174: a model 1 that waits for its seed is seeded at the first defect-free tick from y_0 and y_meas; none while RC
bypass freezes the models (R183). -/
def tickSeed (d : Dev) : Dev :=
  if (d.modelsAt 1).seedDue ∧ d.atomOk ∧ d.clkSrc ≠ 2 then
    let s := d.seedOf 1 (some (d.modelAt 0 - (d.srvg.yMeas : Rat) / 65536, d.nat (R.SRV_Mm_Y 0)))
    d.seedModel 1 s.1 s.2
  else d

/-- A model learns (R175): the learning time base is LOCKED, and the samples of its selected reference are incorporated. -/
def Dev.learning (d : Dev) (m : Nat) : Bool :=
  let n := d.fld R.SRV_CFG 2 0
  let r := d.selRef n
  d.ebState n == 1 && decide (r < 24) && d.refPhase r && d.refState r == 4 && !d.suspect r n && d.clkSrc == 0 &&
    (match (d.rnAt (8 * r + n)).latest with
      | some s => s.meas
      | none => false) &&
    (m == 0 || d.atomOk)

/-- The frequency by which INC_M differs from the nominal increment, ppt. -/
def Dev.incOffset (d : Dev) : Rat := ((0xA00000000000 : Rat) - (d.srvg.incM : Nat)) / unitsPerPpt

/-- The phase of a model's oscillator against the reference, ps: the model offset x with what INC_M has taken out of it,
less what the atomic oscillator's own clock differs by (R171, R175): DESIGN CHOICE (log 65). -/
def Dev.oscPhase (d : Dev) (m : Nat) (x : Int) : Rat :=
  (x : Rat) / 65536 + d.srvg.yInt - (if m = 1 then d.srvg.mInt else 0)

/-- An incorporated sample of the learning time base enters the present epoch of each model that learns (R175). -/
def Dev.learnSample (d : Dev) (n : Nat) : Dev :=
  if n ≠ d.fld R.SRV_CFG 2 0 ∨ (d.ebAt n).inc.isNone then d
  else match (d.rnAt (8 * d.selRef n + n)).cur with
    | none => d
    | some s => forRange 2 (fun m d => if d.learning m
        then d.setModels m { d.modelsAt m with acc := (d.modelsAt m).acc + d.oscPhase m s.x, accN := (d.modelsAt m).accN + 1 }
        else d) d

/-- The epochs down to the last of a number that have entered the fit. -/
def trimEpochs : Nat → List Epoch → List Epoch
  | 0, _ => []
  | _, [] => []
  | k + 1, e :: r => if e.on then e :: trimEpochs k r else e :: trimEpochs (k + 1) r

/-- An epoch of a model ends: it enters the fit if the model learned throughout it and it holds a sample (R175). -/
def Dev.epochEnd (d : Dev) (m : Nat) (temp : Rat) : Dev :=
  let h := d.modelsAt m
  let on := decide (h.accLearn = 60000) && decide (h.accN ≠ 0)
  d.setModels m { h with
    acc := 0, accN := 0, accLearn := 0, learned := h.learned + b2n on
    epochs := trimEpochs (d.fld (R.SRV_Mm_LCFG m) 7 0 * 60) (⟨on, if on then h.acc / (h.accN : Nat) else 0, temp⟩ :: h.epochs) }

/-- R175 at a tick: the phases that INC_M and y_meas have moved, and the 60 s epochs. -/
def tickLearn (d : Dev) : Dev :=
  let g := d.srvg
  let k := g.epTicks + 1
  let sum := g.epTemp + d.tBar
  let d := { d with srvg := { g with
    yInt := g.yInt + d.incOffset / 1000, mInt := g.mInt + (g.yMeas : Rat) / 65536 / 1000, epTicks := k, epTemp := sum } }
  let d := forRange 2 (fun m d => if d.learning m
    then d.setModels m { d.modelsAt m with accLearn := (d.modelsAt m).accLearn + 1 } else d) d
  if k < 60000 then d
  else
    let d := forRange 2 (fun m d => d.epochEnd m (sum / 60000)) d
    { d with srvg := { d.srvg with epTicks := 0, epTemp := 0, epAt := d.modelTime - 30 } }

/-- A fit's values: y0 ppt, a ppt/day and c ppt/K, with Tref and t_M; the standard errors in 2^-16 units, and the epochs
in it. -/
structure Fit where
  y0 : Rat
  a : Rat
  c : Rat
  tref : Rat
  tm : Rat
  sy : Nat
  sa : Nat
  sc : Nat
deriving DecidableEq, Repr

/-- The points of a fit from its newest epoch on: the regressors of phase, frequency, ageing and temperature at each
epoch that enters it, its phase and its weight. The time runs back 60 s an epoch, also over those that do not enter. -/
def fitPoints (tref : Rat) : Rat → Rat → Rat → List Nat → List Epoch → List Obs
  | _, _, _, _, [] => []
  | tau, prev, phi, ws, e :: r =>
    let phi' := phi - 60 * ((prev + e.temp) / 2 - tref)
    if e.on then
      ([1, tau, tau * tau / 172800, phi'], e.x, ((ws.headD 1 : Nat) : Rat)) ::
        fitPoints tref (tau - 60) e.temp phi' ws.tail r
    else fitPoints tref (tau - 60) e.temp phi' ws r

/-- The weighted least-squares fit of phase, frequency, ageing and temperature over the epochs of the window (R175,
R176). t_M and Tref are the time and T̄ of the newest epoch that enters it, so that y0 is the frequency at t_M:
DESIGN CHOICE (log 65). None with fewer than 10 epochs, or where they do not determine the four terms. -/
def Dev.fitOf (d : Dev) (m : Nat) (ws : List Nat) : Option Fit :=
  let es := (d.modelsAt m).epochs
  let off := es.takeWhile (fun e => !e.on)
  let es := es.dropWhile (fun e => !e.on)
  let tref := ((es.head?).map (·.temp)).getD 0
  let ps := fitPoints tref 0 tref 0 ws es
  if ps.length < 10 then none
  else
    match lsq 4 ps with
    | none => none
    | some (b, inv) =>
      let res := residual ps b
      let var := res / ((ps.length - 4 : Nat) : Rat)
      let g (r : List Rat) (i : Nat) : Rat := r.getD i 0
      some ⟨g b 1, g b 2, g b 3, tref, d.srvg.epAt - 60 * (off.length : Nat),
        sqrtUp (var * g inv 1 * 2 ^ 32), sqrtUp (var * g inv 2 * 2 ^ 32), sqrtUp (var * g inv 3 * 2 ^ 32)⟩

/-- R176: the fit's values and limits. -/
def Dev.takeFit (d : Dev) (m : Nat) (f : Fit) : Dev :=
  let hours := (d.modelsAt m).learned / 60
  let valid := decide (d.fld (R.SRV_Mm_LCFG m) 15 8 ≤ hours)
  let yv := d.nat (R.SRV_Mm_YFLOOR m) + 6 * f.sy
  let dv := d.nat (R.SRV_Mm_DFLOOR m) + 6 * f.sa
  let kv := d.nat (R.SRV_Mm_KFLOOR m) + 6 * f.sc
  let ycap := 65535 * 65536
  let dcap := d.nat (R.SRV_Mm_DCOLD m)
  let kcap := d.nat (R.SRV_Mm_KCOLD m)
  let capped := decide (ycap < yv) || (valid && (decide (dcap < dv) || decide (kcap < kv)))
  let d := d.setModels m { d.modelsAt m with
    y0 := f.y0, a := f.a, c := f.c, tref := f.tref, tm := f.tm, k := if valid then min kv kcap else kcap }
  let d := (d.wrNat (R.SRV_Mm_Y m) (min yv ycap)).wrNat (R.SRV_Mm_D m) (if valid then min dv dcap else dcap)
  let d := d.showK m
  let d := ((d.setBit (R.SRV_Mm_STAT m) 31 valid).setBit (R.SRV_Mm_STAT m) 28 capped).setFld (R.SRV_Mm_STAT m) 15 0
    (min hours 65535)
  d.showModel m

/-- R175, R176: a fit of a model that learns. -/
def effFit (m : Nat) (f : FitIn) (d : Dev) : Dev :=
  if d.learning m then
    (match d.fitOf m f.weights with
      | some v => ((d.takeFit m v).incModel).ebRaiseAll false
      | none => d)
  else d

/-- R179: the fit restarts its frequency term from the corrected y0: the epochs so far turn by the correction about the
present instant, which changes their frequency by it and neither ageing nor temperature terms; the present epoch does not
enter: DESIGN CHOICE (log 65). -/
def Dev.turnEpochs (d : Dev) (m : Nat) (s : Rat) : Dev :=
  let h := d.modelsAt m
  let age : Rat := 30 + (d.srvg.epTicks : Rat) / 1000
  d.setModels m { h with
    acc := 0, accN := 0, accLearn := 0
    epochs := (h.epochs.zip (List.range h.epochs.length)).map (fun e =>
      { e.1 with x := e.1.x - s * (age + 60 * (e.2 : Nat)) }) }

/-- R179: at a tick counted in PREDDIS for the learning time base the predictor takes the peers' verdict over its own;
none while RC bypass freezes the models (R183). -/
def Dev.predCorrect (d : Dev) (n : Nat) : Dev :=
  if d.clkSrc = 2 then d else
  match (d.selAt n).predFix with
  | some (s, r) =>
    let ready := match d.srvg.predAge with
      | some a => decide (d.fld (R.REFr_TRWIN r) 11 0 * 1000 ≤ a)
      | none => true
    if !ready then d
    else
      let m := d.modelInUse
      let d := (d.turnEpochs m s).setModels m { (d.turnEpochs m s).modelsAt m with y0 := (d.modelsAt m).y0 + s }
      let floor := ((maxAbs s 0 + d.trTol r) * 65536).ceil.toNat
      let d := (d.maxReg (R.SRV_Mm_Y m) (min floor (65535 * 65536))).bump R.SRV_PREDCORR
      let d := { d with srvg := { d.srvg with predAge := some 0 } }
      ((d.showModel m).incModel).ebRaiseAll false
  | none => d

/-! ### The loop (R160 to R165) -/

/-- SRVn_STAT.STEP. -/
def Dev.step_ (d : Dev) (n : Nat) : Nat := d.fld (R.SRVn_STAT n) 2 0

/-- The update interval, s (R17, R182). -/
def Dev.updInterval (d : Dev) : Rat := if d.clkSrc = 1 then 16 / 1000 else 1 / 1000

/-- The mean interval between the selected reference's last 16 fresh samples, s (R162); 0 with fewer than two. -/
def Dev.meanGap (d : Dev) (n : Nat) : Rat :=
  match (d.rnAt (8 * d.selRef n + n)).times with
  | a :: b :: r => (((a + 2 ^ 32 - (b :: r).getLastD 0) % 2 ^ 32 : Nat) : Rat) / 1000 / (r.length + 1 : Nat)
  | _ => 0

/-- BW_eff, Hz (R162). -/
def Dev.bwEff (d : Dev) (n : Nat) : Rat :=
  let bw : Rat := (d.fld (R.SRVn_SCHk_A n (d.step_ n)) 29 16 : Nat) / 1000
  min bw (1 / (20 * max d.updInterval (d.meanGap n)))

/-- 2 ζ ωn of the present step. -/
def Dev.propGain (d : Dev) (n : Nat) : Rat :=
  2 * ((d.fld (R.SRVn_SCHk_A n (d.step_ n)) 7 0 : Nat) / 64) * (2 * Config.pi * d.bwEff n)

/-- Count a clamped correction (R160, R161). -/
def Dev.clamped (d : Dev) (n : Nat) (b : Bool) : Dev :=
  if b then (d.bump (R.SRVn_CLAMPS n)).setBit (R.SRVn_STAT n) 11 true else d

/-- Set I within ±100 000 000 ppt (R160). -/
def Dev.setI (d : Dev) (n : Nat) (i : Rat) : Dev :=
  let v := clampR (-100000000) 100000000 i
  (d.setSrv n { d.srvAt n with i := v }).clamped n (v != i)

/-- Set c with a change of at most 40 000 ppt (R160). -/
def Dev.setC (d : Dev) (n : Nat) (c : Rat) : Dev :=
  let old := (d.srvAt n).c
  let v := clampR (old - 40000) (old + 40000) c
  (d.setSrv n { d.srvAt n with c := v }).clamped n (v != c)

/-- The phase error e = M + R_rem of a sample, ps (R160). -/
def Dev.phaseError (d : Dev) (n : Nat) (m : Int) : Rat :=
  (m : Rat) / 65536 + ((d.tbAt n).owed : Rat) * 1000 / (2 ^ 48 : Nat)

/-- Note a fresh sample: its instant and its e, which SRVn_ERR shows (R160, R164, R184). -/
def Dev.noteFresh (d : Dev) (n : Nat) (e : Rat) : Dev :=
  let h := d.srvAt n
  let mag := ((maxAbs e 0) * 65536).ceil.toNat
  (d.setSrv n { h with lastFresh := some (d.count 0), errs := (mag :: h.errs).take 16, e := e }).wrInt (R.SRVn_ERR n)
    (satInt 32 (Config.shown e))

/-- R160 at a fresh sample, its M carried to the tick. -/
def Dev.loopFresh (d : Dev) (n : Nat) (m : Int) : Dev :=
  let e := d.phaseError n m
  let delta : Rat := min 10 (match (d.srvAt n).lastFresh with
    | some t => ((d.count 0 - t : Nat) : Rat) / (secUnit : Nat)
    | none => Config.firstDelta)
  let d := d.noteFresh n e
  let w := 2 * Config.pi * d.bwEff n
  let d := d.setI n ((d.srvAt n).i - w * w * e * delta)
  d.setC n ((d.srvAt n).i - d.propGain n * e)

/-- R163: coasting, or following a frequency source. -/
def Dev.loopNoPhase (d : Dev) (n : Nat) : Dev :=
  let i := (d.srvAt n).i
  let d := if d.bit (R.REF_TBn_STAT n) 12 then
      (let f : Rat := ((d.refsAt (d.selRef n)).freqOff : Rat) / 256
       d.setI n (i + (f - i) * (2 * Config.pi * d.bwEff n) * (1 / 1000)))
    else d
  d.setC n (d.srvAt n).i

/-- Restart the schedule at a step (R165). Entries at NSTEP and above are ignored (R186), so that a step past the last one
is the last one: DESIGN CHOICE (log 62). -/
def Dev.restartAt (d : Dev) (n k : Nat) : Dev :=
  (d.setFld (R.SRVn_STAT n) 2 0 (min k (d.fld (R.SRVn_CFG n) 15 12 - 1))).setSrv n { d.srvAt n with stepMs := 0, restart := none }

/-- R164: move to the next step. -/
def Dev.stepAdvance (d : Dev) (n : Nat) : Dev :=
  let h := d.srvAt n
  let k := d.step_ n
  let b := R.SRVn_SCHk_B n k
  let ethr := d.fld b 19 0
  let quiet := decide (ethr = 0) || (decide (h.errs.length = 16) && h.errs.all (fun e => decide (e ≤ ethr * 1000 * 65536)))
  if k + 1 < d.fld (R.SRVn_CFG n) 15 12 ∧ d.fld b 31 20 * 1000 ≤ h.stepMs ∧ quiet then d.restartAt n (k + 1) else d

/-! ### Increments, pulls and synthesizers (R143, R161, R170) -/

/-- The increment of a correction: INC_M + round(c × 175.921 860 44), clamped to the range of R34 and counted
(R161). -/
def Dev.incFor (d : Dev) (c : Rat) : Nat × Bool :=
  let v : Int := (d.srvg.incM : Int) + roundR (c * (17592186044 / 100000000))
  let w := max 0x9FEB851EB852 (min 0xA0147AE147AE v.toNat)
  (w, decide ((w : Int) ≠ v))

/-- The bypass increment with the same fractional correction (R161), 2^-40 ns. -/
def Dev.bincFor (d : Dev) (inc : Nat) : Nat :=
  let (p, q) := d.bypassNominal
  (roundR (((p * 2 ^ 40 : Nat) : Rat) / (q : Nat) * (inc : Nat) / (0xA00000000000 : Rat))).toNat

/-- The servo writes TBn_INC and TBn_BINC (R161). -/
def Dev.writeInc (d : Dev) (n : Nat) (c : Rat) : Dev :=
  let (w, cl) := d.incFor c
  let b := d.bincFor w
  let d := (d.wrNat (R.TBn_INC_HI n) (w / 2 ^ 32)).commitInc n (BitVec.ofNat 32 w)
  let d := (d.wrNat (R.TBn_BINC_HI n) (b / 2 ^ 32)).commitBinc n (BitVec.ofNat 32 b)
  d.clamped n cl

/-- M of the selected reference for a pull (R143), 2^-16 ps: its sample at this tick, or its latest model offset plus
the current S. -/
def Dev.pullM (d : Dev) (n : Nat) : Option Int :=
  let h := d.rnAt (8 * d.selRef n + n)
  match h.cur with
  | some s => some (d.carry n s).1
  | none => h.latest.map (fun s => s.x + steer16 (d.tbAt n).steer)

/-- R143: write the pull, with the slope of REF_TBn_CFG, and restart the schedule (R165). -/
def Dev.writePull (d : Dev) (n : Nat) : Dev :=
  if !(d.selAt n).pullDue then d
  else match d.pullM n with
    | none => d
    | some m =>
      let amount := Config.shown (-(m : Rat) / 1000)
      let d := d.setSel n { d.selAt n with pullDue := false }
      let d := d.wrNat (R.TBn_PSLOPE n) (d.fld (R.REF_TBn_CFG n) 9 0)
      let v := (amount % (2 ^ 48 : Nat)).toNat
      let d := (d.wrNat (R.TBn_PADJ_HI n) (v / 2 ^ 32)).wrNat (R.TBn_PADJ_LO n) v
      let d := (d.commitPadj n false (signed 48 v)).setBit (R.REF_TBn_STAT n) 13 (decide (v ≠ 0))
      if d.bit (R.SRVn_CFG n) 7 then d else d.restartAt n (d.fld (R.SRVn_CFG n) 10 8)

/-- The nominal word of a synthesizer, 10.48 bits (R441). -/
def Dev.osynNom (d : Dev) (k : Nat) : Nat :=
  d.fld (R.OSYNk_NOM_INT k) 9 0 * 2 ^ 48 + d.fld (R.OSYNk_NOM_FHI k) 15 0 * 2 ^ 32 + d.nat (R.OSYNk_NOM_FLO k)
/-- The word in use. -/
def Dev.osynWord (d : Dev) (k : Nat) : Nat :=
  d.fld (R.OSYNk_WORD_INT k) 9 0 * 2 ^ 48 + d.fld (R.OSYNk_WORD_FHI k) 15 0 * 2 ^ 32 + d.nat (R.OSYNk_WORD_FLO k)

/-- The ratio by which R170 scales a nominal word for time base n: of the increment and the phase-adjust step that act
from the next alignment epoch on, at which the word acts too. -/
def Dev.steerRatio (d : Dev) (n : Nat) : Rat :=
  let t := d.tbAt n
  let base : Rat := if d.clkSrc = 1 then
      ((t.bincC * d.bypassNominal.2 : Nat) : Rat) / ((d.bypassNominal.1 * 2 ^ 40 : Nat) : Rat)
    else ((t.incC : Nat) : Rat) / (0xA00000000000 : Rat)
  base * (1 + d.nextSlope n / 1000000000)

/-- A word for a wanted value within a change limit of the present word; 0 is a synthesizer without a word. -/
def steerWord (cur : Nat) (lim want : Rat) : Nat :=
  if cur = 0 then (Config.shown want).toNat
  else (max ((cur : Rat) - lim).ceil (min ((cur : Rat) + lim).floor (Config.shown want))).toNat

/-- R170, R441: steer one synthesizer, with a change per update of at most 40 000 ppt; the word acts at the next
epoch. -/
def osynSteer (n k : Nat) (d : Dev) : Dev :=
  if !d.bit (R.OSYNk_CFG k) 31 ∨ d.fld (R.OSYNk_CFG k) 30 28 ≠ n then d
  else
    let nom : Rat := (d.osynNom k : Nat)
    let cur := (d.osynAt k).next.getD (d.osynWord k)
    let w := steerWord cur (nom * (40000 / 1000000000000)) (nom * d.steerRatio n)
    d.setOsyn k { d.osynAt k with next := some w }

/-! ### Opening and closing (R166, R168, R169) -/

/-- R166, R169: a Custodian write of SRVn_CTL. -/
def effSrvCtl (p : Port) (n : Nat) (v : Word) (d : Dev) : Dev :=
  d.asCust p (fun d =>
    let d' := d.wr (R.SRVn_CTL n) (v &&& 0x80000007)
    if wbit v 31 then
      if !d.bit (R.SRVn_CFG n) 11 then d.bump (R.SRVn_WR_IGN n)
      else if d.loopOpen n then d'
      else d'.setSrv n { d.srvAt n with openDue := 1, closeDue := false }
    else if d.loopOpen n ∨ (d.srvAt n).openDue ≠ 0 then
      d'.setSrv n { d.srvAt n with openDue := 0, closeDue := d.loopOpen n }
    else d')

/-- R166: 500 µs after the tick that follows the write the Custodian becomes the writer. -/
def effOpenEffect (n : Nat) (d : Dev) : Dev :=
  if (d.srvAt n).openDue = 0 then d
  else (((d.setBit (R.SRVn_STAT n) 6 true).setBit (R.SRVn_STAT n) 7 false).setSrv n
    { d.srvAt n with openDue := 0 }).setTb n { d.tbAt n with hostIncAge := 0 }

/-- R168: the host watchdog closes an open loop at the next tick and raises source 12. -/
def effHostWd (n : Nat) (d : Dev) : Dev :=
  if d.loopOpen n ∧ d.fld (R.SRVn_HOSTWD n) 15 0 ≠ 0 ∧ !(d.srvAt n).closeDue then
    ((d.setSrv n { d.srvAt n with closeDue := true }).setBit (R.SRVn_STAT n) 10 true).raise 12 n
  else d

/-- The host watchdog at a tick (R168): the first tick after SRVn_HOSTWD milliseconds without a commit is the one after
that many ticks. -/
def tickHostWd (n : Nat) (d : Dev) : Dev :=
  let d := d.setTb n { d.tbAt n with hostIncAge := (d.tbAt n).hostIncAge + 1 }
  if d.fld (R.SRVn_HOSTWD n) 15 0 < (d.tbAt n).hostIncAge then effHostWd n d else d

/-- The selected reference is used for phase. -/
def Dev.phaseSel (d : Dev) (n : Nat) : Bool := decide (d.selRef n < 24) && d.refPhase (d.selRef n)

/-- The correction that the present increment represents, ppt (R169). -/
def Dev.presentCorr (d : Dev) (n : Nat) : Rat :=
  (((d.tbAt n).incC : Rat) - (d.srvg.incM : Rat)) / (17592186044 / 100000000)

/-- R169: c becomes the correction that the present increment represents and I follows from it and the error, so that
this first update changes nothing; the schedule goes on at a step. Without a phase source e is 0, as c = I (R163). -/
def Dev.retakeLoop (d : Dev) (n k : Nat) : Dev :=
  let d := d.restartAt n k
  let d := match (d.selAt n).fresh with
    | some s => if d.phaseSel n then d.noteFresh n (d.phaseError n (d.carry n s).1) else d
    | none => d
  let e := if d.phaseSel n then (d.srvAt n).e else 0
  let c := d.presentCorr n
  d.setSrv n { d.srvAt n with c := c, i := c + d.propGain n * e, retake := none }

/-- R169: the servo becomes the writer; its first update takes c from the present increment. A pull that the Custodian
started is from now on the servo's own, so that PULL shows it. -/
def Dev.closeNow (d : Dev) (n : Nat) : Dev :=
  let d := (d.setBit (R.SRVn_STAT n) 6 false).setBit (R.REF_TBn_STAT n) 13 (decide ((d.tbAt n).owed ≠ 0))
  d.setSrv n { d.srvAt n with closeDue := false, retake := some (d.fld (R.SRVn_CTL n) 2 0) }

/-! ### The loop update (R158, R160, R180, R182, R183, R548) -/

/-- The deadline of a loop update after its tick, µs (R17, R182). -/
def Dev.loopDeadline (d : Dev) : Nat := if d.clkSrc = 1 then 1500 else 500

/-- R17, R109, R159: an update that misses its deadline is discarded and counted; the tick's sample is lost to the loop
and the bound, which goes on with the previous p. -/
def effLoopMiss (n : Nat) (d : Dev) : Dev :=
  let d := ((d.ebMiss n).ebClose n true).bump R.SRV_DEADLINE_MISS |>.pmc 0x0302 (some (n % 4)) 1
  let d := { d with srvg := { d.srvg with missNow := if n % 4 ∈ d.srvg.missNow then d.srvg.missNow else n % 4 :: d.srvg.missNow } }
  d.setSel n { d.selAt n with fresh := none }

/-- Ticks in a row with a miss on a core, the present one included. -/
def Dev.missRun (d : Dev) (core : Nat) : Nat :=
  Map.get d.srvg.misses (fun _ => 0) core + b2n (decide (core ∈ d.srvg.missNow))

/-- At a tick the runs of missed deadlines are counted (R159). -/
def tickMisses (core : Nat) (d : Dev) : Dev :=
  let k := if core ∈ d.srvg.missNow then Map.get d.srvg.misses (fun _ => 0) core + 1 else 0
  { d with srvg := { d.srvg with misses := Map.put d.srvg.misses (fun _ => 0) core k } }

/-- A servo core is being reset: its time bases keep their increments (R159, R484). -/
def Dev.coreStopped (d : Dev) (core : Nat) : Bool := decide (Target.servo core ∈ d.flt.running)

/-- R159: 16 consecutive ticks with a miss raise the core's stall source. -/
def effStall (core : Nat) (d : Dev) : Dev :=
  if 16 ≤ d.missRun core ∧ !d.coreStopped core then (d.setBit R.SRV_STAT 7 true).raise (8 + core) core else d

/-- The leap that the selected reference of a UTC time base announces: L and deletion (R129, R47). -/
def Dev.leapAnnounced (d : Dev) (n : Nat) : Option (Nat × Bool) :=
  let r := d.selRef n
  if r = 17 then
    match d.mateTb n with
    | some b => if wbit (BitVec.ofNat 32 (beAt b 3 1)) 2 then some (beAt b 32 6, wbit (BitVec.ofNat 32 (beAt b 3 1)) 3) else none
    | none => none
  else if 24 ≤ r then none
  else (d.refsAt r).leap.map (fun l => (((l.1 : Int) + d.int (R.TBn_LEAPCNT n)).toNat, l.2))

/-- R47: with LEAPSRC 0 the servo firmware writes the schedule from the announcement, MODE and ALIGN from LMODE. -/
def Dev.writeLeap (d : Dev) (n : Nat) : Dev :=
  if d.bit (R.TBn_CFG n) 3 ∨ d.fld (R.TBn_CFG n) 1 0 ≠ 1 ∨ d.leapLocked n then d
  else match d.leapAnnounced n with
    | none => d
    | some (l, del) =>
      if (d.tbAt n).leap.any (fun x => x.at_ == l * secUnit && x.del == del) ∨ l * secUnit ≤ d.count n then d
      else
        let lm := d.fld (R.TBn_CFG n) 6 5
        let d := (d.wrNat (R.TBn_LEAP_AT_HI n) (l / 2 ^ 32)).wrNat (R.TBn_LEAP_AT_LO n) l
        d.commitLeap n (BitVec.ofNat 32 ((if lm = 0 then 1 else 2) + 4 + 8 * b2n del + 16 * b2n (decide (lm = 2))))

/-- An unset time base runs on the model (R548). -/
def Dev.loopUnset (d : Dev) (n : Nat) : Dev :=
  let d := d.setSrv n { d.srvAt n with i := 0, c := 0, stepMs := 0, retake := none }
  (d.setFld (R.SRVn_STAT n) 2 0 0).writeInc n 0

/-- I and c of a closed loop at an update (R160, R163, R169). -/
def Dev.loopCorrect (d : Dev) (n : Nat) : Dev :=
  match (d.srvAt n).retake with
  | some k => d.retakeLoop n k
  | none =>
    if d.phaseSel n then
      match (d.selAt n).fresh with
      | some s => d.loopFresh n (d.carry n s).1
      | none => d
    else d.loopNoPhase n

/-- A set time base's closed loop: a pull that waits, the restart at step 0 of R165, I and c, the increment, the step
and the leap schedule. -/
def Dev.loopClosed (d : Dev) (n : Nat) : Dev :=
  let first := (d.srvAt n).restart
  let d := d.writePull n
  let d := match first with
    | some k => d.restartAt n k
    | none => d
  let d := d.loopCorrect n
  let tai := decide (d.fld (R.TBn_CFG n) 1 0 ≠ 2)
  let coast := d.bit (R.REF_TBn_STAT n) 11
  let d := d.setBit (R.SRVn_STAT n) 7 (coast && tai)
  let d := if coast ∧ !tai then d else d.writeInc n (d.srvAt n).c
  d.stepAdvance n

/-- Show the loop's values (R184). -/
def Dev.showLoop (d : Dev) (n : Nat) : Dev :=
  let h := d.srvAt n
  let d := (d.wrFit (R.SRVn_INTEG n) (Config.shown (h.i * 16))).wrFit (R.SRVn_CORR n) (Config.shown (h.c * 16))
  let d := d.wrNat (R.SRVn_BW_EFF n) ((Config.shown (d.bwEff n * 1000)).toNat % 2 ^ 14)
  (d.wrNat (R.SRVn_STEPTIME n) (min (h.stepMs / 1000) 0xFFFFFFFF)).bumpWrap (R.SRVn_UPD n) |>.pmc 0x0300 (some (n % 4)) 1

/-- One loop update that meets its deadline. The leap schedule is the firmware's also while the loop is open (R47,
R166). -/
def Dev.loopUpdate (d : Dev) (n : Nat) : Dev :=
  let d := if (d.srvAt n).closeDue then d.closeNow n else d
  let d := if d.loopOpen n then d
    else if !d.isSet n then d.loopUnset n else d.loopClosed n
  let d := (d.writeLeap n).setSel n { d.selAt n with fresh := none }
  let d := if (d.srvAt n).openDue = 1 then d.setSrv n { d.srvAt n with openDue := 2 } else d
  (forRange 4 (osynSteer n) d).showLoop n

/-- R160, R182, R183: the loop update of a time base; none in RC bypass, and in LO bypass only at the ticks of the
rotation. With it the tick's sample enters the bound and the tick's values are published (R108, R110). A core that is
being reset completes none (R159). -/
def effLoop (n endUs : Nat) (d : Dev) : Dev :=
  if d.clkSrc = 2 then d
  else if d.clkSrc = 1 ∧ d.nat R.REF_TICKS % 16 ≠ 2 * n then d
  else if d.coreStopped (n % 4) then effLoopMiss n d
  else
    let d := { d with srvg := { d.srvg with endNow := max d.srvg.endNow endUs } }
    if d.loopDeadline < endUs then effLoopMiss n d else (((d.ebTake n).learnSample n).loopUpdate n).ebClose n false

/-- At a tick an update of the tick before that has not come by now has missed its deadline (R17). -/
def tickLate (n : Nat) (d : Dev) : Dev := if (d.ebAt n).due then effLoopMiss n d else d

/-- The servo's part of a tick: finish times, runs of misses, times in step and since corrections, INC_M (R159, R161,
R184). -/
def tickServo (d : Dev) : Dev :=
  let d := forRange 4 tickMisses d
  let d := tickLearn d
  let g := d.srvg
  let ends := (g.endNow :: g.ends).take 1000
  let d := { d with srvg := { g with ends := ends, endNow := 0, missNow := [], predAge := g.predAge.map (· + 1) } }
  let d := d.wrNat R.SRV_LAST_END ((ends.foldl max 0) % 1024 * 65536 + g.endNow % 1024)
  let d := forRange 8 (fun n d => d.setSrv n { d.srvAt n with stepMs := (d.srvAt n).stepMs + 1 }) d
  let d := forRange 8 tickHostWd d
  let d := forRange 8 (fun n d =>
    (d.wrNat (R.SRVn_MODELINC_HI n) (d.srvg.incM / 2 ^ 32)).wrNat (R.SRVn_MODELINC_LO n) d.srvg.incM) d
  forRange 2 (fun m d => d.setBit (R.SRV_Mm_STAT m) 29 (d.learning m)) d

/-! ### Latched reads (R184) -/

def effErrLatch (p : Port) (n : Nat) (d : Dev) : Dev :=
  (d.latchRegs p [R.SRVn_ERR n, R.SRVn_INTEG n, R.SRVn_CORR n, R.SRVn_MODELINC_HI n, R.SRVn_MODELINC_LO n,
    R.SRVn_BW_EFF n, R.SRVn_STEPTIME n, R.SRVn_UPD n]).emit (.readData p (d.rd (R.SRVn_ERR n)))

def effModelLatch (p : Port) (m : Nat) (d : Dev) : Dev :=
  (d.latchRegs p [R.SRV_Mm_STAT m, R.SRV_Mm_Y0 m, R.SRV_Mm_AGE m, R.SRV_Mm_TC m, R.SRV_Mm_TREF m, R.SRV_Mm_EPOCH m,
    R.SRV_Mm_Y m, R.SRV_Mm_D m, R.SRV_Mm_K m]).emit (.readData p (d.rd (R.SRV_Mm_STAT m)))

/-! ### Meanings -/

def execServoLoopUpdate (n : Fin 8) (endUs : Nat) (s : State) : Result := s.on (effLoop n endUs)
def execLoopDeadlineMiss (n : Fin 8) (s : State) : Result := s.on (effLoopMiss n)
def execServoStall (core : Fin 4) (s : State) : Result := s.on (effStall core)
def execTempSensorRecover (i : Fin 2) (s : State) : Result := s.on (effTempRecover i)
def execAtomModelReturn (s : State) : Result := s.on effAtomReturn
def execModelFit (m : Fin 2) (f : FitIn) (s : State) : Result := s.on (effFit m f)
def execSrvLoopOpen (p : Port) (n : Fin 8) (v : Word) (s : State) : Result := s.on (effSrvCtl p n (v ||| 0x80000000))
def execSrvOpenEffect (n : Fin 8) (s : State) : Result := s.on (effOpenEffect n)
def execSrvLoopClose (p : Port) (n : Fin 8) (v : Word) (s : State) : Result := s.on (effSrvCtl p n (v &&& 0x7FFFFFFF))
def execSrvHostWatchdog (n : Fin 8) (s : State) : Result := s.on (effHostWd n)
def execSrvErrLatchRead (p : Port) (n : Fin 8) (s : State) : Result := s.on (fun d => d.asRead p (effErrLatch p n))
def execSrvModelLatchRead (p : Port) (m : Fin 2) (s : State) : Result := s.on (fun d => d.asRead p (effModelLatch p m))

end Sys2Proof.Machine
end

