-- ==== Sys2Proof/Machine/StartSet.lean ====
section
/-! DEFINITION. The sources of the initial set (R469, R470) and the formation of samples against a time base (R550). -/
namespace Sys2Proof.Machine

/-- Write the SET registers of a time base and arm the set (R42), as the start-up sequence does: the target in 2^-16 ns
and the instant in whole ns of the unset count. -/
def Dev.armAt (d : Dev) (n target16 atNs : Nat) (who : TbHid → TbHid) : Dev :=
  let d := (d.wrNat (R.TBn_SET_SEC_HI n) (sec16 target16 / 2 ^ 32 % 2 ^ 16)).wrNat (R.TBn_SET_SEC_LO n) (sec16 target16)
  let d := (d.wrNat (R.TBn_SET_NS n) (ns16 target16)).wrNat (R.TBn_SET_FRAC n) (frac16 target16)
  let d := (d.wrNat (R.TBn_SET_AT_SEC n) (atNs / 1000000000)).wrNat (R.TBn_SET_AT_NS n) (atNs % 1000000000)
  d.trySet n true who

/-- The pair state (R407). -/
def Dev.pairState (d : Dev) : Nat := d.fld R.PAIR_STATE 31 28
/-- The mate reports its time base n set (R397). -/
def Dev.mateSet (d : Dev) (n : Nat) : Bool :=
  match d.mateTb n with
  | some b => decide (128 ≤ beAt b 0 1)
  | none => false

/-- A source other than the mate may set TB0 (R469): not in INIT, and not while a STANDBY unit's mate is set and
allowed. -/
def Dev.startFree (d : Dev) : Bool :=
  !d.bit R.PAIR_CFG 31 ||
  (d.pairState != 0 && !(d.bit R.CFG_SETSRC 0 && d.pairState == 3 && d.mateSet 0))

/-- Arm a time base 1 ms ahead from an offset M, 2^-16 ps: the target is the unset count minus M (R469). -/
def Dev.armFromOffset (d : Dev) (n : Nat) (m : Int) (who : TbHid → TbHid) : Dev :=
  if d.isSet n ∨ (d.tbAt n).armed.isSome then d
  else
    let at_ := (d.count n + nsUnit - 1) / nsUnit + 1000000
    let target : Int := (at_ * 2 ^ 16 : Nat) - m / 1000
    d.armAt n target.toNat at_ who

/-- R469, source 2: a solution A message that reports GOOD. -/
def Dev.startGnss (d : Dev) (m : Int) (u : Nat) (drift : Int) (driftU : Nat) : Dev :=
  if d.bit R.CFG_SETSRC 1 ∧ d.startFree then
    d.armFromOffset 0 m (fun t => { t with setU := some u, setFreq := some (drift * 256, driftU * 256), setMate := false })
  else d

/-- R469, source 3, and R470 for an ARB time base: a sample of a PTP client slot. -/
def Dev.startPtp (d : Dev) (slot n : Nat) (s : Sample) : Dev :=
  let arb := decide (d.fld (R.TBn_CFG n) 1 0 = 2) && d.selRef n == 18 + slot
  let first := n == 0 && d.bit R.CFG_SETSRC 2 && d.fld R.CFG_SETSRC 10 8 == slot && d.startFree
  if arb ∨ first then
    d.armFromOffset n s.m (fun t => { t with setU := if s.meas then some s.u else none, setFreq := none, setMate := false })
  else d

/-- The TAI − UTC that the references of a UTC time base have used since TBn_LEAPCNT took its present value: the
reference's own, else another's; else, with a leap scheduled, what the two linear counts say (R550). -/
def Dev.taiUtcKept (d : Dev) (r n : Nat) : Option Int :=
  let lc := d.int (R.TBn_LEAPCNT n)
  let kept (q : Nat) : Option Int := match (d.rnAt (8 * q + n)).tu with
    | some (v, l) => if l = lc then some v else none
    | none => none
  match (r :: List.range 24).findSome? kept with
  | some v => some v
  | none =>
    if (d.tbAt n).leap.isSome ∧ d.isSet 0 ∧ d.isSet n ∧ d.fld (R.TBn_CFG 0) 1 0 = 0
    then some (((d.count 0 : Int) - (d.count n : Int) + (secUnit / 2 : Nat)) / (secUnit : Nat) + lc) else none

/-- The TAI − UTC used for a UTC time base n and a reference that carries a value, or not (R550): a value one second
away from the one kept is a leap that TBn_LEAPCNT has not yet taken, and until it does the kept one is used. -/
def Dev.taiUtcFor (d : Dev) (r n : Nat) (carried : Option Int) : Int × Dev :=
  let now := carried.getD (signed 16 (d.fld R.REF_TAIUTC 15 0))
  let tu := match d.taiUtcKept r n with
    | some v => if (now - v).natAbs = 1 then v else now
    | none => now
  (tu, d.modRn r n (fun h => { h with tu := some (tu, d.int (R.TBn_LEAPCNT n)) }))

/-- The offset of time base n against a reference whose offset against TB0's linear count and TAI is m0 (2^-16 ps),
by the timescale of n (R231, R550). -/
def Dev.offsetFor (d : Dev) (r n : Nat) (m0 : Int) (carried : Option Int) : Int × Dev :=
  let diff : Int := ((d.count n : Int) - (d.count 0 : Int)) * 1000 / (2 ^ 32 : Nat)
  if d.fld (R.TBn_CFG n) 1 0 = 1 then
    let (tu, d) := d.taiUtcFor r n carried
    (m0 + diff + (tu - d.int (R.TBn_LEAPCNT n)) * (1000000000000 * 65536 : Nat), d)
  else (m0 + diff, d)

end Sys2Proof.Machine
end

