-- ==== Sys2Proof/Machine/Frame.lean ====
section
/-! DEFINITION. Frames on their way out (chapters 03 and 10): egress queues and their levels, insertion at the predicted
or launch instant, checksum and FCS repair, the MAC transmit FIFO and the departure. -/
namespace Sys2Proof.Machine

/-! ### Time at an instant -/

/-- The presented value of a time base at a linear instant near the present one, 2^-16 ns (R31, R45, R46, R79). -/
def Dev.presentedAt (d : Dev) (n t : Nat) : Nat :=
  if d.fld (R.TBn_CFG n) 1 0 = 1 then
    let sec : Int := (c16 secUnit : Nat)
    let adj : Int := match (d.tbAt n).leap with
      | none => 0
      | some l =>
        if l.smear then
          if c16 l.start ≤ t ∧ t < c16 l.stop then smearTerm l (t * 2 ^ 32) / (2 ^ 32 : Nat)
          else if c16 l.stop ≤ t then (if l.del then -sec else sec) else 0
        else if l.del then
          (if l.done ∧ t < c16 l.start then sec else if !l.done ∧ c16 l.start ≤ t then -sec else 0)
        else if c16 l.at_ ≤ t then sec else 0
    (((t : Int) - d.int (R.TBn_LEAPCNT n) * sec - adj) % (2 ^ 48 * c16 secUnit : Nat)).toNat
  else t

/-- The NTP timestamp of a presented value (R82): seconds from 1900, and the fraction rounded to nearest with its carry. -/
def ntpStamp (t : Nat) : List Byte :=
  let rem16 := ns16 t * 2 ^ 16 + frac16 t
  let fr := (2 * rem16 * 2 ^ 16 + 1000000000) / 2000000000
  be 4 ((sec16 t + 2208988800 + fr / 2 ^ 32) % 2 ^ 32) ++ be 4 (fr % 2 ^ 32)

/-- tE − tK of R114, 2^-48 ns: from the tick of a time base's published values to an instant a number of 2^-16 ns
ahead. -/
def Dev.sinceTick (d : Dev) (n lead : Nat) : Nat := d.count 0 + lead * 2 ^ 32 - (d.ebAt n).pubAt

/-- BE of R114 of a frame whose time fields are fixed a number of 2^-16 ns ahead. -/
def Dev.boundAt (d : Dev) (n port lead : Nat) (launch : Bool) : Nat := d.stamped n (d.sinceTick n lead) port launch

/-- The three bytes of PTP_QUAL (R115). -/
def Dev.qualBytes (d : Dev) (n be_ low : Nat) : List Byte :=
  if d.ebState n = 0 ∨ d.ebState n = 4 then [0xFE, 0xFF, 0xFF] else be 1 (clockAcc low be_) ++ be 2 (oslv be_)

/-! ### Insertion (R82) -/

/-- The fields an insertion writes: offset and length. -/
def Ins.fields (i : Ins) : List (Nat × Nat) := match i.kind with
  | .ptpTs => [(i.off, 10), (i.off2, 8)]
  | .ptpTurn => [(i.off, 8)]
  | .ntpTs => [(i.off, 8)]
  | .ntpDisp => [(i.off, 4)]
  | .boundTlv => [(i.off, 8)]
  | .ptpQual => [(i.off, 3)]
  | .c37 => [(i.off, 4)]

/-- Every field lies within the first 256 bytes and inside the frame. -/
def insOk (len : Nat) (i : Ins) : Bool := i.fields.all (fun f => decide (f.1 + f.2 ≤ 256) && decide (f.1 + f.2 ≤ len))

/-- Add to an 8-byte field modulo 2^64. -/
def addField (bs : List Byte) (off v : Nat) : List Byte := patch bs off (be 8 ((beAt bs off 8 + v) % 2 ^ 64))

/-- totalTimeInaccuracy of R343: whole ns, rounded up. -/
def inaccuracy (be_ : Nat) : Nat :=
  let v := ceilDiv be_ 1000
  if be_ = unboundedPs ∨ 2 ^ 32 ≤ v then 0xFFFFFFFF else v

/-- Write one insertion's fields, for a linear instant t (2^-16 ns) on the frame's time base and a bound. -/
def Dev.insert (d : Dev) (tb t be_ : Nat) (bs : List Byte) (i : Ins) : List Byte := match i.kind with
  | .ptpTs => addField (patch bs i.off (be 6 (sec16 t) ++ be 4 (ns16 t))) i.off2 (frac16 t)
  | .ptpTurn => addField bs i.off ((t + 2 ^ 64 - i.arg % 2 ^ 64) % 2 ^ 64)
  | .ntpTs => patch bs i.off (ntpStamp (d.presentedAt tb t))
  | .ntpDisp => patch bs i.off (be 4 (ntpDisp be_))
  | .boundTlv => patch bs i.off (be 8 be_)
  | .ptpQual => patch bs i.off (d.qualBytes tb be_ i.arg)
  | .c37 => patch bs i.off (be 4 (inaccuracy be_))

/-! ### Checksums (R84) and the FCS (R85) -/

/-- One's-complement sum of two 16-bit words. -/
def ocAdd (a b : Nat) : Nat := if a + b < 65536 then a + b else a + b - 65535
/-- The big-endian 16-bit words of bytes; an odd last byte counts as a high byte. -/
def words16 : List Byte → List Nat
  | a :: b :: r => (a.toNat * 256 + b.toNat) :: words16 r
  | [a] => [a.toNat * 256]
  | [] => []
/-- One's-complement sum of bytes. -/
def ocSum (bs : List Byte) : Nat := (words16 bs).foldl ocAdd 0

/-- Sum of the changes between two equally long byte strings from an even offset on: each changed word's new value and
the complement of its old one (RFC 1624). -/
def ocDelta (old new : List Byte) : Nat :=
  ((words16 old).zip (words16 new)).foldl (fun s p => if p.1 = p.2 then s else ocAdd (ocAdd s p.2) (65535 - p.1)) 0

/-- R84 INCR: the checksum field brought up to date for the changes. -/
def cksumIncr (old new : List Byte) (off : Nat) : List Byte :=
  let hc := 65535 - ocAdd (65535 - beAt new off 2) (ocDelta old new)
  patch new off (be 2 (if hc = 0 then 0xFFFF else hc))

/-- The offset of the two bytes a PTP message over UDP leaves inside the payload, if its builder left them (R84). -/
def trailRoom (bs : List Byte) (off : Nat) : Option Nat :=
  let dport := beAt bs (off - 4) 2
  let udpLen := beAt bs (off - 2) 2
  let msgLen := beAt bs (off + 4) 2
  if (dport = 319 ∨ dport = 320) ∧ msgLen + 10 ≤ udpLen ∧ off + udpLen - 6 ≤ bs.length then some (off + 2 + msgLen) else none

/-- R84 TRAIL: the trailing word that keeps the original checksum valid. -/
def cksumTrail (old new : List Byte) (pos : Nat) : List Byte :=
  let dl := 65535 - ocDelta old new
  if pos % 2 = 0 then patch new pos (be 2 (ocAdd (beAt new pos 2) dl))
  else
    let w := ocAdd (beAt new (pos + 1) 1 * 256 + beAt new pos 1) dl
    patch new pos (be 1 (w % 256) ++ be 1 (w / 256))

/-- A VLAN tag stands at an offset (0x8100 or 0x88A8). -/
def isTag (bs : List Byte) (off : Nat) : Bool := beAt bs off 2 == 0x8100 || beAt bs off 2 == 0x88A8
/-- The offset of a frame's EtherType after up to two VLAN tags. -/
def etherOff (bs : List Byte) : Nat := if isTag bs 12 then (if isTag bs 16 then 20 else 16) else 12

/-- Make a UDP checksum good after insertion (R84). -/
def repair (method off : Nat) (old new : List Byte) : List Byte :=
  if off = 0 ∨ old = new then new
  else
    match method with
    | 1 => if beAt new (etherOff new) 2 = 0x86DD then cksumIncr old new off else patch new off [0, 0]
    | 2 => match trailRoom old off with
      | some pos => cksumTrail old new pos
      | none => cksumIncr old new off
    | _ => cksumIncr old new off

/-- The FCS of bytes, in wire order. -/
def fcsOf (bs : List Byte) : List Byte := le 4 (crc32 bs)

/-- R85: append the FCS, or change a host frame's own FCS by the CRC of the difference pattern. -/
def withFcs (own : Option Nat) (old new : List Byte) : List Byte := match own with
  | none => new ++ fcsOf new
  | some f => new ++ le 4 (f ^^^ crc32 old ^^^ crc32 new)

/-! ### Egress queues (R283 to R285) -/

/-- The queue of a port and class. -/
def Dev.queue (d : Dev) (n k : Nat) : List EgFrame := d.egressAt (8 * n + k)
/-- Bytes of the frames in a queue. -/
def queueBytes (q : List EgFrame) : Nat := (q.map (fun f => f.bytes.length)).sum

/-- A class queue is full for a frame of some length: its quota would be exceeded, or it holds 1 024 frames (R284). -/
def Dev.queueFull (d : Dev) (n k len : Nat) : Bool :=
  let q := d.queue n k
  decide (1024 ≤ q.length) || decide (d.fld (R.PEn_EGQ_QUOTA n k) 9 0 * 1024 < queueBytes q + len)

/-- Show a queue's level, and whether it is full for the shortest frame (PEn_EGQ_LVL, PEn_STAT). -/
def Dev.queueShow (d : Dev) (n k : Nat) : Dev :=
  let q := d.queue n k
  let d := d.wrNat (R.PEn_EGQ_LVL n k) (q.length * 2 ^ 16 + (Config.shown ((queueBytes q : Rat) / 1024)).toNat % 1024)
  d.setBit (R.PEn_STAT n) k (d.queueFull n k 60)

/-- Replace a queue and show it. -/
def Dev.setQueue (d : Dev) (n k : Nat) (q : List EgFrame) : Dev := (d.setEgress (8 * n + k) q).queueShow n k

/-- A frame is a message of an instance of some messageType. -/
def FrameSrc.isPtp (s : FrameSrc) (i typ : Nat) : Bool := match s with
  | .ptp j t _ => j == i && t == typ
  | _ => false

/-- The frames of the device that lie between crypto input and the wires. -/
def Dev.onWay (d : Dev) : List EgFrame :=
  (List.range 64).flatMap (fun q => d.egressAt q) ++ (List.range 8).flatMap (fun n => (d.portsAt n).fifo) ++
  d.pe.input.filterMap (fun j => match j with
    | .send f _ => some f
    | _ => none) ++
  d.pe.builders.filterMap (fun b => match b.ready, b.job with
    | some f, _ => some f
    | none, .send f _ => some f
    | none, _ => none)

/-- The Follow_Up slots of an instance that are reserved in the egress scheduler (R27): of its two-step Syncs past the
scheduler's door, of their measured departures, and of the Follow_Ups on their way. -/
def Dev.slotsUsed (d : Dev) (i : Nat) : Nat :=
  let syncs := ((List.range 64).flatMap (fun q => d.egressAt q) ++ (List.range 8).flatMap (fun n => (d.portsAt n).fifo)).filter
    (fun f => f.twoStep.isSome && f.src.isPtp i 0)
  let stamps := (List.range 8).flatMap (fun n => (d.txqAt n).filter (fun s =>
    d.ptpg.twoStep.any (fun t => t.tag == s.tag && t.typ == 0 && t.inst == i)))
  syncs.length + stamps.length + (d.onWay.filter (fun f => f.slot && f.src.isPtp i 8)).length

/-- The Follow_Up slots of each instance: as many as a port's timestamp queue has entries (R89). The spec gives no number:
DESIGN CHOICE (log 62). -/
def followUpSlots : Nat := 64

/-- A two-step Sync finds no free Follow_Up slot of its instance (R27). -/
def Dev.noSlot (d : Dev) (f : EgFrame) : Bool := match f.twoStep, f.src with
  | some _, .ptp i 0 _ => decide (followUpSlots ≤ d.slotsUsed i)
  | _, _ => false

/-- Put a frame into its class queue, if it is not full. A two-step Sync enters only with a Follow_Up slot for its
instance; a Follow_Up has its slot and does not wait (R27). -/
def Dev.enqueue (d : Dev) (f : EgFrame) : Option Dev :=
  if (!f.slot && d.queueFull f.port f.cls f.bytes.length) || d.noSlot f then none
  else some (d.setQueue f.port f.cls (d.queue f.port f.cls ++ [f]))

/-! ### Port conditions the scheduler needs -/

/-- The port's link is up (R254). -/
def Dev.linkUp (d : Dev) (n : Nat) : Bool := d.bit (R.MACn_STAT n) 0
/-- The port is in Islet mode (R271). -/
def Dev.islet (d : Dev) (n : Nat) : Bool := d.bit (R.MACn_STAT n) 10
/-- The express class of a port. -/
def Dev.expClass (d : Dev) (n : Nat) : Nat := d.fld (R.MACn_PREEMPT n) 2 0
/-- A class is held by pause or PFC (R263). -/
def Dev.held (d : Dev) (n k : Nat) : Bool := d.bit (R.MACn_PAUSE_STAT n) (8 + k)
/-- Transmit preemption is active (R258). -/
def Dev.preemptActive (d : Dev) (n : Nat) : Bool := d.bit (R.MACn_PREEMPT_STAT n) 3

/-- Byte time of a port, ps (R252, R260). -/
def Dev.byteTime (d : Dev) (n : Nat) : Nat :=
  match d.fld (R.MACn_CFG n) 3 0 with
  | 1 => 8000
  | 2 => if d.fld (R.MACn_STAT n) 6 5 = 2 then 8000 else if d.fld (R.MACn_STAT n) 6 5 = 1 then 80000 else 800000
  | 3 => 800
  | 7 => 160
  | _ => 320

/-- Free entries the port's transmit timestamp queue has, frames on their way counted (R89). -/
def Dev.txqRoom (d : Dev) (n : Nat) : Bool :=
  let waiting := ((d.portsAt n).fifo.filter (fun f => f.twoStep.isSome)).length
  decide ((d.txqAt n).length + waiting < 64)

/-- A head frame is eligible (R285): not a launch-time frame before its release instant, not a two-step frame without a
free timestamp entry. -/
def Dev.eligible (d : Dev) (n lead : Nat) (f : EgFrame) : Bool :=
  (match f.launch with
   | some t => decide (t ≤ d.linearIn f.tb lead)
   | none => true) && (f.twoStep.isNone || d.txqRoom n)

/-- A launch-time frame can no longer meet its launch instant (R87, R88). -/
def Dev.tooLate (d : Dev) (n lead : Nat) (f : EgFrame) : Bool := match f.launch with
  | some t => decide (t + d.fld (R.TSUn_LAUNCH_TOL n) 15 0 * 2 ^ 16 < d.linearIn f.tb lead)
  | none => false

/-- R87: a non-express frame started now would still be on the wire, or in the gap and preamble that follow it, at the
launch instant of a frame that waits: its timestamp point crosses the balls after `lead`, its FCS and 20 bytes more
follow its last byte. -/
def Dev.overlapsLaunch (d : Dev) (n lead : Nat) (f : EgFrame) : Bool :=
  f.cls != d.expClass n &&
  (List.range 8).any (fun k => (d.queue n k).any (fun g => match g.launch with
    | some t => decide (g ≠ f) && decide (c16 (d.count g.tb) < t) &&
        decide (t < d.linearIn g.tb (lead + (f.bytes.length + (if f.fcs then 0 else 4) + 20) * d.byteTime n * 2 ^ 16 / 1000))
    | none => false))

/-- Drop the launch-time frames at the heads that come too late, each counted (R87, R88). -/
def dropLate (n lead k : Nat) (d : Dev) : Dev :=
  let q := d.queue n k
  let late := q.takeWhile (fun f => d.tooLate n lead f)
  if late = [] then d else ((d.bumpBy (R.TSUn_LAUNCH_LATE n) late.length).setBit (R.TSUn_STAT n) 4 true).setQueue n k (q.drop late.length)

/-- Move the port's replies into their class queues, oldest first, as far as they fit (R27). -/
def Dev.takeReplies (d : Dev) (n : Nat) : Dev :=
  let mine := d.pe.replies.filter (fun f => f.port == n)
  mine.foldl (fun d f => match d.enqueue f with
    | some d' => { d' with pe := { d'.pe with replies := d'.pe.replies.erase f } }
    | none => d) d

/-- The classes in the order the scheduler looks at them. -/
def classOrder : List Nat := [7, 6, 5, 4, 3, 2, 1, 0]

/-- The head frame the scheduler picks (R285, R87). -/
def Dev.pick (d : Dev) (n lead : Nat) : Option EgFrame :=
  (classOrder.filterMap (fun k => if d.held n k then none else (d.queue n k).head?)).find? (fun f =>
    d.eligible n lead f && !d.overlapsLaunch n lead f)

/-- A frame reaches the MAC transmit FIFO: discarded with the link down or in Islet mode, dropped when too long
(R254, R255, R271). -/
def Dev.toFifo (d : Dev) (n : Nat) (f : EgFrame) : Dev :=
  let len := f.bytes.length + (if f.fcs then 0 else 4)
  if !d.linkUp n || d.islet n then d.bump (R.MACn_TX_LINKDOWN_DROP n)
  else if d.fld (R.MACn_MAXLEN n) 13 0 < len then d.bump (R.MACn_TX_OVERSIZE n)
  else d.setPorts n { d.portsAt n with fifo := (d.portsAt n).fifo ++ [f] }

/-- R285: the scheduler picks the highest eligible unheld class. -/
def effEgress (n lead : Nat) (d : Dev) : Dev :=
  let d := (d.takeReplies n)
  let d := forRange 8 (fun k d => dropLate n lead k d) d
  match d.pick n lead with
  | some f => (d.setQueue n f.cls (d.queue n f.cls).tail).toFifo n f
  | none => d

/-! ### Departure (R80, R81, R89) -/

/-- The next frame of a FIFO, of a class that is not held, for a held class starts no frame (R263): with preemption active
an express frame first (R259), else the oldest. -/
def Dev.nextOut (d : Dev) (n : Nat) : Option EgFrame :=
  let q := (d.portsAt n).fifo.filter (fun f => !d.held n f.cls)
  if d.preemptActive n then
    match q.find? (fun f => f.cls == d.expClass n) with
    | some f => some f
    | none => q.head?
  else q.head?

/-- Show the level of a port's transmit timestamp queue. -/
def Dev.txqShow (d : Dev) (n : Nat) : Dev := d.setFld (R.TSUn_TXQ_LVL n) 6 0 (d.txqAt n).length

/-- A measured departure that a two-step frame gives (R89, R294). -/
def Dev.twoStepStamp (d : Dev) (n tag tb at_ be_ : Nat) (src : FrameSrc) : Dev := match src with
  | .host htag ts =>
    if ts && d.bit (R.TSUn_CFG n) 3 then
      d.ringOffer 0 0x06 (be 1 n ++ be 1 (d.clkSrc * 16 + tb) ++ be 2 htag ++ be 6 (sec16 at_) ++ be 4 (ns16 at_) ++
        be 2 (frac16 at_)) none
    else d
  | _ => (d.setTxq n (d.txqAt n ++ [⟨tag, tb, at_, d.clkSrc, be_⟩])).txqShow n

/-- Change the counts of the present statistics interval (R330). -/
def Dev.modStat (d : Dev) (f : StatHid → StatHid) : Dev := { d with nts := { d.nts with stat := f d.nts.stat } }

/-- What a frame's departure counts for its source. -/
def Dev.countSent (d : Dev) (n : Nat) (src : FrameSrc) : Dev := match src with
  | .ntp => (d.bump64 R.NTP_TX_LO R.NTP_TX_HI).modStat (fun t => { t with ntp := t.ntp + 1 })
  | .kod => ((d.bump64 R.NTP_TX_LO R.NTP_TX_HI).bump R.NTP_KOD).modStat (fun t => { t with ntp := t.ntp + 1, kod := t.kod + 1 })
  | .nts => ((d.bump64 R.NTS_TX_LO R.NTS_TX_HI).modStat (fun t => { t with nts := t.nts + 1 })).pmc 0x0800 none 1
  | .nak => (d.modStat (fun t => { t with nak := t.nak + 1 })).pmc 0x0801 none 1
  | .esmc => d.bump (R.MACn_ESMC_TX n)
  | .ptp i 0 _ => (d.bumpWrap (R.PTPi_TXSYNC i)).pmc 0x0900 (some i) 1
  | .ptp i _ _ => d.pmc 0x0900 (some i) 1
  | _ => d

/-- Offset of the PTP message in a frame. -/
def ptpOff (bs : List Byte) : Nat :=
  etherOff bs + 2 + (if beAt bs (etherOff bs) 2 = 0x88F7 then 0 else if beAt bs (etherOff bs) 2 = 0x0800 then 28 else 48)

/-- What a PTP message's departure leaves with its instance: a request's departure, an Announce's quality (R350, R363). -/
def Dev.ptpDeparted (d : Dev) (port : Nat) (src : FrameSrc) (at_ : Nat) (out : List Byte) : Dev := match src with
  | .ptp i typ seq =>
    if typ = 1 ∨ typ = 2 then
      let h := d.ptppAt (8 * i + port)
      d.setPtpp (8 * i + port) { h with reqs := h.reqs.map (fun r => if r.seq = seq then { r with left := some at_ } else r) }
    else if typ = 0xB then d.wrNat (R.PTPi_CQ i) (beAt out (ptpOff out + 48) 4)
    else d
  | _ => d

/-- R81: a measured departure that differs from the prediction by more than 10 ps. The spec states no rounding of the
largest difference to whole ps; the model rounds up: DESIGN CHOICE (log 62). -/
def Dev.mispredict (d : Dev) (n : Nat) (diff : Int) : Dev :=
  let ps := (diff.natAbs * 1000 + 65535) / 65536
  if 10 * 65536 < diff.natAbs * 1000 then 
    ((d.bump (R.TSUn_TX_MISPRED n)).maxReg (R.TSUn_TX_MISPRED_MAX n) ps).setBit (R.TSUn_STAT n) 3 true
  else d

/-- Serial bits of a port's mode in 1 ms at the nominal rate (R76); a PAM4 symbol holds two. -/
def nominalBits (mode : Nat) : Nat := match mode with
  | 3 => 10312500
  | 4 => 25781250
  | 5 => 25781250
  | 6 => 25781250
  | 7 => 53125000
  | _ => 1250000

/-- Serial positions on transmit as a time, 2^-16 ns (R76): at the nominal period where the quad takes the local
oscillator, which stands in a fixed ratio to TIME; else scaled by the synthesizer's nominal word over its word in use. -/
def Dev.txSpan (d : Dev) (n pos : Nat) : Nat :=
  let nom := pos * 65536000000 / nominalBits (d.fld (R.MACn_CFG n) 3 0)
  let q := d.fld R.MAC_QREF (4 * (n / 4) + 3) (4 * (n / 4))
  if q = 0 then nom
  else
    let w := d.osynWord (q - 1)
    if w = 0 then nom else pos * 65536000000 * d.osynNom (q - 1) / (nominalBits (d.fld (R.MACn_CFG n) 3 0) * w)

/-- The time from the FIFO to the reference plane's side of the balls, 2^-16 ns: the serial position and the fused
latency (R80, R77). -/
def Dev.txLead (d : Dev) (n pos : Nat) : Nat := d.txSpan n pos + (ps16 (d.nat (R.TSUn_TX_FIX n))).toNat

/-- An instant at the balls moved to the reference plane (R75). -/
def Dev.txPlane (d : Dev) (n t : Nat) : Nat := ((t : Int) + ps16 (d.int (R.TSUn_TX_LAT n))).toNat

/-- The measured departure at the balls (R81): whole TIME cycles on, of which those after the next alignment epoch run on
the values committed for it, and the centre of the tap. -/
def Dev.departed (d : Dev) (n tb : Nat) (dep : Departure) : Nat :=
  let a := min dep.cyc dep.epochIn
  c16 ((d.count tb : Int) + a * d.cycleAdd tb + (dep.cyc - a : Nat) * d.cycleAddNext tb).toNat + d.hitCentre (8 + n) dep.hit

/-- A frame whose departure the TSU timestamps: with insertions, launch-time, two-step, or a request whose departure its
instance keeps (R81, R350). -/
def EgFrame.stamped (f : EgFrame) : Bool :=
  f.ins != [] || f.twoStep.isSome || f.launch.isSome || (match f.src with
    | .ptp _ typ _ => typ == 1 || typ == 2
    | _ => false)

/-- R87: a launch-time frame that the FIFO has delayed beyond its tolerance is dropped before its first byte leaves. -/
def Dev.fifoLate (d : Dev) (n : Nat) : Dev := (d.bump (R.TSUn_LAUNCH_LATE n)).setBit (R.TSUn_STAT n) 4 true

/-- The frame as it leaves: insertion at the predicted instant, checksum and FCS (R80 to R85). A launch-time frame took
its fields at the launch instant and is not touched again. -/
def Dev.finish (d : Dev) (n lead : Nat) (f : EgFrame) : List Byte :=
  let body := if f.fcs then f.bytes.take (f.bytes.length - 4) else f.bytes
  let own := if f.fcs then some (leAt f.bytes (f.bytes.length - 4) 4) else none
  let new := f.ins.foldl (d.insert f.tb (d.txPlane n (d.linearIn f.tb lead)) (d.boundAt f.tb n lead false)) body
  withFcs own body (repair f.cksum f.ckOff body new)

/-- A frame that leaves is timestamped, checked against its prediction and counted (R79, R81, R89). -/
def Dev.stampSent (d : Dev) (n lead : Nat) (f : EgFrame) (dep : Departure) (out : List Byte) : Dev :=
  let pred := d.linearIn f.tb lead
  let meas := d.departed n f.tb dep
  let at_ := d.txPlane n meas
  let d := if f.stamped then (d.mispredict n ((meas : Int) - pred)).pmc 0x0201 (some n) 1 else d
  let d := match f.twoStep with
    | some tag => d.twoStepStamp n tag f.tb at_ (d.boundAt f.tb n lead false) f.src
    | none => d
  (d.countSent n f.src).ptpDeparted n f.src at_ out

/-- A frame goes to the wire, where a preemptable one stays interruptible (R259). -/
def Dev.toWire (d : Dev) (n : Nat) (f : EgFrame) (out : List Byte) : Dev :=
  let d := (d.bump64 (R.MACn_TX_FRAMES_LO n) (R.MACn_TX_FRAMES_HI n)).bump64By (R.MACn_TX_BYTES_LO n)
    (R.MACn_TX_BYTES_HI n) out.length |>.pmc 0x0501 (some n) 1
  let d := if f.cls = d.expClass n then d else d.setPorts n { d.portsAt n with wire := some ⟨out, 0, false⟩ }
  d.emit (.frame n out)

/-- R80: the frame at the FIFO's head leaves. Its departure is predicted at most 512 TIME cycles ahead; before that it
waits. -/
def effFrameTx (n pos : Nat) (dep : Departure) (d : Dev) : Dev :=
  let lead := d.txLead n pos
  if 512 < d.cyclesIn lead then d
  else match d.nextOut n with
  | none => d
  | some f =>
    let d := d.setPorts n { d.portsAt n with
      fifo := (d.portsAt n).fifo.erase f, frameAt := if f.src = .esmc then (d.portsAt n).frameAt else d.nowNs }
    let len := f.bytes.length - (if f.fcs then 4 else 0)
    if !f.ins.all (insOk len) then (d.bump (R.TSUn_INS_ERR n)).setBit (R.TSUn_STAT n) 5 true
    else if d.tooLate n lead f then d.fifoLate n
    else
      let out := d.finish n lead f
      (d.stampSent n lead f dep out).toWire n f out

/-! ### Meanings -/

def execEgressSchedule (n : Fin 8) (lead : Nat) (s : State) : Result := s.on (effEgress n lead)
def execFrameTx (n : Fin 8) (pos : Nat) (dep : Departure) (s : State) : Result := s.on (effFrameTx n pos dep)

end Sys2Proof.Machine
end

