-- ==== Sys2Proof/Machine/PtpPorts.lean ====
section
/-! DEFINITION. PTP instances and the states of their ports as far as links and settings fix them (R335, R345). -/
namespace Sys2Proof.Machine

/-- The instance is in service (R364). -/
def Dev.ptpEn (d : Dev) (i : Nat) : Bool := d.bit (R.PTPi_CFG i) 31
/-- The time base an instance serves. -/
def Dev.ptpTb (d : Dev) (i : Nat) : Nat := d.fld (R.PTPi_CFG i) 30 28
/-- ROLE: 0 master-only, 1 client-only, 2 boundary. -/
def Dev.ptpRole (d : Dev) (i : Nat) : Nat := d.fld (R.PTPi_CFG i) 27 26
/-- TRANSPORT: 0 Ethernet, 1 UDP/IPv4, 2 UDP/IPv6. -/
def Dev.ptpTransport (d : Dev) (i : Nat) : Nat := d.fld (R.PTPi_CFG i) 25 24
/-- A port belongs to an instance in service. -/
def Dev.ptpOn (d : Dev) (i p : Nat) : Bool := d.ptpEn i && d.bit (R.PTPi_CFG i) p
/-- PROFILE code of R337. -/
def Dev.ptpProfile (d : Dev) (i : Nat) : Nat := d.fld (R.PTPi_PROF i) 31 29
/-- The delay mechanism is peer to peer (R337). -/
def Dev.ptpP2p (d : Dev) (i : Nat) : Bool := d.ptpProfile i == 1 || d.ptpProfile i == 4 || d.ptpProfile i == 5
/-- The port is master-only: by its instance's role or its masterOnly bit (R338, R345). -/
def Dev.ptpMasterOnly (d : Dev) (i p : Nat) : Bool := d.ptpRole i == 0 || d.bit (R.PTPi_Pp_CFG i p) 0
/-- The state of a port (R345). -/
def Dev.ptpState (d : Dev) (i p : Nat) : Nat := d.fld (R.PTPi_Pp_STAT i p) 3 0
/-- Change a port's hidden state. -/
def Dev.modPtpp (d : Dev) (i p : Nat) (f : PtpPortHid → PtpPortHid) : Dev := d.setPtpp (8 * i + p) (f (d.ptppAt (8 * i + p)))
/-- Set the state of a port, and when it took it. -/
def Dev.setPtpState (d : Dev) (i p st : Nat) : Dev :=
  (d.setFld (R.PTPi_Pp_STAT i p) 3 0 st).modPtpp i p (fun h => { h with since := d.nowNs })
/-- The port has its link and is in service outside Islet mode (R345). -/
def Dev.ptpUp (d : Dev) (i p : Nat) : Bool := d.ptpOn i p && d.fld (R.MACn_CFG p) 3 0 != 0 && d.linkUp p && !d.islet p

/-- A port of an instance takes the state its settings and its link fix, or keeps its state (R345). Nothing changes
before the image is applied. -/
def ptpPortRefresh (i p : Nat) (d : Dev) : Dev :=
  let s := d.ptpState i p
  let t :=
    if !d.sys.applied then 1
    else if !d.ptpOn i p || d.fld (R.MACn_CFG p) 3 0 == 0 then 3
    else if !d.ptpUp i p || d.bit (R.PTPi_STAT i) 5 then 2
    else if s ≤ 3 then (if d.ptpMasterOnly i p then 6 else 4)
    else s
  if t = s then d else d.setPtpState i p t

/-- Refresh every port of every instance. -/
def ptpRefresh (d : Dev) : Dev := forRange 8 (fun i d => forRange 8 (fun p d => ptpPortRefresh i p d) d) d

end Sys2Proof.Machine
end

