-- ==== Sys2Proof/Machine/Mac.lean ====
section
/-! DEFINITION. The Ethernet ports (chapter 09): reception, pause and PFC, preemption, links, ESMC and Islet mode. -/
namespace Sys2Proof.Machine

/-- Change what a port holds beside its registers. -/
def Dev.modPort (d : Dev) (n : Nat) (f : PortHid → PortHid) : Dev := d.setPorts n (f (d.portsAt n))

/-- MACn_CFG.MODE. -/
def Dev.portMode (d : Dev) (n : Nat) : Nat := d.fld (R.MACn_CFG n) 3 0

/-! ### Pause and PFC (R263 to R266) -/

/-- The model's own clock in whole µs. -/
def Dev.monoMicros (d : Dev) : Nat := d.clk.mono / (1000 * nsUnit)

/-- Bring MACn_TX_HELD up to the present instant (R265). -/
def heldUpdate (n : Nat) (d : Dev) : Dev :=
  let now := d.monoMicros
  let d := if d.fld (R.MACn_PAUSE_STAT n) 15 8 = 0 then d else d.bumpBy (R.MACn_TX_HELD n) (now - (d.portsAt n).heldMark)
  d.modPort n (fun h => { h with heldMark := now })

/-- The classes held by the timers that run (R263, R266). -/
def Dev.heldBy (d : Dev) (n : Nat) (x3 : Bool) (pfc : List Nat) : Nat :=
  let ex := d.bit (R.MACn_PAUSE_CFG n) 16
  ((List.range 8).filter (fun k => (x3 || pfc.any (fun p => d.fld (R.MACn_PFC_MAP n) (3 * p + 2) (3 * p) == k)) &&
    !(ex && k == d.expClass n))).foldl (fun v k => v + 2 ^ k) 0

/-- Take a new set of running timers and show it in MACn_PAUSE_STAT. -/
def Dev.setPause (d : Dev) (n : Nat) (x3 : Bool) (pfc : List Nat) : Dev :=
  let d := heldUpdate n d
  let d := d.modPort n (fun h => { h with pfc := pfc })
  d.wrNat (R.MACn_PAUSE_STAT n) (d.heldBy n x3 pfc * 256 + b2n x3)

/-- The 802.3x timer runs. -/
def Dev.x3 (d : Dev) (n : Nat) : Bool := d.bit (R.MACn_PAUSE_STAT n) 0

/-- The timers after a PFC frame: each priority that the port honours and whose enable bit is set takes its time
(R263, R264). -/
def Dev.pfcAfter (d : Dev) (n : Nat) (f : PauseIn) : List Nat :=
  let now := (d.portsAt n).pfc
  (List.range 8).filter (fun p =>
    if f.enable.testBit p && d.bit (R.MACn_PAUSE_CFG n) (8 + p) then decide (f.times.getD p 0 ≠ 0) else decide (p ∈ now))

/-- The end of a pause time of q quanta of 512 bit times from the present instant, ns (R263). -/
def Dev.pauseTo (d : Dev) (n q : Nat) : Nat := d.nowNs + q * 64 * d.byteTime n / 1000

/-- The timers' ends after a frame: 802.3x's is timer 8; each priority acted on takes its own (R263, R264). -/
def Dev.setEnds (d : Dev) (n : Nat) (f : PauseIn) : Dev :=
  let m := (d.portsAt n).pauseEnd
  let m := if f.pfc then (List.range 8).foldl (fun m p =>
      if f.enable.testBit p && d.bit (R.MACn_PAUSE_CFG n) (8 + p) then Map.put m (fun _ => 0) p (d.pauseTo n (f.times.getD p 0))
      else m) m
    else Map.put m (fun _ => 0) 8 (d.pauseTo n (f.times.getD 0 0))
  d.modPort n (fun h => { h with pauseEnd := m })

/-- A frame other than ESMC has been received or sent (R270). -/
def Dev.frameSeen (d : Dev) (n : Nat) : Dev := d.modPort n (fun h => { h with frameAt := d.nowNs })

/-- R263 to R265: a pause or PFC frame is acted on, or ignored and counted. -/
def effPause (n : Nat) (f : PauseIn) (d : Dev) : Dev :=
  let mode := d.fld (R.MACn_PAUSE_CFG n) 1 0
  let d := d.frameSeen n
  if mode = 1 ∧ !f.pfc then
    ((d.setEnds n f).bump (R.MACn_RX_PAUSE n)).setPause n (decide (f.times.getD 0 0 ≠ 0)) (d.portsAt n).pfc
  else if mode = 2 ∧ f.pfc then
    ((d.setEnds n f).bump (R.MACn_RX_PFC n)).setPause n (d.x3 n) (d.pfcAfter n f)
  else d.bump (R.MACn_RX_CTRL_IGN n)

/-- R264: a timer runs out and releases what it held. -/
def effPauseExpire (n t : Nat) (d : Dev) : Dev :=
  if d.nowNs < Map.get (d.portsAt n).pauseEnd (fun _ => 0) t then d
  else if t = 8 then (if d.x3 n then d.setPause n false (d.portsAt n).pfc else d)
  else if t ∈ (d.portsAt n).pfc then d.setPause n (d.x3 n) ((d.portsAt n).pfc.filter (· ≠ t)) else d

/-! ### Preemption (R258 to R262) -/

/-- MACn_PREEMPT_STAT.verify. -/
def Dev.verifyState (d : Dev) (n : Nat) : Nat := d.fld (R.MACn_PREEMPT_STAT n) 2 0

/-- Set ACTIVE and the verify state. -/
def Dev.setVerify (d : Dev) (n st : Nat) (active : Bool) : Dev :=
  (d.setFld (R.MACn_PREEMPT_STAT n) 2 0 st).setBit (R.MACn_PREEMPT_STAT n) 3 active

/-- Preemption at link-up (R258): off, active at once with VERIFY_DIS, or the first verify mPacket. -/
def Dev.verifyStart (d : Dev) (n : Nat) : Dev :=
  if !d.bit (R.MACn_PREEMPT n) 31 then d.setVerify n 0 false
  else if d.bit (R.MACn_PREEMPT n) 30 then d.setVerify n 0 true
  else ((d.setVerify n 2 false).modPort n (fun h => { h with attempts := 1, verifyAt := d.nowNs })).emit (.mpacket n false)

/-- Preemption at link-down returns to its initial state (R254). -/
def Dev.verifyReset (d : Dev) (n : Nat) : Dev :=
  (d.setVerify n (if d.bit (R.MACn_PREEMPT n) 31 && !d.bit (R.MACn_PREEMPT n) 30 then 1 else 0) false).modPort n
    (fun h => { h with attempts := 0 })

/-- R258: no respond mPacket within VERIFY_TIME; three attempts in all. -/
def effVerifyTimeout (n : Nat) (d : Dev) : Dev :=
  if d.verifyState n ≠ 2 ∨ d.nowNs < (d.portsAt n).verifyAt + d.fld (R.MACn_PREEMPT n) 23 16 * 1000000 then d
  else if 3 ≤ (d.portsAt n).attempts then d.setVerify n 4 false
  else (d.modPort n (fun h => { h with attempts := h.attempts + 1, verifyAt := d.nowNs })).emit (.mpacket n false)

/-- R258: a respond mPacket completes verification. -/
def effRespond (n : Nat) (d : Dev) : Dev := if d.verifyState n = 2 then d.setVerify n 3 true else d

/-- R258: a verify mPacket is answered whenever EN is set. -/
def effVerifyRx (n : Nat) (d : Dev) : Dev :=
  if d.bit (R.MACn_PREEMPT n) 31 && d.linkUp n then d.emit (.mpacket n true) else d

/-- The mCRC of a fragment: the CRC of the frame's bytes up to its end with the low 16 bits complemented (IEEE 802.3br;
PRESUMED, log 4). -/
def mcrc (bs : List Byte) : Nat := crc32 bs ^^^ 0x0000FFFF

/-- R259, R263: a ready express frame, or an 802.3x pause, interrupts the preemptable frame at a permitted point. -/
def effPreempt (n sent : Nat) (d : Dev) : Dev :=
  match (d.portsAt n).wire with
  | none => d
  | some w =>
    let ready := (d.portsAt n).fifo.any (fun f => f.cls == d.expClass n && !d.held n f.cls)
    let minFrag := (1 + d.fld (R.MACn_PREEMPT n) 9 8) * 64 - 4
    if d.preemptActive n ∧ (ready ∨ d.x3 n) ∧ minFrag ≤ sent ∧ w.sent + sent + 64 ≤ w.bytes.length then
      let d := if w.preempted then d else d.bump (R.MACn_TX_PREEMPT n)
      let at_ := w.sent + sent
      (d.modPort n (fun h => { h with wire := some { w with sent := at_, preempted := true } })).emit
        (.preempt n at_ (mcrc (w.bytes.take at_))) |>.pmc 0x0502 (some n) 1
    else d

/-! ### ESMC (R268, R269) -/

/-- The ESMC group address. -/
def esmcDa : List Byte := [0x01, 0x80, 0xC2, 0x00, 0x00, 0x02]
/-- EtherType 0x8809, subtype 0x0A, OUI 00-19-A7, ITU-T subtype 0x0001. -/
def esmcHead : List Byte := [0x88, 0x09, 0x0A, 0x00, 0x19, 0xA7, 0x00, 0x01]

/-- A frame is an ESMC PDU. -/
def isEsmc (bs : List Byte) : Bool := bs.take 6 == esmcDa && slice bs 12 8 == esmcHead

/-- The SSM and eSSM codes of an ESMC PDU of version 1 with a well-formed QL TLV (R268). -/
def esmcCodes (bs : List Byte) : Option (Nat × Option Nat) :=
  if beAt bs 20 1 / 16 = 1 ∧ slice bs 24 3 = [0x01, 0x00, 0x04] ∧ 28 ≤ bs.length then
    some (beAt bs 27 1 % 16, if slice bs 28 3 = [0x02, 0x00, 0x14] ∧ 48 ≤ bs.length then some (beAt bs 31 1) else none)
  else none

/-- R268: an ESMC PDU is accepted and updates the reference's level, or is ignored and counted. -/
def effEsmcRx (n : Nat) (bs : List Byte) (fcsOk : Bool) (d : Dev) : Dev :=
  if !d.linkUp n || d.islet n then d
  else if !d.bit (R.MACn_CFG n) 7 then d.bump (R.MACn_RX_UNSUP n)
  else match fcsOk && isEsmc bs, esmcCodes bs with
    | true, some (ssm, essm) =>
      let raw := ssm * 256 + essm.getD 0xFF
      let d := (d.bump (R.MACn_ESMC_RX n)).setFld (R.MACn_ESMC_STAT n) 27 16 raw
      let event := (beAt bs 20 1).testBit 3
      (d.refMessage (2 + n) 1 raw (esmcLevel ssm essm)).modRef (2 + n) (fun h => if event then h else { h with msgAt := d.nowNs })
    | _, _ => d.bump (R.MACn_ESMC_ERR n)

/-- The time base that steers a port's quad: none where the quad takes the local oscillator (R253). -/
def Dev.quadTb (d : Dev) (n : Nat) : Option Nat :=
  let q := d.fld R.MAC_QREF (4 * (n / 4) + 3) (4 * (n / 4))
  if q = 0 then none else some (d.fld (R.OSYNk_CFG (q - 1)) 30 28)

/-- The codes of a level (R269). -/
def levelCodes (l : Nat) : Nat :=
  match l with
  | 1 => 0x221
  | 2 => 0x220
  | 3 => 0x223
  | 4 => 0x4FF
  | 5 => 0x8FF
  | 6 => 0xB22
  | _ => if 7 ≤ l ∧ l ≤ 14 then 0xBFF else 0xFFF

/-- The SSM and eSSM a port sends, as SSM × 256 + eSSM (R269). -/
def Dev.esmcCode (d : Dev) (n : Nat) : Nat :=
  match d.quadTb n with
  | none => 0xFFF
  | some t =>
    if d.selRef t = 2 + n then 0xFFF
    else match d.ebState t with
      | 1 => if d.selRef t < 24 then levelCodes (d.levelFor (d.selRef t) t) else 0xFFF
      | 2 => d.fld R.MAC_ESMC_HOQL 11 0
      | 3 => d.fld R.MAC_ESMC_HOQL 11 0
      | _ => 0xFFF

/-- A port's own MAC address. -/
def Dev.portMac (d : Dev) (n : Nat) : List Byte := be 2 (d.fld (R.MACn_ADDR_HI n) 15 0) ++ be 4 (d.nat (R.MACn_ADDR_LO n))

/-- Hand a frame the device built to crypto input, which passes on what needs no engine (R286). -/
def Dev.sendFrame (d : Dev) (f : EgFrame) (sa : Option (Nat × Nat)) : Dev :=
  { d with pe := { d.pe with input := d.pe.input ++ [.send f sa] } }

/-- Send an ESMC PDU with both TLVs (R269). The extended TLV's fields beyond the eSSM code, which the spec does not
give, are free bytes. -/
def Dev.esmcSend (d : Dev) (n : Nat) (event : Bool) : Dev :=
  if !d.linkUp n || d.islet n || !d.bit (R.MACn_CFG n) 8 then d
  else
    let c := d.esmcCode n
    let (x, d) := d.freeBytes 16
    let pdu := esmcDa ++ d.portMac n ++ esmcHead ++ be 1 (16 + 8 * b2n event) ++ zeros 3 ++ [0x01, 0x00, 0x04] ++
      be 1 (c / 256) ++ [0x02, 0x00, 0x14] ++ be 1 (c % 256) ++ x
    let d := d.setFld (R.MACn_ESMC_STAT n) 11 0 c
    d.sendFrame { port := n, cls := d.fld R.PE_CLASSMAP 14 12, bytes := pdu ++ zeros (60 - pdu.length), src := .esmc } none

/-- At a tick: an event PDU on each port whose transmitted code changes (R269). -/
def tickEsmc (n : Nat) (d : Dev) : Dev :=
  if d.esmcCode n ≠ d.fld (R.MACn_ESMC_STAT n) 11 0 then d.esmcSend n true else d

/-! ### Islet mode (R270 to R272) -/

/-- Islet entry is refused (R270): a reference on the port is QUALIFIED or in HOLDOFF, or an egress queue of the port
holds a frame. -/
def Dev.isletBlocked (d : Dev) (n : Nat) : Bool :=
  let busy := fun r => decide (d.refState r = 4 ∨ d.refState r = 2)
  busy (2 + n) ||
  (List.range 6).any (fun j => busy (18 + j) && d.ptpOn (d.fld (R.REFr_CFG (18 + j)) 6 4) n) ||
  (List.range 8).any (fun k => !(d.queue n k).isEmpty)

/-- Enter Islet mode, or refuse it (R270). -/
def Dev.isletEnter (d : Dev) (n : Nat) : Dev :=
  if d.isletBlocked n then d.setBit (R.MACn_STAT n) 12 true
  else ptpRefresh ((d.setBit (R.MACn_STAT n) 10 true).setBit R.CLK_GATE_OPEN n false)

def effIsletCmd (p : Port) (n : Nat) (d : Dev) : Dev :=
  d.asCust p (fun d => if d.bit (R.MACn_CFG n) 9 && !d.islet n then d.isletEnter n else d)

/-- R270: MACn_ISLET_CFG.IDLE seconds have passed without a frame other than ESMC. -/
def Dev.idleLong (d : Dev) (n : Nat) : Bool :=
  decide ((d.portsAt n).frameAt + d.fld (R.MACn_ISLET_CFG n) 15 0 * 1000000000 ≤ d.nowNs)

def effIsletIdle (n : Nat) (d : Dev) : Dev :=
  if d.bit (R.MACn_CFG n) 9 && d.bit (R.MACn_ISLET_CFG n) 31 && !d.islet n && d.idleLong n then d.isletEnter n else d

/-! ### Links (R254) -/

/-- A FEC runs in the port's mode (R252). -/
def Dev.hasFec (d : Dev) (n : Nat) : Bool := decide (5 ≤ d.portMode n)
/-- Auto-negotiation applies (R254). -/
def Dev.hasAn (d : Dev) (n : Nat) : Bool := (d.portMode n == 1 && d.bit (R.MACn_CFG n) 6) || d.portMode n == 2

/-- R254: the link goes down. -/
def Dev.linkLost (d : Dev) (n : Nat) : Dev :=
  if !d.linkUp n then d
  else
    let d := (d.setBit (R.MACn_STAT n) 0 false).bump (R.MACn_LINK_DOWN n)
    let d := d.setBit (R.MACn_STAT n) 7 true
    let d := d.bumpBy (R.MACn_TX_LINKDOWN_DROP n) (d.portsAt n).fifo.length
    let d := (d.modPort n (fun h => { h with fifo := [], wire := none })).setPause n false []
    ptpRefresh ((d.verifyReset n).setBit (R.TSUn_STAT n) 2 false)

/-- A port's local fault; in BASE-R modes it signals remote fault while it detects one (R254). -/
def Dev.localFault (d : Dev) (n : Nat) (on : Bool) : Dev :=
  let was := d.bit (R.MACn_STAT n) 8
  let d := d.setBit (R.MACn_STAT n) 8 on
  if was = on ∨ d.portMode n < 3 then d else d.emit (.remoteFault n on)

/-- R254: the conditions that still hold are shown, and the link goes down. -/
def effLinkDown (n : Nat) (pcsLock fecLock lfault rfault : Bool) (d : Dev) : Dev :=
  let a := R.MACn_STAT n
  let d := d.localFault n lfault
  ((((d.setBit a 2 pcsLock).setBit a 3 (fecLock && d.hasFec n)).setBit a 4 false).setBit a 9 rfault).linkLost n

/-- R254: the conditions have held for 10 ms and the link is declared up; the variable latency is located. Not with the
port disabled, in Islet mode, or in RC bypass (R271, R273). -/
def effLinkUp (n speed : Nat) (rfault : Bool) (d : Dev) : Dev :=
  if d.portMode n = 0 ∨ d.linkUp n ∨ d.islet n ∨ d.clkSrc = 2 ∨ d.flt.pfwStopped then d
  else
    let a := R.MACn_STAT n
    let d := (((d.setBit a 0 true).setBit a 2 true).setBit a 3 (d.hasFec n)).setBit a 4 (d.hasAn n)
    let d := ((d.localFault n false).setBit a 9 rfault).setFld a 6 5 (if d.portMode n = 2 then speed else 0)
    ptpRefresh ((d.setBit (R.TSUn_STAT n) 2 true).verifyStart n)

/-- R272: the port wakes and restarts its link as from link-down: its locks are lost, and the receiver adapts anew. -/
def Dev.wake (d : Dev) (n : Nat) : Dev :=
  let d := ((d.bump (R.MACn_WAKES n)).setBit (R.MACn_STAT n) 11 true).interrupt 9
  let d := d.wr (R.MACn_STAT n) (d.rd (R.MACn_STAT n) &&& 0xFFFFFBE3)
  ((d.gateOpen n).linkLost n).frameSeen n

def effWakeCmd (p : Port) (n : Nat) (d : Dev) : Dev := d.asCust p (fun d => if d.islet n then d.wake n else d)

/-- Some suffix of a list starts with a pattern. -/
def hasInfix (pat : List Byte) : List Byte → Bool
  | [] => pat.isEmpty
  | b :: r => pat.isPrefixOf (b :: r) || hasInfix pat r

/-- A magic packet for the port: six bytes of 0xFF and sixteen copies of MACn_ADDR in the payload. -/
def Dev.isMagic (d : Dev) (n : Nat) (bs : List Byte) : Bool :=
  hasInfix (List.replicate 6 0xFF ++ (List.replicate 16 (d.portMac n)).flatten) (bs.drop 14)

/-- A wake pattern of the image: the first 128 bytes compared under a byte mask. -/
def wakeMatch (pat : List Byte × List Byte) (bs : List Byte) : Bool :=
  ((pat.1.zip pat.2).zip (bs.take 128 ++ zeros (128 - bs.length))).all (fun x => x.1.2 == 0 || x.1.1 == x.2)

/-- The frame matches a wake pattern enabled in PATEN. -/
def Dev.wakePattern (d : Dev) (n : Nat) (bs : List Byte) : Bool :=
  (List.range 4).any (fun j => d.bit (R.MACn_ISLET_CFG n) (16 + j) &&
    (d.sys.wakePats.filter (fun w => w.1 == 4 * n + j)).any (fun w => wakeMatch w.2 bs))

/-- R271, R272: a frame received in Islet mode is counted, and wakes the port if it is a magic packet or matches. -/
def effWakeFrame (n : Nat) (bs : List Byte) (d : Dev) : Dev :=
  if !d.islet n then d
  else
    let d := d.bump (R.MACn_WAKE_DROP n)
    if d.isMagic n bs || d.wakePattern n bs then d.wake n else d

/-! ### Reception (R256) -/

/-- The longest frame accepted: MACn_MAXLEN and 4 bytes for each of up to two tags (R255). -/
def Dev.maxLen (d : Dev) (n : Nat) (bs : List Byte) : Nat := d.fld (R.MACn_MAXLEN n) 13 0 + (etherOff bs - 12)

/-- The FCS of a received frame is correct. -/
def fcsGood (bs : List Byte) : Bool := decide (4 ≤ bs.length) && bs.drop (bs.length - 4) == fcsOf (bs.take (bs.length - 4))

/-- The MAC control opcode of a MAC control frame. -/
def ctrlOpcode (bs : List Byte) : Option Nat := if beAt bs 12 2 = 0x8808 then some (beAt bs 14 2) else none

/-- A pause or PFC frame's content. -/
def pauseOf (bs : List Byte) : PauseIn :=
  if beAt bs 14 2 = 1 then ⟨false, 0, [beAt bs 16 2]⟩
  else ⟨true, beAt bs 17 1, (List.range 8).map (fun p => beAt bs (18 + 2 * p) 2)⟩

/-- A MAC control frame of a kind the port does not honour (R265). -/
def Dev.ctrlIgnored (d : Dev) (n : Nat) (bs : List Byte) : Bool :=
  (ctrlOpcode bs == some 1 && d.fld (R.MACn_PAUSE_CFG n) 1 0 != 1) ||
  (ctrlOpcode bs == some 0x0101 && d.fld (R.MACn_PAUSE_CFG n) 1 0 != 2)

/-- A MAC control opcode other than pause and PFC (R256, order 7). -/
def ctrlUnsup (bs : List Byte) : Bool := match ctrlOpcode bs with
  | some o => o != 1 && o != 0x0101
  | none => false

/-- Bytes held in a port's receive buffer. -/
def Dev.rxBytes (d : Dev) (n : Nat) : Nat := ((d.portsAt n).rx.map (fun f => f.bytes.length + 4)).sum

/-- The counts of continuation fragments follow one another. -/
def countsFollow : List Frag → Bool
  | a :: b :: r => b.count == a.count + 1 && countsFollow (b :: r)
  | _ => true

/-- Reassembly of a frame's fragments fails (R262): no start fragment in front or another one behind it, a bad mCRC, counts
that do not follow; and with EN clear nothing is reassembled (R258). -/
def Dev.asmBad (d : Dev) (n : Nat) : List Frag → Bool
  | [] => false
  | f :: r => !d.bit (R.MACn_PREEMPT n) 31 || !f.start || !f.good || r.any (fun g => g.start || !g.good) || !countsFollow r

/-- The counter of the first cause that drops a frame, in the order of R256, or none. -/
def Dev.rxDrop (d : Dev) (n : Nat) (bs : List Byte) (i : RxInfo) : Option Nat :=
  if i.pcs || decide (0 < i.uncorr) then some (R.MACn_RX_PCS_ERR n)
  else if !fcsGood bs then some (R.MACn_RX_FCS_ERR n)
  else if bs.length < 64 then some (R.MACn_RX_RUNT n)
  else if d.maxLen n bs < bs.length then some (R.MACn_RX_OVERSIZE n)
  else if d.asmBad n i.frags then some (R.MACn_RX_ASM_ERR n)
  else if d.ctrlIgnored n bs then some (R.MACn_RX_CTRL_IGN n)
  else if ctrlUnsup bs || (isEsmc bs && !d.bit (R.MACn_CFG n) 7) then some (R.MACn_RX_UNSUP n)
  else if i.ferry then some (R.MACn_RX_FERRY_DROP n)
  else if ctrlOpcode bs = none ∧ !isEsmc bs ∧ 131072 < d.rxBytes n + bs.length then some (R.MACn_RX_OVF n)
  else none

/-- Serial positions on receive as a time, 2^-16 ns: at the bit period measured over the last millisecond of TIME, before
the first count at the nominal one (R76). The model rounds down to 2^-16 ns: DESIGN CHOICE (log 63). -/
def Dev.rxSpan (d : Dev) (n pos : Nat) : Nat :=
  let m := (d.portsAt n).rxBits
  pos * 65536000000 / (if m = 0 then nominalBits (d.portMode n) else m)

/-- A receive timestamp on each time base: the captured boundary, plus the serial position of the timestamp point, less
the fused latency and the board's (R75, R76, R79). -/
def Dev.rxStamps (d : Dev) (n : Nat) (hit : Hit) (pos : Nat) : List Nat :=
  let shift : Int := (d.rxSpan n pos : Int) - ps16 ((d.nat (R.TSUn_RX_FIX n) : Int) + d.int (R.TSUn_RX_LAT n))
  (d.stampAll n hit).map (fun (t : Nat) => ((t : Int) + shift).toNat)

/-- R256: a frame is dropped whole under one cause, consumed by the MAC, or delivered whole to the receive buffer. -/
def effFrameRx (n : Nat) (bs : List Byte) (arr : Arrival) (i : RxInfo) (d : Dev) : Dev :=
  if !d.linkUp n then d
  else if d.islet n then (if fcsGood bs then effWakeFrame n (bs.take (bs.length - 4)) d else d.bump (R.MACn_WAKE_DROP n))
  else
    let d := ((d.bumpBy (R.MACn_RX_FEC_CORR n) i.corr).bumpBy (R.MACn_RX_FEC_UNCORR n) i.uncorr).bumpBy
      (R.MACn_RX_FRAG n) i.frags.length
    let body := bs.take (bs.length - 4)
    let d := if isEsmc bs then d else d.frameSeen n
    match d.rxDrop n bs i with
    | some a => if isEsmc body ∧ a = R.MACn_RX_FCS_ERR n ∧ d.bit (R.MACn_CFG n) 7 then (d.bump a).bump (R.MACn_ESMC_ERR n)
        else d.bump a
    | none =>
      if (ctrlOpcode bs).isSome then effPause n (pauseOf bs) d
      else if isEsmc bs then effEsmcRx n body true d
      else
        let d := d.modPort n (fun h => { h with rx := h.rx ++ [⟨body, d.rxStamps n arr.hit arr.pos, d.clkSrc, (List.range 8).map (fun n => (d.tbAt n).steer)⟩] })
        (d.bump64 (R.MACn_RX_FRAMES_LO n) (R.MACn_RX_FRAMES_HI n)).bump64By (R.MACn_RX_BYTES_LO n) (R.MACn_RX_BYTES_HI n)
          bs.length |>.pmc 0x0200 (some n) 1 |>.pmc 0x0500 (some n) 1

/-- R275: a read of the LO half latches the HI half. -/
def effMacLatch (p : Port) (n c : Nat) (d : Dev) : Dev :=
  let lo := R.MACn_RX_FRAMES_LO n + 8 * c
  (d.latchRegs p [lo + 4]).emit (.readData p (d.rd lo))

/-! ### Meanings -/

def execFrameRx (n : Fin 8) (bytes : List Byte) (arr : Arrival) (info : RxInfo) (s : State) : Result :=
  s.on (effFrameRx n bytes arr info)
def execPreemptFragment (n : Fin 8) (sent : Nat) (s : State) : Result := s.on (effPreempt n sent)
def execPauseFrameRx (n : Fin 8) (f : PauseIn) (s : State) : Result :=
  s.on (fun d => if d.linkUp n && !d.islet n then effPause n f d else d)
def execPauseTimerExpire (n : Fin 8) (t : Fin 9) (s : State) : Result := s.on (effPauseExpire n t)
def execLinkUp (n : Fin 8) (speed : Fin 3) (rfault : Bool) (s : State) : Result := s.on (effLinkUp n speed rfault)
def execLinkDown (n : Fin 8) (pcsLock fecLock lfault rfault : Bool) (s : State) : Result :=
  s.on (effLinkDown n pcsLock fecLock lfault rfault)
def execPreemptVerifyTimeout (n : Fin 8) (s : State) : Result := s.on (effVerifyTimeout n)
def execPreemptRespondRx (n : Fin 8) (s : State) : Result := s.on (effRespond n)
def execVerifyMpacketRx (n : Fin 8) (s : State) : Result := s.on (effVerifyRx n)
def execEsmcPduRx (n : Fin 8) (bytes : List Byte) (fcsOk : Bool) (s : State) : Result := s.on (effEsmcRx n bytes fcsOk)
def execEsmcInfoTx (n : Fin 8) (s : State) : Result := s.on (fun d => d.esmcSend n false)
def execIsletCmd (p : Port) (n : Fin 8) (s : State) : Result := s.on (effIsletCmd p n)
def execIsletAutoIdle (n : Fin 8) (s : State) : Result := s.on (effIsletIdle n)
def execWakeCmd (p : Port) (n : Fin 8) (s : State) : Result := s.on (effWakeCmd p n)
def execWakeFrameRx (n : Fin 8) (bytes : List Byte) (s : State) : Result := s.on (effWakeFrame n bytes)
def execMacCounterLatchRead (p : Port) (n : Fin 8) (c : Fin 4) (s : State) : Result := s.on (fun d => d.asRead p (effMacLatch p n c))

end Sys2Proof.Machine
end

