-- ==== Sys2Proof/Machine/Rings.lean ====
section
/-! DEFINITION. DMA rings (chapter 10): records to host memory, timeouts, indices, injected frames and host commands.
Byte order of the record header and of the bodies the spec gives none for: big-endian (log 12). -/
namespace Sys2Proof.Machine

/-- PE_RINGk_CFG.EN. -/
def Dev.ringEn (d : Dev) (k : Nat) : Bool := d.bit (R.PE_RINGk_CFG k) 31
/-- The ring moves: enabled, running, and DMA not stopped by D3hot (R507). -/
def Dev.ringRuns (d : Dev) (k : Nat) : Bool := d.ringEn k && d.bit (R.PE_RINGk_STAT k) 0 && !d.hif.d3hot
/-- Cells or descriptors of a ring. -/
def Dev.ringSize (d : Dev) (k : Nat) : Nat := 2 ^ d.fld (R.PE_RINGk_CFG k) 20 16
/-- A device-to-host ring. -/
def toHost (k : Nat) : Bool := decide (k < 6)

/-- A record or a HEAD advance sets the ring's interrupt bit, moderated by PE_RINGk_IMOD (R520). -/
def Dev.ringEvent (d : Dev) (k : Nat) : Dev :=
  let r := d.ringsAt k
  if d.fld (R.PE_RINGk_IMOD k) 15 0 = 0 then d.interrupt (1 + k)
  else if r.quiet then (d.setRings k { r with quiet := false, irqAt := d.nowNs }).interrupt (1 + k)
  else d.setRings k { r with more := true }

/-- R520: the moderation period of PE_RINGk_IMOD microseconds ends. -/
def effImod (k : Nat) (d : Dev) : Dev :=
  let r := d.ringsAt k
  if d.nowNs < r.irqAt + d.fld (R.PE_RINGk_IMOD k) 15 0 * 1000 then d
  else if r.more then (d.setRings k { r with more := false, irqAt := d.nowNs }).interrupt (1 + k)
  else d.setRings k { r with quiet := true }

/-! ### Records to host memory (R289, R290) -/

/-- The cells of a record: header, body, zeros to the end of the last cell. -/
def cellsOf (typ seq : Nat) (body : List Byte) : List Byte :=
  padTo 64 (be 1 typ ++ be 1 0 ++ be 2 body.length ++ be 4 seq ++ body)

/-- The host address of a ring's cell. -/
def Dev.cellAddr (d : Dev) (k i : Nat) : Nat :=
  d.nat64 (R.PE_RINGk_BASE_LO k) (R.PE_RINGk_BASE_HI k) / 4096 * 4096 + i * 64

/-- Cells free in a device-to-host ring. -/
def Dev.freeCells (d : Dev) (k : Nat) : Nat :=
  let n := d.ringSize k
  n - 1 - (d.nat (R.PE_RINGk_HEAD k) + n - d.nat (R.PE_RINGk_TAIL k) % n) % n

/-- The 8-byte write-back word. -/
def Dev.writeBack (d : Dev) (k : Nat) : Dev :=
  d.emit (.dma (d.nat64 (R.PE_RINGk_WB_LO k) (R.PE_RINGk_WB_HI k) / 8 * 8)
    (le 4 (d.nat (R.PE_RINGk_HEAD k)) ++ le 4 (d.ringsAt k).drops))

/-- The HOST divider of an image breaks the CORE:HOST limit of R431. -/
def Dev.hostTooSlow (d : Dev) : Bool := decide (4 ≤ d.fld R.CLK_CFG 26 24)

/-- A body on its way to host memory: with CORE:HOST above 2:1 its bytes are free (R432). -/
def Dev.hostBody (d : Dev) (body : List Byte) : List Byte × Dev :=
  if d.hostTooSlow then d.freeBytes body.length else (body, d)

/-- R289, R290: the oldest staged record is written, with a PAD record first where it would cross the ring's end. -/
def effRecordWrite (k : Nat) (d : Dev) : Dev :=
  match (d.ringsAt k).staged with
  | [] => d
  | s :: rest =>
    let n := d.ringSize k
    let h := d.nat (R.PE_RINGk_HEAD k)
    let cells := (8 + s.body.length + 63) / 64
    let pad := if n < h + cells then n - h else 0
    if !d.ringRuns k ∨ d.freeCells k < pad + cells then d
    else
      let d := d.setRings k { d.ringsAt k with staged := rest }
      let d := if pad = 0 then d else d.emit (.dma (d.cellAddr k h) (cellsOf 0 s.seq (zeros (pad * 64 - 8))))
      let (body, d) := d.hostBody s.body
      let d := d.emit (.dma (d.cellAddr k ((h + pad) % n)) (cellsOf s.typ s.seq body))
      let d := (d.wrNat (R.PE_RINGk_HEAD k) ((h + pad + cells) % n)).bumpWrap (R.PE_RINGk_RECS k)
      (d.writeBack k).ringEvent k |>.pmc 0x0604 (some k) 1

/-- R291: the oldest staged record has not been written PE_RINGk_TMO microseconds after it was accepted. -/
def effStagingTimeout (k : Nat) (d : Dev) : Dev :=
  match (d.ringsAt k).staged with
  | [] => d
  | s :: rest =>
    if d.nowNs < s.at_ + d.fld (R.PE_RINGk_TMO k) 15 0 * 1000 then d
    else (d.setRings k { d.ringsAt k with staged := rest }).ringDrop k 2 s.ctr

/-! ### Indices and enabling (R290, R292) -/

/-- A TAIL write lies between the current TAIL and HEAD. -/
def Dev.tailOk (d : Dev) (k v : Nat) : Bool :=
  let n := d.ringSize k
  let t := d.nat (R.PE_RINGk_TAIL k) % n
  let h := d.nat (R.PE_RINGk_HEAD k) % n
  let ahead := (v + n - t) % n
  let room := if toHost k then (h + n - t) % n else (h + n - 1 - t) % n
  decide (v < n) && decide (ahead ≤ room)

def effTail (p : Port) (k : Nat) (v : Word) (d : Dev) : Dev :=
  d.asCust p (fun d => if d.tailOk k v.toNat then d.wr (R.PE_RINGk_TAIL k) v else d.setBit (R.PE_RINGk_STAT k) 4 true)

/-- SIZE is allowed for the ring (R303). -/
def sizeOk (k size : Nat) : Bool :=
  if toHost k then decide (8 ≤ size) && decide (size ≤ 20) else decide (6 ≤ size) && decide (size ≤ 16)

/-- R292: setting EN starts the ring with HEAD and TAIL at 0; a SIZE that is not allowed leaves EN clear; while EN is
set the write is ignored. -/
def Dev.ringStart (d : Dev) (k : Nat) (v : Word) : Dev :=
  if d.ringEn k then d
  else
    let d := d.wr (R.PE_RINGk_CFG k) (v &&& 0x1F0000)
    if sizeOk k (wfld v 20 16) then
      let d := (d.setBit (R.PE_RINGk_CFG k) 31 true).setBit (R.PE_RINGk_STAT k) 0 true
      ((d.wr (R.PE_RINGk_HEAD k) 0).wr (R.PE_RINGk_TAIL k) 0).setRings k { d.ringsAt k with quiet := true, more := false }
    else d

/-- R292: clearing EN stops the ring; its staged records are dropped and counted. -/
def Dev.ringStop (d : Dev) (k : Nat) : Dev :=
  if !d.ringEn k then d
  else
    let d := ((d.setBit (R.PE_RINGk_CFG k) 31 false).setBit (R.PE_RINGk_STAT k) 0 false).ringFlushStaging k
    if k = 6 then { d with pe := { d.pe with htx := none } } else d

def effRingEnable (p : Port) (k : Nat) (v : Word) (d : Dev) : Dev := d.asCust p (fun d => d.ringStart k v)

/-- A write that clears EN; with EN clear already it writes SIZE (R292). -/
def effRingDisable (p : Port) (k : Nat) (v : Word) (d : Dev) : Dev :=
  d.asCust p (fun d => if d.ringEn k then d.ringStop k else d.wr (R.PE_RINGk_CFG k) (v &&& 0x1F0000))

/-! ### Host to device (R295 to R297) -/

/-- HEAD of a host-to-device ring advances over one descriptor. -/
def Dev.headAdvance (d : Dev) (k : Nat) : Dev :=
  ((d.wrNat (R.PE_RINGk_HEAD k) ((d.nat (R.PE_RINGk_HEAD k) + 1) % d.ringSize k)).bumpWrap (R.PE_RINGk_RECS k)).ringEvent k

/-- A descriptor waits in a host-to-device ring that runs. -/
def Dev.descWaits (d : Dev) (k : Nat) : Bool :=
  d.ringRuns k && decide (d.nat (R.PE_RINGk_HEAD k) % d.ringSize k ≠ d.nat (R.PE_RINGk_TAIL k) % d.ringSize k)

/-- The insertion kind of a code of R295. -/
def insKind? : Nat → Option InsKind
  | 1 => some .ptpTs
  | 2 => some .ptpTurn
  | 3 => some .ntpTs
  | 4 => some .ntpDisp
  | 5 => some .boundTlv
  | 6 => some .ptpQual
  | _ => none

/-- The insertion commands of a descriptor: words INS0 to INS3. -/
def descIns (desc : List Byte) : List Ins :=
  (List.range 4).filterMap (fun j =>
    let w := leAt desc (16 + 4 * j) 4
    (insKind? (w / 2 ^ 29)).map (fun k => ⟨k, w % 256, w / 256 % 256, if k = .ptpQual then 0x17 else 0⟩))

/-- A descriptor that R296 skips: LEN out of range, a disabled port or a kind of 7. A frame shorter than 60 bytes
without FCSIN is padded, so its LEN is in range (log 13). -/
def Dev.descBad (d : Dev) (desc : List Byte) : Bool :=
  let len := leAt desc 8 2
  let port := leAt desc 10 1 % 8
  let fcsin := (leAt desc 11 1).testBit 7
  decide (len < if fcsin then 64 else 1) || decide (d.fld (R.MACn_MAXLEN port) 13 0 < len) || d.portMode port == 0 ||
  (List.range 4).any (fun j => leAt desc (16 + 4 * j) 4 / 2 ^ 29 == 7)

/-- The frame a descriptor injects. -/
def Dev.descFrame (d : Dev) (desc frame : List Byte) : EgFrame :=
  let len := leAt desc 8 2
  let port := leAt desc 10 1 % 8
  let flags := leAt desc 11 1
  let body := frame.take len ++ zeros (len - frame.length)
  let tag := leAt desc 14 2
  let ck := flags / 16 % 4
  { port := port, cls := leAt desc 10 1 / 32
    bytes := if flags.testBit 7 then body else body ++ zeros (60 - body.length)
    fcs := flags.testBit 7, tb := flags % 8, ins := descIns desc
    cksum := if ck = 3 then d.fld (R.TSUn_CFG port) 1 0 else ck
    ckOff := leAt desc 12 2
    twoStep := if flags.testBit 6 then some tag else none
    src := .host tag (flags.testBit 6) }

/-- The host frame enters its queue and HEAD advances, or it waits for its queue (R295, R296). -/
def Dev.htxEnter (d : Dev) (f : EgFrame) : Dev := match d.enqueue f with
  | some d' => ({ d' with pe := { d'.pe with htx := none } }).headAdvance 6
  | none => { d with pe := { d.pe with htx := some f, htxAt := if d.pe.htx.isSome then d.pe.htxAt else d.nowNs } }

/-- R295: the waiting host frame enters its queue, or the next descriptor and its frame are fetched. -/
def effHtxFetch (desc frame : List Byte) (d : Dev) : Dev :=
  if !d.descWaits 6 then d
  else match d.pe.htx with
    | some f => d.htxEnter f
    | none => if d.descBad desc then (d.bump R.PE_HTX_BAD).headAdvance 6 else d.htxEnter (d.descFrame desc frame)

/-- R296: the class queue stayed full for PE_RING6_TMO. -/
def effHtxTimeout (d : Dev) : Dev :=
  match d.pe.htx with
  | some f =>
    if d.queueFull f.port f.cls f.bytes.length ∧ d.pe.htxAt + d.fld (R.PE_RINGk_TMO 6) 15 0 * 1000 ≤ d.nowNs then
      ((({ d with pe := { d.pe with htx := none } }).bump (R.PE_RINGk_DROP 6)).setBit (R.PE_RINGk_STAT 6) 2 true).headAdvance 6 |>.pmc 0x0605 (some 6) 1
    else d
  | none => d

/-- R296, R297, R325: a read error on ring 6 or 7 stops it; a command whose input could not be read ends without a
result. -/
def effDmaError (k : Nat) (input : Bool) (d : Dev) : Dev :=
  if toHost k || !d.ringRuns k then d
  else
    let d := if k = 6 then { d with pe := { d.pe with htx := none } } else d
    let d := if k = 7 ∧ input then d.popCmd.1 else d
    ((d.setBit (R.PE_RINGk_STAT k) 0 false).setBit (R.PE_RINGk_STAT k) 3 true).raise 21 k

/-- R297: the next host command is fetched while the host command queue has room. -/
def effHcmdFetch (desc : List Byte) (d : Dev) : Dev :=
  if d.descWaits 7 ∧ d.pe.hostCmds.length < 16 then
    ({ d with pe := { d.pe with hostCmds := d.pe.hostCmds ++ [desc] } }).headAdvance 7
  else d

/-! ### Meanings -/

def execRingRecordWrite (k : Fin 6) (s : State) : Result := s.on (effRecordWrite k)
def execRingStagingTimeout (k : Fin 6) (s : State) : Result := s.on (effStagingTimeout k)
def execRingTailWrite (p : Port) (k : Fin 8) (v : Word) (s : State) : Result := s.on (effTail p k v)
def execRingEnable (p : Port) (k : Fin 8) (v : Word) (s : State) : Result := s.on (effRingEnable p k v)
def execRingDisable (p : Port) (k : Fin 8) (v : Word) (s : State) : Result := s.on (effRingDisable p k v)
def execRingImodExpire (k : Fin 8) (s : State) : Result := s.on (effImod k)
def execHtxDescriptorFetch (desc frame : List Byte) (s : State) : Result := s.on (effHtxFetch desc frame)
def execHtxQueueTimeout (s : State) : Result := s.on effHtxTimeout
def execDmaReadError (k : Fin 8) (input : Bool) (s : State) : Result := s.on (effDmaError k input)
def execHcmdFetch (desc : List Byte) (s : State) : Result := s.on (effHcmdFetch desc)

end Sys2Proof.Machine
end

