-- ==== Sys2Proof/Machine/Slots.lean ====
section
/-! DEFINITION. The flash as bytes, the slot records of the key store, and what hangs on a slot: the NTS root key, the
epoch keys and the PTP security associations (chapters 11, 12, 13). -/
namespace Sys2Proof.Machine

/-! ### Flash (R457, R458) -/

/-- What an unlisted flash address reads as: erased. -/
def flashDefault : Nat → Byte := fun _ => 0xFF
/-- A byte of the flash. -/
def Dev.flashByte (d : Dev) (a : Nat) : Byte := Map.get d.flash flashDefault a
/-- n bytes of the flash. -/
def Dev.flashRead (d : Dev) (a n : Nat) : List Byte := (List.range n).map (fun i => d.flashByte (a + i))
/-- Erase n bytes from an address on. -/
def Dev.flashErase (d : Dev) (a n : Nat) : Dev :=
  { d with flash := d.flash.filter (fun p => decide (p.1 < a) || decide (a + n ≤ p.1)) }
/-- Program bytes from an address on; programming clears bits of NOR flash and sets none. -/
def Dev.flashProgram (d : Dev) (a : Nat) (bs : List Byte) : Dev :=
  { d with flash := ((List.range bs.length).zip bs).foldl (fun m p =>
      Map.put m flashDefault (a + p.1) (Map.get m flashDefault (a + p.1) &&& p.2)) d.flash }

/-- The sector of a slot, and of a counter copy. -/
def slotAddr (s : Nat) : Nat := 0x01F80000 + s * 0x1000
def ctrAddr (c : Nat) : Nat := 0x01FC0000 + c * 0x1000

/-! ### Slot records (R368, R369, R371) -/

/-- The slot wrapping key and the tag key. -/
def slotWrapKey : List Byte := (List.range 32).map Config.slotWrapKey
def slotTagKey : List Byte := (List.range 32).map Config.slotTagKey
/-- The 32-bit tag of a record's or a counter's bytes. -/
def ksTag (bs : List Byte) : List Byte := (cmac slotTagKey bs).take 4

/-- The key of a wrapped record with a good TAG, SLOT and integrity check; none with KLEN 0; the outer none is BAD. -/
def recordKey (s : Nat) (r : List Byte) : Option (Option (List Byte)) :=
  if slice r 52 4 ≠ ksTag (r.take 52) ∨ beAt r 0 1 ≠ s then none
  else if beAt r 2 1 = 0 then some none
  else if beAt r 2 1 = 16 ∨ beAt r 2 1 = 32 then (kwUnwrap slotWrapKey (slice r 12 (beAt r 2 1 + 8))).map some
  else none

/-- The record of a slot in the key store's SRAM. -/
def Dev.slotRec (d : Dev) (s : Nat) : List Byte := Map.get d.ks.sram (fun _ => []) s

/-- KS_SLOTs[31:30]: 0 empty, 1 usable, 2 BAD, 3 STORING. -/
def Dev.slotState (d : Dev) (s : Nat) : Nat := d.fld (R.KS_SLOTs s) 31 30

/-- A usable slot's attribute and key. -/
def Dev.slotKey (d : Dev) (s : Nat) : Option (Nat × List Byte) :=
  if d.slotState s = 1 ∨ (d.slotState s = 3 ∧ d.slotRec s ≠ []) then
    match recordKey s (d.slotRec s) with
    | some (some k) => some (beAt (d.slotRec s) 1 1 % 4, k)
    | _ => none
  else none

/-- Show a slot from its record (KS_SLOTs). -/
def Dev.slotShow (d : Dev) (s : Nat) : Dev :=
  let r := d.slotRec s
  let low := beAt r 1 1 % 4 * 2 ^ 24 + (if beAt r 2 1 = 32 then 2 ^ 16 else 0) + beAt r 10 2
  match recordKey s r with
  | some (some _) => d.wrNat (R.KS_SLOTs s) (2 ^ 30 + low)
  | some none => d.wrNat (R.KS_SLOTs s) (beAt r 10 2)
  | none => d.wrNat (R.KS_SLOTs s) (2 ^ 31)

/-- Show whether any slot is BAD. -/
def Dev.badAny (d : Dev) : Dev := d.setBit R.KS_STAT 2 ((List.range 64).any (fun s => d.slotState s == 2))

/-! ### NTS epoch keys (R316 to R321) -/

/-- The epoch day of TB0's count (R316). -/
def Dev.eNow (d : Dev) : Nat := cSec (d.count 0) / 86400 % 65536

/-- The NTS root key, when its slot holds a usable derive-only key of 256 bits (R319). -/
def Dev.rootKey (d : Dev) : Option (List Byte) := match d.slotKey (d.fld R.NTS_CFG 13 8) with
  | some (3, k) => if k.length = 32 then some k else none
  | _ => none

/-- The counter-mode KDF of R317: PRF outputs for i = 1 (and 2) under AES-256-CMAC. -/
def kdf (root label ctx : List Byte) (e kgen bits : Nat) : List Byte :=
  ((List.range ((bits + 127) / 128)).flatMap (fun i =>
    cmac root (be 1 (i + 1) ++ label ++ [0x00] ++ ctx ++ be 2 e ++ be 1 kgen ++ be 2 bits))).take (bits / 8)

/-- "XB-NTSMK". -/
def ntsLabel : List Byte := [0x58, 0x42, 0x2D, 0x4E, 0x54, 0x53, 0x4D, 0x4B]

/-- NTS_SVCID, 16 bytes. -/
def Dev.svcId (d : Dev) : List Byte := (List.range 4).flatMap (fun w => be 4 (d.nat (R.NTS_SVCID w)))

/-- K_E of an epoch day under a root key (R317). -/
def Dev.epochKey (d : Dev) (root : List Byte) (e : Nat) : List Byte :=
  kdf root ntsLabel d.svcId e (d.fld R.NTS_CFG 23 16) 256

/-- The key of an epoch day among some. -/
def keyOf (ks : List (Nat × List Byte)) (e : Nat) : Option (List Byte) := (ks.find? (fun p => p.1 == e)).map (·.2)
/-- The key held for an epoch day. -/
def Dev.heldKey (d : Dev) (e : Nat) : Option (List Byte) := keyOf d.nts.keys e

/-- EPOCH − E_now lies from −BACK to +1 (R316). -/
def Dev.inWindow (d : Dev) (e now : Nat) : Bool :=
  let x := signed 16 ((e + 65536 - now) % 65536)
  decide (-(d.fld R.NTS_CFG 26 24 : Int) ≤ x) && decide (x ≤ 1)

/-- The epoch days of the window. -/
def Dev.window (d : Dev) : List Nat :=
  (List.range (d.fld R.NTS_CFG 26 24 + 2)).map (fun j => (d.eNow + 65536 + j - d.fld R.NTS_CFG 26 24) % 65536)

/-- Show NTS_KCV for the key of E_now (R320), NTS_EPOCH, and whether keys are held. -/
def Dev.showKeys (d : Dev) : Dev :=
  let d := d.wrNat R.NTS_EPOCH (b2n (d.isSet 0) * 2 ^ 31 + d.eNow)
  match d.heldKey d.eNow with
  | some k => d.wrNat R.NTS_KCV (ofBe ((aesEnc k (zeros 16)).take 4))
  | none => d

/-- The root slot's state (R319): a bad one holds no epoch key and raises the level source; a good one ends it. -/
def Dev.rootCheck (d : Dev) : Dev :=
  match d.rootKey with
  | some _ => (d.setBit R.NTS_STAT 3 false).endLevel 22
  | none => ((({ d with nts := { d.nts with keys := [], deriving_ := [] } }).setBit R.NTS_STAT 3 true).setBit R.NTS_STAT 2
      false).raiseLevel 22 0

/-- The key store starts to derive the keys of the whole window (R318). -/
def Dev.deriveWindow (d : Dev) : Dev :=
  if !d.isSet 0 || d.rootKey.isNone then d else { d with nts := { d.nts with deriving_ := d.window } }

/-- Keys for epoch days. -/
def Dev.keysFor (d : Dev) (root : List Byte) (es : List Nat) : List (Nat × List Byte) :=
  es.map (fun e => (e, d.epochKey root e))

/-- R318: the derivation of the window completes. -/
def effKeysDone (d : Dev) : Dev :=
  match d.nts.deriving_, d.rootKey with
  | [], _ => d
  | _, none => d.rootCheck
  | es, some root =>
    ({ d with nts := { d.nts with keys := d.keysFor root es, deriving_ := [] } }.setBit R.NTS_STAT 2 true).showKeys

/-- R318: at TB0 second 82 800 of each day the key of E_now + 2 is derived. -/
def effEpochKey (d : Dev) : Dev :=
  let e := (d.eNow + 2) % 65536
  match d.rootKey with
  | some root =>
    if d.bit R.NTS_STAT 2 ∧ d.heldKey e = none then
      { d with nts := { d.nts with keys := d.nts.keys ++ d.keysFor root [e] } }
    else d
  | none => d

/-- R316, R318: the day turns; keys that have left the window are dropped. -/
def effDayTurn (d : Dev) : Dev :=
  if !d.isSet 0 then d
  else ({ d with nts := { d.nts with keys := d.nts.keys.filter (fun p => d.inWindow p.1 d.eNow) } }).showKeys

/-- R321: at the next whole second after a new root key the whole window is derived again. -/
def effRederive (d : Dev) : Dev :=
  if d.nts.rekey then
    (({ d with nts := { d.nts with rekey := false } }).setBit R.NTS_STAT 4 true).deriveWindow
  else d

/-! ### Security associations (R359, R360) -/

/-- The key of an SA's transmit or receive slot: encrypt-only or decrypt-only, of 128 or 256 bits. -/
def Dev.saKey (d : Dev) (s : Nat) (tx : Bool) : Option (List Byte) :=
  let slot := if tx then d.fld (R.PTP_SAs_CFG s) 13 8 else d.fld (R.PTP_SAs_CFG s) 5 0
  match d.slotKey slot with
  | some (a, k) => if a = (if tx then 0 else 1) then some k else none
  | none => none

/-- Show USABLE of an SA; an SA that becomes unusable raises the PTP key source. -/
def saRefresh (s : Nat) (d : Dev) : Dev :=
  let ok := (d.saKey s true).isSome && (d.saKey s false).isSome
  if !d.bit (R.PTP_SAs_CFG s) 31 then d
  else
    let was := d.bit (R.PTP_SAs_STAT s) 0 || !d.bit R.KS_STAT 0
    let d := d.setBit (R.PTP_SAs_STAT s) 0 ok
    if !ok && was then d.raiseOnset 23 s else d

/-- An instance's TX SA is unusable: SA_BAD (R360). -/
def instSaRefresh (i : Nat) (d : Dev) : Dev :=
  let s := d.fld (R.PTPi_TXSA i) 4 0
  d.setBit (R.PTPi_STAT i) 5 (d.ptpEn i && d.bit (R.PTPi_SEC i) 31 && !d.bit (R.PTP_SAs_STAT s) 0)

/-- Re-evaluate every SA, the instances' SA_BAD, and the ports' states; the source ends when no SA is unusable. -/
def Dev.saAll (d : Dev) : Dev :=
  let d := forRange 32 saRefresh d
  let d := if (List.range 32).any (fun s => d.bit (R.PTP_SAs_CFG s) 31 && !d.bit (R.PTP_SAs_STAT s) 0) then d else d.endLevel 23
  ptpRefresh (forRange 8 instSaRefresh d)

/-- What follows a change of a slot's record: the NTS root key, the SAs and the STALE bit of the WKR (R373, R383). -/
def Dev.slotChanged (d : Dev) (s : Nat) : Dev :=
  let d := if s = d.fld R.NTS_CFG 13 8 then d.rootCheck else d
  let d := if d.ks.wkr.isSome && d.fld R.KS_WKR_STAT 13 8 == s then d.setBit R.KS_WKR_STAT 30 true else d
  d.badAny.saAll

/-- What an abandoned store leaves to do (R381): the BAD slot raises its source (R369, R479) and its users are
re-evaluated. -/
def Dev.storeRecheck (d : Dev) : Dev :=
  let ss := d.ks.recheck
  ss.foldl (fun d s => (d.raise 24 s).slotChanged s) { d with ks := { d.ks with recheck := [] } }

end Sys2Proof.Machine
end

