-- ==== Sys2Proof/Machine/Net.lean ====
section
/-! DEFINITION. What a received frame carries: tags, IP and UDP headers, and the frames the device builds over UDP
(R281, R306). -/
namespace Sys2Proof.Machine

/-- The tags' bytes of a frame. -/
def tagsOf (bs : List Byte) : List Byte := slice bs 12 (etherOff bs - 12)
/-- The EtherType after the tags. -/
def etherType (bs : List Byte) : Nat := beAt bs (etherOff bs) 2
/-- What follows the EtherType. -/
def l3 (bs : List Byte) : List Byte := bs.drop (etherOff bs + 2)

/-- An IP packet: version, protocol or next header, addresses, what follows the header up to the packet's length. -/
structure Ip where
  v6 : Bool
  proto : Nat
  src : List Byte
  dst : List Byte
  body : List Byte
deriving DecidableEq, Repr

/-- R281, step 4: a well-formed IPv4 header; the second component says that the packet is a fragment. -/
def ip4 (p : List Byte) : Option (Ip × Bool) :=
  let hl := beAt p 0 1 % 16 * 4
  let tot := beAt p 2 2
  if beAt p 0 1 / 16 = 4 ∧ 20 ≤ hl ∧ hl ≤ tot ∧ tot ≤ p.length ∧ ocSum (p.take hl) = 65535 then
    some (⟨false, beAt p 9 1, slice p 12 4, slice p 16 4, (p.take tot).drop hl⟩, decide (beAt p 6 2 % 2 ^ 14 ≠ 0))
  else none

/-- R281, step 5: a well-formed IPv6 header. -/
def ip6 (p : List Byte) : Option Ip :=
  if beAt p 0 1 / 16 = 6 ∧ 40 ≤ p.length ∧ beAt p 4 2 ≤ p.length - 40 then
    some ⟨true, beAt p 6 1, slice p 8 16, slice p 24 16, (p.drop 40).take (beAt p 4 2)⟩
  else none

/-- The header reached behind IPv6 extension headers: its kind and bytes. -/
def skipExt : Nat → Nat → List Byte → Nat × List Byte
  | 0, nh, b => (nh, b)
  | fuel + 1, nh, b =>
    if nh = 0 ∨ nh = 43 ∨ nh = 60 then skipExt fuel (beAt b 0 1) (b.drop (8 * (beAt b 1 1 + 1)))
    else if nh = 44 then skipExt fuel (beAt b 0 1) (b.drop 8)
    else (nh, b)

/-- The UDP pseudo-header. -/
def pseudo (v6 : Bool) (src dst : List Byte) (len : Nat) : List Byte :=
  if v6 then src ++ dst ++ be 4 len ++ be 4 17 else src ++ dst ++ be 2 17 ++ be 2 len

/-- A time frame's UDP checksum is good: 0 is accepted on IPv4 only (R281). A length that does not fit counts as wrong. -/
def udpOk (ip : Ip) : Bool :=
  let u := ip.body
  let len := beAt u 4 2
  decide (8 ≤ len) && decide (len ≤ u.length) &&
  (if beAt u 6 2 = 0 then !ip.v6 else ocSum (pseudo ip.v6 ip.src ip.dst len ++ u.take len) == 65535)

/-- The UDP payload. -/
def udpPayload (ip : Ip) : List Byte := (ip.body.take (beAt ip.body 4 2)).drop 8

/-- A UDP datagram with its checksum. -/
def udpOf (v6 : Bool) (src dst : List Byte) (sport dport : Nat) (payload : List Byte) : List Byte :=
  let len := 8 + payload.length
  let h := be 2 sport ++ be 2 dport ++ be 2 len
  let c := 65535 - ocSum (pseudo v6 src dst len ++ h ++ be 2 0 ++ payload)
  h ++ be 2 (if c = 0 then 65535 else c) ++ payload

/-- A frame over UDP, padded to 60 bytes. The IPv4 identification and don't-fragment bit and the IPv6 flow label, which
the spec does not give, are free. -/
def Dev.udpFrame (d : Dev) (dmac smac tags src dst : List Byte) (sport dport ttl tos : Nat) (payload : List Byte) :
    List Byte × Dev :=
  let v6 := decide (src.length = 16)
  let u := udpOf v6 src dst sport dport payload
  let (x, d) := d.freeBytes 3
  let ip :=
    if v6 then be 2 (6 * 4096 + tos * 16 + beAt x 0 1 % 16) ++ x.drop 1 ++ be 2 u.length ++ be 1 17 ++ be 1 ttl ++ src ++ dst
    else
      let h := be 1 0x45 ++ be 1 tos ++ be 2 (20 + u.length) ++ x.take 2 ++ be 2 (beAt x 2 1 % 2 * 2 ^ 14) ++ be 1 ttl ++ be 1 17
      h ++ be 2 (65535 - ocSum (h ++ src ++ dst)) ++ src ++ dst
  let f := dmac ++ smac ++ tags ++ be 2 (if v6 then 0x86DD else 0x0800) ++ ip ++ u
  (f ++ zeros (60 - f.length), d)

/-- The offset of a UDP frame's payload. -/
def udpOff (tags src : List Byte) : Nat := 14 + tags.length + (if src.length = 16 then 48 else 28)

/-- The port is a service port of the pair (R411). -/
def Dev.svcPort (d : Dev) (n : Nat) : Bool := d.bit R.PAIR_CFG 31 && d.bit R.PAIR_SVC n
/-- PAIR_VMAC. -/
def Dev.vmac (d : Dev) : List Byte := be 2 (d.fld R.PAIR_VMAC_HI 15 0) ++ be 4 (d.nat R.PAIR_VMAC_LO)

/-- The source address of service frames on a port: PAIR_VMAC for the owner on a service port with VMAC set (R411). -/
def Dev.svcMac (d : Dev) (n : Nat) : List Byte :=
  if d.svcPort n && d.bit R.PAIR_CFG 28 && d.owns then d.vmac else d.portMac n

end Sys2Proof.Machine
end

