-- ==== Sys2Proof/Machine/Ntp.lean ====
section
/-! DEFINITION. NTP and NTS service (chapter 11): requests, the rate limiter, replies and responses, cookies, and the
client statistics. -/
namespace Sys2Proof.Machine

/-- The serving time base (R304). -/
def Dev.ntpTb (d : Dev) : Nat := d.fld R.NTS_CFG 2 0

/-! ### Extension fields -/

/-- An extension field: its offset in the payload, its type and its length. -/
structure Ext where
  off : Nat
  typ : Nat
  len : Nat
deriving DecidableEq, Repr

/-- Parse extension fields from an offset on: those found, and whether they fill the payload, each of at least 16 bytes
and a multiple of 4 (R305). -/
def extFields : Nat → List Byte → Nat → List Ext × Bool
  | 0, _, _ => ([], false)
  | fuel + 1, pl, o =>
    if o = pl.length then ([], true)
    else
      let len := beAt pl (o + 2) 2
      if o + 4 ≤ pl.length ∧ 16 ≤ len ∧ len % 4 = 0 ∧ o + len ≤ pl.length then
        let (es, ok) := extFields fuel pl (o + len)
        (⟨o, beAt pl o 2, len⟩ :: es, ok)
      else ([], false)

/-- The extension fields after the 48-byte header. -/
def exts (pl : List Byte) : List Ext × Bool := extFields (pl.length / 16 + 1) pl 48

/-- The message carries an NTS Cookie (R281). -/
def isNts (pl : List Byte) : Bool := (exts pl).1.any (fun e => e.typ == 0x0204)

/-- The body of an extension field. -/
def Ext.body (e : Ext) (pl : List Byte) : List Byte := slice pl (e.off + 4) (e.len - 4)

/-! ### Requests (R305, R311) -/

/-- Causes of R282. -/
def causeUnsup : Nat := 6
def causeProto : Nat := 10

/-- A source address from which no request is answered (R305). -/
def badSource (ip : List Byte) : Bool :=
  if ip.length = 4 then
    let a := beAt ip 0 1
    decide (224 ≤ a ∧ a < 240) || ip == [255, 255, 255, 255] || a == 127 || ip == [0, 0, 0, 0]
  else beAt ip 0 1 == 255 || ip == be 16 1 || ip == be 16 0

/-- The tests of R305: the cause of the first that fails. -/
def ntpTests (r : NtpReq) (nts : Bool) : Option Nat :=
  let b := beAt r.payload 0 1
  let vn := b / 8 % 8
  if r.srcPort = 0 ∨ badSource r.srcIp then some causeProto
  else if r.payload.length < 48 ∨ 1024 < r.payload.length then some causeProto
  else if b % 8 ≠ 3 then some causeUnsup
  else if !(vn = 4 ∨ (vn = 3 ∧ !nts)) then some causeUnsup
  else if vn = 3 ∧ r.payload.length ≠ 48 then some causeUnsup
  else if vn = 4 ∧ !nts ∧ !(exts r.payload).2 then some causeUnsup
  else none

/-- What an NTS request carries (R311). -/
structure NtsParts where
  uid : Ext
  cookie : List Byte
  /-- placeholders used -/
  holders : Nat
  authOff : Nat
  nonce : List Byte
  tag : List Byte
deriving DecidableEq, Repr

/-- The tests of R311: the parts, or the cause. -/
def ntsParts (pl : List Byte) : NtsParts ⊕ Nat :=
  let (es, ok) := exts pl
  match es.filter (fun e => e.typ == 0x0104), es.filter (fun e => e.typ == 0x0204),
    es.filter (fun e => e.typ == 0x0404), es.getLast? with
  | [u], [c], [a], some l =>
    let b := a.body pl
    let nl := beAt b 0 2
    let cl := beAt b 2 2
    let hs := es.filter (fun e => e.typ == 0x0304)
    if !ok ∨ u.len - 4 < 32 ∨ 64 < u.len - 4 ∨ hs.any (fun h => h.len != c.len) ∨ a ≠ l ∨ nl < 16 ∨ 32 < nl then .inr causeProto
    else if cl ≠ 16 then .inr causeUnsup
    else if b.length < 4 + (nl + 3) / 4 * 4 + 16 then .inr causeProto
    else .inl ⟨u, c.body pl, min 7 hs.length, a.off, slice b 4 nl, slice b (4 + (nl + 3) / 4 * 4) 16⟩
  | _, _, _, _ => .inr causeProto

/-! ### The rate limiter (R327 to R329) -/

/-- The first k bits of an address. -/
def prefixOf (ip : List Byte) (k : Nat) : List Byte :=
  be ip.length (ofBe ip / 2 ^ (8 * ip.length - k) * 2 ^ (8 * ip.length - k))

/-- The prefix length that keys a source. -/
def Dev.rlLen (d : Dev) (ip : List Byte) : Nat :=
  if ip.length = 4 then d.fld R.NTP_RL_CFG 21 16 else d.fld R.NTP_RL_CFG 30 24

/-- A source inside an exempt prefix. -/
def Dev.rlExempt (d : Dev) (ip : List Byte) : Bool :=
  if ip.length = 4 then
    (List.range 8).any (fun i => d.bit (R.NTP_RL_EX4M i) 31 &&
      prefixOf ip (d.fld (R.NTP_RL_EX4M i) 5 0) == prefixOf (be 4 (d.nat (R.NTP_RL_EX4 i))) (d.fld (R.NTP_RL_EX4M i) 5 0))
  else
    (List.range 4).any (fun i => d.bit (R.NTP_RL_EX6M i) 31 &&
      prefixOf ip (d.fld (R.NTP_RL_EX6M i) 7 0) ==
        prefixOf ((List.range 4).flatMap (fun w => be 4 (d.nat (R.NTP_RL_EX6 i w)))) (d.fld (R.NTP_RL_EX6M i) 7 0))

/-- The key of a row's counter for a prefix. -/
def Dev.rlCell (d : Dev) (pre : List Byte) (row : Nat) : Nat :=
  row * 262144 + Config.sketchIndex d.nts.seed row pre % 262144

/-- A counter of a bank. -/
def cellOf (m : Map Nat) (k : Nat) : Nat := Map.get m (fun _ => 0) k

/-- Count a prefix: only the counters at the prefix's minimum rise, to at most 65 535 (R327). -/
def Dev.rlCount (d : Dev) (pre : List Byte) : Dev :=
  let ks := (List.range 4).map (d.rlCell pre)
  let lo := ks.foldl (fun m k => min m (cellOf d.nts.cur k)) 65535
  let cur := ks.foldl (fun m k => if cellOf d.nts.cur k = lo then Map.put m (fun _ => 0) k (min 65535 (lo + 1)) else m) d.nts.cur
  { d with nts := { d.nts with cur := cur } }

/-- R̂ of R328, requests per window. -/
def Dev.rlRate (d : Dev) (pre : List Byte) : Rat :=
  let w : Rat := (d.fld R.NTP_RL_WIN 13 0 : Nat)
  let t : Rat := min w (((d.count 0 - d.nts.winAt : Nat) : Rat) / (1000000 * nsUnit : Nat))
  let est := (List.range 4).map (fun row =>
    let k := d.rlCell pre row
    ((cellOf d.nts.prev k : Nat) : Rat) * (w - t) / w + ((cellOf d.nts.cur k : Nat) : Rat))
  est.foldl min (est.headD 0)

/-- Note a heavy hitter: the first 32 distinct prefixes are kept, later ones counted (R330). -/
def Dev.noteHeavy (d : Dev) (ip pre : List Byte) (rate : Rat) : Dev :=
  let perS := (Config.shown (rate * 1000 / (d.fld R.NTP_RL_WIN 13 0 : Nat))).toNat
  let fam := if ip.length = 4 then 4 else 6
  let hs := d.nts.stat.heavy
  if hs.any (fun h => h.fam == fam && h.pre == pre) then
    d.modStat (fun t => { t with heavy := hs.map (fun h =>
      if h.fam == fam && h.pre == pre then { h with rate := max h.rate perS } else h) })
  else if hs.length < 32 then d.modStat (fun t => { t with heavy := hs ++ [⟨fam, d.rlLen ip, pre, perS⟩] })
  else (d.modStat (fun t => { t with hhMiss := min 65535 (t.hhMiss + 1) })).bump R.NTP_HH_MISS

/-- Count a request's source, and say whether it is over the limit (R327, R328). -/
def Dev.rlCheck (d : Dev) (ip : List Byte) : Bool × Dev :=
  if !d.bit R.NTP_RL_CFG 31 || d.rlExempt ip then (false, d)
  else
    let pre := prefixOf ip (d.rlLen ip)
    let d := d.rlCount pre
    let rate := d.rlRate pre
    if ((d.fld R.NTP_RL_LIMIT 15 0 * d.fld R.NTP_RL_WIN 13 0 : Nat) : Rat) / 1000 < rate then
      (true, d.noteHeavy ip pre rate)
    else (false, d)

/-- R328: the current bank becomes the previous one and a cleared bank the current one. -/
def effWindowSwap (d : Dev) : Dev :=
  { d with nts := { d.nts with prev := d.nts.cur, cur := [], winAt := d.count 0 } }

/-- The mode's NTS capacity, M requests/s (R287). -/
def Dev.ntsRate (d : Dev) : Nat := match d.fld R.SYS_MODE 1 0 with
  | 0 => 64
  | 2 => 32
  | _ => 96

/-- Fill the token bucket up to the present instant (R287). -/
def Dev.tokFill (d : Dev) : Dev :=
  let now := d.clk.mono / nsUnit
  { d with pe := { d.pe with tokens := min 65536000 (d.pe.tokens + (now - d.pe.tokAt) * d.ntsRate), tokAt := now } }

/-! ### The response header (R306 to R309) -/

/-- LI of an answer (R308). -/
def Dev.ntpLi (d : Dev) : Nat :=
  let n := d.ntpTb
  if !d.isSet n || d.ebState n == 0 || d.ebState n == 4 then 3
  else match (d.tbAt n).leap with
    | some l =>
      if l.smear || d.count n + 86400 * secUnit < l.at_ then 0
      else if !l.del then 1
      else if !l.done && decide (d.count n < l.start) then 2 else 0
    | none => 0

/-- Stratum of an answer (R307). -/
def Dev.ntpStratum (d : Dev) : Nat :=
  let s := d.ebState d.ntpTb
  if d.isSet d.ntpTb && decide (1 ≤ s ∧ s ≤ 3) then 1 else 16

/-- An ASCII identifier padded with zero bytes. -/
def ascii4 (s : String) : List Byte :=
  let b := s.toList.map (fun c => BitVec.ofNat 8 c.toNat)
  (b ++ zeros 4).take 4

/-- Reference ID of an answer (R307). -/
def Dev.ntpRefId (d : Dev) : List Byte :=
  let n := d.ntpTb
  let r := d.selRef n
  if !d.isSet n || d.ebState n == 0 then ascii4 "INIT"
  else if d.bit (R.REF_TBn_STAT n) 12 then ascii4 "FREQ"
  else if 24 ≤ r then ascii4 "HOLD"
  else if r ≤ 1 then (match d.fld R.GNSS_TCFG 1 0 with
    | 0 => ascii4 "GPS"
    | 1 => ascii4 "GAL"
    | _ => ascii4 "BDS")
  else if 10 ≤ r ∧ r ≤ 13 then ascii4 "PPS"
  else if r = 14 ∨ r = 15 then ascii4 "IRIG"
  else if r = 16 then ascii4 "ATOM"
  else if r = 17 then ascii4 "MATE"
  else if 18 ≤ r then ascii4 "PTP"
  else ascii4 "FREQ"

/-- The header of an answer, with given root dispersion and transmit timestamp (R306, R309). -/
def Dev.ntpHeader (d : Dev) (r : NtpReq) (disp xmt : List Byte) : List Byte :=
  let n := d.ntpTb
  let up := d.isSet n
  let refTs := match (d.ebAt n).measPres with
    | some t => if up then ntpStamp t else zeros 8
    | none => zeros 8
  be 1 (d.ntpLi * 64 + beAt r.payload 0 1 / 8 % 8 * 8 + 4) ++ be 1 d.ntpStratum ++ slice r.payload 2 1 ++
  be 1 (d.fld R.NTP_HDR 31 24) ++ be 4 (d.nat R.NTP_ROOTDLY) ++ disp ++ d.ntpRefId ++ refTs ++ slice r.payload 40 8 ++
  (if up then ntpStamp (d.presentedAt n r.rx) else zeros 8) ++ xmt

/-- The header of a Kiss-o'-Death RATE or an NTS NAK (R306). -/
def Dev.kissHeader (d : Dev) (r : NtpReq) (vn : Nat) (poll : Int) (id : String) : List Byte :=
  be 1 (3 * 64 + vn * 8 + 4) ++ be 1 0 ++ beInt 1 poll ++ be 1 (d.fld R.NTP_HDR 31 24) ++ zeros 8 ++ ascii4 id ++ zeros 8 ++
  slice r.payload 40 8 ++ zeros 16

/-- A frame that answers a request from the port and address it reached (R306). -/
def Dev.answer (d : Dev) (r : NtpReq) (payload : List Byte) : List Byte × Dev :=
  d.udpFrame r.srcMac (d.svcMac r.port) r.tags r.dstIp r.srcIp 123 r.srcPort (d.fld R.NTP_HDR 15 8)
    (d.fld R.NTP_HDR 5 0 * 4) payload

/-- The classes of NTP and NTS traffic (R283). -/
def Dev.ntpClass (d : Dev) : Nat := d.fld R.PE_CLASSMAP 8 6
def Dev.ntsClass (d : Dev) : Nat := d.fld R.PE_CLASSMAP 11 9

/-- A reply enters the 64-entry reply queue, or is dropped and counted (R27, R279). -/
def Dev.reply (d : Dev) (f : EgFrame) : Dev :=
  if d.pe.replies.length < 64 then { d with pe := { d.pe with replies := d.pe.replies ++ [f] } } else d.bump R.PE_REPLYQ_DROP

/-- R329: a Kiss-o'-Death RATE. -/
def Dev.sendKod (d : Dev) (r : NtpReq) : Dev :=
  let poll := max (signed 8 (beAt r.payload 2 1)) (d.fld R.NTP_RL_CFG 7 0 : Nat)
  let (f, d) := d.answer r (d.kissHeader r (beAt r.payload 0 1 / 8 % 8) poll "RATE")
  d.reply { port := r.port, cls := d.ntpClass, bytes := f, src := .kod }

/-- The NAK of an NTS request: header and Unique Identifier (R306, R312). -/
def Dev.nakFrame (d : Dev) (r : NtpReq) (u : Ext) : EgFrame × Dev :=
  let (f, d) := d.answer r (d.kissHeader r 4 (signed 8 (beAt r.payload 2 1)) "NTSN" ++ slice r.payload u.off u.len)
  ({ port := r.port, cls := d.ntsClass, bytes := f, src := .nak }, d)

/-! ### What the classifier does with a request -/

/-- Drop a frame with a cause (R282). -/
def Dev.rxDropped (d : Dev) (n cause : Nat) : Dev := d.bump (R.PEn_RXDROP n cause)

/-- Put a job into the crypto input queue. -/
def Dev.toInput (d : Dev) (j : Job) : Dev := { d with pe := { d.pe with input := d.pe.input ++ [j] } }

/-- R329: an over-limit plain request draws every KODDIV-th time a Kiss-o'-Death, else it is dropped, cause RATE. -/
def Dev.overPlain (d : Dev) (r : NtpReq) : Dev :=
  let div := d.fld R.NTP_RL_CFG 15 8
  let run := d.nts.kodRun + 1
  if div ≠ 0 ∧ div ≤ run then ({ d with nts := { d.nts with kodRun := 0 } }).sendKod r
  else ((({ d with nts := { d.nts with kodRun := run } }).rxDropped r.port 9).bump R.NTP_RLDROP).modStat
    (fun t => { t with rl := t.rl + 1 })

/-- A counted plain NTP request: the tests and the rate limit (R305, R327 to R329). -/
def Dev.judgeNtp (d : Dev) (r : NtpReq) : Dev :=
  if !d.bit R.NTS_CFG 30 then d.rxDropped r.port causeUnsup
  else match ntpTests r false with
    | some c => d.rxDropped r.port c
    | none =>
      let (lim, d) := d.rlCheck r.srcIp
      if lim then d.overPlain r else d.toInput (.ntp r)

/-- A plain NTP request (R304). -/
def Dev.classifyNtp (d : Dev) (r : NtpReq) : Dev := (d.bump64 R.NTP_RX_LO R.NTP_RX_HI).judgeNtp r

/-- The cookie's header (R312, step 2). -/
def Dev.cookieHeadOk (d : Dev) (c : List Byte) : Bool :=
  c.length == 104 && beAt c 0 1 == 1 && beAt c 1 1 == d.fld R.NTS_CFG 23 16 && d.inWindow (beAt c 2 2) d.eNow

/-- An NTS request that passed the tests: the token bucket, the NAK, the cookie's header (R287, R312). -/
def Dev.admitNts (d : Dev) (r : NtpReq) (q : NtsParts) : Dev :=
  let d := d.tokFill
  if d.pe.tokens < 1000 then (d.rxDropped r.port 8).modStat (fun t => { t with cap := t.cap + 1 })
  else
    let d := { d with pe := { d.pe with tokens := d.pe.tokens - 1000 } }
    let (nak, d) := d.nakFrame r q.uid
    if d.cookieHeadOk q.cookie then d.toInput (.nts r d.eNow nak d.nts.keys) else (d.bump R.NTS_NAK_HDR).reply nak

/-- An NTS request (R304, R305, R309, R311, R312, R318, R319, R329). -/
def Dev.classifyNts (d : Dev) (r : NtpReq) : Dev :=
  let d := d.bump64 R.NTS_RX_LO R.NTS_RX_HI
  if !d.bit R.NTS_CFG 31 then d.rxDropped r.port causeUnsup
  else match ntpTests r true with
    | some c => d.rxDropped r.port c
    | none => match ntsParts r.payload with
      | .inr c => d.rxDropped r.port c
      | .inl q =>
        if !d.isSet d.ntpTb || !d.bit R.NTS_STAT 2 || d.bit R.NTS_STAT 3 then d.rxDropped r.port causeProto
        else
          let (lim, d) := d.rlCheck r.srcIp
          if lim then ((d.rxDropped r.port 9).bump R.NTS_RLDROP).modStat (fun t => { t with rl := t.rl + 1 })
          else d.admitNts r q

/-! ### Cookies and responses (R313 to R315, R322) -/

/-- A nonce of a pipeline (R315); the counter advances. -/
def Dev.nonce (d : Dev) (pipe : Nat) (response : Bool) : List Byte × Dev :=
  let k := Map.get d.nts.nonces (fun _ => 0) pipe
  let c := d.count 0
  (be 4 (cSec c) ++ be 4 (cNs c) ++ be 4 k ++ be 1 pipe ++ be 1 (b2n (d.bit R.SYS_STRAP 0)) ++ be 1 (b2n response) ++ be 1 0,
   { d with nts := { d.nts with nonces := Map.put d.nts.nonces (fun _ => 0) pipe ((k + 1) % 2 ^ 32) } })

/-- A cookie's plaintext: AEAD, CLASS, C2S, S2C (R313). -/
def cookiePlain (cls : Nat) (keys : List Byte) : List Byte := be 2 15 ++ be 1 cls ++ be 1 0 ++ keys

/-- Seal a cookie under the key of an epoch day (R313, R314). -/
def Dev.sealCookie (d : Dev) (pipe e : Nat) (key plain : List Byte) : List Byte × Dev :=
  let (n, d) := d.nonce pipe false
  let h := be 1 1 ++ be 1 (d.fld R.NTS_CFG 23 16) ++ be 2 e
  (h ++ n ++ sivSeal key [h, n] plain, d)

/-- Seal several cookies, first one first. -/
def Dev.sealCookies (d : Dev) (pipe e : Nat) (key plain : List Byte) : Nat → List (List Byte) × Dev
  | 0 => ([], d)
  | n + 1 =>
    let (c, d1) := d.sealCookie pipe e key plain
    let (cs, d2) := Dev.sealCookies d1 pipe e key plain n
    (c :: cs, d2)

/-- Open a cookie under its epoch day's key of those that a request took at its entry (R321): its 68-byte plaintext when the tag is right and AEAD is 15
(R312, R314). -/
def openCookie (ks : List (Nat × List Byte)) (c : List Byte) : Option (List Byte) :=
  match keyOf ks (beAt c 2 2) with
  | none => none
  | some k => match sivOpen k [c.take 4, slice c 4 16] (c.drop 20) with
    | some p => if beAt p 0 2 = 15 ∧ p.length = 68 then some p else none
    | none => none

/-- The request's authenticator verifies under C2S (R312, step 4). -/
def authOk (r : NtpReq) (q : NtsParts) (c2s : List Byte) : Bool :=
  (sivOpen c2s [r.payload.take q.authOff, q.nonce] q.tag).isSome

/-- R310: a plain response; its dispersion and transmit timestamp are inserted on the fly once the time base is set. -/
def Dev.buildNtp (d : Dev) (r : NtpReq) : EgFrame × Dev :=
  let up := d.isSet d.ntpTb
  let (f, d) := d.answer r (d.ntpHeader r (if up then zeros 4 else be 4 0xFFFFFFFF) (zeros 8))
  let o := udpOff r.tags r.srcIp
  ({ port := r.port, cls := d.ntpClass, bytes := f, tb := d.ntpTb
     ins := if up then [⟨.ntpDisp, o + 8, 0, 0⟩, ⟨.ntpTs, o + 40, 0, 0⟩] else []
     cksum := d.fld (R.TSUn_CFG r.port) 1 0, ckOff := o - 2, src := .ntp }, d)

/-- The launch instant of an authenticated frame on a time base, 2^-16 ns ahead (R86). -/
def Dev.launchLead (d : Dev) : Nat := d.nat R.TSU_LAUNCH_LEAD * 2 ^ 16
/-- The launch instant of an authenticated frame (R86): the time base's value and TSU_LAUNCH_LEAD. -/
def Dev.launchAt (d : Dev) (n : Nat) : Nat := c16 (d.count n) + d.launchLead

/-- R312 steps 5 and 6, R322: the NTS response, with its fields at the launch instant. keys holds C2S, S2C and CLASS of
the cookie. -/
def Dev.buildNts (d : Dev) (r : NtpReq) (q : NtsParts) (key : Option (List Byte)) (e pipe : Nat) (plain : List Byte) :
    Option (EgFrame × Dev) :=
  match key with
  | none => none
  | some k =>
    let (cs, d) := d.sealCookies pipe e k plain (1 + q.holders)
    let n := d.ntpTb
    let t := d.launchAt n
    let h := d.ntpHeader r (be 4 (ntpDisp (d.boundAt n r.port d.launchLead true))) (ntpStamp (d.presentedAt n t))
    let head := h ++ slice r.payload q.uid.off q.uid.len
    let (nc, d) := d.nonce pipe true
    let c := sivSeal (slice plain 36 32) [head, nc] ((cs.map (fun c => be 2 0x0204 ++ be 2 108 ++ c)).flatten)
    let ef := be 2 16 ++ be 2 c.length ++ nc ++ c
    let (f, d) := d.answer r (head ++ be 2 0x0404 ++ be 2 (4 + ef.length) ++ ef)
    some ({ port := r.port, cls := d.ntsClass, bytes := f, tb := n, launch := some t, src := .nts }, d)

/-! ### The cookie-issue command (R324, R325) -/

/-- A host command can run: no Apgor store and no key-store block reset is in progress (R374). -/
def Dev.cmdsRun (d : Dev) : Bool := d.ks.store.isNone && decide (Target.ks ∉ d.flt.running)

/-- The descriptor at the head of the host command queue, with an opcode among some, when it can run. -/
def Dev.hostCmd (d : Dev) (ops : List Nat) : Option (List Byte) := match d.pe.hostCmds with
  | c :: _ => if leAt c 0 1 ∈ ops ∧ d.cmdsRun then some c else none
  | [] => none

/-- A host command completes with a result on ring 5 (R297, R325, R375). -/
def Dev.cmdDone (d : Dev) (result : List Byte) : Dev :=
  let (d, lost) := d.popCmd
  (d.resultOffer lost result).bumpWrap R.PE_HOSTOPS

/-- STATUS of a cookie-issue command (R325). -/
def Dev.issueStatus (d : Dev) (c : List Byte) : Nat :=
  if leAt c 0 1 ≠ 1 then 5
  else if leAt c 2 2 ≠ 15 then 1
  else if leAt c 1 1 = 0 ∨ 8 < leAt c 1 1 then 2
  else if d.bit R.NTS_STAT 3 then 4
  else if !d.isSet 0 || !d.bit R.NTS_STAT 2 || (d.heldKey d.eNow).isNone then 3
  else 0

/-- R325: the cookies and the result. A command with an unknown opcode ends here with STATUS 5. -/
def effCookieIssue (pipe : Nat) (keys : List Byte) (d : Dev) : Dev :=
  match d.pe.hostCmds with
  | [] => d
  | c :: _ =>
    if (2 ≤ leAt c 0 1 ∧ leAt c 0 1 ≤ 8) ∨ !d.cmdsRun then d
    else
      let st := d.issueStatus c
      let wipe := fun (d : Dev) => if leAt c 0 1 = 1 ∧ (leAt c 17 1) % 2 = 1 then d.emit (.dma (leAt c 8 8) (zeros 64)) else d
      let nc := leAt c 1 1
      match st, d.heldKey d.eNow with
      | 0, some k =>
        let d := wipe d
        let e := d.eNow
        let (cs, d) := d.sealCookies pipe e k (cookiePlain (leAt c 16 1) ((keys ++ zeros 64).take 64)) nc
        let d := d.wrNat R.NTS_ISSUED (d.nat R.NTS_ISSUED + nc)
        d.cmdDone (c.take 1 ++ [0] ++ be 1 nc ++ [0] ++ slice c 4 4 ++ le 2 e ++ le 2 104 ++ zeros 4 ++ cs.flatten)
      | st, _ => ((wipe d).bump R.NTS_ISSUE_ERR).cmdDone (c.take 1 ++ be 1 st ++ [0, 0] ++ slice c 4 4 ++ zeros 8)

/-! ### Client statistics (R330) -/

/-- The record's body. -/
def Dev.statBody (d : Dev) : List Byte :=
  let t := d.nts.stat
  be 6 (cSec (d.count 0)) ++ be 2 (d.fld R.NTP_STAT_PER 11 0) ++ be 8 t.ntp ++ be 8 t.nts ++ be 4 t.kod ++ be 4 t.nak ++
  be 4 t.rl ++ be 4 t.cap ++ be 2 t.heavy.length ++ be 2 t.hhMiss ++ zeros 4 ++
  t.heavy.flatMap (fun h => be 1 h.fam ++ be 1 h.plen ++ zeros 2 ++ h.pre ++ zeros (16 - h.pre.length) ++ be 4 h.rate)

/-- R330: the record goes to ring 4 and a new interval starts. -/
def effClientStats (d : Dev) : Dev :=
  if d.fld R.NTP_STAT_PER 11 0 = 0 then d else (d.ringOffer 4 0x0A d.statBody none).modStat (fun _ => {})

/-- R332: a read of the LO half of a 64-bit counter latches its HI half. -/
def effNtsLatch (p : Port) (c : Nat) (d : Dev) : Dev :=
  let lo := R.NTP_RX_LO + 8 * c
  (d.latchRegs p [lo + 4]).emit (.readData p (d.rd lo))

/-! ### Meanings -/

def execCookieIssue (engine : Fin 16) (keys : List Byte) (s : State) : Result := s.on (effCookieIssue engine keys)
def execEpochKeyDerive (s : State) : Result := s.on effEpochKey
def execEpochDayTurn (s : State) : Result := s.on effDayTurn
def execRootKeyRederive (s : State) : Result := s.on effRederive
def execKeyDerivationDone (s : State) : Result := s.on effKeysDone
def execRlWindowSwap (s : State) : Result := s.on effWindowSwap
def execClientStatsRecord (s : State) : Result := s.on effClientStats
def execNtsCounterLatchRead (p : Port) (c : Fin 4) (s : State) : Result := s.on (fun d => d.asRead p (effNtsLatch p c))

end Sys2Proof.Machine
end

