-- ==== Sys2Proof/Machine/Classify.lean ====
section
/-! DEFINITION. The classifier (R280 to R282, R293) and the instance a PTP message goes to (R336). -/
namespace Sys2Proof.Machine

/-! ### Addresses (R281, steps 1, 2 and 6) -/

/-- A PTP group of UDP multicast over IPv4 or IPv6 is served on a port. -/
def Dev.ptpGroup (d : Dev) (n : Nat) (v6 : Bool) : Bool :=
  (List.range 8).any (fun i => d.ptpOn i n && d.ptpTransport i == (if v6 then 2 else 1) && !d.bit (R.PTPi_CFG i) 23)

/-- A PE_IP6 address, when it is valid on the port. -/
def Dev.ip6On (d : Dev) (n i : Nat) : Option (List Byte) :=
  if d.bit (R.PE_IP6M i) 31 && d.bit (R.PE_IP6M i) n then some ((List.range 4).flatMap (fun w => be 4 (d.nat (R.PE_IP6 i w))))
  else none

/-- The solicited-node address of an IPv6 address. -/
def solicited (a : List Byte) : List Byte := be 2 0xFF02 ++ zeros 9 ++ [0x01, 0xFF] ++ a.drop 13

/-- FF0E::181, FF02::6B and FF02::1. -/
def ip6Ptp : List Byte := be 2 0xFF0E ++ zeros 12 ++ be 2 0x0181
def ip6Pdelay : List Byte := be 2 0xFF02 ++ zeros 13 ++ [0x6B]
def ip6All : List Byte := be 2 0xFF02 ++ zeros 13 ++ [0x01]
/-- 224.0.1.129 and 224.0.0.107. -/
def ip4Ptp : List Byte := [224, 0, 1, 129]
def ip4Pdelay : List Byte := [224, 0, 0, 107]

/-- The frame is ICMPv6. -/
def isIcmp6 (bs : List Byte) : Bool := etherType bs == 0x86DD && beAt (l3 bs) 6 1 == 58

/-- The multicast MAC of an IPv6 group. -/
def mac6 (a : List Byte) : List Byte := [0x33, 0x33] ++ a.drop 12

/-- R281, step 1. -/
def Dev.daOk (d : Dev) (n : Nat) (bs : List Byte) : Bool :=
  let da := bs.take 6
  da == d.portMac n || da == List.replicate 6 0xFF || da == [0x01, 0x1B, 0x19, 0, 0, 0] ||
  da == [0x01, 0x80, 0xC2, 0, 0, 0x0E] || (d.svcPort n && d.bit R.PAIR_CFG 28 && da == d.vmac) ||
  (d.ptpGroup n false && (da == [0x01, 0, 0x5E, 0, 0x01, 0x81] || da == [0x01, 0, 0x5E, 0, 0, 0x6B])) ||
  (d.ptpGroup n true && (da == mac6 ip6Ptp || da == mac6 ip6Pdelay)) ||
  (isIcmp6 bs && (da == mac6 ip6All ||
    (List.range 16).any (fun i => match d.ip6On n i with
      | some a => da == mac6 (solicited a)
      | none => false)))

/-- R281, step 2: at most two tags, the outer VLAN ID in the table, or untagged frames accepted. -/
def Dev.vlanOk (d : Dev) (n : Nat) (bs : List Byte) : Bool :=
  if etherOff bs = 12 then d.bit (R.PEn_CFG n) 0
  else !isTag bs (etherOff bs) &&
    (List.range 8).any (fun v => d.bit (R.PEn_VLAN n v) 12 && d.fld (R.PEn_VLAN n v) 11 0 == beAt bs 14 2 % 4096)

/-- A multicast IP address. -/
def isMcast (ip : Ip) : Bool := if ip.v6 then beAt ip.dst 0 1 == 255 else decide (224 ≤ beAt ip.dst 0 1 ∧ beAt ip.dst 0 1 < 240)

/-- A unicast address in PE_IP4 or PE_IP6 on the port. -/
def Dev.ipListed (d : Dev) (n : Nat) (ip : Ip) : Bool :=
  if isMcast ip then false
  else if ip.v6 then (List.range 16).any (fun i => d.ip6On n i == some ip.dst)
  else (List.range 16).any (fun i => d.bit (R.PE_IP4M i) 31 && d.bit (R.PE_IP4M i) n && be 4 (d.nat (R.PE_IP4 i)) == ip.dst)

/-- The service addresses are not served: a service port of a unit that does not own (R411). -/
def Dev.noSvc (d : Dev) (n : Nat) : Bool := d.svcPort n && !d.owns

/-- A PTP group address of a family in which an instance on the port runs UDP multicast. -/
def Dev.ptpDst (d : Dev) (n : Nat) (ip : Ip) : Bool :=
  d.ptpGroup n ip.v6 && (if ip.v6 then ip.dst == ip6Ptp || ip.dst == ip6Pdelay else ip.dst == ip4Ptp || ip.dst == ip4Pdelay)

/-- The ICMPv6 destinations of step 6. -/
def Dev.icmpDst (d : Dev) (n : Nat) (ip : Ip) : Bool :=
  ip.v6 && ip.proto == 58 && (ip.dst == ip6All || (List.range 16).any (fun i => match d.ip6On n i with
    | some a => ip.dst == solicited a
    | none => false))

/-! ### PTP (R336) -/

/-- The instance whose ports, transport, domain and sdoId match a message of version 2. -/
def Dev.ptpInst (d : Dev) (n transport : Nat) (m : List Byte) : Option Nat :=
  (List.range 8).find? (fun i => d.ptpOn i n && d.ptpTransport i == transport && beAt m 1 1 % 16 == 2 &&
    decide (beAt m 1 1 / 16 ≤ 1) && beAt m 4 1 == d.fld (R.PTPi_PROF i) 23 16 &&
    beAt m 0 1 / 16 == d.fld (R.PTPi_PROF i) 15 12 && beAt m 5 1 == d.fld (R.PTPi_PROF i) 7 0)

/-- The TLVs from an offset of a message on: type, offset of the value, length. -/
def tlvs : Nat → List Byte → Nat → List (Nat × Nat × Nat)
  | 0, _, _ => []
  | fuel + 1, m, o =>
    if o + 4 ≤ m.length ∧ o + 4 + beAt m (o + 2) 2 ≤ m.length then
      (beAt m o 2, o + 4, beAt m (o + 2) 2) :: tlvs fuel m (o + 4 + beAt m (o + 2) 2)
    else []

/-- Offset of a message's first TLV, after the body of its messageType. -/
def bodyEnd (m : List Byte) : Nat := match beAt m 0 1 % 16 with
  | 0x0 => 44
  | 0x1 => 44
  | 0x8 => 44
  | 0xB => 64
  | 0xC => 44
  | _ => 54

/-- The TLVs after a message's body. -/
def tlvsOf (m : List Byte) : List (Nat × Nat × Nat) := tlvs (m.length / 4 + 1) m (bodyEnd m)

/-- A Signaling message with one of the four unicast negotiation TLVs. -/
def hasUnicastTlv (m : List Byte) : Bool := (tlvsOf m).any (fun t => decide (4 ≤ t.1 ∧ t.1 ≤ 7))

/-- Give a PTP message to its instance, or drop it (R336). pl is what follows the Ethernet or UDP header. -/
def Dev.classifyPtp (d : Dev) (n : Nat) (f : RxFrame) (srcIp : List Byte) (srcPort transport : Nat) (mcast : Bool)
    (pl : List Byte) : Dev :=
  let len := beAt pl 2 2
  let m := pl.take len
  let typ := beAt pl 0 1 % 16
  match if 34 ≤ len ∧ len ≤ pl.length ∧ bodyEnd m ≤ len then d.ptpInst n transport m else none with
  | none => (d.rxDropped n causeProto).bump R.PTP_NOINST
  | some i =>
    if typ = 0xD ∨ (typ = 0xC ∧ !hasUnicastTlv m) then d.rxDropped n causeUnsup
    else if typ ∉ [0x0, 0x1, 0x2, 0x3, 0x8, 0x9, 0xA, 0xB, 0xC] then d.rxDropped n causeProto
    else d.toInput (.ptpIn ⟨i, n, tagsOf f.bytes, slice f.bytes 6 6, srcIp, srcPort, mcast, m, f.ats.getD (d.ptpTb i) 0, f.clksrc, f.steers, false⟩)

/-! ### Host-bound frames (R293) -/

/-- Write a host-bound frame of a kind to ring 1, when its kind is forwarded; else drop it, cause HOSTOFF. -/
def Dev.toHostRing (d : Dev) (n kind : Nat) (f : RxFrame) : Dev :=
  if kind < 6 ∧ d.bit R.PE_CFG kind then
    let t := f.ats.getD 0 0
    d.ringOffer 1 0x07 (be 1 n ++ be 1 (kind * 16 + f.clksrc) ++ be 2 f.bytes.length ++ be 6 (sec16 t) ++ be 4 (ns16 t) ++
      be 2 (frac16 t) ++ f.bytes) none
  else d.rxDropped n 7

/-- The host-bound kind of an IP protocol; 6 is none of R281's kinds. -/
def ipKind (v6 : Bool) (proto : Nat) : Nat :=
  if proto = 1 ∧ !v6 then 1 else if proto = 58 ∧ v6 then 2 else if proto = 6 then 3 else if proto = 17 then 4 else 6

/-! ### One frame (R281) -/

/-- A 16-byte PEER_IP of R356. -/
def peerIp (a : List Byte) : List Byte := if a.length = 4 then zeros 10 ++ [255, 255] ++ a else a

/-- R281, steps 7 and 8, for a packet to an address of the port. -/
def Dev.classifyIp (d : Dev) (n : Nat) (f : RxFrame) (ip : Ip) (group : Bool) : Dev :=
  let dport := beAt ip.body 2 2
  let time := dport = 319 ∨ dport = 320 ∨ dport = 123
  let (nh, l4) := skipExt 8 ip.proto ip.body
  if ip.proto = 17 ∧ 8 ≤ ip.body.length ∧ time then
    if group ∧ dport = 123 then d.rxDropped n 4
    else if !udpOk ip then d.rxDropped n 5
    else if dport = 123 then
      let r : NtpReq := ⟨n, tagsOf f.bytes, slice f.bytes 6 6, f.bytes.take 6, ip.src, ip.dst, beAt ip.body 0 2,
        udpPayload ip, f.ats.getD d.ntpTb 0⟩
      if isNts r.payload then d.classifyNts r else d.classifyNtp r
    else d.classifyPtp n f (peerIp ip.src) (beAt ip.body 0 2) (if ip.v6 then 2 else 1) (isMcast ip) (udpPayload ip)
  else if ip.v6 ∧ ip.proto ≠ 17 ∧ nh = 17 ∧ (beAt l4 2 2 = 319 ∨ beAt l4 2 2 = 320 ∨ (beAt l4 2 2 = 123 ∧ !group)) then
    d.rxDropped n causeUnsup
  else if group then d.rxDropped n 4
  else d.toHostRing n (ipKind ip.v6 (if ip.v6 then nh else ip.proto)) f

/-- A request for time that reaches a service port of a unit that does not own (R411). -/
def isTimeRequest (ip : Ip) : Bool := ip.proto == 17 && beAt ip.body 2 2 == 123

/-- R281, step 6 on. -/
def Dev.classifyL3 (d : Dev) (n : Nat) (f : RxFrame) (ip : Ip) : Dev :=
  if d.ipListed n ip ∧ !d.noSvc n then d.classifyIp n f ip false
  else if d.ptpDst n ip then d.classifyIp n f ip true
  else if d.icmpDst n ip then d.toHostRing n 2 f
  else if d.ipListed n ip ∧ isTimeRequest ip then (d.rxDropped n 4).bump R.PAIR_NOSVC_DROP
  else if isMcast ip then d.rxDropped n 4
  else
    let k := ipKind ip.v6 (if ip.v6 then (skipExt 8 ip.proto ip.body).1 else ip.proto)
    if k < 6 ∧ d.bit R.PE_CFG k then d.toHostRing n k f else d.rxDropped n 4

/-- R281: the frame's kind, or its cause. -/
def Dev.classify (d : Dev) (n : Nat) (f : RxFrame) : Dev :=
  let bs := f.bytes
  if !d.daOk n bs then d.rxDropped n 0
  else if !d.vlanOk n bs then d.rxDropped n 1
  else if etherType bs = 0x88F7 then
    d.classifyPtp n f (zeros 16) 0 0 (beAt bs 0 1 % 2 == 1) (l3 bs)
  else if etherType bs = 0x0800 then
    match ip4 (l3 bs) with
    | none => d.rxDropped n 2
    | some (_, true) => d.rxDropped n 3
    | some (ip, false) => d.classifyL3 n f ip
  else if etherType bs = 0x86DD then
    match ip6 (l3 bs) with
    | none => d.rxDropped n 2
    | some ip => d.classifyL3 n f ip
  else d.toHostRing n (if etherType bs = 0x0806 then 0 else 5) f

/-- R280: the next port in turn with a frame waiting; the classifier waits while the crypto input queue is full
(R279). -/
def effClassify (d : Dev) : Dev :=
  if 4096 ≤ d.pe.input.length then d
  else match ((List.range 8).map (fun j => (d.pe.rr + j) % 8)).find? (fun n => !(d.portsAt n).rx.isEmpty) with
    | none => d
    | some n =>
      let d := { d with pe := { d.pe with rr := (n + 1) % 8 } }
      match (d.portsAt n).rx with
      | [] => d
      | f :: rest => ((d.modPort n (fun h => { h with rx := rest })).pmc 0x0600 (some n) 1).classify n f

def execClassifyFrame (s : State) : Result := s.on effClassify

end Sys2Proof.Machine
end

