-- ==== Sys2Proof/Machine/GnssSig.lean ====
section
/-! DEFINITION. The GNSS signals (R197): rates, codes and units, the checks of navigation units, and one sample of one
correlator channel. The LNAV parity and the CRC-24Q are the systems' own: PRESUMED (log 66). -/
namespace Sys2Proof.Machine

/-! ### The table of R197 -/

/-- The constellation of a signal: 0 GPS, 1 Galileo, 2 BeiDou, 3 QZSS. -/
def sigCons (sig : Nat) : Nat := sig / 2
/-- A signal of the L5 band. -/
def sigL5 (sig : Nat) : Bool := sig % 2 == 1
/-- The chip rate, chips per ms. -/
def chipsPerMs (sig : Nat) : Nat := if sigL5 sig then 10230 else 1023
/-- The length of the primary code. -/
def primaryLen (sig : Nat) : Nat := if sig = 0 ∨ sig = 6 then 1023 else if sig = 2 then 4092 else 10230
/-- The length of the tracked component's secondary code; 1 without one. -/
def secondaryLen (sig : Nat) : Nat :=
  if sig = 1 ∨ sig = 7 then 20 else if sig = 2 then 25 else if sig = 3 ∨ sig = 5 then 100 else if sig = 4 then 1800 else 1
/-- The signal is tracked as BOC(1,1). -/
def sigBoc (sig : Nat) : Bool := sig == 2 || sig == 4
/-- The signal has a separate data component. -/
def sigData (sig : Nat) : Bool := sig != 0 && sig != 6
/-- The carrier frequency in units of 10.23 MHz. -/
def carrier10 (sig : Nat) : Nat := if sigL5 sig then 115 else 154
/-- The carrier frequency, Hz. -/
def carrierHz (sig : Nat) : Nat := carrier10 sig * 10230000

/-- A PRN lies in its constellation's range. -/
def svidOk (sig svid : Nat) : Bool := match sigCons sig with
  | 0 => decide (1 ≤ svid ∧ svid ≤ 32)
  | 1 => decide (1 ≤ svid ∧ svid ≤ 36)
  | 2 => decide (1 ≤ svid ∧ svid ≤ 63)
  | _ => decide (193 ≤ svid ∧ svid ≤ 202)

/-- A satellite's key: 256 × constellation + PRN. -/
def satKey (cons svid : Nat) : Nat := 256 * cons + svid

/-- The code word of a Doppler in Hz: the chip rate with its code Doppler, chips per sample × 2^32 (R198). -/
def codeWordOf (sig : Nat) (dopp : Rat) : Nat :=
  (roundR (((chipsPerMs sig * 1000 : Nat) : Rat) * (1 + dopp / (carrierHz sig : Nat)) / 80000000 * 2 ^ 32)).toNat

/-- The carrier word of a Doppler in Hz, without the IF (R198). -/
def carrWordOf (dopp : Rat) : Int := roundR (dopp / 80000000 * 2 ^ 32)

/-! ### Navigation units (R197, R209, R212) -/

/-- The UNIT code of a signal, by its subframe for B-CNAV1. -/
def unitCode (sig sub : Nat) : Nat := match sigCons sig, sigL5 sig with
  | 1, false => 2
  | 1, true => 3
  | 2, false => 3 + max 1 (min sub 3)
  | 2, true => 7
  | _, false => 0
  | _, true => 1

/-- The bits of a unit. -/
def unitBits (unit : Nat) : Nat := [30, 300, 240, 244, 14, 600, 264, 288].getD unit 0

/-- Exclusive or of some bits of a list, counted from 1. -/
def xorAt (b : List Bool) (is : List Nat) : Bool := is.foldl (fun x i => x != b.getD (i - 1) false) false

/-- The six parity bits of an LNAV word from its 24 source bits and the last two bits of the word before. -/
def lnavParity (d29 d30 : Bool) (s : List Bool) : List Bool :=
  [d29 != xorAt s [1, 2, 3, 5, 6, 10, 11, 12, 13, 14, 17, 18, 20, 23],
   d30 != xorAt s [2, 3, 4, 6, 7, 11, 12, 13, 14, 15, 18, 19, 21, 24],
   d29 != xorAt s [1, 3, 4, 5, 7, 8, 12, 13, 14, 15, 16, 19, 20, 22],
   d30 != xorAt s [2, 4, 5, 6, 8, 9, 13, 14, 15, 16, 17, 20, 21, 23],
   d30 != xorAt s [1, 3, 5, 6, 7, 9, 10, 14, 15, 16, 17, 18, 21, 22, 24],
   d29 != xorAt s [3, 5, 6, 8, 9, 10, 11, 13, 15, 19, 22, 23, 24]]

/-- The (32,26) parity of a word holds. -/
def lnavOk (d29 d30 : Bool) (w : List Bool) : Bool :=
  lnavParity d29 d30 ((w.take 24).map (· != d30)) == (w.drop 24).take 6

/-- One bit of the CRC-24Q, polynomial 0x1864CFB. -/
def crc24Step (r : Nat) (b : Bool) : Nat :=
  let r := r * 2 + b2n b
  if 2 ^ 24 ≤ r then r ^^^ 0x1864CFB else r

/-- The bits that a unit's CRC covers, itself at their end: not the tail bits, nor what follows it in an I/NAV page. -/
def crcBits (unit : Nat) (b : List Bool) : List Bool :=
  if unit = 2 then b.take 114 ++ (b.drop 120).take 106 else if unit = 3 then b.take 238 else b

/-- The verdict of R209: 0 PASS, 1 FAIL, 2 UNCHECKED, 3 UNDECODABLE. A decoded B-CNAV1 subframe 1 passes. -/
def verdictOf (unit : Nat) (last : Option (Bool × Bool)) (bits : Option (List Bool)) : Nat := match bits with
  | none => 3
  | some b =>
    if unit = 0 then (match last with
      | none => 2
      | some (x, y) => if lnavOk x y b then 0 else 1)
    else if unit = 4 then 0
    else if (crcBits unit b).foldl crc24Step 0 = 0 then 0 else 1

/-- Bits to bytes, first bit in bit 7, the last byte filled with 0. -/
def packBits (b : List Bool) : List Byte :=
  (List.range ((b.length + 7) / 8)).map (fun k =>
    BitVec.ofNat 8 ((List.range 8).foldl (fun v i => 2 * v + b2n (b.getD (8 * k + i) false)) 0))

/-! ### One sample of a channel (R190, R198, R199) -/

/-- The level of a 4-bit code. -/
def iqLevel (c : BitVec 4) : Int := 2 * c.toInt + 1

/-- The oscillators of a channel: code phase in 2^-32 chip, secondary chip index, carrier phase in 2^-32 cycle. -/
structure Osc where
  code : Nat
  sec : Nat
  carr : Int
deriving DecidableEq, Repr

/-- The code phase moved by a number of 2^-32 chips, with the secondary code. -/
def Osc.moveCode (sig : Nat) (o : Osc) (k : Int) : Osc :=
  let len := primaryLen sig * 2 ^ 32
  let t := (((o.sec * len + o.code : Nat) : Int) + k) % ((secondaryLen sig * len : Nat) : Int)
  { o with code := t.toNat % len, sec := t.toNat / len }

/-- The replica of a component at a delay in 1/64 chip from prompt: ±1, BOC(1,1) where the signal is. -/
def replica (sig svid comp : Nat) (o : Osc) (off : Int) : Int :=
  let p := o.moveCode sig (-off * (2 ^ 26 : Nat))
  let neg := Config.chip sig svid comp p.sec (p.code / 2 ^ 32) != (sigBoc sig && decide (2 ^ 31 ≤ p.code % 2 ^ 32))
  if neg then -1 else 1

/-- What a sample adds to the twelve sums: the sample turned back by the carrier, times each replica. The taps stand at
−2 DV, −DE, 0, DE and 2 DV from prompt, and the data prompt at prompt where the signal has a data component. -/
def tapTerms (sig svid de dv : Nat) (inv : Bool) (s : Iq) (o : Osc) : List Int :=
  let i := iqLevel s.i
  let q := if inv then -iqLevel s.q else iqLevel s.q
  let c := Config.carrier (o.carr % (2 ^ 32 : Nat)).toNat
  let re := i * c.1 + q * c.2
  let im := q * c.1 - i * c.2
  let two (r : Int) : List Int := [r * re, r * im]
  ([-2 * (dv : Int), -(de : Int), 0, (de : Int), 2 * (dv : Int)].flatMap (fun off => two (replica sig svid 0 o off))) ++
    (if sigData sig then two (replica sig svid 1 o 0) else [0, 0])

/-- The sums with a sample's terms. -/
def addTerms (acc t : List Int) : List Int := (List.range 12).map (fun j => acc.getD j 0 + t.getD j 0)

/-- A step of the code oscillator reaches a dump boundary: a multiple of 1 ms of the tracked code. -/
def crosses (sig word : Nat) (o : Osc) : Bool :=
  let ms := chipsPerMs sig * 2 ^ 32
  decide (o.code / ms ≠ (o.code + word) / ms)

/-- A tap value saturates at ±(2^23 − 1) (R199). -/
def satTap (v : Int) : Int := max (-8388607) (min 8388607 v)

end Sys2Proof.Machine
end

