-- ==== Sys2Proof/Machine/Gnss.lean ====
section
/-! DEFINITION. GNSS baseband (chapter 07): sample streams, front-end control, channels, navigation data, acquisition
and burst tracking. -/
namespace Sys2Proof.Machine

/-! ### Front-end control (R194, R195) -/

/-- Change what no register holds of the baseband. -/
def Dev.modGnss (d : Dev) (f : GnssHid → GnssHid) : Dev := { d with gnss := f d.gnss }

/-- The entries of a front-end sequence. -/
def Dev.feSeq (d : Dev) (cs kind : Nat) : List FeEntry := Map.get d.gnss.feSeqs (fun _ => []) (3 * cs + kind)

/-- The SPI master sends a sequence. -/
def Dev.feSend (d : Dev) (cs kind : Nat) : Dev := (d.feSeq cs kind).foldl (fun d e => d.emit (.feSpi cs e.len e.data)) d

/-- Queue sequences of one kind for both chip selects; the first runs at once when the master is free. -/
def Dev.feStart (d : Dev) (kind : Nat) : Dev :=
  let idle := d.gnss.feRun.isEmpty && d.gnss.feHost != 2
  let d := d.modGnss (fun g => { g with feRun := g.feRun ++ [(0, kind), (1, kind)] })
  if idle then d.feSend 0 kind else d

/-- The host's waiting transaction starts when no sequence runs (R195). -/
def Dev.feHostStart (d : Dev) : Dev :=
  if d.gnss.feHost = 1 ∧ d.gnss.feRun = [] then
    (d.modGnss (fun g => { g with feHost := 2 })).emit
      (.feSpi (d.fld R.GNSS_FESPI_CTL 24 24) (d.fld R.GNSS_FESPI_CTL 5 0) (d.rd R.GNSS_FESPI_TX))
  else d

/-- R194: 1 ms after GSAMP_CLK_OUT starts. -/
def effFeStart (d : Dev) : Dev :=
  if d.clkSrc = 0 then (d.modGnss (fun g => { g with feStarted := [] })).setBit R.GNSS_STAT 0 false |>.feStart 0 else d

/-- A read of a sequence differs from its expected value under its mask (R194). -/
def feBad (es : List FeEntry) (reads : List Word) : Bool :=
  ((es.filter (fun e => e.read)).zip reads).any (fun p => p.1.expect &&& p.1.mask != p.2 &&& p.1.mask)

/-- R195: GO queues a host transaction, or is ignored while GO reads 1. -/
def effFeGo (p : Port) (v : Word) (d : Dev) : Dev :=
  d.asCust p (fun d =>
    if d.bit R.GNSS_FESPI_CTL 31 then (if wbit v 31 then d else d.wr R.GNSS_FESPI_CTL (v &&& 0x0100003F ||| 0x80000000))
    else
      let d := d.wr R.GNSS_FESPI_CTL (v &&& 0x8100003F)
      if wbit v 31 then (d.modGnss (fun g => { g with feHost := 1 })).feHostStart else d)

/-- R195: the host transaction completes. -/
def effFeSpiDone (rx : Word) (d : Dev) : Dev :=
  if d.gnss.feHost = 2 then
    let d := ((d.wr R.GNSS_FESPI_RX rx).setBit R.GNSS_FESPI_CTL 31 false).modGnss (fun g => { g with feHost := 0 })
    match d.gnss.feRun with
    | (cs, kind) :: _ => d.feSend cs kind
    | [] => d
  else d

/-! ### AGC and jamming (R196) -/

/-- GSAMP_CLK_OUT runs and with it the front-ends: only on the root PLL (R191, R221). -/
def Dev.gsamp (d : Dev) : Bool := d.clkSrc == 0

/-- F in units of 1/1024: the fraction of I and Q values of some samples with magnitude 9 or more (R196). -/
def fractionF (iq : List Iq) : Nat :=
  let big (c : BitVec 4) : Nat := b2n (decide (9 ≤ (iqLevel c).natAbs))
  let n := (iq.map (fun s => big s.i + big s.q)).sum
  if iq = [] then 0 else min 1023 (Config.shown ((1024 * n : Nat) / (2 * iq.length : Nat))).toNat

/-- First-order sigma-delta: the bits of a 12-bit level over a number of cycles, and the accumulator (R196). -/
def sigmaDelta (level : Nat) : Nat → Nat → List Bool × Nat
  | 0, acc => ([], acc)
  | n + 1, acc =>
    let r := sigmaDelta level n ((acc + level) % 4096)
    (decide (4096 ≤ acc + level) :: r.1, r.2)

/-- R196: AGC_OUT carries the level over the millisecond; F is measured from its samples, and the level moves by 1 to 16
codes toward TARGET. With POL clear a higher level means more gain. -/
def effAgc (s : Nat) (iq : List Iq) (move : Nat) (d : Dev) : Dev :=
  if !d.gsamp then d
  else
    let cfg := R.GNSS_Ss_AGCCFG s
    let level := d.fld (R.GNSS_Ss_AGC s) 27 16
    let out := sigmaDelta level iq.length (Map.get d.gnss.sd (fun _ => 0) s)
    let d := (d.modGnss (fun g => { g with sd := Map.put g.sd (fun _ => 0) s out.2 })).emit (.agc s out.1)
    let f := fractionF iq
    let target := d.fld cfg 25 16
    let step := max 1 move
    let up := decide (f < target) != d.bit cfg 30
    let new := if f = target then level else if up then min 4095 (level + step) else level - step
    (d.setFld (R.GNSS_Ss_AGC s) 27 16 new).setFld (R.GNSS_Ss_AGC s) 9 0 f

/-- The AGC level is on the low-gain side of JAMLVL (R196). -/
def Dev.lowGain (d : Dev) (s : Nat) : Bool :=
  let cfg := R.GNSS_Ss_AGCCFG s
  let level := d.fld (R.GNSS_Ss_AGC s) 27 16
  if d.bit cfg 30 then decide (d.fld cfg 11 0 ≤ level) else decide (level ≤ d.fld cfg 11 0)

def effJamSet (s : Nat) (d : Dev) : Dev :=
  if d.lowGain s ∧ !d.bit R.GNSS_STAT (28 + s) then (d.setBit R.GNSS_STAT (28 + s) true).raiseOnset 92 s else d

def effJamClear (s : Nat) (d : Dev) : Dev :=
  if !d.lowGain s ∧ d.bit R.GNSS_STAT (28 + s) then
    let d := (d.setBit R.GNSS_STAT (28 + s) false).modGnss (fun g => { g with jamPrev := g.jamPrev &&& (15 ^^^ 2 ^ s) })
    if d.fld R.GNSS_STAT 31 28 = 0 then d.endLevel 92 else d
  else d

/-! ### Channels (R198 to R208) -/

/-- GCHc_STAT.STATE: 0 IDLE, 1 PULLIN, 2 TRACK, 3 SYNC, 4 LOST, 5 GATED (R201). -/
def Dev.chState (d : Dev) (c : Nat) : Nat := d.fld (R.GCHc_STAT c) 31 29
/-- The channel is assigned. -/
def Dev.chUsed (d : Dev) (c : Nat) : Bool := d.bit (R.GCHc_CFG c) 31
def Dev.chStream (d : Dev) (c : Nat) : Nat := d.fld (R.GCHc_CFG c) 29 28
def Dev.chSig (d : Dev) (c : Nat) : Nat := d.fld (R.GCHc_CFG c) 27 25
def Dev.chSvid (d : Dev) (c : Nat) : Nat := d.fld (R.GCHc_CFG c) 23 16
def Dev.chFollower (d : Dev) (c : Nat) : Bool := d.bit (R.GCHc_CFG c) 30
/-- The class of R206: antenna A L1, antenna A L5, followers L1, followers L5. -/
def Dev.chClass (d : Dev) (c : Nat) : Nat := 1 + 2 * b2n (d.chFollower c) + d.chStream c % 2
/-- The channels, all 256. -/
def channels : List Nat := List.range 256

/-- GNSS_CHUSE: channels in SYNC and channels assigned. -/
def Dev.chShow (d : Dev) : Dev :=
  d.wrNat R.GNSS_CHUSE ((channels.filter (fun c => d.chState c == 3)).length * 65536 +
    (channels.filter (fun c => d.chUsed c)).length)

/-- Set a channel's state, counting an entry to LOST; no symbol before an entry to SYNC counts, and a GATED channel notes
its instant. -/
def Dev.chSet (d : Dev) (c st : Nat) : Dev :=
  let lost := st == 4 && d.chState c != 4
  let d := d.setFld (R.GCHc_STAT c) 31 29 st
  let d := d.setCh c { d.chAt c with
    lockRun := 0, lockLow := 0, cnLow := 0, since := d.clk.mono, stAt := d.nowNs, lastD := none
    gatedAt := if st = 5 then some d.clk.mono else none }
  if lost then d.bump (R.GCHc_LOSTCNT c) else d

/-- Followers of a lead that leaves TRACK or SYNC move to LOST at the same dump (R204). -/
def Dev.dropFollowers (d : Dev) (lead : Nat) : Dev :=
  channels.foldl (fun d f =>
    if d.chUsed f ∧ d.chFollower f ∧ d.fld (R.GCHc_CFG f) 15 8 = lead ∧ d.chState f ≠ 0 ∧ d.chState f ≠ 4
    then d.chSet f 4 else d) d

/-- A channel changes state; a lead that leaves TRACK or SYNC other than by a burst gate loses its followers. -/
def Dev.chTo (d : Dev) (c st : Nat) : Dev :=
  let was := d.chState c
  let d := d.chSet c st
  (if (was = 2 ∨ was = 3) ∧ st ≠ 2 ∧ st ≠ 3 ∧ st ≠ 5 ∧ !d.chFollower c then d.dropFollowers c else d).chShow

/-- A channel is released: unassigned and IDLE, its unfinished navigation unit discarded (R206, R208, R210). -/
def Dev.chRelease (d : Dev) (c : Nat) : Dev :=
  let d := d.chTo c 0
  let d := (d.wr (R.GCHc_CFG c) (d.rd (R.GCHc_CFG c) &&& 0x01000000)).wr (R.GCHc_STAT c) 0
  (d.setCh c {}).chShow

/-- A satellite is excluded by the GNSS_EXCL registers (R208). -/
def Dev.excluded (d : Dev) (sig svid : Nat) : Bool :=
  if sig ≤ 1 then decide (1 ≤ svid ∧ svid ≤ 32) && d.bit R.GNSS_EXCL_GPS (svid - 1)
  else if sig ≤ 3 then (if svid ≤ 32 then decide (1 ≤ svid) && d.bit R.GNSS_EXCL_GAL_LO (svid - 1) else d.bit R.GNSS_EXCL_GAL_HI (svid - 33))
  else if sig ≤ 5 then (if svid ≤ 32 then decide (1 ≤ svid) && d.bit R.GNSS_EXCL_BDS_LO (svid - 1) else d.bit R.GNSS_EXCL_BDS_HI (svid - 33))
  else decide (193 ≤ svid) && d.bit R.GNSS_EXCL_QZS (svid - 193)

/-- The constellation of a signal is used (GNSS_CFG.CONST). -/
def Dev.constUsed (d : Dev) (sig : Nat) : Bool := d.bit R.GNSS_CFG (8 + sig / 2)

/-- A signal may take a channel (R189, R197, R199, R204, R207, R208): a PRN of its constellation, which is used; the
satellite not excluded; a stream of its band and of its antenna, fitted; taps at 1 to 63. -/
def Dev.mayAssign (d : Dev) (a : ChanIn) : Bool :=
  let de := wfld a.tapsp 5 0
  let dv := wfld a.tapsp 13 8
  svidOk a.sig a.svid && d.constUsed a.sig && !d.excluded a.sig a.svid && (a.stream.val % 2 == a.sig.val % 2) &&
    (a.role == decide (2 ≤ a.stream.val)) && (!a.role || d.bit R.GNSS_CFG 5) && (!sigL5 a.sig || d.bit R.GNSS_CFG 4) &&
    decide (1 ≤ de) && decide (1 ≤ dv)

/-- A channel's oscillators (R198). -/
def Dev.osc (d : Dev) (c : Nat) : Osc :=
  ⟨d.fld (R.GCHc_CODE_INT c) 13 0 * 2 ^ 32 + d.nat (R.GCHc_CODE_FRAC c), d.fld (R.GCHc_CODE_INT c) 26 16,
   d.int (R.GCHc_CARR_CYC c) * (2 ^ 32 : Nat) + d.nat (R.GCHc_CARR_FRAC c)⟩

/-- Write a channel's oscillators. -/
def Dev.setOsc (d : Dev) (c : Nat) (o : Osc) : Dev :=
  let d := d.wrNat (R.GCHc_CODE_INT c) (o.sec % 2 ^ 11 * 2 ^ 16 + o.code / 2 ^ 32 % 2 ^ 14)
  let d := (d.wrNat (R.GCHc_CODE_FRAC c) o.code).wrInt (R.GCHc_CARR_CYC c) (o.carr / (2 ^ 32 : Nat))
  d.wrNat (R.GCHc_CARR_FRAC c) (o.carr % (2 ^ 32 : Nat)).toNat

/-- The carrier word of a stream's IF (R191). -/
def Dev.ifWord (d : Dev) (s : Nat) : Int := carrWordOf ((d.int (R.GNSS_Ss_IF s) : Rat) / 100)

/-- A channel's carrier word without the IF. -/
def Dev.doppWord (d : Dev) (c : Nat) : Int := d.int (R.GCHc_CARRFREQ c) - d.ifWord (d.chStream c)

/-- New oscillator words: the device adds the stream's IF to the carrier's (R191). -/
def Dev.setWords (d : Dev) (c code : Nat) (carr : Int) : Dev :=
  (d.wrNat (R.GCHc_CODEFREQ c) code).wrInt (R.GCHc_CARRFREQ c) (carr + d.ifWord (d.chStream c))

/-- A channel's oscillators moved by a number of 2^-32 sample periods at their words. -/
def Dev.oscAhead (d : Dev) (c t : Nat) : Osc :=
  let o := (d.osc c).moveCode (d.chSig c) (d.nat (R.GCHc_CODEFREQ c) * t / 2 ^ 32 : Nat)
  { o with carr := o.carr + d.int (R.GCHc_CARRFREQ c) * t / (2 ^ 32 : Nat) }

/-- Assign a channel: it starts in PULLIN with oscillators and words propagated to its first sample (R205). -/
def Dev.chAssign (d : Dev) (c : Nat) (a : ChanIn) (o : Osc) (code : Nat) (carr : Int) : Dev :=
  let d := d.wrNat (R.GCHc_CFG c) (2 ^ 31 + b2n a.role * 2 ^ 30 + a.stream * 2 ^ 28 + a.sig * 2 ^ 25 +
    b2n (decide (c < 16)) * 2 ^ 24 + a.svid * 2 ^ 16 + (if a.role then a.lead.val else 0) * 2 ^ 8)
  let d := (((d.setOsc c o).setWords c code carr).wr (R.GCHc_TAPSP c) (a.tapsp &&& 0x3F3F))
  let d := d.setOsc c (d.oscAhead c a.ahead)
  let d := (d.wr (R.GCHc_DUMPCNT c) 0).wr (R.GCHc_LOCKTIME c) 0
  let d := d.setBit (R.GCHc_STAT c) 28 (d.bit R.GNSS_STAT (16 + a.stream))
  ((d.setCh c {}).chSet c 1).chShow

/-! ### The gates (R207, R218 to R220) -/

/-- Burst tracking is in effect (GNSS_STAT.BURSTING). -/
def Dev.bursting (d : Dev) : Bool := d.bit R.GNSS_STAT 3

/-- The service mode (R2): 0 BALANCED, 1 CAPACITY, 2 PRECISION, 3 FULL. -/
def Dev.svcMode (d : Dev) : Nat := d.fld R.SYS_MODE 1 0

/-- Continuous tracking of FULLINT is in effect (R219). -/
def Dev.fullNow (d : Dev) : Bool := decide (cSec (d.count 0) < d.gnss.fullUntil)

/-- The key of a channel's satellite. -/
def Dev.chSat (d : Dev) (c : Nat) : Nat := satKey (sigCons (d.chSig c)) (d.chSvid c)

/-- The window gates a channel: in burst tracking every channel whose satellite's orbit is known, but not during the
30 s of FULLINT; outside it a follower in CAPACITY mode (R207, R218, R219). -/
def Dev.gatedCh (d : Dev) (c : Nat) : Bool :=
  d.chUsed c && (if d.bursting then !d.fullNow && decide (d.chSat c ∈ d.gnss.orbits) else d.svcMode == 1 && d.chFollower c)

/-- A channel's correlators run: samples come, and no closed window gates it. -/
def Dev.correlates (d : Dev) (c : Nat) : Bool :=
  d.chUsed c && d.chState c != 0 && d.chState c != 5 && !(d.gatedCh c && !d.gnss.window) && d.gsamp &&
    !d.bit R.GNSS_STAT (20 + d.chStream c) && !d.flt.pfwStopped

/-! ### Dumps (R198 to R201) -/

/-- R200: a dump not processed in time leaves the words and is counted. -/
def effDumpMiss (c : Nat) (d : Dev) : Dev :=
  if (d.chAt c).dumpDue then
    ((d.setCh c { d.chAt c with dumpDue := false }).bump R.GNSS_FW_MISS).modGnss (fun g => { g with
      fwMisses := d.nowNs :: g.fwMisses.filter (fun t => decide (d.nowNs < t + 1000000000)) }) |>.pmc 0x0401 none 1
  else d

/-- The end of an integration: the sums become the tap registers, and the firmware's words take effect (R199, R200). A
dump that still waits has not been processed within its 1 ms. -/
def Dev.dumpNow (d : Dev) (c : Nat) : Dev :=
  let d := effDumpMiss c d
  let h := d.chAt c
  let d := forRange 12 (fun j d => d.wrInt (R.GCHc_VE_I c + 4 * j) (satTap (h.acc.getD j 0))) d
  let d := (d.setBit (R.GCHc_STAT c) 27 (h.acc.any (fun v => satTap v != v))).bumpWrap (R.GCHc_DUMPCNT c)
  let d := match h.words with
    | some (a, b) => d.setWords c a b
    | none => d
  d.setCh c { h with words := none, acc := [], dumpDue := true }

/-- A channel takes one sample of its stream: the replicas' sums, and a step of both oscillators (R190, R198, R199). -/
def chSample (c : Nat) (d : Dev) (s : Iq) : Dev :=
  let sig := d.chSig c
  let o := d.osc c
  let w := d.nat (R.GCHc_CODEFREQ c)
  let t := tapTerms sig (d.chSvid c) (d.fld (R.GCHc_TAPSP c) 5 0) (d.fld (R.GCHc_TAPSP c) 13 8)
    (d.bit (R.GNSS_Ss_AGCCFG (d.chStream c)) 31) s o
  let o' := o.moveCode sig (w : Int)
  let d := d.setOsc c { o' with carr := o.carr + d.int (R.GCHc_CARRFREQ c) }
  let d := d.setCh c { d.chAt c with acc := addTerms (d.chAt c).acc t }
  if crosses sig w o then d.dumpNow c else d

/-- R198 to R200: a channel's correlators take their stream's samples, and dump at each 1 ms boundary of the tracked code
that these reach. -/
def effDump (c : Nat) (i : DumpIn) (d : Dev) : Dev := if d.correlates c then i.iq.foldl (chSample c) d else d

/-- The words that the firmware writes: a follower's are its lead's plus its own corrections (R204). -/
def Dev.procWords (d : Dev) (c : Nat) (i : ProcIn) : Nat × Int :=
  if d.chFollower c then
    let l := d.fld (R.GCHc_CFG c) 15 8
    ((((d.nat (R.GCHc_CODEFREQ l) : Int) + i.code) % (2 ^ 32 : Nat)).toNat, d.doppWord l + i.carr)
  else ((i.code % (2 ^ 32 : Nat)).toNat, i.carr)

/-- R200, R201: the firmware processes the dump within 1 ms and writes new words; lock and boundaries move the
channel. -/
def effProcess (c : Nat) (i : ProcIn) (d : Dev) : Dev :=
  let h := d.chAt c
  if !h.dumpDue then d
  else
    let d := (((d.pmc 0x0400 none 1).setBit (R.GCHc_STAT c) 26 (decide (800 < i.lock))).setBit (R.GCHc_STAT c) 25 i.dlock).setBit
      (R.GCHc_STAT c) 24 i.inv
    let d := d.setFld (R.GCHc_STAT c) 9 0 (min i.cn0 1023)
    let run := if 800 ≤ i.lock then h.lockRun + 1 else 0
    let d := d.setCh c { h with
      dumpDue := false, words := some (d.procWords c i), rate := i.rate, lockRun := run
      lockLow := if i.lock < 500 then h.lockLow + 1 else 0
      cnLow := if i.cn0 < d.fld R.GNSS_LOOPCFG 7 0 * 10 then h.cnLow + 1 else 0 }
    match d.chState c with
    | 1 => if 20 ≤ run then d.chTo c 2 else d
    | 2 => if i.found then d.chTo c 3 else d
    | _ => d

/-- R200: 64 misses in one second raise the firmware-stall source. -/
def effFwStall (d : Dev) : Dev :=
  if 64 ≤ (d.gnss.fwMisses.filter (fun t => decide (d.nowNs < t + 1000000000))).length
  then (d.modGnss (fun g => { g with fwMisses := [] })).raise 13 0 else d

/-- R201: 500 ms in PULLIN. -/
def effPullinTimeout (c : Nat) (d : Dev) : Dev :=
  if d.chState c = 1 ∧ (d.chAt c).stAt + 500000000 ≤ d.nowNs then d.chTo c 4 else d

/-- R201: C/N₀ below CN0MIN for 100 ms, or a lock indicator below 0.5 for 50 ms, at a dump a millisecond. -/
def effTrackLoss (c : Nat) (d : Dev) : Dev :=
  if (d.chState c = 2 ∨ d.chState c = 3) ∧ (100 ≤ (d.chAt c).cnLow ∨ 50 ≤ (d.chAt c).lockLow) then d.chTo c 4 else d

/-- R201: 1 s in LOST. -/
def effLostTimeout (c : Nat) (d : Dev) : Dev :=
  if d.chState c = 4 ∧ (d.chAt c).stAt + 1000000000 ≤ d.nowNs then d.chRelease c else d

/-! ### Measurements (R202, R203) -/

/-- TB0's millisecond count, [31:0] (R202). -/
def Dev.msCount (d : Dev) : Nat := d.count 0 / (1000000 * nsUnit) % 2 ^ 32

/-- One channel's latch: its oscillators at the boundary, a number of 2^-32 sample periods after its last sample, and the
Doppler without the IF (R202). -/
def Dev.measOne (d : Dev) (c t : Nat) : Dev :=
  let o := d.oscAhead c t
  let d := (d.wrNat (R.GCHc_MEAS_EPOCH c) d.msCount).wrNat (R.GCHc_MEAS_CODE_INT c)
    (o.sec % 2 ^ 11 * 2 ^ 16 + o.code / 2 ^ 32 % 2 ^ 14)
  let d := (d.wrNat (R.GCHc_MEAS_CODE_FRAC c) o.code).wrInt (R.GCHc_MEAS_CARR_CYC c) (o.carr / (2 ^ 32 : Nat))
  (d.wrNat (R.GCHc_MEAS_CARR_FRAC c) (o.carr % (2 ^ 32 : Nat)).toNat).wrFit (R.GCHc_MEAS_DOPP c)
    (Config.shown (d.doppWord c * (80000000 * 256 : Nat) / ((2 ^ 32 : Nat) : Rat)))

/-- A channel's lock time in ms (GCHc_LOCKTIME). -/
def lockTick (c : Nat) (d : Dev) : Dev :=
  if d.chState c = 2 ∨ d.chState c = 3 then d.bump (R.GCHc_LOCKTIME c) else if d.nat (R.GCHc_LOCKTIME c) = 0 then d
  else d.wr (R.GCHc_LOCKTIME c) 0

/-- R202, R208: at a millisecond boundary the channels of satellites excluded since the last one are released, and every
other one is latched. -/
def effMeas (ahead : List Nat) (d : Dev) : Dev :=
  let d := channels.foldl (fun d c => if (d.chAt c).excl then d.chRelease c else d) d
  let d := channels.foldl (fun d c => lockTick c d) d
  channels.foldl (fun d c => if d.chUsed c then d.measOne c (ahead.getD c 0) else d) d

def effGchMeasLatch (p : Port) (c : Nat) (d : Dev) : Dev :=
  (d.latchRegs p [R.GCHc_MEAS_EPOCH c, R.GCHc_MEAS_CODE_INT c, R.GCHc_MEAS_CODE_FRAC c, R.GCHc_MEAS_CARR_CYC c,
    R.GCHc_MEAS_CARR_FRAC c, R.GCHc_MEAS_DOPP c]).emit (.readData p (d.rd (R.GCHc_MEAS_EPOCH c)))

def effGchCorrLatch (p : Port) (c : Nat) (d : Dev) : Dev :=
  (d.latchRegs p ((List.range 12).map (fun j => R.GCHc_VE_I c + 4 * j))).emit (.readData p (d.rd (R.GCHc_VE_I c)))

/-- R205: the three cases of a handover: an L5-band signal from the satellite's L1-band channel in SYNC on the same
antenna; a follower from its lead on antenna A, in TRACK or SYNC; a normal channel from a privileged one, of the same
signal and stream. -/
def Dev.handoverOk (d : Dev) (c src : Nat) (a : ChanIn) : Bool :=
  let st := d.chState src
  let same := a.sig.val == d.chSig src
  d.chUsed src && d.chSvid src == a.svid.val && src != c && !d.chFollower src &&
  ((a.role && same && a.lead.val == src && (st == 2 || st == 3) && a.stream.val == d.chStream src + 2) ||
   (!a.role && a.sig.val == d.chSig src + 1 && sigL5 a.sig && a.stream.val == d.chStream src + 1 && st == 3) ||
   (!a.role && same && decide (src < 16) && decide (16 ≤ c) && (st == 2 || st == 3) && a.stream.val == d.chStream src))

/-- A satellite's elevation at the latest epoch, 0.001 degree; one not yet seen ranks lowest (R206). -/
def Dev.elevOf (d : Dev) (sat : Nat) : Int := Map.get d.gnss.elev (fun _ => -90000) sat

/-- The privileged channels that are free (R206). -/
def Dev.privFree (d : Dev) : Nat := ((List.range 16).filter (fun k => !d.chUsed k)).length

/-- R206: the channel is free, and four privileged ones stay free; or none is free and it is the lowest-ranked one of the
lowest class present, which is below the new signal's. -/
def Dev.mayTake (d : Dev) (c : Nat) (a : ChanIn) : Bool :=
  let cls := 1 + 2 * b2n a.role + a.stream.val % 2
  (!d.chUsed c && (decide (16 ≤ c) || decide (5 ≤ d.privFree))) ||
    (channels.all (fun k => d.chUsed k) && decide (cls < d.chClass c) &&
      channels.all (fun k => decide (d.chClass k < d.chClass c) ||
        (d.chClass k == d.chClass c && decide (d.elevOf (d.chSat c) ≤ d.elevOf (d.chSat k)))))

/-- The oscillators that a handover starts from (R205): the source's own for the same signal; for an L5-band one from the
L1 band the code delay taken over, its secondary code not yet known. The carrier counts from 0: DESIGN CHOICE (log 62). -/
def Dev.handOsc (d : Dev) (src : Nat) (a : ChanIn) : Osc :=
  let o := d.osc src
  if a.sig.val = d.chSig src then { o with carr := 0 } else ⟨o.code % (1023 * 2 ^ 32) * 10, 0, 0⟩

/-- The words that a handover starts from: the source's own, or both scaled to the L5 band (R205). -/
def Dev.handWords (d : Dev) (src : Nat) (a : ChanIn) : Nat × Int :=
  if a.sig.val = d.chSig src then (d.nat (R.GCHc_CODEFREQ src), d.doppWord src)
  else (10 * d.nat (R.GCHc_CODEFREQ src), roundR ((d.doppWord src : Rat) * 115 / 154))

/-- R205, R206: a channel is taken into use by handover; tracking taken over from a privileged channel frees it. -/
def effHandover (c src : Nat) (a : ChanIn) (d : Dev) : Dev :=
  if d.mayAssign a ∧ d.handoverOk c src a ∧ d.mayTake c a then
    let takeover := !a.role && decide (src < 16) && decide (16 ≤ c) && a.sig.val == d.chSig src
    let o := d.handOsc src a
    let w := d.handWords src a
    let d := if d.chUsed c then d.chRelease c else d
    let d := d.chAssign c a o w.1 w.2
    if takeover then d.chRelease src else d
  else d

/-- An exclusion register's address and bits (R222). -/
def ExclReg.at_ : ExclReg → Nat × Word
  | .gps => (R.GNSS_EXCL_GPS, 0xFFFFFFFF)
  | .galLo => (R.GNSS_EXCL_GAL_LO, 0xFFFFFFFF)
  | .galHi => (R.GNSS_EXCL_GAL_HI, 0xF)
  | .bdsLo => (R.GNSS_EXCL_BDS_LO, 0xFFFFFFFF)
  | .bdsHi => (R.GNSS_EXCL_BDS_HI, 0x7FFFFFFF)
  | .qzs => (R.GNSS_EXCL_QZS, 0x3FF)

/-- R208: the channels that track a satellite now excluded are released at the next millisecond boundary. -/
def effExcl (p : Port) (r : ExclReg) (v : Word) (d : Dev) : Dev :=
  d.asCust p (fun d =>
    let d := d.wr r.at_.1 (v &&& r.at_.2)
    channels.foldl (fun d c => if d.chUsed c ∧ d.excluded (d.chSig c) (d.chSvid c)
      then d.setCh c { d.chAt c with excl := true } else d) d)

/-! ### Streams (R192, R193) -/

/-- The channels of a stream have their measurements invalid, or valid again from a whole unit on (R193, R210). -/
def Dev.streamMinv (d : Dev) (s : Nat) (b : Bool) : Dev :=
  channels.foldl (fun d c => if d.chUsed c ∧ d.chStream c = s
    then (d.setBit (R.GCHc_STAT c) 28 b).setCh c { d.chAt c with since := d.clk.mono } else d) d

/-- Samples in a stream's ferry (R24, R25). -/
def Dev.setFerry (d : Dev) (s k : Nat) : Dev := d.modGnss (fun g => { g with ferry := Map.put g.ferry (fun _ => 8) s k })

/-- R192: a slip; the ferry is recentred to its start depth. -/
def effSlip (s : Nat) (d : Dev) : Dev :=
  let d := d.modGnss (fun g => { g with slipAt := Map.put g.slipAt (fun _ => 0) s d.nowNs })
  let d := (d.bump (R.GNSS_Ss_SLIP s)).setBit R.GNSS_STAT (24 + s) true
  (((d.setBit R.GNSS_STAT (16 + s) true).streamMinv s true).setFerry s 8).raise (15 + s) 0

/-- R192: a strobe absent for a millisecond; the ferry runs empty, and every channel on the stream goes to LOST. -/
def effStrobeLoss (s : Nat) (d : Dev) : Dev :=
  if d.bit R.GNSS_STAT (20 + s) then d
  else
    let d := ((d.setBit R.GNSS_STAT (20 + s) true).bump (R.GNSS_Ss_LOS s)).setFerry s 0
    let d := channels.foldl (fun d c =>
      if d.chUsed c ∧ d.chStream c = s ∧ d.chState c ≠ 0 ∧ d.chState c ≠ 4 then d.chTo c 4 else d) d
    d.raise (15 + s) 1

/-- R192, R25: the strobe returns and the ferry restarts at its start depth; without GSAMP there is none (R221). -/
def effStrobeReturn (s : Nat) (d : Dev) : Dev :=
  if d.gsamp ∧ d.bit R.GNSS_STAT (20 + s) then (d.setBit R.GNSS_STAT (20 + s) false).setFerry s 8 else d

/-- R192: 1 s after the stream's latest slip (DEDUCED, log 68) its disqualification ends. -/
def effDisqEnd (s : Nat) (d : Dev) : Dev :=
  if d.bit R.GNSS_STAT (16 + s) ∧ Map.get d.gnss.slipAt (fun _ => 0) s + 1000000000 ≤ d.nowNs then (d.setBit R.GNSS_STAT (16 + s) false).streamMinv s false else d

/-! ### Navigation data (R209 to R212) -/

/-- TB0's count when the first bit of a unit reached the pins, a number of ps ago: across an initial set as the count
stood then (R210). -/
def Dev.unitStart (d : Dev) (ago : Nat) : Nat :=
  let back := ago * nsUnit / 1000
  let t := d.tbAt 0
  if d.isSet 0 ∧ t.count - t.setAt < back then ((t.count : Int) - back - t.setShift).toNat else t.count - back

/-- A unit's bits, at their number. -/
def navBits (unit : Nat) (b : List Bool) : List Bool := (b ++ List.replicate (unitBits unit) false).take (unitBits unit)

/-- The 128-byte navigation entry (R212). -/
def Dev.navEntry (d : Dev) (c verdict : Nat) (u : NavUnit) : List Byte :=
  let unit := unitCode (d.chSig c) u.sub
  let t := d.unitStart u.ago
  be 1 (d.chSig c) ++ be 1 (d.chSvid c) ++ be 1 c ++
  be 1 (verdict * 64 + d.chStream c * 16 + b2n u.inv * 8 + unit) ++ be 2 (unitBits unit) ++ be 2 d.gnss.navSeq ++
  be 6 (cSec t) ++ be 4 (cNs t) ++ be 2 u.cn0 ++ be 4 (u.detail.toNat) ++
  slice (packBits (navBits unit (u.bits.getD [])) ++ zeros 104) 0 104

/-- A new ephemeris of a satellite, with check NAV's tests of it (R239): more than 50 m from the previous one's
prediction, or, with TB0 bounded, a time of week that disagrees by more than B + 1 ms, rejects the satellite until its
next ephemeris. -/
def Dev.takeEph (d : Dev) (sat : Nat) (e : EphIn) : Dev :=
  let bad := decide (50000 < e.jump) || ((d.ebAt 0).bounded && decide (d.bound 0 + 1000000000 < e.tow.natAbs))
  d.modGnss (fun g => { g with
    orbits := if sat ∈ g.orbits then g.orbits else sat :: g.orbits
    rejected := if bad then (if sat ∈ g.rejected then g.rejected else sat :: g.rejected) else g.rejected.filter (· != sat)
    navNew := some (g.navNew.getD 0 + b2n bad) })

/-- R209 to R211: a decoded unit of a channel in SYNC becomes an entry, with every verdict; none from a disqualified
stream, nor one that has lost a symbol. Only a unit with PASS serves the solutions. -/
def effNavUnit (c : Nat) (u : NavUnit) (d : Dev) : Dev :=
  if d.chState c ≠ 3 ∨ d.bit (R.GCHc_STAT c) 28 ∨ d.clk.mono < (d.chAt c).since + u.ago * nsUnit / 1000 then d
  else
    let unit := unitCode (d.chSig c) u.sub
    let bits := u.bits.map (navBits unit)
    let v := verdictOf unit (d.chAt c).lastD bits
    let e := d.navEntry c v u
    let d := d.modGnss (fun g => { g with navSeq := (g.navSeq + 1) % 65536 })
    let d := d.setCh c { d.chAt c with lastD := if unit = 0 then bits.map (fun b => (b.getD 28 false, b.getD 29 false)) else none }
    let d := match v, u.eph with
      | 0, some x => d.takeEph (d.chSat c) x
      | _, _ => d
    if d.bit R.GNSS_CFG 7 then d.ringOffer 0 0x05 e (some R.GNSS_NAV_DROP)
    else if 256 ≤ d.gnss.navCount then d.bump R.GNSS_NAV_DROP
    else
      let k := d.fld R.GNSS_NAV_WR 7 0
      let d := forRange 32 (fun w d => d.wrNat (R.GNSS_NAV k w) (beAt e (4 * w) 4)) d
      (d.wrNat R.GNSS_NAV_WR ((k + 1) % 256)).modGnss (fun g => { g with navCount := g.navCount + 1 })

/-- R211: a write of GNSS_NAV_RD frees the entries before it. -/
def effNavRd (p : Port) (v : Word) (d : Dev) : Dev :=
  d.asCust p (fun d =>
    let rd := wfld v 7 0
    (d.wrNat R.GNSS_NAV_RD rd).modGnss (fun g => { g with navCount := (d.fld R.GNSS_NAV_WR 7 0 + 256 - rd) % 256 }))

/-! ### Acquisition (R213 to R216) -/

/-- A channel tracks the signal of a satellite. -/
def Dev.tracked (d : Dev) (sig svid : Nat) : Bool :=
  channels.any (fun c => d.chUsed c && d.chSig c == sig && d.chSvid c == svid && !d.chFollower c)

/-- The signal is searched cold (R213): GPS and QZSS L1; Galileo E1 and BeiDou B1C while TB0 has no bound. -/
def Dev.coldSig (d : Dev) (sig : Nat) : Bool :=
  sig == 0 || sig == 6 || ((sig == 2 || sig == 4) && !(d.ebAt 0).bounded)

/-- The order of the cold search: GPS and QZSS L1 C/A, Galileo E1, BeiDou B1C, each by ascending PRN (R213). -/
def coldOrder : List (Nat × Nat) :=
  (List.range 32).map (fun k => (0, k + 1)) ++ (List.range 10).map (fun k => (6, 193 + k)) ++
  (List.range 36).map (fun k => (2, k + 1)) ++ (List.range 63).map (fun k => (4, k + 1))

/-- A satellite is searched cold: not tracked, not excluded (R213). -/
def Dev.coldWanted (d : Dev) (s : Nat × Nat) : Bool :=
  d.coldSig s.1 && d.constUsed s.1 && !d.excluded s.1 s.2 && !d.tracked s.1 s.2

/-- What follows an element of a list; the whole list without one. -/
def restAfter (s : Option (Nat × Nat)) (l : List (Nat × Nat)) : List (Nat × Nat) := match s with
  | none => l
  | some x => (l.dropWhile (fun y => y != x)).drop 1

/-- The satellite that the engine searches next in the running sweep. -/
def Dev.nextCold (d : Dev) : Option (Nat × Nat) := (restAfter d.gnss.sweepAt coldOrder).find? (fun s => d.coldWanted s)

/-- Width of a Doppler bin, Hz, and the points of a block, for a signal (R213). -/
def binHz (sig : Nat) : Nat := if sig = 2 then 125 else if sig = 4 then 50 else 500
def blockPts (sig : Nat) : Nat := if sig = 2 then 16384 else if sig = 4 then 40960 else 4096

/-- The points of one satellite's search: 2N for each bin and block (R213). -/
def Dev.searchPts (d : Dev) (sig : Nat) : Nat :=
  (2 * (d.fld R.GACQ_CFG 15 0 / binHz sig) + 1) * (if sig = 0 ∨ sig = 6 then d.fld R.GACQ_CFG 23 16 else 1) *
    (2 * blockPts sig)

/-- Four satellites of one constellation are in SYNC (R215). -/
def Dev.fourSync (d : Dev) : Bool :=
  (List.range 4).any (fun k => decide (4 ≤ (((channels.filter (fun c =>
    d.chUsed c && !d.chFollower c && d.chState c == 3 && sigCons (d.chSig c) == k)).map d.chSvid).eraseDups).length))

/-- R215: a sweep starts with a snapshot, unless one runs, burst tracking is in effect, the front-ends stand, or no
satellite is left to search. -/
def Dev.sweepStart (d : Dev) : Dev :=
  if d.bit R.GACQ_STAT 30 ∨ d.bursting ∨ !d.gsamp then d
  else
    let d := d.modGnss (fun g => { g with sweepAt := none, sweepPts := 0 })
    if d.nextCold = none then d
    else
      let d := (d.setBit R.GACQ_STAT 30 true).setBit R.GACQ_STAT 31 true
      d.setFld R.GACQ_STAT 15 0 (d.fld R.GACQ_STAT 15 0 + 1)

/-- The running sweep ends, or ends before its time. -/
def Dev.sweepStop (d : Dev) : Dev := (d.setBit R.GACQ_STAT 30 false).setBit R.GACQ_STAT 31 false

/-- A search's best cell: of at least THR / 16, in a bin of the span, it is a detection (R213, R214). -/
def Dev.noteCell (d : Dev) (sig svid ratio : Nat) (bin : Int) (code : Nat) : Dev :=
  if d.fld R.GACQ_CFG 31 24 ≤ ratio ∧ bin.natAbs * binHz sig ≤ d.fld R.GACQ_CFG 15 0 then
    d.modGnss (fun g => { g with
      detect := g.detect ++ [⟨sig, svid, ratio, bin * binHz sig, code, d.fld R.GACQ_STAT 15 0⟩] })
  else d

/-- R213 to R215: the engine searches the next satellite of the running sweep; after the last one the sweep ends, and
starts again at once until four satellites of one constellation are in SYNC. Without a measured duration SWEEP_MS takes
the search time at 1.6 × 10^9 points/s, rounded down: DESIGN CHOICE (log 62). -/
def effSearch (sig svid ratio : Nat) (bin : Int) (code : Nat) (sweepMs : Option Nat) (d : Dev) : Dev :=
  if !d.bit R.GACQ_STAT 30 ∨ d.bursting ∨ !d.gsamp ∨ d.nextCold ≠ some (sig, svid) then d
  else
    let d := (d.setFld R.GACQ_STAT 27 25 sig).setFld R.GACQ_STAT 23 16 svid
    let d := d.modGnss (fun g => { g with sweepAt := some (sig, svid), sweepPts := g.sweepPts + d.searchPts sig })
    let d := d.noteCell sig svid ratio bin code
    if d.nextCold.isSome then d
    else
      let d := d.sweepStop.wrNat R.GACQ_SWEEP_MS (sweepMs.getD (d.gnss.sweepPts / 1600000))
      if d.fourSync then d else d.sweepStart

/-- R214: the oldest detection is verified on the next snapshot and handed to a free channel, counted as false, or
discarded when a channel acquired the satellite meanwhile. -/
def effVerify (ok : Bool) (c : Nat) (a : ChanIn) (d : Dev) : Dev :=
  match d.gnss.detect with
  | [] => d
  | x :: rest =>
    let d := d.modGnss (fun g => { g with detect := rest })
    let d := if d.fld R.GACQ_STAT 15 0 = x.snap then d.setFld R.GACQ_STAT 15 0 (x.snap + 1) else d
    if d.tracked x.sig x.svid ∨ d.excluded x.sig x.svid ∨ !d.gsamp then d
    else if !ok then d.bump R.GACQ_FALSE
    else
      let d := (d.bump R.GACQ_HITS).wrNat R.GACQ_LAST (x.sig * 2 ^ 29 + x.svid * 2 ^ 16 + x.ratio % 2 ^ 16)
      let d := (d.wrInt R.GACQ_LAST_DOPP x.dopp).wrNat R.GACQ_LAST_CODE (x.code % 2 ^ 20)
      if !d.chUsed c ∧ !a.role ∧ a.sig.val = x.sig ∧ a.svid.val = x.svid ∧ d.mayAssign a ∧ d.mayTake c a then
        d.chAssign c a ⟨x.code * 2 ^ 26, 0, 0⟩ (codeWordOf x.sig x.dopp) (carrWordOf x.dopp)
      else d

def effSweepCmd (p : Port) (v : Word) (d : Dev) : Dev :=
  d.asCust p (fun d => if wbit v 0 then d.sweepStart else d)

/-- R216: TB0 is set and bounded, the satellite's orbit known since reset, the position held. -/
def Dev.aidable (d : Dev) (sig svid : Nat) : Bool :=
  d.isSet 0 && (d.ebAt 0).bounded && d.gsamp && decide (satKey (sigCons sig) svid ∈ d.gnss.orbits) &&
    d.fld R.GNSS_POSSTAT 31 30 != 0

/-- Acquisition once the front-ends run: by aided searches where R216 allows them, else by a sweep (R215, R221). -/
def Dev.acquire (d : Dev) : Dev :=
  if d.isSet 0 ∧ (d.ebAt 0).bounded ∧ d.fld R.GNSS_POSSTAT 31 30 ≠ 0 ∧ d.gnss.orbits ≠ [] then d else d.sweepStart

/-- R194: the running sequence completes; FE_DONE after both start sequences; the next one or the host's transaction
runs. -/
def effFeDone (reads : List Word) (d : Dev) : Dev :=
  match d.gnss.feRun with
  | [] => d
  | (cs, kind) :: rest =>
    let bad := feBad (d.feSeq cs kind) reads
    let d := d.modGnss (fun g => { g with
      feRun := rest, feStarted := if kind = 0 ∧ cs ∉ g.feStarted then cs :: g.feStarted else g.feStarted })
    let d := if bad then (d.setBit R.GNSS_STAT 1 true).raise 14 cs else d
    let d := if 2 ≤ d.gnss.feStarted.length ∧ !d.bit R.GNSS_STAT 0 then (d.setBit R.GNSS_STAT 0 true).acquire else d
    match rest with
    | (cs', kind') :: _ => d.feSend cs' kind'
    | [] => d.feHostStart

/-- Position uncertainty / c, ps (R216, R235). -/
def Dev.posPs (d : Dev) : Nat := ceilDiv (d.nat R.GNSS_HPOS_UNC * 3336) 1000

/-- Half the code window of an aided search, chips, rounded up: B of TB0, the position uncertainty and 1 µs (R216). -/
def Dev.aidHalf (d : Dev) (sig : Nat) : Nat := ceilDiv ((d.bound 0 + d.posPs + 1000000) * chipsPerMs sig) 1000000000

/-- Half the Doppler span of an aided search, Hz, rounded up: Y times the carrier frequency, and 50 Hz (R216). -/
def Dev.aidSpan (d : Dev) (sig : Nat) : Nat := ceilDiv ((d.ebAt 0).y * carrierHz sig) (65536 * 1000000000000) + 50

/-- The windows of 512 chips of a search bank (R216). -/
def Dev.aidParts (d : Dev) (k : Nat) : Nat := max 1 (ceilDiv (2 * d.fld (R.GACQ_AIDk_WIN k) 31 16) 512)

/-- R216: an aided search of a satellite, over the window and the Doppler list of the rule about the predicted centres,
starts on a free privileged channel; a window wider than 16 banks of 512 chips is not aided. -/
def effAidStart (k sig svid half centre : Nat) (dopp : Int) (span tcoh blocks : Nat) (d : Dev) : Dev :=
  if !d.aidable sig svid ∨ !svidOk sig svid ∨ !d.constUsed sig ∨ d.excluded sig svid ∨ half ≠ d.aidHalf sig ∨
      span ≠ d.aidSpan sig ∨ 16 * 512 < 2 * half ∨ (d.chUsed k ∧ d.chState k ≠ 4) then d
  else
    let d := d.wrNat (R.GACQ_AIDk_STAT k) (1 * 2 ^ 29 + sig * 2 ^ 25 + svid * 2 ^ 16)
    let d := d.wrNat (R.GACQ_AIDk_WIN k) (half % 65536 * 65536 + centre % 65536)
    let d := d.wrNat (R.GACQ_AIDk_DOPP k) ((dopp % 65536).toNat * 65536 + span % 65536)
    d.wrNat (R.GACQ_AIDk_TINT k) (tcoh % 256 * 256 + blocks % 256)

/-- The channel that waits for a re-acquisition of a signal (R201). -/
def Dev.lostCh (d : Dev) (sig svid : Nat) : Option Nat :=
  channels.find? (fun c => decide (16 ≤ c) && d.chUsed c && !d.chFollower c && d.chState c == 4 && d.chSig c == sig &&
    d.chSvid c == svid)

/-- The bank's window that a code phase in chips lies in, from 0; none outside the search's window. -/
def Dev.aidPart (d : Dev) (k sig chip : Nat) : Option Nat :=
  let half := d.fld (R.GACQ_AIDk_WIN k) 31 16
  let len := primaryLen sig
  let off := (chip + 16 * len + half - d.fld (R.GACQ_AIDk_WIN k) 15 0 % len) % len
  if 2 * half < len ∧ 2 * half < off then none else some (off / 512)

/-- R216: a detection with the ratio of R214, inside the window and the Doppler list, and verified: the search becomes
tracking on that channel, or re-acquires the signal's LOST channel (R201), which takes it over (R205): DEDUCED (log 66). -/
def effAidFound (k : Nat) (x : AidHit) (d : Dev) : Dev :=
  let sig := d.fld (R.GACQ_AIDk_STAT k) 27 25
  let svid := d.fld (R.GACQ_AIDk_STAT k) 23 16
  let centre := signed 16 (d.fld (R.GACQ_AIDk_DOPP k) 31 16)
  match d.aidPart k sig (x.code / 64) with
  | none => d
  | some part =>
    if d.fld (R.GACQ_AIDk_STAT k) 31 29 = 1 ∧ x.asg.sig.val = sig ∧ x.asg.svid.val = svid ∧ !x.asg.role ∧ d.mayAssign x.asg ∧
        d.fld R.GACQ_CFG 31 24 ≤ x.ratio ∧ (x.dopp - centre).natAbs ≤ d.fld (R.GACQ_AIDk_DOPP k) 15 0 ∧ d.gsamp then
      let d := (d.setFld (R.GACQ_AIDk_STAT k) 31 29 2).setFld (R.GACQ_AIDk_STAT k) 15 0 (part + 1)
      d.chAssign ((d.lostCh sig svid).getD k) x.asg ⟨x.code * 2 ^ 26, 0, 0⟩ (codeWordOf sig x.dopp) (carrWordOf x.dopp)
    else d

/-- R216: the whole window has been searched without a detection. -/
def effAidExhausted (k : Nat) (d : Dev) : Dev :=
  if d.fld (R.GACQ_AIDk_STAT k) 31 29 = 1
  then ((d.modGnss (fun g => { g with aidAt := Map.put g.aidAt (fun _ => 0) k d.nowNs })).setFld (R.GACQ_AIDk_STAT k) 31 29 3).setFld
    (R.GACQ_AIDk_STAT k) 15 0 (d.aidParts k) else d

/-- R216: the exhausted search is retried after 30 s where its conditions still hold. -/
def effAidRetry (k : Nat) (d : Dev) : Dev :=
  if Map.get d.gnss.aidAt (fun _ => 0) k + 30000000000 ≤ d.nowNs ∧ d.fld (R.GACQ_AIDk_STAT k) 31 29 = 3 ∧ d.aidable (d.fld (R.GACQ_AIDk_STAT k) 27 25) (d.fld (R.GACQ_AIDk_STAT k) 23 16)
  then (d.setFld (R.GACQ_AIDk_STAT k) 31 29 1).setFld (R.GACQ_AIDk_STAT k) 15 0 0 else d

/-! ### Burst tracking (R207, R218 to R220) -/

/-- The ms of TB0's second, and GNSS_BURST.OFS. -/
def Dev.msInSec (d : Dev) : Nat := cNs (d.count 0) / 1000000
def Dev.burstOfs (d : Dev) : Nat := d.fld R.GNSS_BURST 19 10

/-- TB0 stands in the window from OFS to OFS + 100 ms (R218). -/
def Dev.inBurst (d : Dev) : Bool := decide (d.burstOfs ≤ d.msInSec) && decide (d.msInSec < d.burstOfs + 100)

/-- A GATED channel's oscillators go on with the last Doppler and its rate over the time it was gated (R218). -/
def Dev.propagate (d : Dev) (c : Nat) : Dev := match (d.chAt c).gatedAt with
  | none => d
  | some t0 =>
    -- sample periods of 12.5 ns, 2^-32
    let t : Nat := (d.clk.mono - t0) * 2 ^ 32 / (25 * 2 ^ 47)
    let rate : Int := (d.chAt c).rate
    let sig := d.chSig c
    let bend : Int := rate * (t * t : Nat) / (2 ^ 64 * 160000 : Nat)
    let ratio (x : Int) : Int := x * (chipsPerMs sig * 1000 : Nat) / (carrierHz sig : Nat)
    let o := d.oscAhead c t
    let d := d.setOsc c { o.moveCode sig (ratio bend) with carr := o.carr + bend }
    let dw : Int := rate * t / (2 ^ 32 * 80000 : Nat)
    d.setWords c (((d.nat (R.GCHc_CODEFREQ c) : Int) + ratio dw) % (2 ^ 32 : Nat)).toNat (d.doppWord c + dw)

/-- GATED channels that no closed window gates enter PULLIN. -/
def Dev.ungate (d : Dev) : Dev :=
  channels.foldl (fun d c => if d.chState c = 5 ∧ (d.gnss.window ∨ !d.gatedCh c) then (d.propagate c).chTo c 1 else d) d

/-- R219: 20 ms before the window the burst-on sequences are sent. -/
def effBurstOn (d : Dev) : Dev :=
  if d.bursting ∧ (d.msInSec + 20) % 1000 = d.burstOfs then d.feStart 1 else d

def effWindowOpen (d : Dev) : Dev :=
  if d.inBurst ∧ !d.gnss.window then (d.modGnss (fun g => { g with window := true })).ungate else d

/-- R219: 40 ms into the window a channel not yet in TRACK counts a miss; the third in a row sends it to LOST. -/
def effBurstMiss (d : Dev) : Dev :=
  if !d.inBurst ∨ d.msInSec < d.burstOfs + 40 then d
  else channels.foldl (fun d c =>
    if !d.gatedCh c then d
    else if d.chState c = 1 then
      let m := (d.chAt c).misses + 1
      let d := (d.bump (R.GCHc_BURSTMISS c)).setCh c { d.chAt c with misses := if 3 ≤ m then 0 else m }
      if 3 ≤ m then d.chTo c 4 else d
    else d.setCh c { d.chAt c with misses := 0 }) d

/-- R218, R219: the window closes; the channels that it gates, in TRACK or SYNC, go to GATED but those whose satellites'
orbit data are no longer current, and the burst-off sequences are sent. -/
def effWindowClose (old : List Nat) (d : Dev) : Dev :=
  if d.inBurst then d
  else
    let d := d.modGnss (fun g => { g with window := false })
    let d := channels.foldl (fun d c =>
      if d.gatedCh c ∧ (c ∉ old) ∧ (d.chState c = 2 ∨ d.chState c = 3) then d.chTo c 5 else d) d
    if d.bursting ∧ !d.fullNow then d.feStart 2 else d

/-- R219: every FULLINT seconds the whole baseband tracks continuously for 30 s. -/
def effBurstFull (d : Dev) : Dev :=
  if d.bursting ∧ d.fld R.GNSS_BURST 31 20 ≠ 0 then
    (d.modGnss (fun g => { g with fullUntil := cSec (d.count 0) + 30 })).ungate
  else d

/-- Burst tracking at a tick (R218, R220): in effect on a unit that does not own the outputs, and the engine's sweep
ends; at the first tick with ownership it ends, and what only it gated enters PULLIN. -/
def tickBurst (d : Dev) : Dev :=
  let on := d.bit R.GNSS_CFG 6 && !d.owns
  if d.bursting = on then d
  else if on then (d.setBit R.GNSS_STAT 3 true).sweepStop
  else (d.setBit R.GNSS_STAT 3 false).ungate

/-! ### Meanings -/

def execFeStartSequence (s : State) : Result := s.on effFeStart
def execFeSequenceDone (reads : List Word) (s : State) : Result := s.on (effFeDone reads)
def execFeSpiGo (p : Port) (v : Word) (s : State) : Result := s.on (effFeGo p v)
def execFeSpiDone (rx : Word) (s : State) : Result := s.on (effFeSpiDone rx)
def execAgcUpdate (i : Fin 4) (iq : List Iq) (move : Fin 17) (s : State) : Result := s.on (effAgc i iq move)
def execJamSet (i : Fin 4) (s : State) : Result := s.on (effJamSet i)
def execJamClear (i : Fin 4) (s : State) : Result := s.on (effJamClear i)
def execFerrySlip (i : Fin 4) (s : State) : Result := s.on (effSlip i)
def execStrobeLoss (i : Fin 4) (s : State) : Result := s.on (effStrobeLoss i)
def execStrobeReturn (i : Fin 4) (s : State) : Result := s.on (effStrobeReturn i)
def execStreamDisqEnd (i : Fin 4) (s : State) : Result := s.on (effDisqEnd i)
def execCorrelatorDump (c : Fin 256) (i : DumpIn) (s : State) : Result := s.on (effDump c i)
def execDumpProcess (c : Fin 256) (i : ProcIn) (s : State) : Result := s.on (effProcess c i)
def execDumpMiss (c : Fin 256) (s : State) : Result := s.on (effDumpMiss c)
def execGnssFwStall (s : State) : Result := s.on effFwStall
def execPullinTimeout (c : Fin 256) (s : State) : Result := s.on (effPullinTimeout c)
def execTrackLoss (c : Fin 256) (s : State) : Result := s.on (effTrackLoss c)
def execLostTimeout (c : Fin 256) (s : State) : Result := s.on (effLostTimeout c)
def execMeasLatch (ahead : List Nat) (s : State) : Result := s.on (effMeas ahead)
def execGchMeasLatchRead (p : Port) (c : Fin 256) (s : State) : Result := s.on (fun d => d.asRead p (effGchMeasLatch p c))
def execGchCorrLatchRead (p : Port) (c : Fin 256) (s : State) : Result := s.on (fun d => d.asRead p (effGchCorrLatch p c))
def execChannelHandover (c src : Fin 256) (a : ChanIn) (s : State) : Result := s.on (effHandover c src a)
def execGnssExclWrite (p : Port) (r : ExclReg) (v : Word) (s : State) : Result := s.on (effExcl p r v)
def execNavUnitDecoded (c : Fin 256) (u : NavUnit) (s : State) : Result := s.on (effNavUnit c u)
def execNavRdWrite (p : Port) (v : Word) (s : State) : Result := s.on (effNavRd p v)
def execAcqSnapshotSearch (sig : Fin 8) (svid : Fin 256) (ratio : Nat) (bin : Int) (code : Nat) (sweepMs : Option Nat)
    (s : State) : Result := s.on (effSearch sig svid ratio bin code sweepMs)
def execAcqDetectionVerify (ok : Bool) (c : Fin 256) (a : ChanIn) (s : State) : Result := s.on (effVerify ok c a)
def execAcqSweepTimer (s : State) : Result := s.on Dev.sweepStart
def execAcqSweepCmd (p : Port) (v : Word) (s : State) : Result := s.on (effSweepCmd p v)
def execAidedSearchStart (k : Fin 16) (sig : Fin 8) (svid : Fin 256) (half centre : Nat) (dopp : Int)
    (span tcoh blocks : Nat) (s : State) : Result := s.on (effAidStart k sig svid half centre dopp span tcoh blocks)
def execAidedSearchFound (k : Fin 16) (x : AidHit) (s : State) : Result := s.on (effAidFound k x)
def execAidedSearchExhausted (k : Fin 16) (s : State) : Result := s.on (effAidExhausted k)
def execAidedSearchRetry (k : Fin 16) (s : State) : Result := s.on (effAidRetry k)
def execBurstOnSequence (s : State) : Result := s.on effBurstOn
def execBurstWindowOpen (s : State) : Result := s.on effWindowOpen
def execBurstMissCheck (s : State) : Result := s.on effBurstMiss
def execBurstWindowClose (old : List Nat) (s : State) : Result := s.on (effWindowClose old)
def execBurstFullInterval (s : State) : Result := s.on effBurstFull

end Sys2Proof.Machine
end

