-- ==== Sys2Proof/Machine/GnssSolve.lean ====
section
/-! DEFINITION. The timing solution of an epoch from the channels' measurements (R231 to R242) and the statistic of the
dual-antenna check (R240, R241). The orbits and models of the systems' interface documents are operands (log 67). -/
namespace Sys2Proof.Machine

/-- Solution B is fitted (R230). -/
def Dev.solB (d : Dev) : Bool := d.bit R.GNSS_CFG 5
/-- The position is held (R234): 1 from survey, 2 from the image. -/
def Dev.posHeld (d : Dev) : Nat := d.fld R.GNSS_POSSTAT 31 30
/-- GNSS_TCFG.TSYS: 0 GPS, 1 Galileo, 2 BeiDou. -/
def Dev.tsys (d : Dev) : Nat := d.fld R.GNSS_TCFG 1 0

/-! ### Ranges (R232, R233, R236) -/

/-- The whole second of TB0 that the epoch stands for, ps. -/
def Dev.epochPs (d : Dev) : Nat := cSec (d.count 0) * 1000000000000

/-- A system's seconds from TAI (R231). -/
def sysSec (cons : Nat) : Nat := if cons = 2 then 33 else 19

/-- A satellite is usable (R232): its orbit is known from units that passed, it stands above the mask, and it is neither
excluded nor rejected. -/
def Dev.satUsable (d : Dev) (s : SatIn) : Bool :=
  let k := satKey s.cons s.svid
  decide (k ∈ d.gnss.orbits) && decide ((d.fld R.GNSS_TCFG 13 8 * 1000 : Nat) ≤ s.elev) && d.constUsed (2 * s.cons) &&
    !d.excluded (2 * s.cons) s.svid && decide (k ∉ d.gnss.rejected)

/-- A channel is in SYNC without MINV, latched in a millisecond of TB0 (R201, R202). -/
def Dev.measured (d : Dev) (ms c : Nat) : Bool :=
  d.chUsed c && d.chState c == 3 && !d.bit (R.GCHc_STAT c) 28 && d.nat (R.GCHc_MEAS_EPOCH c) == ms

/-- The channel that measures a satellite's signal of a band for a solution: antenna A's, or a follower (R229). -/
def Dev.solCh (d : Dev) (r cons svid : Nat) (l5 : Bool) : Option Nat :=
  channels.find? (fun c => d.chFollower c == (r == 1) && d.chSig c == 2 * cons + b2n l5 && d.chSvid c == svid &&
    d.measured (cSec (d.count 0) * 1000 % 2 ^ 32) c)

/-- The time since the code period's start at a channel's latch, ps. -/
def Dev.codePs (d : Dev) (c : Nat) : Rat :=
  ((d.fld (R.GCHc_MEAS_CODE_INT c) 13 0 * 2 ^ 32 + d.nat (R.GCHc_MEAS_CODE_FRAC c) : Nat) : Rat) / ((2 ^ 32 : Nat) : Rat) *
    1000000000 / (chipsPerMs (d.chSig c) : Nat)

/-- A code range in ps: the epoch on the satellite system's scale less the transmit time, the stream's delay and the
group delay correction (R231, R236). -/
def Dev.rangePs (d : Dev) (s : SatIn) (c : Nat) : Rat :=
  let l5 := sigL5 (d.chSig c)
  (((d.epochPs : Int) - (sysSec s.cons * 1000000000000 : Nat) - (if l5 then s.sent5 else s.sent1) -
    d.int (R.GNSS_CALs (d.chStream c)) : Int) : Rat) - d.codePs c - (if l5 then s.isc5 else s.isc1)

/-- A satellite with a usable L1-band signal, and its L5-band one: channels and ranges. -/
structure Rng where
  sat : SatIn
  c1 : Nat
  r1 : Rat
  l5 : Option (Nat × Rat)

/-- The ranges of a solution's epoch. -/
def Dev.ranges (d : Dev) (r : Nat) (i : SolIn) : List Rng :=
  i.sats.filterMap (fun s =>
    if !d.satUsable s then none
    else (d.solCh r s.cons s.svid false).map (fun c => ⟨s, c, d.rangePs s c,
      if d.bit R.GNSS_CFG 4 then (d.solCh r s.cons s.svid true).map (fun c5 => (c5, d.rangePs s c5)) else none⟩))

/-- The ionosphere-free combination of two bands' values: squares of 154 and 115. -/
def ifComb (x1 x5 : Rat) : Rat := (23716 * x1 - 13225 * x5) / 10491

/-- The L1-band ionospheric delay that two code ranges imply lies outside −2 m to +60 m (check IFREQ). -/
def ifreqBad (x : Rng) : Bool := match x.l5 with
  | none => false
  | some p =>
    let m := (p.2 - x.r1) * 13225 / 10491 * 299792458 / 1000000000000
    decide (m < -2) || decide (60 < m)

/-! ### The Hatch windows (R233) -/

/-- A channel's latched carrier phase, 2^-32 cycle. -/
def Dev.carrPhase (d : Dev) (c : Nat) : Int := d.int (R.GCHc_MEAS_CARR_CYC c) * (2 ^ 32 : Nat) + d.nat (R.GCHc_MEAS_CARR_FRAC c)

/-- An integer reduced to the signed range of 64 bits. -/
def wrap64 (x : Int) : Int := (x + 2 ^ 63) % 2 ^ 64 - 2 ^ 63

/-- What a channel's carrier says of its range's change since an earlier phase: the phase without the IF over the carrier
frequency, ps. -/
def Dev.carrPs (d : Dev) (c : Nat) (old : Int) (since : Nat) : Rat :=
  let samples : Rat := ((d.clk.mono - since : Nat) : Rat) / ((25 * 2 ^ 47 : Nat) : Rat)
  let x : Int := wrap64 (d.carrPhase c - old - roundR (d.ifWord (d.chStream c) * samples))
  (x : Rat) / ((2 ^ 32 : Nat) : Rat) * (-1000000000000) / (carrierHz (d.chSig c) : Nat)

/-- A dual-frequency satellite's window at this epoch: it goes on where both channels have held their lock over the last
second, and restarts otherwise. -/
def Dev.hatchOne (d : Dev) (old : List Hatch) (x : Rng) : Option Hatch := x.l5.map (fun p =>
  let key := satKey x.sat.cons x.sat.svid
  -- the range on the model's own clock
  let raw := ifComb x.r1 p.2 + ((((d.clk.mono : Int) - (d.count 0 : Int)) * 1000 : Int) : Rat) / ((2 ^ 48 : Nat) : Rat)
  let held := decide (1000 ≤ d.nat (R.GCHc_LOCKTIME x.c1)) && decide (1000 ≤ d.nat (R.GCHc_LOCKTIME p.1))
  match (if held then old.find? (fun h => h.sat == key) else none) with
  | none => ⟨key, 1, raw, d.carrPhase x.c1, d.carrPhase p.1, d.clk.mono⟩
  | some h =>
    let n := min 100 (h.n + 1)
    let at_ := h.range + ifComb (d.carrPs x.c1 h.carr1 h.at_) (d.carrPs p.1 h.carr5 h.at_)
    ⟨key, n, at_ + (raw - at_) / (n : Nat), d.carrPhase x.c1, d.carrPhase p.1, d.clk.mono⟩)

/-! ### Rows and fixes (R231, R242) -/

/-- One satellite's row: its group, its value, its variance, its geometry and its L1-band channel. -/
structure SolRow where
  group : Nat
  z : Rat
  var : Rat
  sat : SatIn
  c1 : Nat

/-- QZSS satellites are taken on GPS time (R231). -/
def groupOf (cons : Nat) : Nat := if cons = 3 then 0 else cons

/-- mm per ps, the speed of light. -/
def lightMm : Rat := 299792458 / 1000000000

/-- A component-wise dot product. -/
def dot (a b : Rat × Rat × Rat) : Rat := a.1 * b.1 + a.2.1 * b.2.1 + a.2.2 * b.2.2

/-- What the transit time from the approximate position takes from a range, moved to the held position. -/
def Dev.geoPs (d : Dev) (i : SolIn) (s : SatIn) : Rat :=
  if d.posHeld = 0 then -s.delay
  else
    let mm (reg : Nat) (a : Int) : Rat := ((d.int reg - a : Int) : Rat) * 10
    dot s.los (mm R.GNSS_HPOS_X i.approx.1, mm R.GNSS_HPOS_Y i.approx.2.1, mm R.GNSS_HPOS_Z i.approx.2.2) / lightMm - s.delay

/-- The variance of a channel's code range (R237). -/
def Dev.codeVar (d : Dev) (c : Nat) : Rat :=
  ((Config.codeNoise (d.chSig c) (d.fld (R.GCHc_STAT c) 9 0) + 1 : Nat) : Rat)

/-- The single-frequency row of a satellite, with the broadcast ionospheric model (R233). -/
def Dev.sfRow (d : Dev) (i : SolIn) (x : Rng) : SolRow :=
  ⟨groupOf x.sat.cons, x.r1 - x.sat.iono + d.geoPs i x.sat, d.codeVar x.c1, x.sat, x.c1⟩

/-- The ionosphere-free row of a satellite from its Hatch window (R233). -/
def Dev.ifRow (d : Dev) (i : SolIn) (hs : List Hatch) (x : Rng) : Option SolRow :=
  match x.l5, hs.find? (fun h => h.sat == satKey x.sat.cons x.sat.svid) with
  | some p, some h =>
    let r := h.range + ((((d.count 0 : Int) - (d.clk.mono : Int)) * 1000 : Int) : Rat) / ((2 ^ 48 : Nat) : Rat)
    let v := (23716 * 23716 * d.codeVar x.c1 + 13225 * 13225 * d.codeVar p.1) / (10491 * 10491)
    some ⟨groupOf x.sat.cons, r + d.geoPs i x.sat, v / (h.n : Nat), x.sat, x.c1⟩
  | _, _ => none

/-- The groups with two usable satellites or more (R231). -/
def rowGroups (rows : List SolRow) : List Nat :=
  [0, 1, 2].filter (fun g => decide (2 ≤ (rows.filter (fun x => x.group == g)).length))

/-- The unknowns of a solution over some groups: time, one for each added constellation, and three while position is
solved (R242). -/
def unknowns (groups : List Nat) (solving : Bool) : Nat := groups.length + 3 * b2n solving

/-- A row's regressors: time, the added constellations' offsets, and the position in mm. -/
def SolRow.obs (tsys : Nat) (groups : List Nat) (solving : Bool) (x : SolRow) : Obs :=
  (1 :: ((groups.filter (· != tsys)).map (fun g => if x.group = g then -1 else 0) ++
    (if solving then [-x.sat.los.1 / lightMm, -x.sat.los.2.1 / lightMm, -x.sat.los.2.2 / lightMm] else [])), x.z, 1 / x.var)

/-- A fix: its groups and rows, the estimates and their variances, and what RAIM says: whether it ran and failed, and
whether it excluded a satellite. -/
structure Fix where
  groups : List Nat
  rows : List SolRow
  est : List Rat
  var : List Rat
  raim : Option Bool
  excl : Bool

/-- The rows that enter: those of groups with two satellites. The system time's own group is among them, or nothing ties
the solution to it. -/
def enters (tsys : Nat) (rows : List SolRow) : List SolRow :=
  let gs := rowGroups rows
  if tsys ∈ gs then rows.filter (fun x => decide (x.group ∈ gs)) else []

/-- There are satellites enough for the redundancy of R242. -/
def redundant (tsys : Nat) (solving : Bool) (rows : List SolRow) : Bool :=
  let rs := enters tsys rows
  !rs.isEmpty && decide (unknowns (rowGroups rs) solving + 2 ≤ rs.length)

/-- Least squares over rows: the estimates, the variances and the residual statistic. -/
def solveRows (tsys : Nat) (gs : List Nat) (solving : Bool) (rows : List SolRow) : Option (List Rat × List Rat × Rat) :=
  let ps := rows.map (SolRow.obs tsys gs solving)
  (lsq (unknowns gs solving) ps).map (fun s => (s.1, s.2, residual ps s.1))

/-- The single exclusion that leaves the least residual statistic. -/
def bestExcl (tsys : Nat) (gs : List Nat) (solving : Bool) (rows : List SolRow) :
    Option (List SolRow × List Rat × List Rat × Rat) :=
  (List.range rows.length).foldl (fun best j =>
    let rs := rows.eraseIdx j
    match solveRows tsys gs solving rs, best with
    | none, b => b
    | some s, none => some (rs, s)
    | some s, some b => if s.2.2 < b.2.2.2 then some (rs, s) else some b) none

/-- The fix of some rows, with RAIM (R239, R242): the weighted residual test, and after a single exclusion again. -/
def fixOf (tsys : Nat) (solving : Bool) (rows : List SolRow) : Option Fix :=
  let rs := enters tsys rows
  let gs := rowGroups rs
  let k := unknowns gs solving
  if rs.isEmpty || decide (rs.length < k) then none
  else match solveRows tsys gs solving rs with
    | none => none
    | some (est, var, t) =>
      if rs.length < k + 2 then some ⟨gs, rs, est, var, none, false⟩
      else if t ≤ Config.raimLimit (rs.length - k) then some ⟨gs, rs, est, var, some false, false⟩
      else match bestExcl tsys gs solving rs with
        | some (rs', est', var', t') =>
          if t' ≤ Config.raimLimit (rs'.length - k) then some ⟨gs, rs', est', var', some false, true⟩
          else some ⟨gs, rs, est, var, some true, false⟩
        | none => some ⟨gs, rs, est, var, some true, false⟩

/-! ### The solution -/

/-- A timing solution: kind 0 none, 1 SF, 2 IF; M, ps; the variance of its time, ps²; DRIFT and DRIFT_U, 2^-8 ppt; RAIM;
the satellites that check IFREQ rejects, where it ran; the offsets of GPS, Galileo and BeiDou time; satellites used and
not; the position, 0.01 m, and its uncertainty, mm. -/
structure Sol where
  kind : Nat
  m : Int
  var : Rat
  drift : Int
  driftU : Nat
  raim : Option Bool
  raimExcl : Bool
  ifreq : Option Nat
  iso : List (Option Int)
  nsat : Nat
  nexcl : Nat
  pos : Int × Int × Int
  posUnc : Nat

/-- The frequency of the TIME clock against the system time from a channel's Doppler, ppt, and its weight (R238). -/
def Dev.doppRow (d : Dev) (x : SolRow) : Rat × Rat :=
  let f : Rat := (d.int (R.GCHc_MEAS_DOPP x.c1) : Rat) / 256 * 1000000000000 / (carrierHz (d.chSig x.c1) : Nat)
  (-f - x.sat.rate, 1 / ((Config.doppNoise (d.chSig x.c1) (d.fld (R.GCHc_STAT x.c1) 9 0) + 1 : Nat) : Rat))

/-- The broadcast offset of TSYS from its UTC(k) at the epoch, ps, where it is applied (R231). -/
def Dev.utck (d : Dev) (i : SolIn) : Rat := if d.bit R.GNSS_TCFG 2 then i.utcA0 + i.utcA1 * i.utcT else 0

/-- A solution without a fix: the fields that the spec then gives no value are free (log 67). -/
def Dev.noSol (d : Dev) (ifreq : Option Nat) (nexcl : Nat) : Sol :=
  let w (k : Nat) : Word := Config.freeWord (d.fresh + k)
  ⟨0, (w 0).toInt * (2 ^ 32 : Nat) + (w 1).toNat, 0, (w 2).toInt, (w 3).toNat, none, false, ifreq, [none, none, none], 0, nexcl,
   (0, 0, 0), (w 4).toNat⟩

/-- The solution that a fix gives (R231, R237, R238). -/
def Dev.solOf (d : Dev) (i : SolIn) (kind : Nat) (f : Fix) (ifreq : Option Nat) (nexcl : Nat) : Sol :=
  let added := f.groups.filter (· != d.tsys)
  let ds := f.rows.map d.doppRow
  let w := (ds.map Prod.snd).sum
  let p := f.groups.length
  let x (l : List Rat) (j : Nat) : Rat := l.getD (p + j) 0
  { kind := kind, m := Config.shown (f.est.getD 0 0 + d.utck i), var := f.var.getD 0 0
    drift := Config.shown ((ds.map (fun q => q.1 * q.2)).sum / w * 256), driftU := sqrtUp (36 * 65536 / w)
    raim := f.raim, raimExcl := f.excl, ifreq := ifreq
    iso := [0, 1, 2].map (fun g => if g ∈ added then some (Config.shown (f.est.getD (added.idxOf g + 1) 0)) else none)
    nsat := f.rows.length, nexcl := nexcl + b2n f.excl
    pos := (Config.shown ((i.approx.1 : Rat) + x f.est 0 / 10), Config.shown ((i.approx.2.1 : Rat) + x f.est 1 / 10),
      Config.shown ((i.approx.2.2 : Rat) + x f.est 2 / 10))
    posUnc := sqrtUp (x f.var 0 + x f.var 1 + x f.var 2) }

/-- A solution's epoch (R229 to R242): the fix is ionosphere-free where the satellites that check IFREQ leaves suffice
for the redundancy of R242, single-frequency otherwise; the Hatch windows go with it. -/
def Dev.solve (d : Dev) (r : Nat) (i : SolIn) : Sol × List Hatch :=
  let solving := d.posHeld == 0
  let xs := d.ranges r i
  let hs := xs.filterMap (d.hatchOne (d.solsAt r).hatch)
  let ran := redundant d.tsys solving (xs.filterMap (d.ifRow i hs))
  let good := if ran then xs.filter (fun x => !ifreqBad x) else xs
  let ifreq := if ran then some (xs.length - good.length) else none
  let nexcl := d.gnss.rejected.length + (xs.length - good.length)
  let dual := good.filterMap (d.ifRow i hs)
  if redundant d.tsys solving dual then
    (match fixOf d.tsys solving dual with
     | some f => d.solOf i 2 f ifreq nexcl
     | none => d.noSol ifreq nexcl, hs)
  else
    (match fixOf d.tsys solving (good.map (d.sfRow i)) with
     | some f => d.solOf i 1 f ifreq nexcl
     | none => d.noSol ifreq nexcl, hs)

/-! ### The dual-antenna check (R204, R240, R241) -/

/-- A value reduced to [−0.5, 0.5) cycle. -/
def wrapCycle (x : Rat) : Rat := x - (x + 1 / 2).floor

/-- A lead and follower pair at an integrity epoch: elevation, the phase difference in cycles, and b · e in
wavelengths. -/
structure DaRow where
  sat : Nat
  elev : Int
  diff : Rat
  proj : Rat

/-- The follower of a lead (R204). -/
def Dev.followerOf (d : Dev) (lead : Nat) : Option Nat :=
  channels.find? (fun c => d.chUsed c && d.chFollower c && d.fld (R.GCHc_CFG c) 15 8 == lead)

/-- The pair of a satellite on a band: lead and follower both in SYNC without MINV (R240). -/
def Dev.daRow (d : Dev) (l5 : Bool) (s : DaSat) : Option DaRow :=
  let sig := 2 * s.cons.val + b2n l5
  let lead := channels.find? (fun c => !d.chFollower c && d.chSig c == sig && d.chSvid c == s.svid.val && d.measured d.msCount c)
  lead.bind (fun a => (d.followerOf a).bind (fun f =>
    if d.measured d.msCount f then
      let mm (reg : Nat) : Rat := (d.int reg : Rat)
      let b := dot (mm R.GNSS_BASE_E, mm R.GNSS_BASE_N, mm R.GNSS_BASE_U) s.los
      some ⟨satKey s.cons s.svid, s.elev, (wrap64 (d.carrPhase f - d.carrPhase a) : Rat) / ((2 ^ 32 : Nat) : Rat),
        b * (carrierHz sig : Nat) / 299792458000⟩
    else none))

/-- The pairs of a band against the one at the highest elevation: r_k of R240, and the signature of R241. -/
def daBand (rows : List DaRow) : List (Rat × Rat) :=
  match rows with
  | [] => []
  | x :: xs =>
    let ref := xs.foldl (fun a b => if a.elev < b.elev then b else a) x
    (rows.filter (fun k => k.sat != ref.sat)).map (fun k =>
      (wrapCycle (k.diff - ref.diff - (k.proj - ref.proj)), wrapCycle (-(k.proj - ref.proj))))

/-- The sum of squares. -/
def sumSq (l : List Rat) : Rat := (l.map (fun x => x * x)).sum

/-- The check DANT over both bands (R240, R241): DA_RMS in 1/1024 cycle, rounded up, and whether the residual RMS exceeds
GNSS_DA_THR; none where it does not run. -/
def Dev.dant (d : Dev) (i : IntegIn) : Option (Nat × Bool) :=
  let r1 := i.sats.filterMap (d.daRow false)
  let r5 := i.sats.filterMap (d.daRow true)
  let all := daBand r1 ++ daBand r5
  let n : Rat := (all.length : Nat)
  let thr : Rat := (d.fld R.GNSS_DA_THR 9 0 : Nat)
  let units (f : Rat × Rat → Rat) : Rat := sumSq (all.map f) * 1048576
  if d.solB && decide (5 ≤ ((r1 ++ r5).map (fun x => x.sat)).eraseDups.length) && !all.isEmpty &&
      decide (9 / 4 * thr * thr * n ≤ units Prod.snd) then
    some (sqrtUp (units Prod.fst / n), decide (thr * thr * n < units Prod.fst))
  else none

end Sys2Proof.Machine
end

