-- ==== Sys2Proof/Machine/GnssTiming.lean ====
section
/-! DEFINITION. GNSS timing, integrity and spoofing detection (chapter 08). -/
namespace Sys2Proof.Machine

/-! ### Integrity states (R239, R242, R243) -/

/-- How early a state stands in the order of R243: NOFIX, MONITOR, SPOOFED, PREDICTOR, INCONSISTENT, JAMMED, CAUTION,
GOOD. -/
def integRank (s : Nat) : Nat :=
  match s with
  | 0 => 0
  | 7 => 1
  | 6 => 2
  | 5 => 3
  | 4 => 4
  | 3 => 5
  | 2 => 6
  | _ => 7

/-- The earlier of two states in the order of R243. -/
def worseState (a b : Nat) : Nat := if integRank a ≤ integRank b then a else b

/-- The state that failed checks give (R239), or CAUTION where a required check did not run, or GOOD (R242). -/
def checkState (failed : Nat) (caution : Bool) : Nat :=
  let f (i : Nat) : Bool := failed.testBit i
  if f 3 then 6 else if f 5 then 5 else if f 0 || f 1 || f 2 || f 6 || f 7 then 4 else if f 4 then 3
  else if caution then 2 else 1

/-- Solution B only monitors: BALANCED and CAPACITY modes (R230). -/
def Dev.solMonitor (d : Dev) (r : Nat) : Bool := r == 1 && decide (d.svcMode ≤ 1)
/-- DANT runs only in a window: CAPACITY mode or burst tracking (R239, R247). -/
def Dev.dantWindow (d : Dev) : Bool := d.svcMode == 1 || d.bursting

/-- The streams a solution uses: its antenna's L1 stream, and the L5 one where it is fitted. -/
def Dev.solStreams (d : Dev) (r : Nat) : List Nat := if d.bit R.GNSS_CFG 4 then [2 * r, 2 * r + 1] else [2 * r]

/-- The latest solution has a fix. -/
def Dev.solFix (d : Dev) (r : Nat) : Bool := d.fld (R.GNSS_SOLr_STAT r) 28 27 != 0

/-- Check XANT: both solutions have a fix and differ by more than their uncertainties (R239). -/
def Dev.xant (d : Dev) : Option Bool :=
  if d.solB && d.solFix 0 && d.solFix 1 then
    let ma := d.int64 (R.GNSS_SOLr_M_LO 0) (R.GNSS_SOLr_M_HI 0)
    let mb := d.int64 (R.GNSS_SOLr_M_LO 1) (R.GNSS_SOLr_M_HI 1)
    some (decide (d.nat (R.GNSS_SOLr_U 0) + d.nat (R.GNSS_SOLr_U 1) < (ma - mb).natAbs))
  else none

/-- The tracking firmware runs: on the root PLL, outside its block's reset, and with power (R246). -/
def Dev.trackFw (d : Dev) : Bool := d.gsamp && !d.flt.pfwStopped && !decide (Target.gnss ∈ d.flt.running)

/-- DANT runs at a 100 ms epoch: at every one; in CAPACITY mode only within the follower window, once a second (R239). -/
def Dev.dantNow (d : Dev) : Bool :=
  d.svcMode != 1 || (d.gnss.window && d.inBurst && decide (d.gnss.dantSec ≠ some (cSec (d.count 0))))

/-- One solution's 100 ms epoch: the checks DANT, JAM, NAV and XANT (R239). -/
def integOne (r : Nat) (dant : Option (Nat × Bool)) (d : Dev) : Dev :=
  let jam := (d.solStreams r).any (fun s => d.bit R.GNSS_STAT (28 + s) && d.gnss.jamPrev.testBit s)
  let navFail := decide (2 ≤ d.gnss.navNew.getD 0)
  let x := d.xant
  let ran := 8 * b2n dant.isSome + 16 + 64 * b2n d.gnss.navNew.isSome + 128 * b2n x.isSome
  let failed := 8 * b2n (dant.any Prod.snd) + 16 * b2n jam + 64 * b2n navFail + 128 * b2n (x.getD false)
  let caution := d.bit R.GNSS_TCFG 3 && !d.dantWindow && dant.isNone
  let h := d.solsAt r
  d.setSols r { h with
    worst := worseState (checkState failed caution) h.worst, ran := h.ran ||| ran, failed := h.failed ||| failed
    da := (dant.map Prod.fst).or h.da }

/-- R239: the 100 ms epoch of both solutions; in burst tracking within the window only (R247). -/
def effInteg (a b : IntegIn) (d : Dev) : Dev :=
  if !d.trackFw ∨ (d.bursting ∧ !d.inBurst) then d
  else
    let da := if d.dantNow then d.dant a else none
    let db := if d.dantNow then d.dant b else none
    let d := integOne 0 da d
    let d := if d.solB then integOne 1 db d else d
    d.modGnss (fun g => { g with
      jamPrev := d.fld R.GNSS_STAT 31 28, navNew := none, dantSec := if da.isSome then some (cSec (d.count 0)) else g.dantSec })

/-! ### The solution epoch (R229 to R248) -/

/-- U_REF of R237, ps: KSIG σ_t rounded up, and the terms of position, ionosphere and UTC(k). -/
def Dev.solU (d : Dev) (x : Sol) : Nat :=
  let k : Rat := (d.fld R.GNSS_KSIG 7 0 : Nat) / 16
  sqrtUp (k * k * x.var) + (if d.posHeld = 0 then 0 else d.posPs) + (if x.kind = 1 then d.nat R.GNSS_UIONO else 0) +
    (if d.bit R.GNSS_TCFG 2 then d.nat R.GNSS_UUTCK else 0)

/-- Check ISYS for one constellation: off its broadcast value by more than GNSS_ISO_TOL, or moved by more than 5 ns. -/
def Dev.isoBad (d : Dev) (est cast prev : Option Int) : Bool := match est with
  | none => false
  | some e => cast.any (fun b => decide (d.fld R.GNSS_ISO_TOL 15 0 * 1000 < (e - b).natAbs)) ||
      prev.any (fun p => decide (5000 < (e - p).natAbs))

/-- x = M − S of TB0 in ps (check PRED). -/
def Dev.solX (d : Dev) (m : Int) : Int := m - (d.tbAt 0).steer * 1000 / (2 ^ 48 : Nat)

/-- Check PRED against the fix of 10 s before: whether it failed, where it ran (R239). -/
def Dev.predCheck (d : Dev) (h : SolHid) (x : Sol) : Option Bool :=
  match h.hist.find? (fun p => p.1 + 10 == cSec (d.count 0)) with
  | some (_, old, u) =>
    if d.bit (R.SRV_Mm_STAT d.modelInUse) 31 ∧ x.kind ≠ 0 then
      let lim : Rat := (((d.ebAt 0).y : Rat) / 65536 + (d.fld R.GNSS_PTOL 15 0 : Nat)) * 10 + ((d.solU x + u : Nat) : Rat)
      some (decide (lim < (((d.solX x.m - old).natAbs : Nat) : Rat)))
    else none
  | none => none

/-- The checks of the 1 s epoch: which ran, which failed (R239). -/
def Dev.solChecks (d : Dev) (h : SolHid) (i : SolIn) (x : Sol) : Nat × Nat :=
  let p := d.predCheck h x
  let isys := x.iso.any Option.isSome
  let bad := (List.range 3).any (fun g => d.isoBad (x.iso.getD g none) (i.iso.getD g none) (h.iso.getD g none))
  (b2n x.raim.isSome + 2 * b2n x.ifreq.isSome + 4 * b2n isys + 32 * b2n p.isSome,
   b2n (x.raim == some true) + 2 * b2n (decide (2 ≤ x.ifreq.getD 0)) + 4 * b2n bad + 32 * b2n (p == some true))

/-- The reported state and the hold of R243: an epoch's raw state, and the all-GOOD seconds that end the hold. -/
def Dev.reported (d : Dev) (h : SolHid) (raw : Nat) : Nat × SolHid :=
  if raw = 0 then (0, { h with held := h.held.or (some 0), need := max h.need 10, good := 0 })
  else if raw = 7 then (7, h)
  else if raw = 1 then
    match h.held with
    | none => (1, h)
    | some s => if h.need ≤ h.good + 1 then (1, { h with held := none, need := 0, good := 0 }) else (s, { h with good := h.good + 1 })
  else
    let w := match h.held with
      | some 0 => raw
      | some s => worseState raw s
      | none => raw
    let need := if raw = 5 ∨ raw = 6 then d.fld R.GNSS_INTEG_HOLD 15 0 else 10
    (w, { h with held := some w, need := max h.need need, good := 0 })

/-- What an announced leap gives the message: L of R45 as TB0 seconds, and the LEAP byte (R248). -/
def Dev.solLeap (d : Dev) (i : SolIn) : Nat × Nat :=
  match i.leap with
  | none => (0, if i.taiUtc.isSome then 0x80 else 0)
  | some (u, del) =>
    let l : Int := (u : Int) + (if d.fld (R.TBn_CFG 0) 1 0 = 1 then d.int (R.TBn_LEAPCNT 0) else i.taiUtc.getD 0)
    ((l % (2 ^ 32 : Nat)).toNat, 0x80 + (if del then 2 else 1))

/-- The 64-byte solution message (R248). -/
def Dev.solMessage (d : Dev) (r seq st u ran failed : Nat) (h : SolHid) (i : SolIn) (x : Sol) : List Byte :=
  let iso (g : Nat) : List Byte := match x.iso.getD g none with
    | some e => beInt 4 e
    | none => be 4 0x80000000
  let posUnc := if d.posHeld = 0 then x.posUnc else d.nat R.GNSS_HPOS_UNC
  -- without valid navigation data the spec gives TAIUTC no value: free (log 67)
  let taiUtc := i.taiUtc.getD (Config.freeWord (d.fresh + 5)).toInt
  be 1 1 ++ be 1 r ++ be 1 st ++
  be 1 (x.kind * 64 + d.posHeld * 16 + b2n (d.bit R.GNSS_TCFG 2) * 8 + d.clkSrc * 2 + b2n d.bursting) ++
  be 6 (cSec (d.count 0)) ++ be 2 seq ++ beInt 8 x.m ++ be 4 u ++ beInt 4 x.drift ++ be 4 x.driftU ++ be 2 ran ++
  be 2 failed ++ be 1 x.nsat ++ be 1 x.nexcl ++ be 2 (h.da.getD 0xFFFF) ++ iso 1 ++ iso 2 ++
  beInt 2 taiUtc ++ be 1 (d.solLeap i).2 ++ be 1 0 ++ be 4 (d.solLeap i).1 ++ be 4 posUnc ++ zeros 4

/-- The solution's registers (R250). -/
def Dev.solRegs (d : Dev) (r seq st u ran failed : Nat) (h : SolHid) (i : Sol) : Dev :=
  let d := d.wrNat (R.GNSS_SOLr_STAT r) (st * 2 ^ 29 + i.kind * 2 ^ 27 + d.posHeld * 2 ^ 25 + seq)
  let d := (d.wrInt64 (R.GNSS_SOLr_M_LO r) (R.GNSS_SOLr_M_HI r) i.m).wrNat (R.GNSS_SOLr_U r) u
  let d := (d.wrFit (R.GNSS_SOLr_DRIFT r) i.drift).wrNat (R.GNSS_SOLr_CHK r) (failed * 65536 + ran)
  d.wrNat (R.GNSS_SOLr_DA r) (h.da.getD 0xFFFF)

/-- R244: a change of the reported state is counted; an entry into SPOOFED or PREDICTOR is counted, raised and
recorded. -/
def Dev.integChange (d : Dev) (r old new : Nat) (msg : List Byte) : Dev :=
  if old = new then d
  else
    let d := d.bump R.GNSS_INTEG_CHG
    if new = 5 ∨ new = 6 then ((d.bump R.GNSS_SPOOF).raise 19 r).record 0x0005 0x09 msg else d

/-- The sample against one time base, formed by R231 and R550. -/
def Dev.solSample (d : Dev) (r n st : Nat) (i : SolIn) (x : Sol) (u : Nat) : Dev :=
  if !d.refServes r n then d
  else
    let (m, d) := d.offsetFor r n (x.m * 65536) i.taiUtc
    d.deliver r n ⟨m, u, d.nat (R.EB_RPATH r), 80, d.count 0, (d.tbAt n).steer, d.clkSrc, decide (st = 1)⟩

/-- The selector's view of a message (R124, R130, R229). -/
def Dev.solRef (d : Dev) (r st : Nat) (i : SolIn) (x : Sol) (u : Nat) : Dev :=
  let fix := decide (x.kind ≠ 0)
  let level := if st = 0 then (d.refsAt r).level else if st = 1 then 2 else 15
  let d := (d.refMessage r 3 st level).modRef r (fun h => { h with
    los := decide (st = 0), sigAt := d.nowNs, taiUtc := if fix then i.taiUtc else h.taiUtc, leap := if fix then i.leap else h.leap })
  if fix then forRange 8 (fun n d => d.solSample r n st i x u) d else d

/-- QERR of one PPS output (R249), ps, where it applies. -/
def Dev.qerr (d : Dev) (r m : Nat) (i : SolIn) (x : Sol) : Int :=
  let h := d.ppsAt m
  let tb := wfld h.cfg 3 1
  if !wbit h.cfg 0 || wfld h.cfg 5 4 != 0 || d.fld (R.TBn_CFG tb) 1 0 == 2 || !d.refServes r tb then -(2 ^ 31)
  else
    let target : Int := ((cSec (d.count tb) + 1) * 1000000000000 : Nat) + h.ofs.toInt - signed 16 h.dly.toNat
    let e := target * (2 ^ 48 : Nat)
    let place : Rat := (((d.placeOn tb (48 + m) e).1 - e : Int) : Rat) / (2 ^ 48 : Nat)
    let mn : Rat := (((d.offsetFor r tb (x.m * 65536) i.taiUtc).1 : Rat)) / 65536
    Config.shown (place + mn + (x.drift : Rat) / 256 + d.predicted tb)

/-- R249: the 48-byte PPS report. -/
def Dev.ppsReport (d : Dev) (r seq : Nat) (i : SolIn) (x : Sol) : List Byte :=
  be 1 2 ++ be 1 r ++ be 2 seq ++ be 6 (cSec (d.count 0) + 1) ++ zeros 2 ++
  ((List.range 8).map (fun m => beInt 4 (d.qerr r m i x))).flatten ++ zeros 4

/-- The square of a position, 0.01 m. -/
def posSq (p : Int × Int × Int) : Int := p.1 * p.1 + p.2.1 * p.2.1 + p.2.2 * p.2.2

/-- The end of a survey of some epochs (R234): the mean position is held, with six times the standard error of the mean
and 0.10 m, in mm. -/
def Dev.surveyEnd (d : Dev) (k : Nat) : Dev :=
  let s := d.gnss.svySum
  let mean (x : Int) : Int := Config.shown ((x : Rat) / (k : Nat))
  let spread : Rat := (d.gnss.svySq : Rat) - (posSq s : Rat) / (k : Nat)
  let d := ((d.wrInt R.GNSS_HPOS_X (mean s.1)).wrInt R.GNSS_HPOS_Y (mean s.2.1)).wrInt R.GNSS_HPOS_Z (mean s.2.2)
  (d.wrNat R.GNSS_HPOS_UNC (sqrtUp (3600 * spread / (k * (k - 1) : Nat)) + 100)).setFld R.GNSS_POSSTAT 31 30 1

/-- R234: a survey counts GOOD IF epochs and sums their positions; with POSMODE 0 it holds the mean when it ends. -/
def Dev.survey (d : Dev) (raw : Nat) (x : Sol) : Dev :=
  if d.fld R.GNSS_TCFG 5 4 = 1 ∨ d.posHeld ≠ 0 ∨ raw ≠ 1 ∨ x.kind ≠ 2 then d
  else
    let k := d.gnss.svyEpochs + 1
    let d := d.modGnss (fun g => { g with
      svyEpochs := k, svySq := g.svySq + posSq x.pos
      svySum := (g.svySum.1 + x.pos.1, g.svySum.2.1 + x.pos.2.1, g.svySum.2.2 + x.pos.2.2) })
    let d := d.setFld R.GNSS_POSSTAT 13 0 (min (k / 60) 16383)
    if d.fld R.GNSS_TCFG 5 4 = 0 ∧ d.fld R.GNSS_SVYTIME 13 0 * 60 ≤ k then d.surveyEnd k else d

/-- R234: a RESURVEY takes effect at this epoch. -/
def Dev.takeResurvey (d : Dev) : Dev :=
  if d.gnss.resurvey then
    (d.modGnss (fun g => { g with resurvey := false, svyEpochs := 0, svySum := (0, 0, 0), svySq := 0 })).wr R.GNSS_POSSTAT 0
  else d

/-- A solution of this epoch with its checks: the raw state, RAN and FAILED (R239, R242, R243). -/
def Dev.solState (d : Dev) (r : Nat) (i : SolIn) (x : Sol) : Nat × Nat × Nat :=
  let h := d.solsAt r
  let c := d.solChecks h i x
  let caution := x.raim.isNone || (d.bit R.GNSS_TCFG 3 && d.dantWindow && !h.ran.testBit 3)
  let raw := if x.kind = 0 then 0 else if d.solMonitor r then 7 else worseState (checkState c.2 caution) h.worst
  (raw, h.ran ||| c.1, h.failed ||| c.2)

/-- The message of an epoch with what it moves: registers, ring, counts, the selector (R229, R244, R248, R249). -/
def Dev.solPublish (d : Dev) (r st u ran failed : Nat) (h : SolHid) (i : SolIn) (x : Sol) : Dev :=
  let seq := (d.fld (R.GNSS_SOLr_STAT r) 15 0 + 1) % 65536
  let old := d.fld (R.GNSS_SOLr_STAT r) 31 29
  let msg := d.solMessage r seq st u ran failed h i x
  let d := d.solRegs r seq st u ran failed h x
  let d := if x.raimExcl then d.bump R.GNSS_RAIM_EXCL else d
  let d := (d.ringOffer 0 0x01 msg none).integChange r old st msg
  let d := if x.kind = 0 then d else d.ringOffer 0 0x02 (d.ppsReport r seq i x) none
  d.solRef r st i x u

/-- One solution's epoch (R229 to R249). -/
def solEpoch (r : Nat) (i : SolIn) (d : Dev) : Dev :=
  let h := d.solsAt r
  let s := d.solve r i
  let x := s.1
  let q := d.solState r i x
  let rep := d.reported h q.1
  let u := if x.kind = 0 then 0xFFFFFFFF else min (d.solU x) 0xFFFFFFFE
  let hist := if x.kind = 0 then h.hist else (cSec (d.count 0), d.solX x.m, u) :: h.hist
  let d := d.setSols r { rep.2 with
    worst := 1, ran := 0, failed := 0, da := none, hist := hist.take 10, iso := x.iso, hatch := s.2 }
  let d := d.solPublish r rep.1 u q.2.1 q.2.2 h i x
  -- past the free values of an epoch
  let d := { d with fresh := d.fresh + 6 }
  if r = 0 then
    let d := d.modGnss (fun g => { g with elev := i.sats.foldl (fun m s => Map.put m (fun _ => -90000) (satKey s.cons s.svid) s.elev) g.elev })
    let d := d.survey q.1 x
    if rep.1 = 1 then d.startGnss (x.m * 65536) (u + d.nat (R.EB_RPATH 0) + 80) x.drift x.driftU else d
  else d

/-- R229, R230, R246: the epoch at a whole second of TB0, while the tracking firmware runs; none in LO or RC bypass. -/
def effSolEpoch (a b : SolIn) (d : Dev) : Dev :=
  if !d.trackFw then d
  else
    let d := solEpoch 0 a d.takeResurvey
    if d.solB then solEpoch 1 b d else d

/-- R234: RESURVEY, ignored with POSMODE 1. -/
def effResurvey (p : Port) (v : Word) (d : Dev) : Dev :=
  d.asCust p (fun d =>
    if wbit v 0 ∧ d.fld R.GNSS_TCFG 5 4 ≠ 1 then d.modGnss (fun g => { g with resurvey := true }) else d)

def effSolLatch (p : Port) (r : Nat) (d : Dev) : Dev :=
  (d.latchRegs p [R.GNSS_SOLr_STAT r, R.GNSS_SOLr_M_LO r, R.GNSS_SOLr_M_HI r, R.GNSS_SOLr_U r, R.GNSS_SOLr_DRIFT r,
    R.GNSS_SOLr_CHK r, R.GNSS_SOLr_DA r]).emit (.readData p (d.rd (R.GNSS_SOLr_STAT r)))

/-! ### Meanings -/

def execGnssSolutionEpoch (a b : SolIn) (s : State) : Result := s.on (effSolEpoch a b)
def execIntegrityEpoch (a b : IntegIn) (s : State) : Result := s.on (effInteg a b)
def execGnssResurvey (p : Port) (v : Word) (s : State) : Result := s.on (effResurvey p v)
def execGnssSolLatchRead (p : Port) (r : Fin 2) (s : State) : Result := s.on (fun d => d.asRead p (effSolLatch p r))

end Sys2Proof.Machine
end

