-- ==== Sys2Proof/Machine/Ptp.lean ====
section
/-! DEFINITION. PTP messages on their way out (chapter 12): what a master announces, headers and TLVs, destinations, and
the sending of a message. -/
namespace Sys2Proof.Machine

/-! ### Identity and settings -/

/-- clockIdentity of an instance. -/
def Dev.clkId (d : Dev) (i : Nat) : List Byte := be 4 (d.nat (R.PTPi_CLKID_HI i)) ++ be 4 (d.nat (R.PTPi_CLKID_LO i))
/-- portIdentity of a port of an instance. -/
def Dev.portId (d : Dev) (i p : Nat) : List Byte := d.clkId i ++ be 2 (p + 1)
/-- UNICAST. -/
def Dev.ptpUnicast (d : Dev) (i : Nat) : Bool := d.bit (R.PTPi_CFG i) 23
/-- ONESTEP. -/
def Dev.oneStep (d : Dev) (i : Nat) : Bool := d.bit (R.PTPi_CFG i) 22
/-- AUTH of PTPi_SEC. -/
def Dev.ptpAuth (d : Dev) (i : Nat) : Bool := d.bit (R.PTPi_SEC i) 31
/-- The alternate BMCA is in use (R337). -/
def Dev.altBmca (d : Dev) (i : Nat) : Bool := d.ptpProfile i == 2 || d.ptpProfile i == 3
/-- logAnnounceInterval, logSyncInterval and the log interval of delay requests (PTPi_INTV). -/
def Dev.logAnn (d : Dev) (i : Nat) : Int := signed 8 (d.fld (R.PTPi_INTV i) 31 24)
def Dev.logSync (d : Dev) (i : Nat) : Int := signed 8 (d.fld (R.PTPi_INTV i) 23 16)
def Dev.logReq (d : Dev) (i : Nat) : Int := signed 8 (d.fld (R.PTPi_INTV i) 15 8)
/-- The client slots of an instance (R123). -/
def Dev.slotsOf (d : Dev) (i : Nat) : List Nat :=
  [18, 19, 20, 21, 22, 23].filter (fun r => d.refUse r != 0 && d.fld (R.REFr_CFG r) 6 4 == i)
/-- Change an instance's hidden state. -/
def Dev.modPtpi (d : Dev) (i : Nat) (f : PtpInstHid → PtpInstHid) : Dev := d.setPtpi i (f (d.ptpiAt i))

/-- The port may send what a master sends (R345, R346, R411). -/
def Dev.mayMaster (d : Dev) (i p : Nat) : Bool := d.ptpOn i p && d.ptpState i p == 6 && d.owns
/-- The port takes part in PTP: none of INITIALIZING, FAULTY, DISABLED. -/
def Dev.ptpLive (d : Dev) (i p : Nat) : Bool := d.ptpOn i p && decide (4 ≤ d.ptpState i p)
/-- The port is FAULTY for its instance's unusable SA alone, so that what it would send is suppressed and counted (R360). -/
def Dev.saFaulty (d : Dev) (i p : Nat) : Bool := d.bit (R.PTPi_STAT i) 5 && d.ptpState i p == 2 && d.ptpUp i p
/-- What a master's port sends, or would send but for its SA; a port that is not master-only has no role while FAULTY. -/
def Dev.masterDue (d : Dev) (i p : Nat) : Bool :=
  d.mayMaster i p || (d.saFaulty i p && d.ptpMasterOnly i p && d.owns)
/-- The port takes part in PTP, or would but for its SA. -/
def Dev.ptpDue (d : Dev) (i p : Nat) : Bool := d.ptpLive i p || d.saFaulty i p

/-! ### Quality (R339 to R342) -/

/-- The parent's latest Announce. -/
def Dev.parentMsg (d : Dev) (i : Nat) : Option (List Byte) := match (d.ptpiAt i).parent with
  | some (p, id) => ((d.ptppAt (8 * i + p)).foreign.find? (fun f => f.id == id)).map (·.msg)
  | none => none

/-- Pass-through applies (R340). -/
def Dev.ptpPass (d : Dev) (i : Nat) : Bool :=
  d.ptpEn i && d.bit (R.PTPi_CFG i) 19 && d.ptpRole i == 2 && d.isSet (d.ptpTb i) && d.ebState (d.ptpTb i) == 1 &&
  decide (d.selRef (d.ptpTb i) ∈ d.slotsOf i) && (d.parentMsg i).isSome

/-- clockClass of the instance's own quality (R339). -/
def Dev.ownClass (d : Dev) (i : Nat) : Nat :=
  let n := d.ptpTb i
  let arb := decide (d.fld (R.TBn_CFG n) 1 0 = 2)
  let prev := d.fld (R.REF_TBn_STAT n) 9 5
  let g := d.altBmca i
  let slot := g && decide (18 ≤ prev ∧ prev ≤ 23)
  if !d.isSet n then 248
  else match d.ebState n with
    | 1 => if arb && !g then 13 else 6
    | 2 => if slot then 135 else if arb && !g then 14 else 7
    | 3 => if slot then 165 else if g then 140 + 10 * d.fld (R.PTPi_PROF i) 27 26 else if arb then 58 else 52
    | _ => 248

/-- The lowest clockAccuracy code of an instance: 0x20 in 2008 interoperation, MINOR 0 (R115, R361). -/
def Dev.accLow (d : Dev) (i : Nat) : Nat := if d.bit (R.PTPi_CFG i) 21 then 0x17 else 0x20

/-- The three quality bytes when they are fixed rather than inserted: FIXQ, or an unset time base (R339, R342). -/
def Dev.fixedQual (d : Dev) (i : Nat) : Option (List Byte) :=
  let n := d.ptpTb i
  if !d.isSet n then some [0xFE, 0xFF, 0xFF]
  else if d.bit (R.PTPi_PROF i) 28 then
    some (if d.ebState n = 1 then be 1 (d.fld (R.PTPi_FIXQ i) 7 0) ++ be 2 (d.fld (R.PTPi_FIXQ i) 31 16) else [0xFE, 0xFF, 0xFF])
  else none

/-- timeSource (R341). -/
def Dev.timeSource (d : Dev) (n : Nat) : Nat :=
  let r := d.selRef n
  if r ≤ 1 then 0x20
  else if r = 16 then (if d.refPhase 16 then 0x10 else 0xA0)
  else if 18 ≤ r ∧ r ≤ 23 then 0x40
  else if r = 14 ∨ r = 15 then 0x39
  else if 10 ≤ r ∧ r ≤ 13 then 0x90
  else if r = 17 then (match d.mateTb n with
    | some b => beAt b 2 1
    | none => 0xA0)
  else 0xA0

/-- The two leap flags (R341): bit 0 leap61, bit 1 leap59. -/
def Dev.leapFlags (d : Dev) : Nat :=
  match (List.range 8).find? (fun n => d.bit (R.TBn_CFG n) 4 && d.fld (R.TBn_CFG n) 1 0 == 1) with
  | none => 0
  | some n => match (d.tbAt n).leap with
    | some l =>
      if d.count n < l.at_ ∧ l.at_ ≤ d.count n + 43200 * secUnit then (if l.del then 2 else 1) else 0
    | none => 0

/-- The second flag byte of an Announce (R341). -/
def Dev.annFlags (d : Dev) (i : Nat) : Nat :=
  let n := d.ptpTb i
  let good := d.isSet n && (d.ebState n == 1 || d.ebState n == 2)
  let freq := good || d.bit (R.REF_TBn_STAT n) 12
  d.leapFlags + 4 * b2n (d.bit R.REF_TAIUTC 31) + 8 * b2n (d.fld (R.TBn_CFG n) 1 0 == 0) + 16 * b2n good + 32 * b2n freq

/-- Show PASS, UNSET and OWN of an instance (R340, R342, R346). -/
def ptpShow (i : Nat) (d : Dev) : Dev :=
  ((d.setBit (R.PTPi_STAT i) 6 (d.ptpPass i)).setBit (R.PTPi_STAT i) 1 (!d.isSet (d.ptpTb i))).setBit (R.PTPi_STAT i) 0
    (d.ptpEn i && d.owns)

/-- Show them for every instance, with the ports' states. -/
def ptpShowAll (d : Dev) : Dev := forRange 8 ptpShow (ptpRefresh d)

/-! ### Messages -/

/-- controlField of a messageType (IEEE 1588). PRESUMED (log 34). -/
def controlOf (typ : Nat) : Nat := match typ with
  | 0 => 0
  | 1 => 1
  | 8 => 2
  | 9 => 3
  | _ => 5

/-- The header of a message (R335, R336, IEEE 1588-2019); its length is set when it is sent. -/
def Dev.ptpHead (d : Dev) (i p typ flags : Nat) (corr : Int) (seq : Nat) (log : Int) : List Byte :=
  be 1 (d.fld (R.PTPi_PROF i) 15 12 * 16 + typ) ++ be 1 (d.fld (R.PTPi_CFG i) 21 21 * 16 + 2) ++ zeros 2 ++
  be 1 (d.fld (R.PTPi_PROF i) 23 16) ++ be 1 (d.fld (R.PTPi_PROF i) 7 0) ++ be 2 flags ++ beInt 8 corr ++ zeros 4 ++
  d.portId i p ++ be 2 seq ++ be 1 (controlOf typ) ++ beInt 1 log

/-- unicastFlag and twoStepFlag. -/
def uniFlag (u : Bool) : Nat := 0x0400 * b2n u
def twoStepFlag : Nat := 0x0200

/-- A timestamp field of an instant in 2^-16 ns. -/
def ptpStamp (t : Nat) : List Byte := be 6 (sec16 t) ++ be 4 (ns16 t)
/-- The instant a timestamp field gives, 2^-16 ns. -/
def stampAt (m : List Byte) (o : Nat) : Int := ((beAt m o 6 * 1000000000 + beAt m (o + 6) 4) * 2 ^ 16 : Nat)
/-- correctionField, 2^-16 ns. -/
def corrOf (m : List Byte) : Int := signed 64 (beAt m 8 8)
/-- sourcePortIdentity and sequenceId. -/
def srcId (m : List Byte) : List Byte := slice m 20 10
def seqOf (m : List Byte) : Nat := beAt m 30 2

/-- The bound TLV (R361), with a bound or room for one. -/
def Dev.boundTlv (d : Dev) (i : Nat) (be_ : Nat) (launch : Bool) : List Byte :=
  be 2 3 ++ be 2 18 ++ be 3 (d.fld R.PTP_BTLV_ORG 23 0) ++ be 3 1 ++ be 8 be_ ++ be 1 (d.ebState (d.ptpTb i)) ++
  be 1 (d.clkSrc * 4 + b2n launch) ++ zeros 2

/-- The TLV of IEEE C37.238-2017, with room for totalTimeInaccuracy (R343). Its layout is PRESUMED (log 34). -/
def Dev.c37Tlv (d : Dev) (i : Nat) : List Byte :=
  be 2 3 ++ be 2 18 ++ [0x1C, 0x12, 0x9D, 0, 0, 2] ++ be 2 (d.fld (R.PTPi_C37 i) 15 0) ++ zeros 10

/-! ### Destinations (R337) -/

/-- The group an instance sends to; peer-delay messages have their own. -/
def Dev.groupDest (d : Dev) (i : Nat) (pdelay : Bool) : PtpDest := match d.ptpTransport i with
  | 0 => ⟨if pdelay || d.bit (R.PTPi_CFG i) 18 then [0x01, 0x80, 0xC2, 0, 0, 0x0E] else [0x01, 0x1B, 0x19, 0, 0, 0], [], []⟩
  | 1 => if pdelay then ⟨[0x01, 0, 0x5E, 0, 0, 0x6B], ip4Pdelay, []⟩ else ⟨[0x01, 0, 0x5E, 0, 0x01, 0x81], ip4Ptp, []⟩
  | _ => if pdelay then ⟨mac6 ip6Pdelay, ip6Pdelay, []⟩ else ⟨mac6 ip6Ptp, ip6Ptp, []⟩

/-- An address of R356 as the transport uses it. -/
def ipOf (transport : Nat) (a : List Byte) : List Byte := if transport = 1 then a.drop 12 else if transport = 2 then a else []

/-- Back to the sender of a message. -/
def Dev.replyDest (d : Dev) (m : PtpIn) : PtpDest := ⟨m.srcMac, ipOf (d.ptpTransport m.inst) m.srcIp, m.tags⟩

/-- The address a port sends PTP from over UDP: the lowest valid one of PE_IP4 or PE_IP6 on the port (DESIGN CHOICE, log 37); with
none, free bytes. -/
def Dev.ptpSrcIp (d : Dev) (p : Nat) (v6 : Bool) : List Byte × Dev :=
  if v6 then match (List.range 16).findSome? (d.ip6On p) with
    | some a => (a, d)
    | none => d.freeBytes 16
  else match (List.range 16).find? (fun i => d.bit (R.PE_IP4M i) 31 && d.bit (R.PE_IP4M i) p) with
    | some i => (be 4 (d.nat (R.PE_IP4 i)), d)
    | none => d.freeBytes 4

/-! ### Sending -/

/-- A message to send; insertion offsets count from the message's first byte. -/
structure PtpOut where
  inst : Nat
  port : Nat
  dest : PtpDest
  msg : List Byte
  ins : List Ins := []
  launch : Bool := false
  twoStep : Option Nat := none
  slot : Bool := false
  /-- a master's message, which leaves from PAIR_VMAC on a service port (R411) -/
  master : Bool := true
deriving DecidableEq, Repr

/-- The AUTHENTICATION TLV with room for its ICV (R358). -/
def Dev.authTlv (d : Dev) (sa : Nat) : List Byte :=
  be 2 0x8000 ++ be 2 22 ++ be 1 (d.fld (R.PTP_SAs_CFG sa) 23 16) ++ [0] ++ be 4 (d.nat (R.PTP_SAs_KEYID sa)) ++ zeros 16

/-- Put an Ethernet or UDP frame around a message: its bytes, the message's offset, the UDP checksum's offset. A frame
over UDP leaves two bytes behind the message on a port whose checksum method is TRAIL (R84). Its TTL and traffic class
are free. -/
def Dev.ptpFrame (d : Dev) (o : PtpOut) (m : List Byte) : (List Byte × Nat × Nat) × Dev :=
  let smac := if o.master then d.svcMac o.port else d.portMac o.port
  if o.dest.ip = [] then
    let f := o.dest.mac ++ smac ++ o.dest.tags ++ be 2 0x88F7 ++ m
    ((f ++ zeros (60 - f.length), 14 + o.dest.tags.length, 0), d)
  else
    let event := decide (beAt m 0 1 % 16 ≤ 3)
    let (src, d) := d.ptpSrcIp o.port (decide (o.dest.ip.length = 16))
    let (x, d) := d.freeBytes 2
    let udp := if event then 319 else 320
    let pl := if d.fld (R.TSUn_CFG o.port) 1 0 = 2 then m ++ zeros 2 else m
    let (f, d) := d.udpFrame o.dest.mac smac o.dest.tags src o.dest.ip udp udp (beAt x 0 1) (beAt x 1 1) pl
    let off := udpOff o.dest.tags src
    ((f, off, off - 2), d)

/-- Send a message: under the instance's SA where AUTH is set, or not at all while that SA is unusable (R358 to R360). -/
def Dev.sendPtp (d : Dev) (o : PtpOut) : Dev :=
  if d.bit (R.PTPi_STAT o.inst) 5 then d.bump (R.PTPi_TXSUPP o.inst)
  else
    let sa := d.fld (R.PTPi_TXSA o.inst) 4 0
    let auth := d.ptpAuth o.inst
    let m := if auth then o.msg ++ d.authTlv sa else o.msg
    let m := patch m 2 (be 2 m.length)
    let typ := beAt m 0 1 % 16
    let ((f, off, ck), d) := d.ptpFrame o m
    d.sendFrame
      { port := o.port, cls := if typ ≤ 3 then d.fld R.PE_CLASSMAP 2 0 else d.fld R.PE_CLASSMAP 5 3
        bytes := f, tb := d.ptpTb o.inst
        ins := o.ins.map (fun x => { x with off := x.off + off, off2 := x.off2 + off })
        cksum := d.fld (R.TSUn_CFG o.port) 1 0, ckOff := ck, twoStep := o.twoStep, wantLaunch := o.launch, slot := o.slot
        src := .ptp o.inst typ (seqOf m) }
      (if auth then some (sa, off) else none)

/-- A Signaling message to a peer (R352 to R355). -/
def Dev.sendSignaling (d : Dev) (i p : Nat) (dest : PtpDest) (target tlvs : List Byte) (master : Bool) : Dev :=
  let seq := (d.ptppAt (8 * i + p)).sigSeq
  let d := d.modPtpp i p (fun h => { h with sigSeq := (seq + 1) % 65536 })
  d.sendPtp { inst := i, port := p, dest := dest, master := master
              msg := d.ptpHead i p 0xC (uniFlag true) 0 seq 0x7F ++ target ++ tlvs }

/-- Take the oldest message of the instances when it has one of some types. -/
def Dev.ptpTake (d : Dev) (typ : Nat) : Option (PtpIn × Dev) := match d.pe.ptp with
  | m :: rest => if beAt m.msg 0 1 % 16 = typ then some (m, { d with pe := { d.pe with ptp := rest } }) else none
  | [] => none

end Sys2Proof.Machine
end

