-- ==== Sys2Proof/Machine/PtpUnicast.lean ====
section
/-! DEFINITION. Unicast sessions (R352 to R357): the session table in its registers, requests, grants, renewals and
cancels, as a master and as a client. -/
namespace Sys2Proof.Machine

/-! ### The table (R356) -/

/-- Bytes [o, o+n) of a session's entry. -/
def Dev.sessBytes (d : Dev) (x o n : Nat) : List Byte :=
  slice ((List.range ((o + n + 3) / 4 - o / 4)).flatMap (fun w => be 4 (d.nat (R.PTP_SESS x (o / 4 + w))))) (o % 4) n
/-- A number in a session's entry. -/
def Dev.sess (d : Dev) (x o n : Nat) : Nat := ofBe (d.sessBytes x o n)
/-- Write one byte of an entry. -/
def Dev.setSessByte (d : Dev) (x o : Nat) (b : Byte) : Dev :=
  d.setFld (R.PTP_SESS x (o / 4)) (31 - 8 * (o % 4)) (24 - 8 * (o % 4)) b.toNat
/-- Write bytes from offset o on. -/
def Dev.setSess (d : Dev) (x o : Nat) (bs : List Byte) : Dev :=
  (bs.zip (List.range bs.length)).foldl (fun d p => d.setSessByte x (o + p.2) p.1) d

/-- STATE: 0 free, 1 active, 2 requesting, 3 cancelling. -/
def Dev.sessState (d : Dev) (x : Nat) : Nat := d.sess x 0 1
/-- Instance and port of a session. -/
def Dev.sessInst (d : Dev) (x : Nat) : Nat := d.sess x 1 1 / 32
def Dev.sessPort (d : Dev) (x : Nat) : Nat := d.sess x 1 1 % 8
/-- CLIENT. -/
def Dev.sessClient (d : Dev) (x : Nat) : Bool := decide (128 ≤ d.sess x 2 1)
/-- Kinds held, one bit each: 0 Announce, 1 Sync, 2 Delay_Resp. -/
def Dev.sessKinds (d : Dev) (x : Nat) : Nat := d.sess x 2 1 % 8
/-- A session holds a kind. -/
def Dev.sessHolds (d : Dev) (x k : Nat) : Bool := (d.sessKinds x).testBit k
/-- The TB0 second, modulo 2^32. -/
def Dev.sec32 (d : Dev) : Nat := cSec (d.count 0) % 2 ^ 32
/-- An end second has been reached. -/
def Dev.endReached (d : Dev) (t : Nat) : Bool := decide (0 ≤ signed 32 (d.sec32 + 2 ^ 32 - t))
/-- Replace the kinds held. -/
def Dev.setKinds (d : Dev) (x ks : Nat) : Dev := d.setSess x 2 (be 1 (d.sess x 2 1 / 8 * 8 + ks % 8))
/-- A granted log interval. -/
def Dev.sessLog (d : Dev) (x k : Nat) : Int := signed 8 (d.sess x (38 + k) 1)
/-- The TB0 second, modulo 2^32, at which a grant ends. -/
def Dev.sessEnd (d : Dev) (x k : Nat) : Nat := d.sess x (44 + 4 * k) 4
/-- Change what a session's bytes do not hold. -/
def Dev.modPtpx (d : Dev) (x : Nat) (f : PtpSessHid → PtpSessHid) : Dev := d.setPtpx x (f (d.ptpxAt x))

/-- A kind is held and its end second is not reached (R353). -/
def Dev.sessGranted (d : Dev) (x k : Nat) : Bool := d.sessHolds x k && !d.endReached (d.sessEnd x k)

/-- Free an entry. -/
def Dev.freeSess (d : Dev) (x : Nat) : Dev :=
  if d.sessState x = 0 then d
  else ((d.setSess x 0 (zeros 64)).setPtpx x {}).wrNat R.PTP_SESS_USED (d.nat R.PTP_SESS_USED - 1)

/-- Free an entry that holds no kind; one that still asks for its first grant stays (R353). -/
def Dev.freeEmpty (d : Dev) (x : Nat) : Dev :=
  if d.sessKinds x = 0 ∧ d.sessState x ≠ 2 then d.freeSess x else d

/-- The sessions in use. -/
def Dev.sessions (d : Dev) : List Nat :=
  if d.nat R.PTP_SESS_USED = 0 then [] else (List.range 4096).filter (fun x => d.sessState x != 0)

/-- Where a session's messages go. -/
def Dev.sessDest (d : Dev) (x : Nat) : PtpDest :=
  ⟨d.sessBytes x 20 6, ipOf (d.ptpTransport (d.sessInst x)) (d.sessBytes x 4 16),
   if d.sess x 2 1 / 32 % 2 = 1 then [0x81, 0x00] ++ d.sessBytes x 42 2 else []⟩

/-- A new entry: the lowest free one, with its identity; no kinds (R353, R356). -/
def Dev.newSess (d : Dev) (state inst port : Nat) (client : Bool) (peerIp peerMac : List Byte) (udp : Nat) (id tags : List Byte) :
    Option (Nat × Dev) :=
  match (List.range 4096).find? (fun x => d.sessState x == 0) with
  | none => none
  | some x =>
    let auth := d.ptpAuth inst
    let flags := 128 * b2n client + 64 * b2n (d.ptpTransport inst == 2) + 32 * b2n (tags.length == 4) + 16 * b2n auth
    let sa := if auth then d.fld (R.PTPi_TXSA inst) 4 0 else 0xFF
    let d := d.setSess x 0 (be 1 state ++ be 1 (inst * 32 + port) ++ be 1 flags ++ be 1 sa ++ peerIp ++ peerMac ++ be 2 udp ++
      id ++ zeros 4 ++ (if tags.length = 4 then tags.drop 2 else zeros 2) ++ zeros 20)
    some (x, (d.setPtpx x {}).wrNat R.PTP_SESS_USED (d.nat R.PTP_SESS_USED + 1))

/-- The session of a peer, by instance, port, portIdentity and IP address; and by UDP port where one is given (R353). -/
def Dev.peerSess (d : Dev) (client : Bool) (m : PtpIn) (udp : Option Nat) : Option Nat :=
  d.sessions.find? (fun x => d.sessClient x == client && d.sessInst x == m.inst && d.sessPort x == m.port &&
    d.sessBytes x 28 10 == srcId m.msg && d.sessBytes x 4 16 == m.srcIp &&
    (match udp with
     | some u => d.sess x 26 2 == u
     | none => true))

/-! ### Signaling TLVs -/

/-- The kind a messageType names (R352): Announce, Sync, Delay_Resp. -/
def kindOf (typ : Nat) : Option Nat := match typ with
  | 0xB => some 0
  | 0x0 => some 1
  | 0x9 => some 2
  | _ => none
/-- The messageType of a kind. -/
def typeOfKind (k : Nat) : Nat := if k = 0 then 0xB else if k = 1 then 0x0 else 0x9

/-- REQUEST, GRANT, CANCEL and ACKNOWLEDGE_CANCEL TLVs (IEEE 1588-2019). -/
def requestTlv (typ : Nat) (log : Int) (dur : Nat) : List Byte :=
  be 2 4 ++ be 2 6 ++ be 1 (typ * 16) ++ beInt 1 log ++ be 4 dur
def grantTlv (typ : Nat) (log : Int) (dur : Nat) (renew : Bool) : List Byte :=
  be 2 5 ++ be 2 8 ++ be 1 (typ * 16) ++ beInt 1 log ++ be 4 dur ++ [0] ++ be 1 (b2n renew)
def cancelTlv (typ : Nat) : List Byte := be 2 6 ++ be 2 2 ++ be 1 (typ * 16) ++ [0]
def ackTlv (typ : Nat) : List Byte := be 2 7 ++ be 2 2 ++ be 1 (typ * 16) ++ [0]

/-- The oldest message, when its first unicast TLV is of a type: the message, the TLV's value, and the rest. A Signaling
message stays in front until its last unicast TLV is taken. -/
def Dev.sigTake (d : Dev) (typ : Nat) : Option (PtpIn × List Byte × Dev) := match d.pe.ptp with
  | m :: rest =>
    if beAt m.msg 0 1 % 16 ≠ 0xC then none
    else match (tlvsOf m.msg).find? (fun t => decide (4 ≤ t.1 ∧ t.1 ≤ 7)) with
      | none => none
      | some (t, o, l) =>
        if t ≠ typ then none
        else
          let left := m.msg.take (o - 4) ++ m.msg.drop (o + l)
          let q := if hasUnicastTlv left then { m with msg := left } :: rest else rest
          some (m, slice m.msg o l, { d with pe := { d.pe with ptp := q } })
  | [] => none

/-- A Signaling message is for this port: its target is the port, every port of the clock, or everyone (IEEE 1588). -/
def Dev.sigForUs (d : Dev) (m : PtpIn) : Bool :=
  let t := slice m.msg 34 10
  d.ptpDue m.inst m.port &&
  (t.take 8 == List.replicate 8 0xFF || t.take 8 == d.clkId m.inst) &&
  (t.drop 8 == [0xFF, 0xFF] || t.drop 8 == be 2 (m.port + 1))

/-! ### As a master (R352, R353) -/

/-- A request's conditions that do not concern the entry (R352). -/
def Dev.grantable (d : Dev) (m : PtpIn) (k : Nat) (log : Int) (dur : Nat) : Bool :=
  d.ptpUnicast m.inst && d.mayMaster m.inst m.port &&
  decide (signed 8 (d.fld (R.PTPi_UCFG m.inst) (23 - 8 * k) (16 - 8 * k)) ≤ log) &&
  decide (d.fld (R.PTPi_UDUR m.inst) 15 0 ≤ dur) && decide (m.tags.length ≤ 4)

/-- The entry a grantable request gets: the peer's own, or a new one within the quota; in profile 3 an Announce grant
comes first (R352). -/
def Dev.grantEntry (d : Dev) (m : PtpIn) (k : Nat) : Option (Nat × Dev) :=
  let ann := fun x => d.ptpProfile m.inst != 3 || k == 0 || d.sessGranted x 0
  match d.peerSess false m (some m.srcPort) with
  | some x => if d.sessState x = 1 ∧ ann x then some (x, d) else none
  | none =>
    if d.ptpProfile m.inst = 3 ∧ k ≠ 0 then none
    else if (d.sessions.filter (fun x => d.sessInst x == m.inst)).length < d.fld (R.PTPi_UQUOTA m.inst) 12 0 then
      d.newSess 1 m.inst m.port false m.srcIp m.srcMac m.srcPort (srcId m.msg) m.tags
    else none

/-- A log interval in ns; the longest rate, 128 a second, divides a second into whole ns. -/
def intervalNs (log : Int) : Nat := if 0 ≤ log then 1000000000 * 2 ^ log.toNat else max 1 (1000000000 / 2 ^ log.natAbs)

/-- Which interval instant a message kind last reached: the whole multiples of its interval on the instance's linear
count, moved by i × 125 µs, or for session x by (x × 997 µs) mod the interval (R344). -/
def Dev.instantK (d : Dev) (i : Nat) (log : Int) (x : Option Nat) : Int :=
  let iv := intervalNs log
  let off := match x with
    | none => i * 125000
    | some x => x * 997000 % iv
  ((d.count (d.ptpTb i) / nsUnit : Nat) - (off : Nat) : Int) / (iv : Nat)

/-- Note the interval instants passed so far: a session's kinds go on at the next ones (R344, R353). -/
def Dev.markInstants (d : Dev) (x : Nat) (k : Nat) (log : Int) : Dev :=
  let t := some (d.instantK (d.sessInst x) log (some x))
  d.modPtpx x (fun h => if k = 0 then { h with annK := t } else if k = 1 then { h with syncK := t } else h)

/-- Record a grant of a kind; a kind not held till now starts at its next interval instant (R353). -/
def Dev.recordGrant (d : Dev) (x k : Nat) (log : Int) (dur : Nat) : Dev :=
  let d := if d.sessGranted x k then d else d.markInstants x k log
  let d := d.setKinds x (d.sessKinds x ||| 2 ^ k)
  (d.setSess x (38 + k) (beInt 1 log)).setSess x (44 + 4 * k) (be 4 (d.sec32 + dur))

/-- Deny a request: a GRANT of duration 0 from a unit that owns, counted (R352, R346). -/
def Dev.deny (d : Dev) (m : PtpIn) (typ : Nat) (log : Int) : Dev :=
  let d := (d.bump (R.PTPi_DENY m.inst)).setBit (R.PTPi_STAT m.inst) 3 true
  if d.owns then d.sendSignaling m.inst m.port (d.replyDest m) (srcId m.msg) (grantTlv typ log 0 false) true else d

/-- R352: a request is granted or denied. -/
def effUnicastRequest (d : Dev) : Dev :=
  match d.sigTake 4 with
  | none => d
  | some (m, v, d) =>
    let typ := beAt v 0 1 / 16
    let log := signed 8 (beAt v 1 1)
    let dur := beAt v 2 4
    if !d.sigForUs m then d
    else match kindOf typ with
      | none => d.deny m typ log
      | some k =>
        if !d.grantable m k log dur then d.deny m typ log
        else match d.grantEntry m k with
          | none => d.deny m typ log
          | some (x, d) =>
            let g := min dur (d.fld (R.PTPi_UDUR m.inst) 31 16)
            (d.recordGrant x k log g).sendSignaling m.inst m.port (d.replyDest m) (srcId m.msg) (grantTlv typ log g true) true

/-- R353: a received CANCEL stops its kind and is acknowledged. -/
def effUnicastCancel (d : Dev) : Dev :=
  match d.sigTake 6 with
  | none => d
  | some (m, v, d) =>
    let typ := beAt v 0 1 / 16
    if !d.sigForUs m then d
    else
      let x? := d.sessions.find? (fun x => d.sessInst x == m.inst && d.sessPort x == m.port &&
        d.sessBytes x 28 10 == srcId m.msg && d.sessBytes x 4 16 == m.srcIp &&
        (match kindOf typ with
         | some k => d.sessHolds x k
         | none => false))
      let client := match x? with
        | some x => d.sessClient x
        | none => false
      let d := match x?, kindOf typ with
        | some x, some k => (d.setKinds x (d.sessKinds x &&& (7 - 2 ^ k))).freeEmpty x
        | _, _ => d
      if client || d.owns then d.sendSignaling m.inst m.port (d.replyDest m) (srcId m.msg) (ackTlv typ) (!client) else d

/-- R353: the acknowledgement of the device's CANCEL frees the entry. -/
def effUnicastAck (d : Dev) : Dev :=
  match d.sigTake 7 with
  | none => d
  | some (m, _, d) =>
    match d.sessions.find? (fun x => d.sessState x == 3 && d.sessInst x == m.inst && d.sessPort x == m.port &&
        d.sessBytes x 28 10 == srcId m.msg && d.sessBytes x 4 16 == m.srcIp) with
    | some x => if d.sigForUs m then d.freeSess x else d
    | none => d

/-- R353: the grants of a session that have reached their end seconds end. -/
def effGrantEnd (x : Nat) (d : Dev) : Dev :=
  if d.sessState x = 0 then d
  else
    let left := (List.range 3).foldl (fun s k => if d.sessHolds x k && !d.endReached (d.sessEnd x k) then s + 2 ^ k else s) 0
    (d.setKinds x left).freeEmpty x

/-- Send CANCEL for every kind of a session (R353); as a master only while the unit owns (R346). -/
def Dev.sendCancel (d : Dev) (x : Nat) : Dev :=
  let c := d.sessClient x
  let ks := (List.range 3).filter (fun k => d.sessHolds x k)
  if c || d.owns then
    d.sendSignaling (d.sessInst x) (d.sessPort x) (d.sessDest x) (d.sessBytes x 28 10)
      (ks.flatMap (fun k => cancelTlv (typeOfKind k))) (!c)
  else d

/-- R353: a Custodian's write of PTP_SESS_CMD with CANCEL set. -/
def effCancelCmd (p : Port) (v : Word) (d : Dev) : Dev := d.asCust p (fun d =>
  let x := wfld v 11 0
  if !wbit v 31 ∨ d.sessState x = 0 ∨ d.sessState x = 3 then d
  else ((d.sendCancel x).setSess x 0 [3]).modPtpx x (fun h => { h with cancels := 1, asked := 0, cancelAt := d.nowNs }))

/-- R353: an unacknowledged CANCEL is sent again, a second after the last; after the third send the entry is free. -/
def effCancelResend (x : Nat) (d : Dev) : Dev :=
  if d.sessState x ≠ 3 ∨ d.nowNs < (d.ptpxAt x).cancelAt + 1000000000 then d
  else
    let d := (d.sendCancel x).modPtpx x (fun h => { h with cancels := h.cancels + 1, cancelAt := d.nowNs })
    if 3 ≤ (d.ptpxAt x).cancels then d.freeSess x else d

/-! ### As a client (R355) -/

/-- A valid entry of an instance's unicast master table: its port. -/
def Dev.umPort (d : Dev) (i j : Nat) : Option Nat :=
  if d.bit (R.PTPi_UMj_CFG i j) 31 then some (d.fld (R.PTPi_UMj_CFG i j) 18 16) else none
/-- The address of an entry. -/
def Dev.umIp (d : Dev) (i j : Nat) : List Byte := (List.range 4).flatMap (fun w => be 4 (d.nat (R.PTPi_UMj_IP i j w)))

/-- The client session with an address. -/
def Dev.clientSess (d : Dev) (i p : Nat) (ip : List Byte) : Option Nat :=
  d.sessions.find? (fun x => d.sessClient x && d.sessInst x == i && d.sessPort x == p && d.sessBytes x 4 16 == ip)

/-- The parent's address, when it was heard on a port. -/
def Dev.parentAt (d : Dev) (i p : Nat) : Option (List Byte) := match (d.ptpiAt i).parent with
  | some (q, id) => if q = p then ((d.ptppAt (8 * i + p)).foreign.find? (fun f => f.id == id)).map (·.ip) else none
  | none => none

/-- The kinds a client wants from an entry's master: Announce, and all from the parent. -/
def Dev.wanted (d : Dev) (i j p : Nat) : List Nat := if d.parentAt i p = some (d.umIp i j) then [0, 1, 2] else [0]

/-- The log interval a client asks for. -/
def Dev.logOf (d : Dev) (i k : Nat) : Int := if k = 0 then d.logAnn i else if k = 1 then d.logSync i else d.logReq i

/-- Send a REQUEST for some kinds of a session. -/
def Dev.request (d : Dev) (x : Nat) (ks : List Nat) : Dev :=
  if ks = [] then d
  else
    let i := d.sessInst x
    let id := d.sessBytes x 28 10
    let d := d.modPtpx x (fun h => { h with asked := ks.foldl (fun a k => a ||| 2 ^ k) h.asked, askedAt := d.nowNs })
    d.sendSignaling i (d.sessPort x) (d.sessDest x) (if id = zeros 10 then List.replicate 10 0xFF else id)
      (ks.flatMap (fun k => requestTlv (typeOfKind k) (d.logOf i k) (d.fld (R.PTPi_UQUOTA i) 31 16))) false

/-- The session of an entry, made when there is none; the MAC address of a master not heard yet is free. -/
def Dev.umSession (d : Dev) (i j p : Nat) : Option (Nat × Dev) := match d.clientSess i p (d.umIp i j) with
  | some x => some (x, d)
  | none =>
    let (mac, d) := d.freeBytes 6
    d.newSess 2 i p true (d.umIp i j) mac 320 (zeros 10) []

/-- Request from an entry's master the kinds it wants and does not hold; first says that only kinds never requested are
meant. -/
def Dev.umRequest (d : Dev) (i j : Nat) (first : Bool) : Dev :=
  if d.ptpRole i = 0 ∨ !d.ptpUnicast i then d
  else match d.umPort i j with
    | none => d
    | some p =>
      if !d.ptpDue i p || d.ptpMasterOnly i p then d
      else match d.umSession i j p with
        | none => d
        | some (x, d) =>
          if d.sessState x = 3 ∨ (!first ∧ (d.ptpxAt x).askedAt ≠ 0 ∧ d.nowNs < (d.ptpxAt x).askedAt + 8000000000) then d
          else d.request x ((d.wanted i j p).filter (fun k => !d.sessHolds x k && !(first && (d.ptpxAt x).asked.testBit k)))

/-- The first requests of a client (R355). -/
def umFirst (i : Nat) (d : Dev) : Dev := forRange 8 (fun j d => d.umRequest i j true) d

/-- R355: a request without an answer or denied is repeated, 8 s after the session's last request. -/
def effRequestRetry (i j : Nat) (d : Dev) : Dev := d.umRequest i j false

/-- Take a grant's kind into a client session. -/
def Dev.clientGrant (d : Dev) (x k : Nat) (log : Int) (dur : Nat) (m : PtpIn) : Dev :=
  let d := (((d.setSess x 0 [1]).setSess x 20 m.srcMac).setSess x 26 (be 2 m.srcPort)).setSess x 28 (srcId m.msg)
  (d.recordGrant x k log dur).modPtpx x (fun h => { h with asked := h.asked &&& (7 - 2 ^ k), durs := h.durs.set k dur })

/-- R355: a GRANT received by a client; of duration 0 it is a denial. -/
def effUnicastGrant (d : Dev) : Dev :=
  match d.sigTake 5 with
  | none => d
  | some (m, v, d) =>
    let dur := beAt v 2 4
    match d.clientSess m.inst m.port m.srcIp, kindOf (beAt v 0 1 / 16) with
    | some x, some k =>
      if !d.sigForUs m || d.sessState x == 3 || dur == 0 then d else d.clientGrant x k (signed 8 (beAt v 1 1)) dur m
    | _, _ => d

/-- R355: a client renews the grants of which a quarter of the duration remains. -/
def effUnicastRenew (x : Nat) (d : Dev) : Dev :=
  if d.sessState x ≠ 1 ∨ !d.sessClient x then d
  else d.request x ((List.range 3).filter (fun k => d.sessHolds x k &&
    decide (4 * signed 32 (d.sessEnd x k + 2 ^ 32 - d.sec32) ≤ ((d.ptpxAt x).durs.getD k 0 : Nat))))

/-! ### Meanings -/

def execUnicastRequestRx (s : State) : Result := s.on effUnicastRequest
def execUnicastCancelRx (s : State) : Result := s.on effUnicastCancel
def execUnicastAckCancelRx (s : State) : Result := s.on effUnicastAck
def execUnicastGrantRx (s : State) : Result := s.on effUnicastGrant
def execUnicastGrantEnd (x : Fin 4096) (s : State) : Result := s.on (effGrantEnd x)
def execSessionCancelCmd (p : Port) (v : Word) (s : State) : Result := s.on (effCancelCmd p v)
def execSessionCancelResend (x : Fin 4096) (s : State) : Result := s.on (effCancelResend x)
def execUnicastRenew (x : Fin 4096) (s : State) : Result := s.on (effUnicastRenew x)
def execUnicastRequestRetry (i j : Fin 8) (s : State) : Result := s.on (effRequestRetry i j)

end Sys2Proof.Machine
end

