-- ==== Sys2Proof/Machine/PtpMaster.lean ====
section
/-! DEFINITION. What PTP instances send as masters and as responders (R339 to R348, R354, R361). -/
namespace Sys2Proof.Machine

/-! ### Announce -/

/-- An Announce's message and insertions (R339 to R343). -/
def Dev.announceMsg (d : Dev) (i p seq : Nat) (uni : Bool) (log : Int) : List Byte × List Ins :=
  let own := d.clkId i
  let q := (d.fixedQual i).getD [0xFE, 0xFF, 0xFF]
  let c37 := decide (d.ptpProfile i = 5)
  let ins := (if (d.fixedQual i).isNone then [Ins.mk .ptpQual 49 0 (d.accLow i)] else []) ++
    (if c37 then [Ins.mk .c37 80 0 0] else [])
  let tail := if c37 then d.c37Tlv i else []
  match if d.ptpPass i then d.parentMsg i else none with
  | some m =>
    (d.ptpHead i p 0xB (beAt m 7 1 + uniFlag uni) 0 seq log ++ zeros 10 ++ slice m 44 2 ++ [0] ++ slice m 47 2 ++ q ++
      slice m 52 9 ++ be 2 ((beAt m 61 2 + 1) % 65536) ++ slice m 63 1 ++ tail, ins)
  | none =>
    let p1 := if d.altBmca i then 128 else d.fld (R.PTPi_PRIO i) 15 8
    (d.ptpHead i p 0xB (d.annFlags i + uniFlag uni) 0 seq log ++ zeros 10 ++ be 2 (d.fld R.REF_TAIUTC 15 0) ++ [0] ++
      be 1 p1 ++ be 1 (d.ownClass i) ++ q ++ be 1 (d.fld (R.PTPi_PRIO i) 7 0) ++ own ++ zeros 2 ++
      be 1 (d.timeSource (d.ptpTb i)) ++ tail, ins)

/-- Send an Announce: launch-time when authenticated or in profile 5 (R343, R348). -/
def Dev.sendAnnounce (d : Dev) (i p seq : Nat) (dest : PtpDest) (uni : Bool) (log : Int) : Dev :=
  let (m, ins) := d.announceMsg i p seq uni log
  d.sendPtp { inst := i, port := p, dest := dest, msg := m, ins := ins, launch := d.ptpAuth i || d.ptpProfile i == 5 }

/-- A session of an instance that a master serves a kind to (R353). -/
def Dev.sessServes (d : Dev) (i x k : Nat) : Bool :=
  d.sessState x == 1 && !d.sessClient x && d.sessInst x == i && d.sessGranted x k && d.masterDue i (d.sessPort x)

/-- R344: the interval instant of an Announce: on every master port in multicast, or to a session. A port or session
that already reached this instant has nothing due. -/
def effAnnounceTx (i : Nat) (x : Option Nat) (d : Dev) : Dev := match x with
  | none =>
    let k := some (d.instantK i (d.logAnn i) none)
    if d.ptpUnicast i then d
    else forRange 8 (fun p d =>
      if (d.ptppAt (8 * i + p)).annK = k then d
      else
        let d := d.modPtpp i p (fun h => { h with annK := k })
        if !d.masterDue i p then d
        else
        let seq := (d.ptppAt (8 * i + p)).annSeq
        (d.modPtpp i p (fun h => { h with annSeq := (seq + 1) % 65536 })).sendAnnounce i p seq (d.groupDest i false) false
          (d.logAnn i)) d
  | some x =>
    let k := some (d.instantK i (d.sessLog x 0) (some x))
    if (d.ptpxAt x).annK = k ∨ d.sessState x ≠ 1 then d
    else
      let d := d.modPtpx x (fun h => { h with annK := k })
      if !d.sessServes i x 0 then d
      else
      let seq := d.sess x 56 2
      (d.setSess x 56 (be 2 ((seq + 1) % 65536))).sendAnnounce i (d.sessPort x) seq (d.sessDest x) true (d.sessLog x 0)

/-! ### Sync and Follow_Up -/

/-- A two-step message's sequence tag, and what its Follow_Up will carry (R89, R27). -/
def Dev.newTwoStep (d : Dev) (t : Nat → TwoStep) : Nat × Dev :=
  let tag := d.ptpg.tag
  (tag, { d with ptpg := { twoStep := d.ptpg.twoStep ++ [t tag], tag := tag + 1 } })

/-- Send a Sync (R348). -/
def Dev.sendSync (d : Dev) (i p seq : Nat) (dest : PtpDest) (uni : Bool) (log : Int) : Dev :=
  let btlv := d.bit (R.PTPi_CFG i) 20
  if d.oneStep i then
    let auth := d.ptpAuth i
    d.sendPtp
      { inst := i, port := p, dest := dest, launch := auth
        msg := d.ptpHead i p 0 (uniFlag uni) 0 seq log ++ zeros 10 ++ (if btlv then d.boundTlv i 0 auth else [])
        ins := [Ins.mk .ptpTs 34 8 0] ++ (if btlv then [Ins.mk .boundTlv 54 0 0] else []) }
  else if d.bit (R.PTPi_STAT i) 5 then d.bump (R.PTPi_TXSUPP i)
  else
    let (tag, d) := d.newTwoStep (fun tag => { tag := tag, inst := i, port := p, dest := dest, unicast := uni, typ := 0, seq := seq, log := log })
    d.sendPtp { inst := i, port := p, dest := dest, twoStep := some tag
                msg := d.ptpHead i p 0 (uniFlag uni + twoStepFlag) 0 seq log ++ zeros 10 }

/-- Sync and Delay_Resp may be sent: the time base is set, and for a Sync since at least 1 ms (R342). -/
def Dev.syncReady (d : Dev) (i : Nat) : Bool :=
  let n := d.ptpTb i
  d.isSet n && decide ((d.tbAt n).setAt + 1000000 * nsUnit ≤ d.count n)

/-- R348: a Sync on every master port in multicast, or to a session. -/
def effSyncTx (i : Nat) (x : Option Nat) (d : Dev) : Dev :=
  if !d.syncReady i then d
  else match x with
    | none =>
      let k := some (d.instantK i (d.logSync i) none)
      if d.ptpUnicast i then d
      else forRange 8 (fun p d =>
        if (d.ptppAt (8 * i + p)).syncK = k then d
        else
          let d := d.modPtpp i p (fun h => { h with syncK := k })
          if !d.masterDue i p then d
          else
          let seq := (d.ptppAt (8 * i + p)).syncSeq
          (d.modPtpp i p (fun h => { h with syncSeq := (seq + 1) % 65536 })).sendSync i p seq (d.groupDest i false) false
            (d.logSync i)) d
    | some x =>
      let k := some (d.instantK i (d.sessLog x 1) (some x))
      if (d.ptpxAt x).syncK = k ∨ d.sessState x ≠ 1 then d
      else
        let d := d.modPtpx x (fun h => { h with syncK := k })
        if !d.sessServes i x 1 then d
        else
        let seq := d.sess x 58 2
        (d.setSess x 58 (be 2 ((seq + 1) % 65536))).sendSync i (d.sessPort x) seq (d.sessDest x) true (d.sessLog x 1)

/-- Take from a port's timestamp queue the oldest departure of a two-step message of some type. -/
def Dev.takeStamp (d : Dev) (n typ : Nat) : Option (TxStamp × TwoStep × Dev) :=
  match (d.txqAt n).find? (fun s => d.ptpg.twoStep.any (fun t => t.tag == s.tag && t.typ == typ)) with
  | none => none
  | some s => match d.ptpg.twoStep.find? (fun t => t.tag == s.tag) with
    | none => none
    | some t =>
      let d := { d with ptpg := { d.ptpg with twoStep := d.ptpg.twoStep.erase t } }
      some (s, t, (d.setTxq n ((d.txqAt n).erase s)).txqShow n)

/-- R348: the Follow_Up of a Sync whose departure is measured. -/
def effFollowupTx (n : Nat) (d : Dev) : Dev :=
  match d.takeStamp n 0 with
  | none => d
  | some (s, t, d) =>
    if !d.owns || !d.isSet (d.ptpTb t.inst) then d
    else d.sendPtp
      { inst := t.inst, port := t.port, dest := t.dest, slot := true
        msg := d.ptpHead t.inst t.port 8 (uniFlag t.unicast) (frac16 s.at_ : Nat) t.seq t.log ++ ptpStamp s.at_ ++
          (if d.bit (R.PTPi_CFG t.inst) 20 then d.boundTlv t.inst s.be_ false else []) }

/-- R348: the Pdelay_Resp_Follow_Up of a Pdelay_Resp whose departure is measured. -/
def effPdelayFupTx (n : Nat) (d : Dev) : Dev :=
  match d.takeStamp n 3 with
  | none => d
  | some (s, t, d) =>
    d.sendPtp
      { inst := t.inst, port := t.port, dest := t.dest, slot := true, master := false
        msg := d.ptpHead t.inst t.port 0xA 0 (t.corr + (frac16 s.at_ : Nat)) t.seq t.log ++ ptpStamp s.at_ ++ t.reqId }

/-! ### Delay_Req and Pdelay_Req received -/

/-- The most Delay_Req messages a session may send in a second: twice its granted rate, at least one (R354). -/
def dreqLimit (log : Int) : Nat := if log ≤ 0 then 2 * 2 ^ log.natAbs else max 1 (2 / 2 ^ log.natAbs)

/-- Count a session's Delay_Req in its TB0 second: whether it is in excess (R354). -/
def Dev.dreqCount (d : Dev) (x : Nat) : Bool × Dev :=
  let now := cSec (d.count 0)
  let h := d.ptpxAt x
  let n := (if h.dreqSec = now then h.dreqs else 0) + 1
  (decide (dreqLimit (d.sessLog x 2) < n), d.setPtpx x { h with dreqSec := now, dreqs := n })

/-- Answer a Delay_Req (R348). -/
def Dev.delayResp (d : Dev) (m : PtpIn) (dest : PtpDest) (uni : Bool) (log : Int) : Dev :=
  let t4 := m.at_
  (d.bumpWrap (R.PTPi_RXDREQ m.inst)).sendPtp
    { inst := m.inst, port := m.port, dest := dest
      msg := d.ptpHead m.inst m.port 9 (uniFlag uni) (corrOf m.msg - (frac16 t4 : Nat)) (seqOf m.msg) log ++
        ptpStamp t4 ++ srcId m.msg }

/-- R354: a Delay_Req is answered, or dropped for lack of a grant or for its rate. -/
def effDelayReqRx (d : Dev) : Dev :=
  match d.ptpTake 1 with
  | none => d
  | some (m, d) =>
    let i := m.inst
    if d.ptpP2p i || !d.masterDue i m.port || !d.isSet (d.ptpTb i) then d
    else if !d.ptpUnicast i then d.delayResp m { d.groupDest i false with tags := m.tags } false (d.logReq i)
    else match d.peerSess false m none with
      | none => (d.rxDropped m.port causeProto).bump (R.PTPi_NOSESS i)
      | some x =>
        if !d.sessGranted x 2 || d.sessState x != 1 then (d.rxDropped m.port causeProto).bump (R.PTPi_NOSESS i)
        else match d.dreqCount x with
          | (true, d) => ((d.rxDropped m.port causeProto).bump (R.PTPi_RATEDROP i)).setSess x 60
              (be 2 (min 65535 (d.sess x 60 2 + 1)))
          | (false, d) => d.delayResp m (d.replyDest m) true (d.sessLog x 2)

/-- R348: a Pdelay_Req is answered, also while the time base is unset (R342). -/
def effPdelayReqRx (d : Dev) : Dev :=
  match d.ptpTake 2 with
  | none => d
  | some (m, d) =>
    let i := m.inst
    let dest := { d.groupDest i true with tags := m.tags }
    let t2 := m.at_
    if !d.ptpP2p i || !d.ptpDue i m.port then d
    else if d.oneStep i then
      d.sendPtp
        { inst := i, port := m.port, dest := dest, launch := d.ptpAuth i, master := false
          msg := d.ptpHead i m.port 3 0 (corrOf m.msg) (seqOf m.msg) 0x7F ++ zeros 10 ++ srcId m.msg
          ins := [Ins.mk .ptpTurn 8 0 t2] }
    else if d.bit (R.PTPi_STAT i) 5 then d.bump (R.PTPi_TXSUPP i)
    else
      let (tag, d) := d.newTwoStep (fun tag =>
        { tag := tag, inst := i, port := m.port, dest := dest, unicast := false, typ := 3, seq := seqOf m.msg, log := 0x7F
          corr := corrOf m.msg, reqId := srcId m.msg })
      d.sendPtp { inst := i, port := m.port, dest := dest, twoStep := some tag, master := false
                  msg := d.ptpHead i m.port 3 twoStepFlag (-(frac16 t2 : Nat)) (seqOf m.msg) 0x7F ++ ptpStamp t2 ++ srcId m.msg }

/-! ### The transmit SA (R359) and the latched reads (R363) -/

/-- The sessions of an authenticating instance show the SA in use (R356). -/
def Dev.sessSa (d : Dev) (i : Nat) : Dev :=
  if !d.ptpAuth i then d
  else d.sessions.foldl (fun d x => if d.sessInst x = i then d.setSess x 3 (be 1 (d.fld (R.PTPi_TXSA i) 4 0)) else d) d

/-- R359: the Custodian changes the SA for every message built after the write. -/
def effTxsaWrite (p : Port) (i : Nat) (v : Word) (d : Dev) : Dev :=
  d.asCust p (fun d => ptpRefresh (instSaRefresh i ((d.setFld (R.PTPi_TXSA i) 4 0 (wfld v 4 0)).sessSa i)))

/-- R363: a read of PTPi_OFS_LO latches OFS_HI and MPD. -/
def effOfsLatch (p : Port) (i : Nat) (d : Dev) : Dev :=
  (d.latchRegs p [R.PTPi_OFS_HI i, R.PTPi_MPD i]).emit (.readData p (d.rd (R.PTPi_OFS_LO i)))

/-! ### Meanings -/

def execPtpAnnounceTx (i : Fin 8) (x : Option (Fin 4096)) (s : State) : Result := s.on (effAnnounceTx i (x.map (·.val)))
def execPtpSyncTx (i : Fin 8) (x : Option (Fin 4096)) (s : State) : Result := s.on (effSyncTx i (x.map (·.val)))
def execPtpFollowupTx (n : Fin 8) (s : State) : Result := s.on (effFollowupTx n)
def execPtpPdelayRespFupTx (n : Fin 8) (s : State) : Result := s.on (effPdelayFupTx n)
def execPtpDelayReqRx (s : State) : Result := s.on effDelayReqRx
def execPtpPdelayReqRx (s : State) : Result := s.on effPdelayReqRx
def execPtpTxsaWrite (p : Port) (i : Fin 8) (v : Word) (s : State) : Result := s.on (effTxsaWrite p i v)
def execPtpOfsLatchRead (p : Port) (i : Fin 8) (s : State) : Result := s.on (fun d => d.asRead p (effOfsLatch p i))

end Sys2Proof.Machine
end

