-- ==== Sys2Proof/Machine/PtpClient.lean ====
section
/-! DEFINITION. The BMCA and the client role of PTP instances (R338, R345, R349 to R351). -/
namespace Sys2Proof.Machine

/-! ### The comparison of datasets (R338, R345, IEEE 1588-2019) -/

/-- A dataset: the quality fields, the grandmaster, and where it was sent and received. -/
structure Dataset where
  p1 : Nat
  cls : Nat
  acc : Nat
  oslv : Nat
  p2 : Nat
  gm : Nat
  steps : Nat
  /-- localPriority -/
  lp : Nat
  sender : Nat
  receiver : Nat
deriving DecidableEq, Repr

/-- Numbers compared in order, the smaller first. -/
def lexLt : List Nat → List Nat → Bool
  | a :: r, b :: t => decide (a < b) || (a == b && lexLt r t)
  | _, _ => false

/-- What two datasets of different grandmasters are compared by. -/
def Dataset.key (alt : Bool) (a : Dataset) : List Nat :=
  if alt then [a.cls, a.acc, a.oslv, a.lp, a.p2, a.gm] else [a.p1, a.cls, a.acc, a.oslv, a.p2, a.gm]

/-- How a compares with b. -/
inductive Verdict | better | betterTopo | same | worseTopo | worse
deriving DecidableEq, Repr

/-- The comparison of two datasets of one grandmaster. -/
def Dataset.cmpTopo (a b : Dataset) : Verdict :=
  if b.steps + 1 < a.steps then .worse
  else if a.steps + 1 < b.steps then .better
  else if b.steps < a.steps then (if a.receiver < a.sender then .worse else if a.sender < a.receiver then .worseTopo else .same)
  else if a.steps < b.steps then (if b.receiver < b.sender then .better else if b.sender < b.receiver then .betterTopo else .same)
  else if a.sender < b.sender then .betterTopo
  else if b.sender < a.sender then .worseTopo
  else if a.receiver < b.receiver then .betterTopo
  else if b.receiver < a.receiver then .worseTopo
  else .same

/-- The comparison of two datasets. -/
def Dataset.cmp (alt : Bool) (a b : Dataset) : Verdict :=
  if a.gm = b.gm then a.cmpTopo b
  else if lexLt (a.key alt) (b.key alt) then .better else .worse

/-- a is better, be it by topology. -/
def Dataset.beats (alt : Bool) (a b : Dataset) : Bool :=
  match a.cmp alt b with
  | .better => true
  | .betterTopo => true
  | _ => false

/-- The dataset an Announce carries, received on a port. -/
def annDataset (m : List Byte) (lp receiver : Nat) : Dataset :=
  ⟨beAt m 47 1, beAt m 48 1, beAt m 49 1, beAt m 50 2, beAt m 52 1, beAt m 53 8, beAt m 61 2, lp, beAt m 20 10, receiver⟩

/-- The instance's own dataset D0 (R345); its localPriority, which the spec does not give, is 128 (PRESUMED, log 35). -/
def Dev.d0 (d : Dev) (i : Nat) : Dataset :=
  let n := d.ptpTb i
  let q := if d.isSet n then d.qualBytes n (d.boundAt n 0 0 false) (d.accLow i) else [0xFE, 0xFF, 0xFF]
  let id := ofBe (d.clkId i) * 65536
  ⟨d.fld (R.PTPi_PRIO i) 15 8, d.ownClass i, beAt q 0 1, beAt q 1 2, d.fld (R.PTPi_PRIO i) 7 0, ofBe (d.clkId i), 0, 128, id, id⟩

/-! ### Foreign masters (R345) -/

/-- TB0 in whole ns. -/
def Dev.now0 (d : Dev) : Nat := d.count 0 / nsUnit

/-- Qualified: two Announce messages within four of its Announce intervals. -/
def Foreign.qualified (f : Foreign) (now : Nat) : Bool := match f.times with
  | _ :: b :: _ => decide (now ≤ b + 4 * intervalNs (signed 8 (beAt f.msg 33 1)))
  | _ => false

/-- Its latest Announce is not older than four of its intervals. -/
def Foreign.live (f : Foreign) (now : Nat) : Bool := match f.times with
  | a :: _ => decide (now ≤ a + 4 * intervalNs (signed 8 (beAt f.msg 33 1)))
  | _ => false

/-- localPriority of a foreign master: of its entry in the unicast master table, else of the port (R338, R363). -/
def Dev.localPrio (d : Dev) (i p : Nat) (f : Foreign) : Nat :=
  match (List.range 8).find? (fun j => d.ptpUnicast i && d.umPort i j == some p && d.umIp i j == f.ip) with
  | some j => d.fld (R.PTPi_UMj_CFG i j) 15 8
  | none => d.fld (R.PTPi_Pp_CFG i p) 15 8

/-- The dataset of a foreign master of a port. -/
def Dev.foreignData (d : Dev) (i p : Nat) (f : Foreign) : Dataset :=
  annDataset f.msg (d.localPrio i p f) (ofBe (d.portId i p))

/-- The better of two candidates. -/
def Dev.betterOf (d : Dev) (i : Nat) (a b : Option (Nat × Foreign)) : Option (Nat × Foreign) := match a, b with
  | some x, some y => if (d.foreignData i y.1 y.2).beats (d.altBmca i) (d.foreignData i x.1 x.2) then some y else some x
  | some x, none => some x
  | none, y => y

/-- A foreign master that takes part in the comparison: a qualified one, or the parent, which stays until its Announce
receipt timeout (R345). -/
def Dev.candidate (d : Dev) (i p : Nat) (f : Foreign) : Bool :=
  f.qualified d.nowNs || (d.ptpiAt i).parent == some (p, f.id)

/-- The best foreign master of a port. -/
def Dev.erbest (d : Dev) (i p : Nat) : Option (Nat × Foreign) :=
  if !d.ptpLive i p || d.ptpMasterOnly i p then none
  else (((d.ptppAt (8 * i + p)).foreign.filter (fun f => d.candidate i p f)).map (fun f => some (p, f))).foldl (d.betterOf i) none

/-- The best of an instance. -/
def Dev.ebest (d : Dev) (i : Nat) : Option (Nat × Foreign) :=
  ((List.range 8).map (fun p => d.erbest i p)).foldl (d.betterOf i) none

/-! ### The parent -/

/-- The leap an Announce announces: the UTC second of midnight, and deletion (R129). -/
def Dev.annLeap (d : Dev) (m : List Byte) : Option (Nat × Bool) :=
  let f := beAt m 7 1
  let utc : Int := (cSec (d.count 0) : Nat) - signed 16 (beAt m 44 2)
  let midnight := ((utc / 86400 + 1) * 86400).toNat
  if f.testBit 0 then some (midnight, false) else if f.testBit 1 then some (midnight, true) else none

/-- The parent's Announce is its slots' quality message (R123, R129, R130). -/
def Dev.slotMessage (d : Dev) (i : Nat) (m : List Byte) : Dev :=
  (d.slotsOf i).foldl (fun d r =>
    let cls := beAt m 48 1
    let acc := beAt m 49 1
    (d.refMessage r 2 (cls * 256 + acc) (announceLevel cls acc)).modRef r (fun h => { h with
      taiUtc := if (beAt m 7 1).testBit 2 then some (signed 16 (beAt m 44 2)) else none, leap := d.annLeap m })) d

/-- Show the parent (R363). -/
def Dev.showParent (d : Dev) (i : Nat) (id : List Byte) (steps : Nat) : Dev :=
  ((d.wrNat (R.PTPi_PARENT_HI i) (beAt id 0 4)).wrNat (R.PTPi_PARENT_LO i) (beAt id 4 4)).wrNat (R.PTPi_PARENT_PN i)
    (beAt id 8 2 * 65536 + steps)

/-- The instance's parent becomes a foreign master of a port; a new one starts path measurement afresh. -/
def Dev.setParent (d : Dev) (i p : Nat) (f : Foreign) : Dev :=
  let d := if (d.ptpiAt i).parent = some (p, f.id) then d
    else (d.modPtpi i (fun h => { h with parent := some (p, f.id), forward := none })).modPtpp i p (fun h => { h with
      delays := if d.ptpP2p i then h.delays else [], reqs := if d.ptpP2p i then h.reqs else [] })
  (d.showParent i f.id (beAt f.msg 61 2)).slotMessage i f.msg

/-- The instance has no parent. -/
def Dev.noParent (d : Dev) (i : Nat) : Dev :=
  if (d.ptpiAt i).parent = none then d
  else (d.modPtpi i (fun h => { h with parent := none, forward := none })).showParent i (zeros 10) 0

/-! ### The BMCA (R345) -/

/-- The state the BMCA recommends for a port: 6 MASTER, 7 PASSIVE, 9 slave, 4 LISTENING. best is the foreign master
better than D0, or the best one of a client-only instance. -/
def Dev.recommend (d : Dev) (i p : Nat) (best : Option (Nat × Foreign)) (expired : Bool) : Nat :=
  let own := if d.ptpRole i = 1 then 4 else 6
  match best with
  | none => if (d.erbest i p).isNone && d.ptpState i p == 4 && !expired then 4 else own
  | some (q, f) =>
    if q = p then 9
    else match d.erbest i p with
      | none => if d.ptpState i p = 4 ∧ !expired then 4 else own
      | some (_, g) =>
        if (d.foreignData i q f).cmp (d.altBmca i) (d.foreignData i p g) = .betterTopo then (if d.ptpRole i = 1 then 4 else 7) else own

/-- Take a recommended state. -/
def Dev.takeState (d : Dev) (i p rec_ : Nat) (newParent : Bool) : Dev :=
  let s := d.ptpState i p
  let t :=
    if rec_ = 9 then (if (s = 8 ∨ s = 9) ∧ !newParent then s else 8)
    else if rec_ = 6 then (if s = 5 ∨ s = 6 then s else 5)
    else rec_
  if s = t then d else d.setPtpState i p t

/-- Drop the foreign masters not heard any more, but for the parent, and show how many are qualified. -/
def foreignTrim (i p : Nat) (d : Dev) : Dev :=
  let now := d.nowNs
  let keep := fun (f : Foreign) => f.live now || (d.ptpiAt i).parent == some (p, f.id)
  let d := if (d.ptppAt (8 * i + p)).foreign.all keep then d
    else d.modPtpp i p (fun h => { h with foreign := h.foreign.filter keep })
  d.setFld (R.PTPi_Pp_STAT i p) 7 4 (((d.ptppAt (8 * i + p)).foreign.filter (fun f => f.qualified now)).length)

/-- The foreign master the instance would follow: the best one, when it beats D0; always for a client-only instance. -/
def Dev.bmcaBest (d : Dev) (i : Nat) : Option (Nat × Foreign) :=
  (d.ebest i).filter (fun b => d.ptpRole i == 1 || (d.foreignData i b.1 b.2).beats (d.altBmca i) (d.d0 i))

/-- Take the choice of a parent. -/
def Dev.takeParent (d : Dev) (i : Nat) (best : Option (Nat × Foreign)) : Dev := match best with
  | some (p, f) => d.setParent i p f
  | none => d.noParent i

/-- Take the recommended states of an instance's ports. -/
def Dev.takeStates (d : Dev) (i : Nat) (recs : List Nat) (newParent : Bool) : Dev :=
  forRange 8 (fun p d =>
    if !d.ptpLive i p || d.ptpMasterOnly i p then d else d.takeState i p (recs.getD p 4) newParent) d

/-- R345: the BMCA of an instance; a port whose Announce receipt timed out may leave LISTENING. -/
def runBmca (i : Nat) (expired : Option Nat) (d : Dev) : Dev :=
  if !d.ptpEn i || d.ptpRole i == 0 then d
  else
    let d1 := forRange 8 (foreignTrim i) d
    let best := d1.bmcaBest i
    let recs := (List.range 8).map (fun p => d1.recommend i p best (expired == some p))
    let d2 := d1.takeParent i best
    umFirst i (d2.takeStates i recs ((d2.ptpiAt i).parent != (d1.ptpiAt i).parent))

/-- The parent's identity, when it was heard on a port. -/
def Dev.parentOn (d : Dev) (i p : Nat) : Option (List Byte) := match (d.ptpiAt i).parent with
  | some (q, id) => if q = p then some id else none
  | none => none

/-- The foreign masters a port's Announce receipt timeout is about: the parent on its port, else all of them. -/
def Dev.awaited (d : Dev) (i p : Nat) : List Foreign :=
  (d.ptppAt (8 * i + p)).foreign.filter (fun f => (d.parentOn i p).all (· == f.id))

/-- From when the timeout runs: their latest Announce, or the port's entry into its state. -/
def Dev.announceAt (d : Dev) (i p : Nat) : Nat := match (d.awaited i p).filterMap (fun f => f.times.head?) with
  | [] => (d.ptppAt (8 * i + p)).since
  | ts => ts.foldl max 0

/-- announceReceiptTimeout has passed: so many of the instance's Announce intervals (R345, R363). -/
def Dev.announceLate (d : Dev) (i p : Nat) : Bool :=
  decide (d.announceAt i p + d.fld (R.PTPi_INTV i) 7 0 * intervalNs (d.logAnn i) ≤ d.nowNs)

/-- R345: announceReceiptTimeout expires on a port that listens to a master: its master is given up, the slots of an
instance whose parent it was are in MSG defect, and the BMCA runs. -/
def effAnnTimeout (i p : Nat) (d : Dev) : Dev :=
  if !d.ptpLive i p || d.ptpMasterOnly i p || d.ptpState i p == 5 || d.ptpState i p == 6 || !d.announceLate i p then d
  else
    let d := (d.bump (R.PTPi_ANNTMO i)).setBit (R.PTPi_STAT i) 2 true
    let mine := d.parentOn i p
    let gone := d.awaited i p
    let d := d.modPtpp i p (fun h => { h with foreign := h.foreign.filter (fun f => !gone.contains f), since := d.nowNs })
    let d := if mine.isSome || (d.ptpiAt i).parent.isNone then
        (d.slotsOf i).foldl (fun d r => d.modRef r (fun h => { h with msg := true })) d
      else d
    runBmca i (some p) d

/-- R345: after one Announce interval in PRE_MASTER. -/
def effPreMaster (i p : Nat) (d : Dev) : Dev :=
  if d.ptpState i p = 5 ∧ (d.ptppAt (8 * i + p)).since + intervalNs (d.logAnn i) ≤ d.nowNs then d.setPtpState i p 6 else d

/-- Keep an Announce's sender among a port's foreign masters, at most eight. -/
def Dev.keepForeign (d : Dev) (i p : Nat) (m ip : List Byte) : Dev :=
  let id := srcId m
  match (d.ptppAt (8 * i + p)).foreign.find? (fun f => f.id == id) with
  | some f =>
    let g : Foreign := ⟨id, m, d.nowNs :: f.times.take 1, ip⟩
    d.modPtpp i p (fun h => { h with foreign := h.foreign.map (fun x => if x.id = id then g else x) })
  | none =>
    if 8 ≤ (d.ptppAt (8 * i + p)).foreign.length then d.bump (R.PTPi_FMOVF i)
    else d.modPtpp i p (fun h => { h with foreign := h.foreign ++ [⟨id, m, [d.nowNs], ip⟩] })

/-- R345: a received Announce. -/
def effAnnounceRx (d : Dev) : Dev :=
  match d.ptpTake 0xB with
  | none => d
  | some (m, d) =>
    let i := m.inst
    let p := m.port
    let id := srcId m.msg
    if !d.ptpLive i p || d.ptpMasterOnly i p || id.take 8 == d.clkId i then d
    else
      let d := d.keepForeign i p m.msg m.srcIp
      let d := d.setFld (R.PTPi_Pp_STAT i p) 7 4 (((d.ptppAt (8 * i + p)).foreign.filter (fun f => f.qualified d.nowNs)).length)
      if (d.ptpiAt i).parent = some (p, id) then (d.showParent i id (beAt m.msg 61 2)).slotMessage i m.msg else d

/-! ### Offsets (R350, R351) -/

/-- Insert into a rising list. -/
def insertInt (x : Int) : List Int → List Int
  | [] => [x]
  | y :: r => if x ≤ y then x :: y :: r else y :: insertInt x r

/-- The median of a list, its middle element in rising order. -/
def medianInt (l : List Int) : Int := (l.foldr insertInt []).getD (l.length / 2) 0

/-- DWIN. -/
def Dev.dwin (d : Dev) (i : Nat) : Nat := d.fld (R.PTPi_DWIN i) 5 0

/-- D, 2^-16 ps, once DWIN delay measurements are done. -/
def Dev.meanDelay (d : Dev) (i p : Nat) : Option Int :=
  let l := (d.ptppAt (8 * i + p)).delays.take (d.dwin i)
  if d.dwin i ≤ l.length ∧ l ≠ [] then some (medianInt l) else none

/-- Keep a delay measurement; more than 63 are never used. -/
def Dev.addDelay (d : Dev) (i p : Nat) (v : Int) : Dev := d.modPtpp i p (fun h => { h with delays := v :: h.delays.take 62 })

/-- The bound and STATE of a bound TLV in a message (R351, R361). -/
def Dev.findBound (d : Dev) (m : List Byte) : Option (Nat × Nat) :=
  ((tlvsOf m).find? (fun t => decide (t.1 = 3 ∧ t.2.2 = 18) && beAt m t.2.1 3 == d.fld R.PTP_BTLV_ORG 23 0 &&
    beAt m (t.2.1 + 3) 3 == 1)).map (fun t => (beAt m (t.2.1 + 6) 8, beAt m (t.2.1 + 14) 1))

/-- U_REF of a sample (R103, R351): the authenticated bound TLV, else the parent's clockAccuracy; none gives no
measurement. -/
def Dev.ptpUref (d : Dev) (i : Nat) (tlv : Option (Nat × Nat)) : Option Nat := match tlv with
  | some (b, st) => if b = unboundedPs ∨ st = 0 ∨ st = 4 then none else some b
  | none => match d.parentMsg i with
    | some m => accLimit (beAt m 49 1)
    | none => none

/-- The instant of a message on a time base, 2^-16 ns. The classifier kept the count of the instance's time base only
(R79); another time base's follows from the difference of the two counts, which changes by steering alone. -/
def Dev.ptpAt (d : Dev) (m : PtpIn) (n : Nat) : Int :=
  let t := d.ptpTb m.inst
  let moved := fun (k : Nat) => (d.tbAt k).steer - m.steers.getD k 0
  if n = t then m.at_
  else m.at_ + ((d.count n : Int) - d.count t - (moved n - moved t)) / (2 ^ 32 : Nat)

/-- The sample of a client slot against a time base (R350, R550). -/
def Dev.ptpSample (d : Dev) (r n p : Nat) (m : PtpIn) (t1c dly : Int) (uRef : Option Nat) : Sample × Dev :=
  let m0 : Int := (d.ptpAt m n - t1c) * 1000 - dly - d.int (R.TSUn_ASYM p) * 65536
  let (m0, d) := if d.fld (R.TBn_CFG n) 1 0 = 1 then
      let (tu, d) := d.taiUtcFor r n (d.refsAt r).taiUtc
      (m0 + (tu - d.int (R.TBn_LEAPCNT n)) * (1000000000000 * 65536 : Nat), d)
    else (m0, d)
  (⟨m0, uRef.getD 0, d.nat (R.EB_RPATH r), 150, (d.ptpAt m 0).toNat * 2 ^ 32, m.steers.getD n 0, m.clksrc, uRef.isSome⟩, d)

/-- A slot takes a Sync: a sample for each time base it serves, and the initial set (R350, R469). -/
def Dev.slotSync (d : Dev) (i p r : Nat) (m : PtpIn) (t1c dly : Int) (uRef : Option Nat) : Dev :=
  let d := d.modRef r (fun h => { h with los := false, sigAt := d.nowNs })
  forRange 8 (fun n d =>
    if !d.refServes r n && n != d.ptpTb i then d
    else
      let (s, d) := d.ptpSample r n p m t1c dly uRef
      (d.deliver r n s).startPtp (r - 18) n s) d

/-- Show M and D, ps (R350). -/
def Dev.showOffset (d : Dev) (i p : Nat) (fwd dly : Int) : Dev :=
  let m := fwd * 1000 - dly - d.int (R.TSUn_ASYM p) * 65536
  (d.wrInt64 (R.PTPi_OFS_LO i) (R.PTPi_OFS_HI i) (Config.shown ((m : Rat) / 65536))).wrInt (R.PTPi_MPD i)
    (satInt 32 (Config.shown ((dly : Rat) / 65536)))

/-- A Sync with its origin time and correction complete: t1c is t1 + c_S, 2^-16 ns (R350). -/
def Dev.syncDone (d : Dev) (m : PtpIn) (t1c : Int) (tlv : Option (Nat × Nat)) : Dev :=
  let i := m.inst
  let p := m.port
  let fwd : Int := (m.at_ : Int) - t1c
  let d := d.modPtpi i (fun h => { h with forward := some fwd })
  match d.meanDelay i p with
  | none => d
  | some dly =>
    let d := if d.ptpState i p = 8 then d.setPtpState i p 9 else d
    (d.slotsOf i).foldl (fun d r => d.slotSync i p r m t1c dly (d.ptpUref i tlv)) (d.showOffset i p fwd dly)

/-- A message comes from the parent, on its port, while that port follows it. -/
def Dev.fromParent (d : Dev) (m : PtpIn) : Bool :=
  (d.ptpState m.inst m.port == 8 || d.ptpState m.inst m.port == 9) &&
  (d.ptpiAt m.inst).parent == some (m.port, srcId m.msg)

/-- R350: a Sync from the parent. -/
def effSyncRx (d : Dev) : Dev :=
  match d.ptpTake 0 with
  | none => d
  | some (m, d) =>
    let i := m.inst
    if !d.fromParent m then d
    else
      let d := d.bumpWrap (R.PTPi_RXSYNC i)
      if (beAt m.msg 6 1).testBit 1 then d.modPtpi i (fun h => { h with waits := h.waits ++ [⟨m, seqOf m.msg, d.nowNs⟩] })
      else d.syncDone m (stampAt m.msg 34 + corrOf m.msg) (if m.auth then d.findBound m.msg else none)

/-- R349: a Follow_Up is matched to its Sync. -/
def effFollowupRx (d : Dev) : Dev :=
  match d.ptpTake 8 with
  | none => d
  | some (f, d) =>
    let i := f.inst
    if !d.fromParent f then d
    else match (d.ptpiAt i).waits.find? (fun w => w.seq == seqOf f.msg && w.msg.port == f.port && srcId w.msg.msg == srcId f.msg) with
      | none => d.bump (R.PTPi_SEQERR i)
      | some w =>
        let d := d.modPtpi i (fun h => { h with waits := h.waits.erase w })
        let tlv := match if f.auth then d.findBound f.msg else none with
          | some t => some t
          | none => if w.msg.auth then d.findBound w.msg.msg else none
        d.syncDone w.msg (stampAt f.msg 34 + corrOf w.msg.msg + corrOf f.msg) tlv

/-- R349: the oldest waiting Sync is discarded after two of the instance's Sync intervals. -/
def effFollowupTimeout (i : Nat) (d : Dev) : Dev := match (d.ptpiAt i).waits with
  | [] => d
  | w :: rest =>
    if d.nowNs < w.at_ + 2 * intervalNs (d.logSync i) then d
    else (d.modPtpi i (fun h => { h with waits := rest })).bump (R.PTPi_SEQERR i)

/-! ### Delay measurements (R349, R350) -/

/-- A request is sent: it waits for its response, and a request that has waited two intervals is given up (R349). -/
def Dev.newRequest (d : Dev) (i p : Nat) : Nat × Dev :=
  let h := d.ptppAt (8 * i + p)
  let old := h.reqs.length - 1
  let d := d.setPtpp (8 * i + p) { h with reqSeq := (h.reqSeq + 1) % 65536, reqs := h.reqs.drop old ++ [{ seq := h.reqSeq }] }
  (h.reqSeq, d.bumpBy (R.PTPi_SEQERR i) old)

/-- The destination of a client's Delay_Req: the group, or the parent that grants Delay_Resp (R355). -/
def Dev.dreqDest (d : Dev) (i p : Nat) : Option PtpDest :=
  if !d.ptpUnicast i then some (d.groupDest i false)
  else match (d.parentAt i p).bind (fun ip => d.clientSess i p ip) with
    | some x => if d.sessState x = 1 ∧ d.sessHolds x 2 then some (d.sessDest x) else none
    | none => none

/-- R350: a Delay_Req. -/
def effDelayReqTx (i p : Nat) (d : Dev) : Dev :=
  if !d.ptpOn i p || d.ptpP2p i || !(d.ptpState i p == 8 || d.ptpState i p == 9) then d
  else match d.dreqDest i p with
    | none => d
    | some dest =>
      if d.bit (R.PTPi_STAT i) 5 then d.bump (R.PTPi_TXSUPP i)
      else
        let (seq, d) := d.newRequest i p
        d.sendPtp { inst := i, port := p, dest := dest, master := false
                    msg := d.ptpHead i p 1 (uniFlag (d.ptpUnicast i)) 0 seq 0x7F ++ zeros 10 }

/-- R350: a Pdelay_Req. -/
def effPdelayReqTx (i p : Nat) (d : Dev) : Dev :=
  if !d.ptpDue i p || !d.ptpP2p i then d
  else if d.bit (R.PTPi_STAT i) 5 then d.bump (R.PTPi_TXSUPP i)
  else
    let (seq, d) := d.newRequest i p
    d.sendPtp { inst := i, port := p, dest := d.groupDest i true, master := false
                msg := d.ptpHead i p 2 0 0 seq 0x7F ++ zeros 20 }

/-- Take the waiting request of a port with a sequenceId. -/
def Dev.takeRequest (d : Dev) (i p seq : Nat) : Option (PtpReq × Dev) :=
  ((d.ptppAt (8 * i + p)).reqs.find? (fun r => r.seq == seq)).map (fun r =>
    (r, d.modPtpp i p (fun h => { h with reqs := h.reqs.erase r })))

/-- R350: a Delay_Resp to a request of the device. -/
def effDelayRespRx (d : Dev) : Dev :=
  match d.ptpTake 9 with
  | none => d
  | some (m, d) =>
    let i := m.inst
    if !d.fromParent m || slice m.msg 44 10 != d.portId i m.port then d
    else match d.takeRequest i m.port (seqOf m.msg) with
      | none => d.bump (R.PTPi_SEQERR i)
      | some (r, d) => match r.left, (d.ptpiAt i).forward with
        | some t3, some fwd => d.addDelay i m.port ((fwd + (stampAt m.msg 34 - (t3 : Nat) - corrOf m.msg)) * 500)
        | _, _ => d

/-- A link delay is complete, 2^-16 ps (R350). -/
def Dev.linkDelay (d : Dev) (i p : Nat) (v : Int) : Dev :=
  (d.addDelay i p v).wrFit (R.PTPi_Pp_MLD i p) (Config.shown ((v : Rat) / 65536))

/-- R350: a Pdelay_Resp to a request of the device: complete when one-step, else it waits for its Follow_Up. -/
def effPdelayRespRx (d : Dev) : Dev :=
  match d.ptpTake 3 with
  | none => d
  | some (m, d) =>
    let i := m.inst
    let p := m.port
    if !d.ptpP2p i || !d.ptpLive i p || slice m.msg 44 10 != d.portId i p then d
    else match d.takeRequest i p (seqOf m.msg) with
      | none => d.bump (R.PTPi_SEQERR i)
      | some (r, d) =>
        let t4 := m.at_
        if (beAt m.msg 6 1).testBit 1 then
          d.modPtpp i p (fun h => { h with reqs := { r with resp := some ⟨srcId m.msg, t4, stampAt m.msg 34, corrOf m.msg⟩ } :: h.reqs })
        else match r.left with
          | some t1 => d.linkDelay i p (((t4 : Nat) - (t1 : Nat) - corrOf m.msg) * 500)
          | none => d

/-- R349: a Pdelay_Resp_Follow_Up completes the link delay. -/
def effPdelayFupRx (d : Dev) : Dev :=
  match d.ptpTake 0xA with
  | none => d
  | some (m, d) =>
    let i := m.inst
    let p := m.port
    if !d.ptpP2p i || !d.ptpLive i p || slice m.msg 44 10 != d.portId i p then d
    else match d.takeRequest i p (seqOf m.msg) with
      | none => d.bump (R.PTPi_SEQERR i)
      | some (r, d') => match r.resp, r.left with
        | some s, some t1 =>
          if s.src = srcId m.msg then
            d'.linkDelay i p (((s.t4 : Nat) - (t1 : Nat) - (stampAt m.msg 34 - s.t2) - s.corr - corrOf m.msg) * 500)
          else d.bump (R.PTPi_SEQERR i)
        | _, _ => d.bump (R.PTPi_SEQERR i)

/-- The LOS timeout of a reference in ns: GNSS 1 500 ms, an on-time edge 1 s + REF_PPSWIN, IRIG-B 2 s, a PTP client slot
three sync intervals; the other references have none (R124). -/
def Dev.losAfter (d : Dev) (r : Nat) : Option Nat :=
  if r ≤ 1 then some 1500000000
  else if (10 ≤ r ∧ r ≤ 13) ∨ r = 16 then some (1000000000 + d.nat R.REF_PPSWIN)
  else if r = 14 ∨ r = 15 then some 2000000000
  else if 18 ≤ r then some (3 * intervalNs (d.logSync (d.fld (R.REFr_CFG r) 6 4)))
  else none

/-- R124: a reference's signal timeout expires, or SyncE's 5 s without an ESMC information PDU. -/
def effRefTimeout (r : Nat) (los : Bool) (d : Dev) : Dev :=
  if los then (match d.losAfter r with
    | some t => if (d.refsAt r).sigAt + t ≤ d.nowNs then d.modRef r (fun h => { h with los := true }) else d
    | none => d)
  else if 2 ≤ r ∧ r ≤ 9 ∧ (d.refsAt r).msgAt + 5000000000 ≤ d.nowNs then d.modRef r (fun h => { h with msg := true })
  else d

/-! ### Meanings -/

def execRefMsgTimeout (r : Fin 24) (los : Bool) (s : State) : Result := s.on (effRefTimeout r los)

def execBmcaRun (i : Fin 8) (s : State) : Result := s.on (runBmca i none)
def execAnnounceReceiptTimeout (i p : Fin 8) (s : State) : Result := s.on (effAnnTimeout i p)
def execPreMasterTimeout (i p : Fin 8) (s : State) : Result := s.on (effPreMaster i p)
def execPtpAnnounceRx (s : State) : Result := s.on effAnnounceRx
def execPtpSyncRx (s : State) : Result := s.on effSyncRx
def execPtpFollowupRx (s : State) : Result := s.on effFollowupRx
def execSyncFollowupTimeout (i : Fin 8) (s : State) : Result := s.on (effFollowupTimeout i)
def execPtpDelayReqTx (i p : Fin 8) (s : State) : Result := s.on (effDelayReqTx i p)
def execPtpPdelayReqTx (i p : Fin 8) (s : State) : Result := s.on (effPdelayReqTx i p)
def execPtpDelayRespRx (s : State) : Result := s.on effDelayRespRx
def execPtpPdelayRespRx (s : State) : Result := s.on effPdelayRespRx
def execPtpPdelayRespFupRx (s : State) : Result := s.on effPdelayFupRx

end Sys2Proof.Machine
end

