-- ==== Sys2Proof/Machine/CryptoJobs.lean ====
section
/-! DEFINITION. Crypto input and crypto output (R26, R86, R279, R286, R312, R358): authentication of PTP messages, NTS
requests, the response builders, and frames on their way to the egress queues. -/
namespace Sys2Proof.Machine

/-! ### PTP authentication (R358, R359) -/

/-- The ICV of a message up to the end of its keyID, under an SA's key (R359). -/
def Dev.icv (d : Dev) (sa : Nat) (key m : List Byte) : List Byte :=
  if d.bit (R.PTP_SAs_CFG sa) 30 then gcmTag key (slice m 20 8 ++ slice m 30 2 ++ be 1 (beAt m 0 1 % 16) ++ slice m 4 1) m []
  else (hmac256 key m).take 16

/-- What the check of R358 says of a received message: accepted, or the cause and the counter of the drop. -/
inductive AuthVerdict
  | ok
  | drop (cause : Nat) (counter : Option Nat)
deriving DecidableEq, Repr

/-- The SA enabled for receiving by an instance with an SPP and a keyID under which the ICV verifies. -/
def Dev.rxSaOk (d : Dev) (i spp keyId : Nat) (m icv : List Byte) : Bool :=
  (List.range 32).any (fun s => d.bit (R.PTPi_RXSA i) s && d.bit (R.PTP_SAs_CFG s) 31 &&
    d.fld (R.PTP_SAs_CFG s) 23 16 == spp && d.nat (R.PTP_SAs_KEYID s) == keyId &&
    (match d.saKey s false with
     | some k => d.icv s k m == icv
     | none => false))

/-- R358: the check of a received message of an instance with AUTH set. -/
def Dev.authCheck (d : Dev) (i : Nat) (m : List Byte) : AuthVerdict :=
  let fail := AuthVerdict.drop causeProto (some (R.PTPi_AUTHFAIL i))
  match (tlvsOf m).find? (fun t => t.1 == 0x8000) with
  | none => .drop causeProto (some (R.PTPi_NOAUTH i))
  | some (_, o, l) =>
    if o + l ≠ m.length then fail
    else if beAt m (o + 1) 1 ≠ 0 then .drop causeUnsup none
    else if l ≠ 22 then fail
    else if d.rxSaOk i (beAt m o 1) (beAt m (o + 2) 4) (m.take (o + 6)) (slice m (o + 6) 16) then .ok
    else fail

/-- A PTP message leaves crypto input: to its instance, or dropped (R358). With AUTH clear it is unauthenticated. -/
def Dev.ptpArrives (d : Dev) (m : PtpIn) : Dev :=
  if !d.ptpAuth m.inst then ({ d with pe := { d.pe with ptp := d.pe.ptp ++ [{ m with auth := false }] } }).pmc 0x0901 (some m.inst) 1
  else match d.authCheck m.inst m.msg with
    | .ok => ({ d with pe := { d.pe with ptp := d.pe.ptp ++ [{ m with auth := true }] } }).pmc 0x0901 (some m.inst) 1
    | .drop c ctr =>
      let d := d.rxDropped m.port c
      match ctr with
      | none => d
      | some a =>
        let d := d.bump a
        if a = R.PTPi_AUTHFAIL m.inst then d.setBit (R.PTPi_STAT m.inst) 4 true else d

/-! ### Crypto input (R286) -/

/-- The kind of engine a job needs: 0 none, 1 SHA, 2 AES. -/
def Dev.engineKind (d : Dev) : Job → Nat
  | .ntp _ => 0
  | .nts .. => 2
  | .send _ none => 0
  | .send _ (some (sa, _)) => if d.bit (R.PTP_SAs_CFG sa) 30 then 2 else 1
  | .ptpIn m =>
    if !d.ptpAuth m.inst then 0
    else match (tlvsOf m.msg).find? (fun t => t.1 == 0x8000) with
      | none => 0
      | some (_, o, _) =>
        match (List.range 32).find? (fun s => d.bit (R.PTPi_RXSA m.inst) s && d.bit (R.PTP_SAs_CFG s) 31 &&
          d.fld (R.PTP_SAs_CFG s) 23 16 == beAt m.msg o 1 && d.nat (R.PTP_SAs_KEYID s) == beAt m.msg (o + 2) 4) with
        | some s => if d.bit (R.PTP_SAs_CFG s) 30 then 2 else 1
        | none => 0

/-- An engine of a kind is not in a block reset, nor stopped by PFW_N (R493). -/
def Dev.engineUp (d : Dev) (kind engine : Nat) : Bool :=
  if kind = 0 then true else if d.flt.pfwStopped then false else if kind = 1 then decide (Target.sha (engine % 4) ∉ d.flt.running)
  else decide (Target.aes engine ∉ d.flt.running)

/-- Priority 2 of R286. -/
def Job.isNts : Job → Bool
  | .nts .. => true
  | _ => false

/-- The job crypto input starts: the oldest that needs no engine, or the oldest of priority 1, or the oldest of
priority 2. -/
def Dev.nextJob (d : Dev) (pass : Bool) : Option Job :=
  if pass then d.pe.input.find? (fun j => d.engineKind j == 0)
  else match d.pe.input.find? (fun j => d.engineKind j != 0 && !j.isNts) with
    | some j => some j
    | none => d.pe.input.find? Job.isNts

/-- Put a job into a response builder. -/
def Dev.toBuilder (d : Dev) (b : Build) : Dev := { d with pe := { d.pe with builders := d.pe.builders ++ [b] } }

/-- R312, steps 3 and 4. -/
def Dev.ntsInput (d : Dev) (r : NtpReq) (e : Nat) (nak : EgFrame) (ks : List (Nat × List Byte)) (engine : Nat) : Dev :=
  match ntsParts r.payload with
  | .inr _ => d.reply nak
  | .inl q => match openCookie ks q.cookie with
    | none => (d.bump R.NTS_NAK_OPEN).reply nak
    | some plain =>
      if authOk r q (slice plain 4 32) then d.toBuilder { job := .nts r e nak ks, keys := plain, engine := engine }
      else (d.bump R.NTS_NAK_AUTH).reply nak

/-- The launch-time frames that the egress scheduler holds for their launch instants: each counts as waiting in crypto
output (R88). -/
def Dev.heldLaunch (d : Dev) : List EgFrame :=
  (List.range 64).flatMap (fun q => (d.egressAt q).filter (fun f => match f.launch with
    | some t => decide (c16 (d.count f.tb) < t)
    | none => false))

/-- R286: a job leaves the crypto input queue for an engine, or for a response builder without one; it waits while the
builders are full. -/
def effCryptoInput (engine : Nat) (pass : Bool) (d : Dev) : Dev :=
  if 512 ≤ d.pe.builders.length + d.heldLaunch.length then d
  else match d.nextJob pass with
    | none => d
    | some j =>
      if !d.engineUp (d.engineKind j) engine then d
      else
        let d := { d with pe := { d.pe with input := d.pe.input.erase j } }
        match j with
        | .ptpIn m => d.ptpArrives m
        | .nts r e nak ks => d.ntsInput r e nak ks engine
        | j => d.toBuilder { job := j, engine := engine }

/-! ### Crypto output -/

/-- Fix a launch-time frame's instant and its fields (R86). -/
def Dev.fixLaunch (d : Dev) (f : EgFrame) : EgFrame :=
  if !f.wantLaunch then f
  else
    let t := d.launchAt f.tb
    { f with bytes := f.ins.foldl (d.insert f.tb t (d.boundAt f.tb f.port d.launchLead true)) f.bytes, ins := [], launch := some t }

/-- Write a message's ICV (R358): the message starts at an offset of the frame. -/
def Dev.writeIcv (d : Dev) (sa off : Nat) (f : EgFrame) : Option EgFrame := match d.saKey sa true with
  | none => none
  | some k =>
    let n := beAt f.bytes (off + 2) 2
    some { f with bytes := patch f.bytes (off + n - 16) (d.icv sa k (slice f.bytes off (n - 16))) }

/-- A frame to send is complete: launch fields, ICV, UDP checksum. A message whose SA has lost its key is suppressed and
counted (R360). -/
def Dev.buildSend (d : Dev) (f : EgFrame) (sa : Option (Nat × Nat)) : Option EgFrame :=
  let g := d.fixLaunch f
  let g := match sa with
    | none => some g
    | some (s, off) => d.writeIcv s off g
  g.map (fun g => { g with bytes := repair f.cksum f.ckOff f.bytes g.bytes })

/-- The frame a builder's job gives; none when it gives none. -/
def Dev.build (d : Dev) (b : Build) : Option EgFrame × Dev := match b.job with
  | .ntp r => let (f, d) := d.buildNtp r; (some f, d)
  | .nts r e _ ks => match ntsParts r.payload with
    | .inl q => match d.buildNts r q (keyOf ks e) e b.engine b.keys with
      | some (f, d) => (some f, d)
      | none => (none, d)
    | .inr _ => (none, d)
  | .send f sa => match d.buildSend f sa with
    | some g => (some g, d)
    | none => (none, match f.src with
      | .ptp i _ _ => d.bump (R.PTPi_TXSUPP i)
      | _ => d)
  | .ptpIn _ => (none, d)

/-- Replace or remove the k-th builder. -/
def Dev.setBuilder (d : Dev) (k : Nat) (b : Option Build) : Dev :=
  { d with pe := { d.pe with builders := d.pe.builders.take k ++ b.toList ++ d.pe.builders.drop (k + 1) } }

/-- Offer a builder's frame to its egress queue: it leaves the builder, or waits there (R26). -/
def Dev.offerBuilt (d : Dev) (k : Nat) (b : Build) (f : EgFrame) : Dev := match d.enqueue f with
  | some d => d.setBuilder k none
  | none => d.setBuilder k (some { b with ready := some f, readyAt := if b.ready.isSome then b.readyAt else d.nowNs })

/-- R312, R86: the k-th builder's frame is completed and enters its egress queue, when that has room. -/
def effCryptoOutput (k : Nat) (d : Dev) : Dev := match d.pe.builders[k]? with
  | none => d
  | some b =>
    if !d.engineUp (d.engineKind b.job) b.engine then d
    else match b.ready with
      | some f => d.offerBuilt k b f
      | none => match d.build b with
        | (some f, d) => d.offerBuilt k b f
        | (none, d) => d.setBuilder k none

/-- A held launch-time frame whose queue stayed full for 50 µs is dropped whole (R26, R88). -/
def Dev.dropHeld (d : Dev) (k : Nat) : Dev := match d.heldLaunch[k]? with
  | none => d
  | some f =>
    if d.queueFull f.port f.cls 60 then
      ((d.setQueue f.port f.cls ((d.queue f.port f.cls).erase f)).bump (R.PE_EGQ_TMO_DROP f.port)).pmc 0x0603 (some f.port) 1
    else d

/-- R26: a frame whose egress queue stayed full for 50 µs is dropped whole. -/
def effEgressTimeout (k : Nat) (d : Dev) : Dev := match d.pe.builders[k]? with
  | none => d.dropHeld (k - d.pe.builders.length)
  | some b => match b.ready with
    | none => d
    | some f => if d.queueFull f.port f.cls f.bytes.length ∧ b.readyAt + 50000 ≤ d.nowNs then ((d.setBuilder k none).bump (R.PE_EGQ_TMO_DROP f.port)).pmc 0x0603 (some f.port) 1 else d

/-! ### Meanings -/

def execCryptoInputJob (engine : Fin 16) (pass : Bool) (s : State) : Result := s.on (effCryptoInput engine pass)
def execCryptoOutputJob (k : Nat) (s : State) : Result := s.on (effCryptoOutput k)
def execEgressQueueTimeout (k : Nat) (s : State) : Result := s.on (effEgressTimeout k)

end Sys2Proof.Machine
end

