-- ==== Sys2Proof/Machine/Keys.lean ====
section
/-! DEFINITION. The key store (chapter 13): the Working Key Register, host key commands, Apgor update messages and the
Custodian unlock. -/
namespace Sys2Proof.Machine

/-! ### Results (R375) -/

/-- A key-store command ends with a STATUS and its output. -/
def Dev.ksDone (d : Dev) (c : List Byte) (status : Nat) (out : List Byte) : Dev :=
  d.cmdDone (c.take 1 ++ be 1 status ++ [0, 0] ++ slice c 4 4 ++ le 4 out.length ++ zeros 4 ++ out)

/-- The STATUS of the first test that fails. -/
def firstStatus : List (Bool × Nat) → Nat
  | [] => 0
  | (bad, st) :: r => if bad then st else firstStatus r

/-- LEN bytes of a command's input. -/
def cmdInput (c input : List Byte) : List Byte := (input ++ zeros (leAt c 16 4)).take (leAt c 16 4)

/-! ### The Working Key Register (R373, R374) -/

/-- Load the WKR and show it. -/
def Dev.loadWkr (d : Dev) (key : List Byte) (attr slot : Nat) (derived : Bool) : Dev :=
  ({ d with ks := { d.ks with wkr := some ⟨key, attr⟩ } }).wrNat R.KS_WKR_STAT
    (2 ^ 31 + b2n derived * 2 ^ 29 + attr * 2 ^ 24 + slot * 2 ^ 8)

/-- Clear the WKR. -/
def Dev.clearWkr (d : Dev) : Dev := ({ d with ks := { d.ks with wkr := none } }).wrNat R.KS_WKR_STAT 0

/-- WKR_LOAD. -/
def effWkrLoad (d : Dev) : Dev := match d.hostCmd [2] with
  | none => d
  | some c =>
    let s := leAt c 1 1
    match if s < 64 then d.slotKey s else none with
    | none => d.ksDone c 6 []
    | some (a, k) => if a = 3 then d.ksDone c 7 [] else (d.loadWkr k a s false).ksDone c 0 []

/-- "XB-HOSTK". -/
def hostLabel : List Byte := [0x58, 0x42, 0x2D, 0x48, 0x4F, 0x53, 0x54, 0x4B]

/-- WKR_DERIVE. -/
def effWkrDerive (d : Dev) : Dev := match d.hostCmd [3] with
  | none => d
  | some c =>
    let s := leAt c 1 1
    match if s < 64 then d.slotKey s else none with
    | none => d.ksDone c 6 []
    | some (a, k) =>
      let n := leAt c 3 1
      let st := firstStatus [(decide (a ≠ 3 ∨ 2 < leAt c 2 1), 7), (decide (n ≠ 16 ∧ n ≠ 32), 9)]
      if st ≠ 0 then d.ksDone c st []
      else (d.loadWkr (kdf k hostLabel (slice c 32 16) 0 0 (8 * n)) (leAt c 2 1) s true).ksDone c 0 []

/-- WKR_CLEAR. -/
def effWkrClear (d : Dev) : Dev := match d.hostCmd [7] with
  | none => d
  | some c => d.clearWkr.ksDone c 0 []

/-- A command that works under the WKR: its attribute, its range of LEN, and its output or the STATUS of its failure. -/
def Dev.wkrOp (d : Dev) (op attr lo hi mult : Nat) (input : List Byte) (f : List Byte → List Byte → List Byte → List Byte ⊕ Nat) :
    Dev := match d.hostCmd [op] with
  | none => d
  | some c => match d.ks.wkr with
    | none => d.ksDone c 8 []
    | some w =>
      let n := leAt c 16 4
      let st := firstStatus [(decide (w.attr ≠ attr), 7), (decide (n < lo ∨ hi < n ∨ n % mult ≠ 0), 9)]
      if st ≠ 0 then d.ksDone c st []
      else match f w.key (slice c 20 12) (cmdInput c input) with
        | .inl out => d.ksDone c 0 out
        | .inr st => d.ksDone c st []

/-- WRAP. -/
def effWrap (input : List Byte) (d : Dev) : Dev := d.wkrOp 4 2 16 256 8 input (fun k _ x => .inl (kwWrap k x))
/-- ENCRYPT. -/
def effEncrypt (input : List Byte) (d : Dev) : Dev :=
  d.wkrOp 5 0 1 4096 1 input (fun k iv x => .inl (gcmCtr k iv x ++ gcmTag k iv [] (gcmCtr k iv x)))
/-- DECRYPT. -/
def effDecrypt (input : List Byte) (d : Dev) : Dev :=
  d.wkrOp 6 1 17 4112 1 input (fun k iv x =>
    let c := x.take (x.length - 16)
    if gcmTag k iv [] c = x.drop (x.length - 16) then .inl (gcmCtr k iv c) else .inr 10)

/-! ### Apgor update messages (R376 to R383) -/

/-- One operation of a message: OP, SLOT, ATTR, KLEN, WKEY. -/
structure ApgorOp where
  op : Nat
  slot : Nat
  attr : Nat
  klen : Nat
  wkey : List Byte
deriving DecidableEq, Repr

/-- The operations of a message. -/
def apgorOps (m : List Byte) : List ApgorOp :=
  (List.range (beAt m 5 1)).map (fun i =>
    let o := 224 + 64 * i
    ⟨beAt m o 1, beAt m (o + 1) 1, beAt m (o + 2) 1, beAt m (o + 3) 1, slice m (o + 4) 40⟩)

/-- No slot is named twice. -/
def slotsDistinct : List Nat → Bool
  | [] => true
  | s :: r => decide (s ∉ r) && slotsDistinct r

/-- Check 2 of R379. -/
def apgorFormOk (m : List Byte) : Bool :=
  let n := beAt m 5 1
  let ops := apgorOps m
  beAt m 0 4 == 0x41504752 && beAt m 4 1 == 1 && decide (1 ≤ n ∧ n ≤ 8) && beAt m 6 2 == 224 + 64 * n + 96 &&
  beAt m 6 2 == m.length && slotsDistinct (ops.map (·.slot)) &&
  ops.all (fun o => decide (o.slot < 64) && (o.op == 2 || (o.op == 1 && decide (o.attr ≤ 3) &&
    (o.klen == 32 || (o.klen == 16 && o.attr != 3))))) &&
  (ops.all (fun o => o.op == 2) || (slice m 32 96 != zeros 96 && onCurve (beAt m 32 48) (beAt m 80 48)))

/-- KS_DEVID, 16 bytes. -/
def Dev.devId (d : Dev) : List Byte := (List.range 4).flatMap (fun w => be 4 (d.nat (R.KS_DEVID w)))
/-- KS_AUTHHASH, 48 bytes. -/
def Dev.authHash (d : Dev) : List Byte := (List.range 12).flatMap (fun w => be 4 (d.nat (R.KS_AUTHHASH w)))
/-- The stored counter. -/
def Dev.ksCtr (d : Dev) : Nat := d.nat64 R.KS_CTR_LO R.KS_CTR_HI

/-- "XB-APGOR". -/
def apgorLabel : List Byte := [0x58, 0x42, 0x2D, 0x41, 0x50, 0x47, 0x4F, 0x52]

/-- The message key K_M (R377). -/
def messageKey (m : List Byte) : List Byte :=
  match ecMul (beAt m 32 48, beAt m 80 48) 384 Config.staticPriv with
  | some (x, _) => (sha384 (be 4 1 ++ be 48 x ++ apgorLabel ++ slice m 8 24)).take 32
  | none => (sha384 (be 4 1 ++ zeros 48 ++ apgorLabel ++ slice m 8 24)).take 32

/-- The key of an operation: none for an erasure; the outer none is a failed unwrap. -/
def opKey (km : List Byte) (o : ApgorOp) : Option (Option (List Byte)) :=
  if o.op = 2 then some none else (kwUnwrap km (o.wkey.take (o.klen + 8))).map some

/-- Every operation with its key, when every WKEY unwraps. -/
def opsKeys (km : List Byte) : List ApgorOp → Option (List (Nat × Nat × Option (List Byte)))
  | [] => some []
  | o :: r => match opKey km o, opsKeys km r with
    | some k, some ks => some ((o.slot, o.attr, k) :: ks)
    | _, _ => none

/-- The checks of R379 in their order: the STATUS of the first that fails, or the operations. -/
def Dev.apgorCheck (d : Dev) (m : List Byte) : List (Nat × Nat × Option (List Byte)) ⊕ Nat :=
  let st := firstStatus [
    (!d.bit R.KS_STAT 1, 17), (!apgorFormOk m, 11), (slice m 8 16 != d.devId, 12), (decide (beAt m 24 8 ≤ d.ksCtr), 13),
    (sha384 (slice m 128 96) != d.authHash ||
      !ecdsaOk (slice m 128 96) (m.take (m.length - 96)) (m.drop (m.length - 96)), 14)]
  if st ≠ 0 then .inr st
  else match opsKeys (messageKey m) (apgorOps m) with
    | none => .inr 15
    | some ops => if d.pfw then .inr 16 else .inl ops

/-- Begin to store the next operation of the store in progress: its slot is STORING and its sector is erased (R380). -/
def Dev.storeBegin (d : Dev) : Dev := match d.ks.store with
  | some st => (match st.ops with
    | (s, _, _) :: _ => (d.setFld (R.KS_SLOTs s) 31 30 3).flashErase (slotAddr s) 0x1000
    | [] => d)
  | none => d

/-- An Apgor command fails: counted and recorded (R380). -/
def Dev.apgorFail (d : Dev) (c : List Byte) (status counter : Nat) : Dev :=
  ((d.bump R.KS_APGOR_REJ).record 0x0006 0x1C (be 1 status ++ zeros 3 ++ be 8 counter)).ksDone c status []

/-- R379: a message that passes every check starts its store; the command leaves the queue and its result follows the
store. -/
def effApgor (input : List Byte) (d : Dev) : Dev := match d.hostCmd [8] with
  | none => d
  | some c =>
    let m := cmdInput c input
    if !d.bit R.KS_STAT 1 then d.apgorFail c 17 (beAt m 24 8)
    else if leAt c 16 4 < 384 ∨ 832 < leAt c 16 4 then d.apgorFail c 9 (beAt m 24 8)
    else match d.apgorCheck m with
      | .inr st => d.apgorFail c st (beAt m 24 8)
      | .inl ops =>
        let (d, lost) := d.popCmd
        (({ d with ks := { d.ks with store := some ⟨ops, beAt m 24 8, slice c 4 4, lost⟩ } }).setBit R.KS_STAT 4 true).storeBegin

/-- A slot record (R368). -/
def slotRecord (s attr counter : Nat) (key : Option (List Byte)) : List Byte :=
  let w := match key with
    | some k => kwWrap slotWrapKey k
    | none => []
  let b := be 1 s ++ be 1 (if key.isSome then attr else 0) ++ be 1 (key.getD []).length ++ [0] ++ be 8 counter ++ w ++ zeros (40 - w.length)
  b ++ ksTag b ++ zeros 8

/-- R380, R383: the record of the slot being stored is programmed and read back; the new key serves from now on, and the
next operation begins. -/
def effSlotStored (d : Dev) : Dev := match d.ks.store with
  | none => d
  | some st => match st.ops with
    | [] => d
    | (s, a, k) :: rest =>
      let r := slotRecord s a st.counter k
      let d := d.flashProgram (slotAddr s) r
      let d := { d with ks := { d.ks with sram := Map.put d.ks.sram (fun _ => []) s r, store := some { st with ops := rest } } }
      let d := (d.slotShow s).slotChanged s
      let d := if s = d.fld R.NTS_CFG 13 8 then { d with nts := { d.nts with rekey := true } } else d
      d.storeBegin

/-- The older of the two counter copies: the one with the smaller counter, or with a bad tag (R380, R382). -/
def Dev.copyCounter (d : Dev) (c : Nat) : Option Nat :=
  let b := d.flashRead (ctrAddr c) 12
  if slice b 8 4 = ksTag (b.take 8) then some (beAt b 0 8) else none

/-- Which copy the next counter goes to. -/
def Dev.olderCopy (d : Dev) : Nat := match d.copyCounter 0, d.copyCounter 1 with
  | none, _ => 0
  | some _, none => 1
  | some a, some b => if b < a then 1 else 0

/-- R380: after the last operation the counter is written and the command is done. -/
def effStoreDone (d : Dev) : Dev := match d.ks.store with
  | none => d
  | some st =>
    if st.ops ≠ [] then d
    else
      let a := ctrAddr d.olderCopy
      let d := (d.flashErase a 0x1000).flashProgram a (be 8 st.counter ++ ksTag (be 8 st.counter))
      let d := (((d.wrNat64 R.KS_CTR_LO R.KS_CTR_HI st.counter).setBit R.KS_STAT 4 false).setBit R.KS_STAT 3 false).bump R.KS_APGOR_OK
      let d := { d with ks := { d.ks with store := none } }
      (d.resultOffer st.lost ([0x08, 0, 0, 0] ++ st.tag ++ zeros 8)).bumpWrap R.PE_HOSTOPS

/-! ### Custodian unlock (R385 to R387) -/

/-- A port's unlock state. -/
def Dev.portKs (d : Dev) (p : Port) : PortKs := Map.get d.ks.role (fun _ => {}) p.num
/-- Replace a port's unlock state. -/
def Dev.setPortKs (d : Dev) (p : Port) (x : PortKs) : Dev :=
  { d with ks := { d.ks with role := Map.put d.ks.role (fun _ => {}) p.num x } }

/-- R386: a write of KS_CMD.CHAL; the noise source's bytes are free. -/
def effChallenge (p : Port) (d : Dev) : Dev :=
  if (d.portKs p).locked then d
  else
    let (bs, d) := d.freeBytes 32
    let d := forRange 8 (fun w d => d.wrNat (pAddr p (R.KS_CHAL w)) (beAt bs (4 * w) 4)) d
    d.setPortKs p { d.portKs p with chal := true, chalAt := d.nowNs }

/-- "XB-CUSTODIAN". -/
def custLabel : List Byte := [0x58, 0x42, 0x2D, 0x43, 0x55, 0x53, 0x54, 0x4F, 0x44, 0x49, 0x41, 0x4E]

/-- Words of a per-port register array, big-endian. -/
def Dev.portWords (d : Dev) (p : Port) (r : Nat → Nat) (n : Nat) : List Byte :=
  (List.range n).flatMap (fun w => be 4 (d.nat (pAddr p (r w))))

/-- The port holds a challenge less than 60 s old (R386). -/
def Dev.chalValid (d : Dev) (p : Port) : Bool :=
  (d.portKs p).chal && decide (d.nowNs < (d.portKs p).chalAt + 60000000000)

/-- The port's response verifies against its challenge (R386). -/
def Dev.unlockOk (d : Dev) (p : Port) : Bool :=
  d.chalValid p &&
  ecdsaOk d.sys.custKey (custLabel ++ d.devId ++ d.portWords p R.KS_CHAL 8 ++ be 1 p.num ++ be 4 (d.nat (pAddr p R.KS_UNLOCK_DUR)))
    (d.portWords p R.KS_RESP 24)

/-- A failed unlock: the challenge is consumed; the eighth in a row locks the port out (R386). -/
def Dev.unlockFailed (d : Dev) (p : Port) : Dev :=
  let k := d.portKs p
  (d.bump (pAddr p R.KS_UNLOCK_FAIL)).setPortKs p
    { k with chal := false, fails := k.fails + 1, locked := decide (8 ≤ k.fails + 1), lockAt := d.nowNs }

/-- R386: a write of KS_CMD.UNLOCK. -/
def effUnlock (p : Port) (d : Dev) : Dev :=
  if (d.portKs p).locked then d
  else if d.unlockOk p then
    let dur := d.fld (pAddr p R.KS_UNLOCK_DUR) 16 0
    (d.wrNat (pAddr p R.KS_ROLE) (2 ^ 31 + dur)).setPortKs p
      { chal := false, fails := 0, locked := false, leftMs := if dur = 0 then none else some (dur * 1000) }
  else d.unlockFailed p

/-- The port is an Observer again. -/
def Dev.toObserver (d : Dev) (p : Port) : Dev :=
  (d.wrNat (pAddr p R.KS_ROLE) 0).setPortKs p { d.portKs p with leftMs := none }

/-- R387: a write of KS_CMD.LOCK. -/
def effLock (p : Port) (d : Dev) : Dev := d.toObserver p

/-- R387, R519: the duration expires; ROLE interrupts that port only. -/
def effCustExpire (p : Port) (d : Dev) : Dev :=
  if d.isCust p ∧ (d.portKs p).leftMs = some 0 then
    Dev.msixRises d ((d.toObserver p).setBit (pAddr p R.HIF_ISTAT) 12 true)
  else d

/-- R386: the challenge's 60 s end. -/
def effChalExpire (p : Port) (d : Dev) : Dev := if d.chalValid p then d else d.setPortKs p { d.portKs p with chal := false }

/-- R386: the 60 s of a lockout end. -/
def effLockoutEnd (p : Port) (d : Dev) : Dev :=
  if (d.portKs p).locked ∧ (d.portKs p).lockAt + 60000000000 ≤ d.nowNs then d.setPortKs p { d.portKs p with fails := 0, locked := false } else d

/-- A tick's share: the seconds that KS_ROLE shows run down. -/
def tickRole (d : Dev) : Dev :=
  [Port.pcie, Port.spi].foldl (fun d p => match (d.portKs p).leftMs with
    | some ms =>
      let left := ms - 1
      (d.setPortKs p { d.portKs p with leftMs := some left }).setFld (pAddr p R.KS_ROLE) 16 0 (max 1 ((left + 999) / 1000))
    | none => d) d

/-- R388: a read of KS_CTR_LO latches KS_CTR_HI. -/
def effCtrLatch (p : Port) (d : Dev) : Dev := (d.latchRegs p [R.KS_CTR_HI]).emit (.readData p (d.rd R.KS_CTR_LO))

/-! ### Meanings -/

def execWkrLoad (s : State) : Result := s.on effWkrLoad
def execWkrDerive (s : State) : Result := s.on effWkrDerive
def execWrap (input : List Byte) (s : State) : Result := s.on (effWrap input)
def execEncrypt (input : List Byte) (s : State) : Result := s.on (effEncrypt input)
def execDecrypt (input : List Byte) (s : State) : Result := s.on (effDecrypt input)
def execWkrClear (s : State) : Result := s.on effWkrClear
def execApgor (input : List Byte) (s : State) : Result := s.on (effApgor input)
def execApgorSlotStored (s : State) : Result := s.on effSlotStored
def execApgorStoreDone (s : State) : Result := s.on effStoreDone
def execKsChallenge (p : Port) (s : State) : Result := s.on (fun d => d.asAny p (effChallenge p))
def execKsUnlock (p : Port) (s : State) : Result := s.on (fun d => d.asAny p (effUnlock p))
def execKsLock (p : Port) (s : State) : Result := s.on (fun d => d.asAny p (effLock p))
def execCustodianExpire (p : Port) (s : State) : Result := s.on (effCustExpire p)
def execChallengeExpire (p : Port) (s : State) : Result := s.on (effChalExpire p)
def execUnlockLockoutEnd (p : Port) (s : State) : Result := s.on (effLockoutEnd p)
def execKsCtrLatchRead (p : Port) (s : State) : Result := s.on (fun d => d.asRead p (effCtrLatch p))

end Sys2Proof.Machine
end

