-- ==== Sys2Proof/Machine/PairState.lean ====
section
/-! DEFINITION. Ownership of the outputs and the pair states (R402 to R410, R413 to R415). -/
namespace Sys2Proof.Machine

/-- Change the pair's hidden state. -/
def Dev.modPair (d : Dev) (f : PairHid → PairHid) : Dev := { d with pair := f d.pair }
/-- Pair operation (R390). -/
def Dev.pairOn (d : Dev) : Bool := d.bit R.PAIR_CFG 31

/-! ### STATUS bytes and records (R394, R490) -/

/-- Own STATUS. -/
def Dev.ownStatus (d : Dev) : Nat :=
  d.pairState * 16 + b2n (d.bit R.PAIR_STATE 0) * 8 + b2n (d.bit R.PAIR_STATE 8) * 4 + b2n (d.bit R.PAIR_STATE 11) * 2 +
  b2n (d.bit R.PAIR_STAT 9)
/-- The body of a PAIR record: both STATUS bytes and the cause: 0 silence, 1 mate fault, 2 yield, 3 override,
4 handover. -/
def Dev.pairBody (d : Dev) (cause : Nat) : List Byte :=
  be 1 d.ownStatus ++ be 1 (d.pair.status.getD 0) ++ be 1 cause ++ [0]
/-- Append the PAIR record of a change, with the bytes as they stood before it. -/
def Dev.pairRecord (d : Dev) (body : List Byte) : Dev := d.record 0x0007 0x1D body

/-- The Strait link is heard. -/
def Dev.mateHeard (d : Dev) : Bool := d.pair.status.isSome && !d.bit R.PAIR_STAT 0
/-- The mate's latest heartbeat claims ownership. -/
def Dev.mateOwns (d : Dev) : Bool := (d.pair.status.getD 0).testBit 3
/-- KS_DEVID that the mate's latest STATE frame reports. -/
def Dev.mateDevId (d : Dev) : Option (List Byte) := d.pair.mate.map (fun b => b.take 16)
/-- The unit acts as the preferred one (R390, R408). -/
def Dev.preferred (d : Dev) : Bool :=
  if d.bit R.PAIR_STAT 3 then match d.mateDevId with
    | some m => decide (ofBe d.devId < ofBe m)
    | none => d.bit R.PAIR_STATE 8
  else d.bit R.PAIR_STATE 8

/-! ### Windows about PPS edges (R406, R413) -/

/-- A leading edge of an enabled PPS output leaves within some ps before or after an instant a number of ps ahead. -/
def Dev.ppsNear (d : Dev) (ahead : Int) (before after : Nat) : Bool :=
  (List.range 8).any (fun m =>
    let h := d.ppsAt m
    let p : Int := ppsPeriod (wfld h.cfg 5 4)
    let now : Int := (d.count (wfld h.cfg 3 1) / 2 ^ 32 * 1000 / 65536 : Nat)
    let e := (now + ahead + signed 16 h.dly.toNat - h.ofs.toInt) % p
    wbit h.cfg 0 && (decide (e ≤ before) || decide (p - e ≤ after)))

/-! ### The session shadow (R357, R398, R410) -/

/-- A kind's next sequenceId at a new owner: the mirrored one plus the intervals since the mirror instant, plus 1. -/
def advanceSeq (seq age : Nat) (log : Int) : Nat := (seq + age / intervalNs log + 1) % 65536

/-- A shadow entry as the new owner writes it. -/
def shadowEntry (e : List Byte) (age : Nat) : List Byte :=
  patch e 56 (be 2 (advanceSeq (beAt e 56 2) age (signed 8 (beAt e 38 1))) ++
    be 2 (advanceSeq (beAt e 58 2) age (signed 8 (beAt e 39 1))))

/-- Write one shadow entry into the table: at its own index, or at the lowest free one when that index holds an own
client session; lost when none is free. -/
def Dev.loadEntry (d : Dev) (x age : Nat) (e : List Byte) : Dev :=
  if beAt e 0 1 = 0 ∨ 128 ≤ beAt e 2 1 then d
  else if d.sessState x ≠ 0 ∧ d.sessClient x then
    match (List.range 4096).find? (fun y => d.sessState y == 0) with
    | some y => ((d.setSess y 0 (shadowEntry e age)).setPtpx y {}).bump R.PAIR_SESS_MOVED
    | none => d.bump R.PAIR_SESS_LOST
  else (d.setSess x 0 (shadowEntry e age)).setPtpx x {}

/-- Write one shadow segment. -/
def Dev.loadSegment (d : Dev) (g : Nat) : Dev := match Map.get d.pair.shadow (fun _ => none) g with
  | none => d
  | some (t, bs) => forRange 64 (fun j d => d.loadEntry (64 * g + j) (d.now0 - t) (slice bs (64 * j) 64)) d

/-- Load the shadow into the session table (R357). -/
def Dev.loadShadow (d : Dev) : Dev :=
  if d.pair.shadow = [] then d
  else
    let d := forRange 64 (fun g d => d.loadSegment g) d
    d.wrNat R.PTP_SESS_USED ((List.range 4096).filter (fun x => d.sessState x != 0)).length

/-! ### Claims and releases (R402, R406, R410) -/

/-- The latch takes a change, with the state that goes with it. -/
def Dev.takeLatch (d : Dev) (c : LatchChange) : Dev :=
  let d := (d.modPair (fun h => { h with deferred := none, refreshAt := d.nowNs })).setOwn c.set
  let d := if c.takeover then ((d.bump R.PAIR_TAKEOVERS).setBit R.PAIR_STAT 6 true).interrupt 10 else d
  d.setPairState c.state

/-- Change the latch, or wait while an edge of an enabled PPS output is within 2 µs (R406). -/
def Dev.changeLatch (d : Dev) (c : LatchChange) : Dev :=
  if d.ppsNear 0 2000000 2000000 then d.modPair (fun h => { h with deferred := some c }) else d.takeLatch c

/-- Claim ownership plainly. -/
def Dev.claim (d : Dev) (takeover : Bool) (state : Nat) : Dev := (d.loadShadow).changeLatch ⟨true, takeover, state⟩

/-- Override the mate's claim (R405): not held back by R406. -/
def Dev.override (d : Dev) (takeover : Bool) : Dev :=
  ((((d.loadShadow).takeLatch ⟨true, takeover, 5⟩).modPair (fun h => { h with overAt := d.nowNs })).emit (.ownOut 2)).bump
    R.PAIR_OVERRIDES

/-- Claim ownership outside a declaration: by override, with its record, while the mate's claim is sensed (R405). -/
def Dev.claimSensed (d : Dev) (state : Nat) : Dev :=
  if d.bit R.PAIR_STATE 10 then (d.override false).pairRecord (d.pairBody 3) else d.claim false state

/-- The state of a unit that gave up ownership: STANDBY, or ISOLATED when it hears no heartbeat. -/
def Dev.afterYield (d : Dev) : Nat := if d.mateHeard then 3 else 6

/-- End an agreed or offered handover. -/
def Dev.endHandover (d : Dev) : Dev := d.modPair (fun h => { h with ho := 0, hoCmd := false })

/-- The mate is declared failed (R409). -/
def Dev.declareFail (d : Dev) (cause : Nat) : Dev :=
  let st := d.pairState
  if !d.pairOn || d.bit R.PAIR_STATE 11 then d
  else if st = 3 ∨ (st = 4 ∧ !d.bit R.PAIR_STATE 0) then
    let b := d.pairBody cause
    let d := d.endHandover
    if d.bit R.PAIR_STATE 10 then
      let b3 := d.pairBody 3
      ((d.override true).pairRecord b).pairRecord b3
    else (d.claim true 2).pairRecord b
  else if st = 1 ∨ st = 4 then ((d.endHandover).setPairState 2).pairRecord (d.pairBody cause)
  else d

/-- The rules by which a unit leaves INIT, its fault state, or ISOLATED on hearing its mate (R408). A mate that is heard
owns when its heartbeat says so or its claim is sensed. -/
def Dev.resolvePair (d : Dev) : Dev :=
  if d.mateHeard then
    if d.mateOwns ∨ d.bit R.PAIR_STATE 10 then d.setPairState 3
    else if d.pair.status.getD 0 / 16 = 0 ∨ d.pair.status.getD 0 / 16 = 3 then (if d.preferred then d.claim false 1 else d.setPairState 3)
    else d.claim false 2
  else if d.bit R.PAIR_STATE 10 then d.setPairState 6
  else d.claim false 2

/-- The fault state ends when none of its conditions is left (R401). -/
def Dev.faultLeave (d : Dev) : Dev :=
  if d.bit R.PAIR_STATE 11 ∧ !d.faultCond then
    let d := (d.setBit R.PAIR_STATE 11 false).emit (.causeway false)
    if d.pairState = 7 then d.resolvePair else d
  else d

/-- Bring the fault state up to date. -/
def Dev.faultUpdate (d : Dev) : Dev := d.faultEnter.faultLeave

/-! ### Silence and the Causeway (R400, R409) -/

/-- Show whether the mate reports a fault state, by either path (PAIR_STAT.MATE_FAULT); its onset declares the mate
failed. -/
def Dev.mateFault (d : Dev) : Dev :=
  let f := d.pair.cwFault || (d.pair.status.getD 0).testBit 1
  if d.bit R.PAIR_STAT 2 = f then d
  else
    let d := d.setBit R.PAIR_STAT 2 f
    if f then d.declareFail 1 else d

/-- A path falls silent: alone it is an alarm, with the other it declares the mate failed (R409). -/
def Dev.pathSilent (d : Dev) (bit other : Nat) : Dev :=
  if !d.pairOn || d.bit R.PAIR_STAT bit then d
  else
    let d := d.setBit R.PAIR_STAT bit true
    if d.bit R.PAIR_STAT other then d.declareFail 0 else (d.bump R.PAIR_ALARMS).raiseLevel 25 bit

/-- A path is heard again. -/
def Dev.pathHeard (d : Dev) (bit other : Nat) : Dev :=
  if !d.bit R.PAIR_STAT bit then d
  else
    let d := d.setBit R.PAIR_STAT bit false
    if d.bit R.PAIR_STAT other then d else d.endLevel 25

/-- PAIR_SILENCE in ns. -/
def Dev.silenceNs (d : Dev) : Nat := d.fld R.PAIR_SILENCE 9 0 * 1000

/-- A lane has delivered a valid heartbeat within the last PAIR_SILENCE microseconds (R391). -/
def Dev.laneHeard (d : Dev) (l : Nat) : Bool := match d.pair.heardAt.getD l none with
  | some t => decide (d.nowNs < t + d.silenceNs)
  | none => false

/-- Show a lane: UP with block lock and a recent heartbeat, SILENT without one (R391, R421). -/
def laneShow (l : Nat) (d : Dev) : Dev :=
  d.wrNat (R.PAIR_Ll_STAT l) (if d.laneHeard l then b2n (d.pair.lock.getD l false) else 2)

/-- R409: no valid heartbeat on either lane for PAIR_SILENCE microseconds. -/
def effStraitSilence (d : Dev) : Dev :=
  if !d.pairOn || d.laneHeard 0 || d.laneHeard 1 then d
  else ((forRange 2 laneShow d).modPair (fun h => { h with xchSince := none })).pathSilent 0 1

/-- R400: no edge on CW_HB_IN. -/
def effCwSilence (d : Dev) : Dev := d.pathSilent 1 0

/-- R400: three consecutive periods of one form. -/
def effCwPattern (fault : Bool) (d : Dev) : Dev :=
  if !d.pairOn then d
  else ((d.modPair (fun h => { h with cwFault := fault, listenAt := h.listenAt.or (some d.nowNs) })).pathHeard 1 0).mateFault

/-! ### The latch and the sense line (R402 to R406) -/

/-- R404: of two owners the non-preferred one yields; an overriding unit does not. -/
def Dev.yieldOwn (d : Dev) : Dev :=
  if d.bit R.PAIR_STATE 0 ∧ d.bit R.PAIR_STATE 10 ∧ d.pairState ≠ 5 ∧ !d.preferred then
    let b := d.pairBody 2
    ((((d.bump R.PAIR_YIELDS).setBit R.PAIR_STAT 7 true).interrupt 10).endHandover.changeLatch
      ⟨false, false, d.afterYield⟩).pairRecord b
  else d

/-- R402: SUP refreshes the latch, which keeps its state. -/
def effRefresh (d : Dev) : Dev := d.modPair (fun h => { h with refreshAt := d.nowNs })

/-- R402: 50 µs without a refresh. -/
def effExpire (d : Dev) : Dev := if d.nowNs < d.pair.refreshAt + 50000 then d else d.setOwn false

/-- OWN_SENSE counts as asserted or deasserted from now on (R403). -/
def Dev.sense (d : Dev) (b : Bool) : Dev :=
  (d.setBit R.PAIR_STATE 10 b).modPair (fun h => { h with senseAt := d.nowNs })

/-- R403, R404: OWN_SENSE counts as asserted. -/
def effSenseAssert (d : Dev) : Dev := if !d.pairOn then d else (d.sense true).yieldOwn

/-- R403, R405: OWN_SENSE counts as deasserted; an override is complete. -/
def effSenseDeassert (d : Dev) : Dev :=
  if !d.pairOn then d
  else
    let d := d.sense false
    if d.pairState = 5 then (d.emit (.ownOut 1)).setPairState 2 else d

/-- R405: an owner sees the override pulses and gives way at once. -/
def effOverrideSeen (d : Dev) : Dev :=
  if !d.pairOn ∨ !d.bit R.PAIR_STATE 0 then d
  else (((d.setBit R.PAIR_STAT 7 true).interrupt 10).endHandover.takeLatch ⟨false, false, d.afterYield⟩).pairRecord (d.pairBody 3)

/-- R405: 380 µs into an override the mate's claim is still sensed. -/
def effGiveUp (d : Dev) : Dev :=
  if d.pairState = 5 ∧ d.bit R.PAIR_STATE 10 ∧ d.pair.overAt + 380000 ≤ d.nowNs then (d.setBit R.PAIR_STAT 8 true).takeLatch ⟨false, false, 6⟩ else d

/-- R406: the change that waited takes place; a claim that meets the mate's is a conflict (R404). -/
def effDeferred (d : Dev) : Dev := match d.pair.deferred with
  | some c => if c.set then (d.takeLatch c).yieldOwn else d.takeLatch c
  | none => d

/-- R408: the listening window: 200 ms from the moment the lanes reach block lock or the Causeway shows edges, and at most
1 s after the image was applied. -/
def Dev.listened (d : Dev) : Bool :=
  decide (d.pair.appliedAt + 1000000000 ≤ d.nowNs) || (match d.pair.listenAt with
    | some t => decide (t + 200000000 ≤ d.nowNs)
    | none => false)

/-- R408: the listening window ends; a unit in a fault state goes to FAULT (R407). -/
def effListenEnd (d : Dev) : Dev :=
  if !d.pairOn ∨ d.pairState ≠ 0 ∨ !d.listened then d
  else if d.bit R.PAIR_STATE 11 then d.setPairState 7 else d.resolvePair

/-- R407: an isolated unit claims once OWN_SENSE has been deasserted for PAIR_SILENCE microseconds. -/
def effIsolatedClaim (d : Dev) : Dev :=
  if d.pairState = 6 ∧ !d.bit R.PAIR_STATE 10 ∧ d.pair.senseAt + d.silenceNs ≤ d.nowNs ∧ d.bit R.PAIR_STAT 0 ∧ d.bit R.PAIR_STAT 1 then d.claim false 2 else d

/-! ### The scheduled handover (R413 to R415) -/

/-- The unit's own TB0 has reached the handover instant T less some ns (R413, step 4). -/
def Dev.hoReached (d : Dev) (before : Nat) : Bool := decide (d.pair.hoT ≤ d.now0 + before)

/-- R413: no acceptance by T − 1 ms. -/
def effHoCancel (d : Dev) : Dev :=
  if d.pair.ho = 2 ∧ d.pairState ≠ 4 ∧ d.hoReached 1000000 then d.endHandover.bump R.PAIR_HO_REJ else d

/-- R413: the new owner loads the shadow; its sessions stay inactive until it owns. -/
def effHoShadow (d : Dev) : Dev := if d.pairState = 4 ∧ d.pair.ho = 3 ∧ d.hoReached 100000 then d.loadShadow else d

/-- R413: the requester sets its latch. -/
def effHoSet (d : Dev) : Dev :=
  if d.pairState = 4 ∧ d.pair.ho = 3 ∧ d.hoReached 1000 then (d.endHandover.takeLatch ⟨true, false, 1⟩).pairRecord (d.pairBody 4) else d

/-- R413: the former owner clears its latch. -/
def effHoClear (d : Dev) : Dev :=
  if d.pairState = 4 ∧ d.pair.ho = 2 ∧ d.hoReached 0 then (d.endHandover.takeLatch ⟨false, false, 3⟩).pairRecord (d.pairBody 4) else d

/-- R415: PAIR_CMD.HANDOVER on the owner. -/
def effHandoverCmd (p : Port) (d : Dev) : Dev := d.asCust p (fun d =>
  if d.pairOn && d.pairState == 1 && d.bit R.PAIR_STAT 10 && d.pair.ho == 0 then d.modPair (fun h => { h with hoCmd := true })
  else d.bump R.PAIR_HO_REJ)

/-- R415: PAIR_CMD.TAKE on a READY non-owner. -/
def effTakeCmd (p : Port) (d : Dev) : Dev := d.asCust p (fun d =>
  if d.pairOn && d.bit R.PAIR_STAT 9 && d.pair.ho == 0 then d.modPair (fun h => { h with ho := 1 })
  else d.bump R.PAIR_HO_REJ)

/-- The first instant of the form tick + 500 µs from a number of ms on that is clear of the owner's PPS edges. -/
def Dev.findT (d : Dev) : Nat → Nat → Option Nat
  | 0, _ => none
  | fuel + 1, ms =>
    let into := d.count 0 / 2 ^ 32 * 1000 / 65536 % 1000000000
    let ahead : Int := ((ms * 1000000000 + 500000000 : Nat) : Int) - (into : Nat)
    if d.ppsNear ahead 3000000 2000000 then d.findT fuel (ms + 1)
    else some ((d.now0 / 1000000 + ms) * 1000000 + 500000)

/-- R413, step 2: at its tick the owner offers T. -/
def tickOffer (d : Dev) : Dev :=
  if d.pairOn && d.pairState == 1 && d.pair.ho == 0 && (d.pair.hoCmd || d.pair.mateHo == 1) then
    match d.findT 1000 2 with
    | some t => d.modPair (fun h => { h with ho := 2, hoT := t, hoCmd := false })
    | none => d
  else d

/-- The mate's key fields differ from the unit's own (R417). -/
def Dev.keysDiffer (d : Dev) : Bool := match d.pair.mate with
  | some b => beAt b 16 4 != d.nat R.NTS_KCV || beAt b 20 2 != d.eNow || beAt b 22 1 != d.fld R.NTS_CFG 23 16
  | none => false
/-- At each tick the fields are compared (R417). -/
def tickKcv (d : Dev) : Dev :=
  if d.keysDiffer = d.pair.kcvDiff then d
  else d.modPair (fun h => { h with kcvDiff := d.keysDiffer, kcvAt := d.nowNs })
/-- The latest comparison has had its result for 2 s. -/
def Dev.kcvHeld (d : Dev) : Bool := decide (d.pair.kcvAt + 2000000000 ≤ d.nowNs)
/-- R417: a key difference that has persisted for 2 s, as it does not at an epoch day turn. -/
def effKcv (d : Dev) : Dev :=
  if d.pairOn && d.pair.kcvDiff && d.kcvHeld && !d.bit R.PAIR_STAT 4 then (d.setBit R.PAIR_STAT 4 true).raiseLevel 26 0 else d
/-- R417: two seconds of agreement. -/
def effKcvClear (d : Dev) : Dev :=
  if d.bit R.PAIR_STAT 4 && !d.pair.kcvDiff && d.kcvHeld then (d.setBit R.PAIR_STAT 4 false).endLevel 26 else d

/-- R421: a read of PAIR_MOFS_LO latches PAIR_MOFS_HI. -/
def effMofsLatch (p : Port) (d : Dev) : Dev := (d.latchRegs p [R.PAIR_MOFS_HI]).emit (.readData p (d.rd R.PAIR_MOFS_LO))

/-! ### Meanings -/

def execStraitSilence (s : State) : Result := s.on effStraitSilence
def execCwSilence (s : State) : Result := s.on effCwSilence
def execCwFaultPattern (s : State) : Result := s.on (effCwPattern true)
def execCwNormalPattern (s : State) : Result := s.on (effCwPattern false)
def execOwnLatchRefresh (s : State) : Result := s.on effRefresh
def execOwnLatchExpire (s : State) : Result := s.on effExpire
def execOwnSenseAssert (s : State) : Result := s.on effSenseAssert
def execOwnSenseDeassert (s : State) : Result := s.on effSenseDeassert
def execOverridePulsesSeen (s : State) : Result := s.on effOverrideSeen
def execOverrideGiveUp (s : State) : Result := s.on effGiveUp
def execOwnChangeDeferred (s : State) : Result := s.on effDeferred
def execPairListenEnd (s : State) : Result := s.on effListenEnd
def execIsolatedClaim (s : State) : Result := s.on effIsolatedClaim
def execHandoverCancel (s : State) : Result := s.on effHoCancel
def execHandoverShadowLoad (s : State) : Result := s.on effHoShadow
def execHandoverLatchSet (s : State) : Result := s.on effHoSet
def execHandoverLatchClear (s : State) : Result := s.on effHoClear
def execPairHandoverCmd (p : Port) (s : State) : Result := s.on (effHandoverCmd p)
def execPairTakeCmd (p : Port) (s : State) : Result := s.on (effTakeCmd p)
def execKcvMismatch (s : State) : Result := s.on effKcv
def execKcvMismatchClear (s : State) : Result := s.on effKcvClear
def execPairMofsLatchRead (p : Port) (s : State) : Result := s.on (fun d => d.asRead p (effMofsLatch p))

end Sys2Proof.Machine
end

