-- ==== Sys2Proof/Machine/PairLink.lean ====
section
/-! DEFINITION. The Strait link: heartbeats and time transfer, the mirror, the initial set from the mate, and the pair's
share of a tick (R391 to R399, R413, R414, R416 to R418). -/
namespace Sys2Proof.Machine

/-! ### Frames (R392 to R394) -/

/-- Nothing is sent while pair operation is off, or the Strait block is in a block reset. -/
def Dev.straitUp (d : Dev) : Bool := d.pairOn && decide (Target.pair ∉ d.flt.running)

/-- The next SEQ of a frame type: 0 HEARTBEAT, 1 STATE, 2 SESSION, 3 SET. -/
def Dev.nextSeq (d : Dev) (k : Nat) : Nat × Dev :=
  let s := (d.pair.txSeq.getD k 0 + 1) % 65536
  (s, d.modPair (fun h => { h with txSeq := h.txSeq.set k s }))

/-- A timestamp of 2^-16 ns as seconds, nanoseconds, fraction. -/
def stamp12 (t : Nat) : List Byte := be 6 (sec16 t) ++ be 4 (ns16 t) ++ be 2 (frac16 t)
/-- The timestamp in 12 bytes, 2^-16 ns. -/
def stampOf (b : List Byte) (o : Nat) : Nat := (beAt b o 6 * 1000000000 + beAt b (o + 6) 4) * 65536 + beAt b (o + 10) 2

/-- A heartbeat has been sent at the latest multiple of 10 µs of TB0 (R392). -/
def Dev.hbSent (d : Dev) : Bool := match d.pair.sent with
  | (_, t) :: _ => decide ((t - Config.straitTx) / 655360000 = c16 (d.count 0) / 655360000)
  | [] => false

/-- R392, R394: a heartbeat leaves on both lanes, once at each multiple of 10 µs. Its departure at the balls lies the
fused transmit latency after the count (R395). -/
def effHbTx (d : Dev) : Dev :=
  if !d.straitUp || d.hbSent then d
  else
    let (s, d) := d.nextSeq 0
    let t := c16 (d.count 0) + Config.straitTx
    let h := d.pair
    let hoT := if h.ho = 2 ∨ h.ho = 3 then be 6 (h.hoT / 1000000000) ++ be 4 (h.hoT % 1000000000) else zeros 10
    let f := [0x01] ++ be 1 d.ownStatus ++ be 2 s ++ stamp12 t ++ be 2 h.echo.1 ++ stamp12 h.echo.2 ++ be 1 h.ho ++ [0] ++
      hoT ++ zeros 6
    (d.modPair (fun h => { h with sent := (s, t) :: h.sent.take 127 })).emit (.strait f) |>.pmc 0x0A00 (some 0) 1 |>.pmc 0x0A00 (some 1) 1

/-- The header of a frame (R393), carrying the latest tick. -/
def Dev.straitHead (d : Dev) (typ seq seg : Nat) (stale : Bool) (ncw : Nat) : List Byte :=
  be 1 typ ++ [0x01] ++ be 2 seq ++ be 6 (cSec (d.count 0)) ++ be 2 (cNs (d.count 0) / 1000000) ++ be 1 seg ++ be 1 (b2n stale) ++
  be 2 ncw

/-- The instant of a header's tick, TB0 ns. -/
def headTick (f : List Byte) : Nat := beAt f 4 6 * 1000000000 + beAt f 10 2 * 1000000

/-! ### What the mirror carries (R397) -/

/-- TBn − TB0, 2^-48 ns. -/
def Dev.tbDiff (d : Dev) (n : Nat) : Int := (d.count n : Int) - (d.count 0 : Int)

/-- A difference of 2^-48 ns as signed seconds, signed nanoseconds and a fraction. -/
def diffBytes (v : Int) : List Byte :=
  let ns := v / (2 ^ 48 : Nat)
  beInt 6 (ns.tdiv 1000000000) ++ beInt 4 (ns.tmod 1000000000) ++ beInt 2 (v / (2 ^ 32 : Nat) % 65536)
/-- The difference in 12 bytes, 2^-48 ns. -/
def diffOf (b : List Byte) (o : Nat) : Int :=
  (signed 48 (beAt b o 6) * 1000000000 + signed 32 (beAt b (o + 6) 4)) * (2 ^ 48 : Nat) + (beAt b (o + 10) 2 * 2 ^ 32 : Nat)

/-- The 64-byte global record. -/
def Dev.globalRecord (d : Dev) : List Byte :=
  let m := d.modelInUse
  let g := d.devId ++ be 4 (d.nat R.NTS_KCV) ++ be 2 d.eNow ++ be 1 (d.fld R.NTS_CFG 23 16) ++
    be 1 (b2n (d.bit R.NTS_STAT 2) * 128 + b2n (d.bit R.NTS_STAT 3) * 64 + d.fld R.SYS_MODE 1 0) ++
    be 2 (d.fld R.REF_TAIUTC 15 0) ++ be 1 (b2n (d.bit R.REF_TAIUTC 31) * 128) ++ [0] ++ be 4 (d.nat (R.SRV_Mm_Y0 m)) ++
    be 4 d.modelParams.1 ++ be 4 (d.nat R.CFG_VERSION)
  g ++ zeros (64 - g.length)

/-- A 48-byte time-base record, with TBn − TB0 as it was at the latest tick. -/
def Dev.tbRecord (d : Dev) (n : Nat) : List Byte :=
  let r := d.selRef n
  let l := match (d.tbAt n).leap with
    | some l => l.at_ / secUnit
    | none => d.nat64 (R.TBn_LEAP_AT_LO n) (R.TBn_LEAP_AT_HI n) % 2 ^ 48
  let b := be 1 (b2n (d.isSet n) * 128 + d.ebState n * 16 + (if r < 24 then d.levelFor r n % 16 else 15)) ++
    be 1 (if r < 24 then r else 0xFF) ++ be 1 (d.timeSource n) ++ be 1 (d.fld (R.TBn_LEAP_CTL n) 4 0) ++ be 8 (d.bound n) ++
    be 4 (d.nat (R.EBn_RATE n)) ++ be 2 (d.nat (R.EBn_SEQ n)) ++ zeros 2 ++ diffBytes (d.pair.diffs.getD n (d.tbDiff n)) ++ be 6 l ++
    be 4 (d.nat (R.TBn_SMEAR_LEN n)) ++ be 2 (d.nat (R.TBn_LEAPCNT n))
  b ++ zeros (48 - b.length)

/-- R397, R398: the STATE frame; STALE while a producer of it is in a block reset. -/
def effStateTx (d : Dev) : Dev :=
  if !d.straitUp then d
  else
    let stale := d.flt.running.any (fun t => match t with
      | .servo _ => true
      | .ks => true
      | _ => false)
    let (s, d) := d.nextSeq 1
    d.emit (.strait (d.straitHead 2 s 0 stale 28 ++ d.globalRecord ++ (List.range 8).flatMap d.tbRecord))

/-- R398: a SESSION segment. -/
def effSessionTx (g : Nat) (d : Dev) : Dev :=
  if !d.straitUp then d
  else
    let (s, d) := d.nextSeq 2
    d.emit (.strait (d.straitHead 3 s g (decide (Target.pe ∈ d.flt.running)) 256 ++
      (List.range 64).flatMap (fun j => (List.range 16).flatMap (fun w => be 4 (d.nat (R.PTP_SESS (64 * g + j) w))))))

/-! ### Reception (R391, R393) -/

/-- A lane's frame: its codewords are counted; none when it is discarded. -/
def Dev.laneFrame (d : Dev) (l : Nat) (x : StraitRx) : Bool × Dev :=
  let d := if x.corr = 0 then d else (d.bumpBy (R.PAIR_Ll_CORR l) x.corr).pmc 0x0A02 (some l) x.corr
  if !d.straitUp || !d.pair.lock.getD l false then (false, d)
  else if x.ferry then (false, d.bump (R.PAIR_Ll_FRDROP l))
  else if x.uncorr then (false, d.bump (R.PAIR_Ll_UNCORR l))
  else (true, d)

/-- The first valid copy of a frame of a type: the receiver ignores the second (R392). -/
def Dev.firstCopy (d : Dev) (k seq : Nat) : Option Dev :=
  if d.pair.rxSeq.getD k none = some seq then none
  else some (d.modPair (fun h => { h with rxSeq := h.rxSeq.set k (some seq) }))

/-- One exchange of a lane (R395): x in 2^-16 ps with its two local instants. -/
def Dev.exchange (d : Dev) (l : Nat) (f : List Byte) (t2 : Nat) : Dev :=
  match d.pair.sent.find? (fun s => s.1 == beAt f 16 2) with
  | none => d
  | some (_, t3) =>
    let t1 := stampOf f 4
    let t4 := stampOf f 18
    let asym := d.int (if l = 0 then R.PAIR_ASYM0 else R.PAIR_ASYM1)
    let x : Int := (((t2 : Int) - t1) - ((t4 : Int) - t3)) * 500 - asym * 65536
    d.modPair (fun h => { h with xch := Map.put h.xch (fun _ => []) l ((x, t2, t3) :: (Map.get h.xch (fun _ => []) l).take 127) })

/-- The requester's answer to an offer (R413, step 3). -/
def Dev.answerOffer (d : Dev) (t : Nat) : Dev :=
  if d.pair.hoSeen = some t ∨ d.pairState ≠ 3 then d
  else
    let d := d.modPair (fun h => { h with hoSeen := some t })
    let ahead : Int := ((t : Int) - d.now0) * 1000
    if d.bit R.PAIR_STAT 9 && !d.ppsNear ahead 3000000 2000000 then
      (d.modPair (fun h => { h with ho := 3, hoT := t })).setPairState 4
    else (d.modPair (fun h => { h with ho := 0 })).bump R.PAIR_HO_REJ

/-- The handover field of a heartbeat; an accepted offer that is no longer made was cancelled (R413, step 3). -/
def Dev.takeHo (d : Dev) (f : List Byte) : Dev :=
  let ho := beAt f 30 1 % 4
  let d := d.modPair (fun h => { h with mateHo := ho })
  if ho = 2 then d.answerOffer (beAt f 32 6 * 1000000000 + beAt f 38 4)
  else if ho = 3 ∧ d.pair.ho = 2 ∧ d.pairState = 1 then d.setPairState 4
  else if d.pair.ho = 3 then d.endHandover.setPairState 3
  else d

/-- A heartbeat's STATUS: the mate's state, its claim, its fault (R405, R407, R409). -/
def Dev.takeStatus (d : Dev) (st : Nat) : Dev :=
  let owned := d.mateOwns
  let d := d.modPair (fun h => { h with status := some st })
  let d := ((d.setFld R.PAIR_STATE 27 24 (st / 16)).setBit R.PAIR_STATE 9 (st.testBit 2)).setBit R.PAIR_STAT 10 (st.testBit 0)
  let d := (d.setBit R.PAIR_STAT 3 (st.testBit 2 == d.bit R.PAIR_STATE 8)).mateFault
  if d.pairState = 2 ∧ !st.testBit 3 ∧ !st.testBit 1 then d.setPairState 1
  else if d.pairState = 3 ∧ owned ∧ !st.testBit 3 ∧ !d.bit R.PAIR_STATE 11 then d.endHandover.claimSensed 1
  else if d.pairState = 6 then d.resolvePair
  else d

/-- The arrival of a frame at the balls (R395): the count, plus the serial position of its timestamp point as R76 takes it
for 10GBASE-R, less the lane's fused latency. -/
def Dev.laneArrival (d : Dev) (l : Nat) (x : StraitRx) : Nat :=
  c16 (d.count 0) + x.pos * 65536000000 / (if x.bits = 0 then nominalBits 3 else x.bits) - Config.straitRx l

/-- R394, R395: a heartbeat arrives. -/
def effHbRx (l : Nat) (f : List Byte) (x : StraitRx) (d : Dev) : Dev :=
  match d.laneFrame l x with
  | (false, d) => d
  | (true, d) =>
    let t2 := d.laneArrival l x
    let d := ((laneShow l (d.modPair (fun h => { h with
      heardAt := h.heardAt.set l (some d.nowNs), xchSince := h.xchSince.or (some d.nowNs) }))).exchange l f t2).pmc 0x0A01
      (some l) 1
    match d.firstCopy 0 (beAt f 2 2) with
    | none => d
    | some d =>
      let d := d.modPair (fun h => { h with echo := (beAt f 2 2, t2) })
      ((d.pathHeard 0 1).takeStatus (beAt f 1 1)).takeHo f

/-- The FMT of a STATE or SESSION frame is this image's; else it is counted (R418). -/
def Dev.fmtOk (d : Dev) (f : List Byte) : Bool × Dev :=
  let d := d.setFld R.PAIR_FMT 15 8 (beAt f 1 1)
  if beAt f 1 1 = 1 then (true, d.setBit R.PAIR_STAT 5 false) else (false, (d.bump R.PAIR_FMT_REJ).setBit R.PAIR_STAT 5 true)

/-- R397, R399: a STATE frame replaces the mirror, unless it is STALE. -/
def effStateRx (l : Nat) (f : List Byte) (x : StraitRx) (d : Dev) : Dev :=
  match d.laneFrame l x with
  | (false, d) => d
  | (true, d) => match d.firstCopy 1 (beAt f 2 2) with
    | none => d
    | some d => match d.fmtOk f with
      | (false, d) => d
      | (true, d) =>
        if beAt f 13 1 % 2 = 1 then d
        else
          let b := f.drop 16
          let d := d.modPair (fun h => { h with mate := some b, mateTick := headTick f })
          (d.wrNat R.PAIR_MATE_KCV (beAt b 16 4)).modRef 17 (fun h => { h with
            taiUtc := if 128 ≤ beAt b 26 1 then some (signed 16 (beAt b 24 2)) else none })

/-- R398: a SESSION segment replaces the shadow copy. -/
def effSessionRx (l : Nat) (f : List Byte) (x : StraitRx) (d : Dev) : Dev :=
  match d.laneFrame l x with
  | (false, d) => d
  | (true, d) => match d.firstCopy 2 (beAt f 2 2) with
    | none => d
    | some d => match d.fmtOk f with
      | (false, d) => d
      | (true, d) =>
        if beAt f 13 1 % 2 = 1 then d
        else d.modPair (fun h => { h with
          shadow := Map.put h.shadow (fun _ => none) (beAt f 12 1 % 64) (some (headTick f, (f.drop 16).take 4096)) })

/-! ### The initial set from the mate (R416) -/

/-- The mate reports its time base n unset, and n is in REF17_CFG.TBMASK, and the own one is set. -/
def Dev.setWanted (d : Dev) (n : Nat) : Bool :=
  d.isSet n && d.bit (R.REFr_CFG 17) (20 + n) && !d.mateSet n && d.pair.mate.isSome

/-- One entry of a SET frame: the instant lies 1 ms after the departure, in the receiver's unset count. -/
def Dev.setEntry (d : Dev) (n : Nat) : List Byte :=
  let m := d.pair.mofs.getD 0
  let far : Int := match d.mateTb n with
    | some b => diffOf b 20
    | none => 0
  let mateNow : Int := (d.count 0 : Int) - m * (2 ^ 32 : Nat) / 1000 + far
  let at_ : Int := mateNow / (nsUnit : Nat) + 1000000
  let tgt := ((d.count n : Int) + (at_ * (nsUnit : Nat) - mateNow)).toNat
  be 1 n ++ be 6 (cSec tgt) ++ be 4 (cNs tgt) ++ be 2 (cFrac tgt) ++ zeros 3 ++ beInt 4 (at_ / 1000000000) ++
  beInt 4 (at_ % 1000000000) ++ zeros 8

/-- Heartbeats have been exchanged for 100 ms. -/
def Dev.exchanged100 (d : Dev) : Bool := match d.pair.xchSince with
  | some t => decide (t + 100000000 ≤ d.nowNs)
  | none => false

/-- R416: after 100 ms of exchanges with an unset non-owner, one SET frame. -/
def effSetTx (d : Dev) : Dev :=
  let ns := (List.range 8).filter d.setWanted
  if !d.straitUp || d.mateOwns || !d.mateHeard || ns.isEmpty || d.pair.mofs.isNone || d.pair.setSent || !d.exchanged100 then d
  else
    let (s, d) := d.nextSeq 3
    (d.modPair (fun h => { h with setSent := true })).emit
      (.strait (d.straitHead 4 s 0 false (2 * ns.length) ++ ns.flatMap d.setEntry))

/-- The mate's bound of a time base with EB_STRAIT_UNC, ps; none when unbounded (R113). -/
def Dev.mateSetU (d : Dev) (n : Nat) : Option Nat := match d.mateTb n with
  | some b => if beAt b 4 8 = unboundedPs then none else some (beAt b 4 8 + d.nat R.EB_STRAIT_UNC)
  | none => none

/-- The mate's Y, 2^-16 ppt. -/
def Dev.mateY (d : Dev) : Nat := match d.pair.mate with
  | some b => beAt b 32 4
  | none => 0

/-- The least-squares slope of M_TB0 over the last 100 ms, 2^-16 ppt, and its six-sigma error, rounded up; with fewer than
three values the unit's own finding (R416, R174). -/
def Dev.mateSlope (d : Dev) (slope : Int) (unc : Nat) : Int × Nat :=
  let t0 : Nat := match d.pair.mhist with
    | (t, _) :: _ => t
    | [] => 0
  let ps : List Obs := d.pair.mhist.map (fun p => ([1, (((p.1 : Int) - t0 : Int) : Rat) / 65536000000000], (p.2 : Rat), 1))
  match if 3 ≤ ps.length then lsq 2 ps else none with
  | none => (slope, unc)
  | some (b, v) =>
    let var := residual ps b / ((ps.length - 2 : Nat) : Rat) * v.getD 1 0
    (Config.shown (b.getD 1 0), sqrtUp (36 * var))

/-- One entry arrives: the SET registers take it and the set is armed, or rejected and counted (R416, R42, R43). -/
def Dev.setFromMate (d : Dev) (e : List Byte) (slope : Int) (unc : Nat) : Dev :=
  let n := beAt e 0 1 % 8
  if d.owns || !d.bit (R.REFr_CFG 17) (20 + n) || (n == 0 && !d.bit R.CFG_SETSRC 0) then d
  else d.armAt n ((beAt e 1 6 * 1000000000 + beAt e 7 4) * 65536 + beAt e 11 2) (beAt e 16 4 * 1000000000 + beAt e 20 4)
    (fun t => { t with setU := d.mateSetU n, setFreq := some (slope, unc + d.mateY), setMate := true })

/-- R416: a SET frame. -/
def effSetRx (l : Nat) (f : List Byte) (x : StraitRx) (slope : Int) (unc : Nat) (d : Dev) : Dev :=
  match d.laneFrame l x with
  | (false, d) => d
  | (true, d) => match d.firstCopy 3 (beAt f 2 2) with
    | none => d
    | some d =>
      let y := d.mateSlope slope unc
      (List.range (min 8 (beAt f 14 2 / 2))).foldl (fun d j => d.setFromMate (slice f (16 + 32 * j) 32) y.1 y.2) d

/-! ### Lanes (R391, R408) -/

/-- R408: a lane gains block lock. -/
def effLockGain (l : Nat) (d : Dev) : Dev := if d.flt.pfwStopped then d else d.modPair (fun h => { h with
    lock := h.lock.set l true, listenAt := if d.sys.applied then h.listenAt.or (some d.nowNs) else h.listenAt })
/-- R391: a lane without block lock is not up. -/
def effLockLoss (l : Nat) (d : Dev) : Dev :=
  (d.modPair (fun h => { h with lock := h.lock.set l false })).setBit (R.PAIR_Ll_STAT l) 0 false

/-! ### The pair's share of a tick (R395, R396, R413, R414) -/

/-- The mean offset of a lane's exchanges within the last millisecond, and their mean instant, 2^-16 ns. -/
def Dev.laneMean (d : Dev) (l : Nat) : Option (Int × Nat) :=
  let now := c16 (d.count 0)
  let xs := (Map.get d.pair.xch (fun _ => []) l).filter (fun e => decide (now ≤ e.2.1 + 65536000000 ∧ now ≤ e.2.2 + 65536000000 ∧
    e.2.1 ≤ now ∧ e.2.2 ≤ now))
  if xs = [] then none
  else some ((xs.map (·.1)).sum / (xs.length : Nat), (xs.map (fun e => (e.2.1 + e.2.2) / 2)).sum / xs.length)

/-- The sample of reference 17 for a time base (R396, R103). -/
def Dev.mateSample (d : Dev) (n : Nat) (m : Int) (at16 : Nat) : Option Sample := match d.mateTb n with
  | none => none
  | some b =>
    if beAt b 0 1 < 128 then none
    else
      let own := d.pair.diffs.getD n (d.tbDiff n)
      let mn := m + (own - diffOf b 20) * 1000 / (2 ^ 32 : Nat)
      let since : Int := (at16 : Int) * (2 ^ 32 : Nat) - m * (2 ^ 32 : Nat) / 1000 - (d.pair.mateTick * nsUnit : Nat)
      let bd := beAt b 4 8
      let t := at16 * 2 ^ 32
      some ⟨mn, if bd = unboundedPs then 0 else bd + rateGrowth (beAt b 12 4) since.toNat, d.nat R.EB_STRAIT_UNC, 0,
        t, d.steerAt n t, d.clkSrc, bd != unboundedPs⟩

/-- R395, R396: M_TB0 of the tick, and the samples of reference 17. -/
def tickMateOffset (d : Dev) : Dev :=
  let a := d.laneMean 0
  let b := d.laneMean 1
  let d := match a, b with
    | some x, some y => d.wrFit R.PAIR_LANEDIFF (Config.shown (((y.1 - x.1 : Int) : Rat) / 65536))
    | _, _ => d
  let use := match a with
    | some x => some x
    | none => b
  let d := match use with
    | none => d.modPair (fun h => { h with okRun := 0, xch := [] })
    | some (m, t) =>
      let ok := decide (m.natAbs ≤ 2000 * 65536)
      let d := d.modPair (fun h => { h with
        mofs := some m, mhist := (t, m) :: h.mhist.take 99, okRun := if ok then h.okRun + 1 else 0, xch := [] })
      forRange 8 (fun n d => match d.mateSample n m t with
        | some s => d.deliver 17 n s
        | none => d) (d.wrInt64 R.PAIR_MOFS_LO R.PAIR_MOFS_HI (Config.shown ((m : Rat) / 65536)))
  d.modPair (fun h => { h with diffs := (List.range 8).map (fun n => d.tbDiff n) })

/-- The age of the oldest shadow segment, µs; all ones while one is missing (R398). -/
def Dev.mirAge (d : Dev) : Nat :=
  (List.range 64).foldl (fun m g => match Map.get d.pair.shadow (fun _ => none) g with
    | some (t, _) => max m ((d.now0 - t) / 1000)
    | none => 0xFFFFFFFF) 0

/-- READY (R413). -/
def Dev.isReady (d : Dev) : Bool :=
  d.pairState == 3 && !d.bit R.PAIR_STATE 11 && !d.bit R.PAIR_STAT 5 && d.fld R.PAIR_FMT 15 8 == d.fld R.PAIR_FMT 7 0 &&
  decide (d.nat R.PAIR_MIR_AGE ≤ 2000) && d.isSet 0 && (d.ebAt 0).bounded && decide (1000 ≤ d.pair.okRun)

/-- PAIR_BCAND: the bound the unit's own best reference would give TB0 (R414). -/
def Dev.bcand (d : Dev) : Nat :=
  match d.rank 0 ((List.range 24).filter (fun r => r != 17 && d.selectable r 0 && d.refPhase r)) with
  | none => 0xFFFFFFFF
  | some r => match (d.rnAt (8 * r)).latest with
    | none => 0xFFFFFFFF
    | some s =>
      let c := d.carry 0 s
      min 0xFFFFFFFE (ceilDiv c.1.natAbs 65536 + s.uRef + s.uPath + c.2)

/-- The owner's TB0 bound of the latest STATE frame. -/
def Dev.mateBound (d : Dev) : Nat := match d.mateTb 0 with
  | some b => beAt b 4 8
  | none => 0

/-- R414: the preferred unit's revertive takeback. -/
def tickTakeback (d : Dev) : Dev :=
  let wtr := d.fld R.PAIR_WTR 11 0 * 1000
  let ready := d.bit R.PAIR_STAT 9
  let d := d.wrNat R.PAIR_BCAND d.bcand
  let cand := d.nat R.PAIR_BCAND
  let ok := cand != 0xFFFFFFFF && decide (cand ≤ d.mateBound)
  let d := d.modPair (fun h => { h with
    readyRun := if ready then h.readyRun + 1 else 0, candRun := if ok then h.candRun + 1 else 0 })
  let d := d.wrNat R.PAIR_WTR_REM ((wtr - d.pair.readyRun + 999) / 1000)
  if d.bit R.PAIR_CFG 30 && d.preferred && ready && decide (wtr ≤ d.pair.readyRun) && decide (1000 ≤ d.pair.candRun) &&
    d.pair.ho == 0 then d.modPair (fun h => { h with ho := 1 })
  else d

/-- The lanes are shown at each tick. -/
def tickLanes (d : Dev) : Dev := forRange 2 laneShow d

/-- What the pair does at a tick before the selector runs. -/
def tickPairIn (d : Dev) : Dev := if d.pairOn then tickMateOffset (tickLanes d) else d

/-- What the pair does at a tick after the bounds are known. -/
def tickPairOut (d : Dev) : Dev :=
  if !d.pairOn then d
  else
    let d := d.modPair (fun h => { h with setSent := h.setSent && (List.range 8).any d.setWanted })
    let d := d.wrNat R.PAIR_MIR_AGE d.mirAge
    let d := d.setBit R.PAIR_STAT 9 d.isReady
    tickOffer (tickTakeback (tickKcv d))

/-! ### Meanings -/

def execStraitHeartbeatTx (s : State) : Result := s.on effHbTx
def execStraitHeartbeatRx (l : Fin 2) (frame : List Byte) (rx : StraitRx) (s : State) : Result := s.on (effHbRx l frame rx)
def execStateFrameTx (s : State) : Result := s.on effStateTx
def execSessionFrameTx (g : Fin 64) (s : State) : Result := s.on (effSessionTx g)
def execStateFrameRx (l : Fin 2) (frame : List Byte) (rx : StraitRx) (s : State) : Result := s.on (effStateRx l frame rx)
def execSessionFrameRx (l : Fin 2) (frame : List Byte) (rx : StraitRx) (s : State) : Result := s.on (effSessionRx l frame rx)
def execSetFrameTx (s : State) : Result := s.on effSetTx
def execSetFrameRx (l : Fin 2) (frame : List Byte) (rx : StraitRx) (slope : Int) (unc : Nat) (s : State) : Result :=
  s.on (effSetRx l frame rx slope unc)
def execStraitBlockLockGain (l : Fin 2) (s : State) : Result := s.on (effLockGain l)
def execStraitBlockLockLoss (l : Fin 2) (s : State) : Result := s.on (effLockLoss l)

end Sys2Proof.Machine
end

