-- ==== Sys2Proof/Machine/Clocks.lean ====
section
/-! DEFINITION. Clock generation, domains and gating (chapter 15, R425 to R446), and the stages of bring-up (R467). -/
namespace Sys2Proof.Machine

/-- Change the clock generator's hidden state. -/
def Dev.modClk (d : Dev) (f : ClkHid → ClkHid) : Dev := { d with clk := f d.clk }

/-! ### Stages (R467) -/

/-- SYS_STAT.STAGE. -/
def Dev.stage (d : Dev) : Nat := d.fld R.SYS_STAT 3 0

/-- Record the first entry to a stage in its SYS_STAGE_T register (R467, R475). -/
def Dev.stageTime (d : Dev) (k : Nat) : Dev :=
  if d.nat (R.SYS_STAGE_Tk k) = 0xFFFFFFFF then d.wr (R.SYS_STAGE_Tk k) (d.rd R.SYS_UPTIME) else d

/-- The stage changes: shown, timed, recorded, with an interrupt (R467, R490, R519). -/
def Dev.setStage (d : Dev) (st : Nat) : Dev :=
  let old := d.stage
  if old = st then d
  else
    let d := d.setFld R.SYS_STAT 3 0 st
    let d := if 2 ≤ st ∧ st ≤ 4 then d.stageTime (st - 2) else d
    (d.record 0x000B 0x00 (be 1 old ++ be 1 st ++ zeros 2)).interrupt 11

/-- TB0's service state moves the stage between REDUCED and FULL (R467). -/
def stageTick (d : Dev) : Dev :=
  let s := d.ebState 0
  let up := d.isSet 0 && decide (1 ≤ s ∧ s ≤ 3)
  if d.stage = 3 ∧ up then d.setStage 4 else if d.stage = 4 ∧ !up then d.setStage 3 else d

/-! ### The root PLL (R425 to R428) -/

/-- CLK_FBDIV for each XOF: MOD, FRAC, N (R425). -/
def fbdiv (xof : Nat) : Nat :=
  match xof with
  | 0 => 1 * 2 ^ 21 + 320
  | 1 => 1 * 2 ^ 21 + 160
  | 2 => 1 * 2 ^ 21 + 128
  | _ => 243 * 2 ^ 21 + 74 * 2 ^ 10 + 82

/-- A band entry that an attempt may try: VALID, and FEXP from 2 800 to 3 600 MHz (R426, R450). -/
def bandValid (w : Word) : Bool := wbit w 31 && decide (2800 ≤ wfld w 13 0) && decide (wfld w 13 0 ≤ 3600)
/-- How far a band's expected frequency lies from the root's, MHz. -/
def bandDist (w : Word) : Nat := ((wfld w 13 0 : Int) - 3200).natAbs

/-- Insert a band into a list ranked by distance; a later index goes behind an equal distance. -/
def insertBand (x : Nat × Word) : List (Nat × Word) → List (Nat × Word)
  | [] => [x]
  | y :: r => if bandDist x.2 < bandDist y.2 then x :: y :: r else y :: insertBand x r

/-- The bands of an attempt: the four valid ones of least distance, the lower index first on a tie (R426). -/
def Dev.rankBands (d : Dev) : List (Nat × Nat) :=
  let bs := ((List.range 64).map (fun b => (b, d.rd (R.CLK_BAND b)))).filter (fun x => bandValid x.2)
  ((bs.foldl (fun l x => insertBand x l) []).take 4).map (fun x => (x.1, wfld x.2 23 16))

/-- Try the first band left, or fail the attempt: BANDFAIL, its fault source, and a survey is due (R426, R427). -/
def Dev.tryBand (d : Dev) : Dev :=
  match d.clk.attempt with
  | (b, cap) :: _ =>
    let d := d.modClk (fun c => { c with cap := cap, tryAt := d.nowNs })
    (d.setFld R.CLK_BANDSEL 10 8 (d.fld R.CLK_BANDSEL 10 8 + 1)).setFld R.CLK_BANDSEL 5 0 b
  | [] => ((d.modClk (fun c => { c with surveyDue := true, tryAt := d.nowNs })).setBit R.CLK_STAT 8 true).raiseLevel 1 0

/-- A lock attempt starts with the table as it stands (R426, R427). -/
def Dev.lockAttempt (d : Dev) : Dev :=
  ((d.modClk (fun c => { c with attempt := d.rankBands })).setFld R.CLK_BANDSEL 10 8 0).tryBand

/-- R426: the band being tried has not locked within 200 µs. -/
def effBandTimeout (d : Dev) : Dev :=
  match d.clk.attempt with
  | [] => d
  | _ :: r => if d.nowNs < d.clk.tryAt + 200000 then d else (d.modClk (fun c => { c with attempt := r })).tryBand

/-- R426, R434: lock is declared; the relock hold starts. -/
def effPllLocked (d : Dev) : Dev :=
  if d.clkSrc ≠ 1 ∨ d.clk.attempt = [] then d
  else
    let d := (d.modClk (fun c => { c with attempt := [], lockAt := d.nowNs })).setBit R.CLK_STAT 8 false
    ((d.setBit R.CLK_STAT 3 true).setBit R.CLK_STAT 4 true).endLevel 1

/-- R426: the repeat a second after an attempt failed, suspended in RC bypass. -/
def effRetryTimer (d : Dev) : Dev :=
  if d.bit R.CLK_STAT 8 ∧ d.clkSrc = 1 ∧ d.clk.attempt = [] ∧ d.clk.tryAt + 1000000000 ≤ d.nowNs then d.lockAttempt else d

/-- R426: RETRY, ignored while BANDFAIL reads 0 and in RC bypass. -/
def effClkRetry (p : Port) (d : Dev) : Dev :=
  d.asCust p (fun d => if d.bit R.CLK_STAT 8 ∧ d.clkSrc = 1 then d.lockAttempt else d)

/-- R427: a write of the band table. A running attempt keeps the table as it stood at its start, and the band in use
takes its CAP again at the next attempt. -/
def effBandWrite (w : Agent) (b : Nat) (v : Word) (d : Dev) : Dev :=
  match w with
  | .device => d.wr (R.CLK_BAND b) (v &&& 0x80FF3FFF)
  | .host p => d.asCust p (fun d => d.wr (R.CLK_BAND b) (v &&& 0x80FF3FFF))

/-- R427: the survey writes each band's open-loop frequency into FEXP: at the first local-oscillator bypass after start
and after every BANDFAIL. -/
def effSurvey (mhz : List Nat) (d : Dev) : Dev :=
  if d.clkSrc ≠ 1 ∨ !d.clk.surveyDue then d
  else
    let d := d.modClk (fun c => { c with surveyDue := false })
    ((List.range 64).zip mhz).foldl (fun d x => d.setFld (R.CLK_BAND x.1) 13 0 x.2) d

/-! ### Changes of source (R434 to R436, R445, R446) -/

/-- The measured changeover interval, ps, is added to a time base's count; it does not enter S (R436, R142). The
change is noted for the ledger (cause 7), and BYPASS and RCBYP show the increment in use (R66). -/
def srcTb (src : Nat) (gap : Int) (n : Nat) (d : Dev) : Dev :=
  let t := d.tbAt n
  let d := d.setTb n { t with count := ((t.count + gap * (2 ^ 48 : Nat) / 1000) % (2 ^ 48 * secUnit : Nat)).toNat }
  let d := d.setEb n ((d.ebAt n).because 7)
  (d.setBit (R.TBn_STAT n) 4 (decide (src = 1))).setBit (R.TBn_STAT n) 5 (decide (src = 2))

/-- Every bound is unbounded in RC bypass (R37, R102). -/
def rcUnbound (n : Nat) (d : Dev) : Dev :=
  (d.setEb n (d.ebAt n).unbound).wrNat64 (R.EBn_B_LO n) (R.EBn_B_HI n) unboundedPs

/-- The auxiliary PLL's output a starts or stops (R446). -/
def auxShow (a : Nat) (d : Dev) : Dev :=
  let run := d.bit R.AUX_CFG 31 && d.bit R.AUX_EN a && d.clkSrc != 2
  if d.clk.auxRun.getLsbD a = run then d
  else (d.modClk (fun c => { c with auxRun := c.auxRun ^^^ BitVec.twoPow 4 a })).emit (.auxClk a run (d.fld R.AUX_CFG 10 0)
    (d.fld (R.AUXCLKa_DIV a) 15 0) (d.fld R.AUX_CFG 28 24) (d.fld R.AUX_CFG 22 16))

/-- A synthesizer stops in RC bypass (R445). -/
def osynStop (k : Nat) (d : Dev) : Dev :=
  let d := (d.setBit (R.OSYNk_STAT k) 1 false).setBit (R.OSYNk_STAT k) 2 (d.bit (R.OSYNk_CFG k) 31)
  d.endLevel (66 + k)

/-- The divider of an aligned output starts again at a whole second after its synthesizer stopped (R444, R445). -/
def clkUnalign (j : Nat) (d : Dev) : Dev := clkShow j (d.setClkOut j { d.clkOutAt j with started := false })

/-- A synthesizer that is enabled is unlocked outside RC bypass until it relocks (R445, source 66 + k). -/
def osynWait (k : Nat) (d : Dev) : Dev := if d.bit (R.OSYNk_CFG k) 31 then d.raiseLevel (66 + k) k else d

/-- What the entry to RC bypass does (R434, R273, R445, R446, R62, R95, R419). -/
def Dev.enterRc (d : Dev) : Dev :=
  let d := ((d.bump R.CLK_RCBYP).setBit R.CLK_STAT 7 true).raiseLevel 2 0
  let d := ((d.setBit R.CLK_STAT 3 false).setBit R.CLK_STAT 4 false).modClk (fun c => { c with attempt := [] })
  let d := forRange 8 rcUnbound d
  let d := forRange 12 clkUnalign (forRange 4 osynStop d)
  let d := forRange 4 auxShow d
  let d := forRange 8 effPpsPulseEnd (forRange 32 effEioPulseEnd d)
  forRange 2 effLockLoss (forRange 8 (fun n d => d.linkLost n) d)

/-- What the entry to LO bypass does (R434, R445, R446): from RC bypass the synthesizers relock. -/
def Dev.enterLo (d : Dev) (was : Nat) : Dev :=
  let d := d.bump R.CLK_LOL
  let d := if was = 2 then forRange 4 auxShow (forRange 4 osynWait (d.endLevel 2)) else d
  d.lockAttempt

/-- The tree changes its source (R434 to R436): shown wherever the source shows, recorded, and the fault state brought up
to date. The return to the root leaves no gap. -/
def Dev.toSource (d : Dev) (src : Nat) (gap : Int) : Dev :=
  let was := d.clkSrc
  let gap := if src = 0 then 0 else gap
  let d := forRange 8 (srcTb src gap) ((d.modClk (fun c => { c with srcAt := d.nowNs })).setFld R.CLK_STAT 1 0 src)
  let d := forRange 62 calStop (forRange 8 (fun n d => d.setFld (R.TSUn_STAT n) 1 0 src) d)
  let d := (d.setBit R.SRV_STAT 4 (decide (src = 1))).setBit R.SRV_STAT 5 (decide (src = 2))
  let d := d.record 0x0004 0x01 (be 1 was ++ be 1 src ++ zeros 2 ++ beInt 4 gap)
  let d := if was = 0 then (d.modGnss (fun g => { g with feRun := [], feStarted := [] })).emit (.gsampClk false) else d
  let d := match src with
    | 0 => (d.setBit R.CLK_STAT 4 false).emit (.gsampClk true)
    | 1 => d.enterLo was
    | _ => d.enterRc
  d.ppsShowAll.faultUpdate

/-! ### The monitors (R428, R433, R434) -/

/-- XO_IN has a defect. -/
def Dev.xoDefect (d : Dev) : Bool := d.clk.edgesGone || d.clk.freqBad

/-- The onset of an XO_IN defect (R433, R434). -/
def Dev.xoOnset (d : Dev) (gap : Int) : Dev :=
  let d := ((d.setBit R.CLK_STAT 2 false).setBit R.CLK_STAT 6 true).bump R.CLK_XODEF
  let d := d.raiseLevel 0 0
  if d.clkSrc = 1 then d.toSource 2 gap else d

/-- Take the monitors' findings: an onset or an end of the defect. -/
def Dev.xoFound (d : Dev) (gone bad : Bool) (gap : Int) : Dev :=
  let was := d.xoDefect
  let d := d.modClk (fun c => { c with edgesGone := gone, freqBad := bad })
  if !was && d.xoDefect then d.xoOnset gap
  else if was && !d.xoDefect then (d.modClk (fun c => { c with xoGoodAt := d.nowNs })).endLevel 0 else d

/-- R433: no edge for 4 RC cycles. -/
def effXoEdge (gap : Int) (d : Dev) : Dev :=
  if d.clk.rcStopped ∨ !d.sys.applied then d else d.xoFound true d.clk.freqBad gap

/-- XO_IN edges in 100 µs at the nominal frequency of XOF (R425). -/
def Dev.xoNominal (d : Dev) : Nat := match d.fld R.CLK_CFG 1 0 with
  | 0 => 1000
  | 1 => 2000
  | 2 => 2500
  | _ => 3888

/-- CLK_XOFREQ of a count: the offset in 0.01 %, saturating at ±327.67 %; −100.00 % with no edge. Between two units
the register's rounding is open. -/
def xoOffset (nom edges : Nat) : Int :=
  let num : Int := ((edges : Int) - nom) * 10000
  let q := if num % nom = 0 then num / nom else Config.shown ((num : Rat) / nom)
  max (-32767) (min 32767 q)

/-- R433: the measurement over a window; outside ±6 % is a defect. -/
def effXoFreq (edges : Nat) (gap : Int) (d : Dev) : Dev :=
  if d.clk.rcStopped ∨ !d.sys.applied then d
  else
    let nom := d.xoNominal
    let d := d.setFld R.CLK_XOFREQ 15 0 (xoOffset nom edges % (2 ^ 16 : Nat)).toNat
    d.xoFound d.clk.edgesGone (decide (6 * nom < ((edges : Int) - nom).natAbs * 100)) gap

/-- R433: edges return. -/
def effXoResume (d : Dev) : Dev := if d.clk.rcStopped then d else d.xoFound false d.clk.freqBad 0

/-- XO_IN has been free of defect for CLK_XOQUAL milliseconds (R433). -/
def Dev.xoQualDone (d : Dev) : Bool := decide (d.clk.xoGoodAt + d.fld R.CLK_XOQUAL 9 0 * 1000000 ≤ d.nowNs)

/-- R433, R434: XO_IN is qualified; from RC bypass the tree goes to LO bypass. -/
def effXoQualified (gap : Int) (d : Dev) : Dev :=
  if d.clk.rcStopped || d.xoDefect || d.bit R.CLK_STAT 2 || !d.sys.applied || !d.xoQualDone then d
  else
    let d := d.setBit R.CLK_STAT 2 true
    if d.clkSrc = 2 then d.toSource 1 gap else d

/-- R428, R434: the root PLL loses lock. -/
def effPllLoss (gap : Int) (d : Dev) : Dev :=
  if !d.bit R.CLK_STAT 3 then d
  else
    let d := (d.setBit R.CLK_STAT 3 false).setBit R.CLK_STAT 5 true
    if d.clkSrc = 0 then d.toSource (if d.bit R.CLK_STAT 2 then 1 else 2) gap
    else (d.setBit R.CLK_STAT 4 false).lockAttempt

/-- The root PLL has been locked for CLK_RELOCK milliseconds (R434). -/
def Dev.relockDone (d : Dev) : Bool := decide (d.clk.lockAt + d.fld R.CLK_RELOCK 13 0 * 1000000 ≤ d.nowNs)

/-- R434, R467: the relock hold is complete; the tree returns to the root, and the stage leaves CLOCK. -/
def effRelock (d : Dev) : Dev :=
  if d.clkSrc = 1 && d.bit R.CLK_STAT 4 && d.bit R.CLK_STAT 3 && d.bit R.CLK_STAT 2 && d.relockDone then
    let d := d.toSource 0 0
    if d.stage = 2 then d.setStage 3 else d
  else d

/-- R467: 2 s in LO bypass without lock. -/
def effReduced (d : Dev) : Dev :=
  if d.stage = 2 ∧ d.clkSrc = 1 ∧ !d.bit R.CLK_STAT 3 ∧ d.clk.srcAt + 2000000000 ≤ d.nowNs then d.setStage 3 else d

/-- R433: the RC oscillator stops; SUP stops with it and ALIVE freezes. -/
def effRcStop (d : Dev) : Dev :=
  let d := d.modClk (fun c => { c with rcStopped := true })
  if d.flt.aliveFrozen then d else ({ d with flt := { d.flt with aliveFrozen := true } }).emit .aliveFrozen

/-! ### Gating (R438 to R440) -/

/-- R439: an idle island receives a quiesce request. -/
def effQuiesce (i : Nat) (d : Dev) : Dev :=
  if d.bit R.CLK_GATE_EN i ∧ d.bit R.CLK_GATE_OPEN i ∧ i ∉ d.clk.quiesce then d.modClk (fun c => { c with quiesce := i :: c.quiesce })
  else d

/-- R439: the bus interface reports idle. -/
def effGateClose (i : Nat) (d : Dev) : Dev :=
  if i ∈ d.clk.quiesce then
    (d.modClk (fun c => { c with quiesce := c.quiesce.filter (· != i) })).setBit R.CLK_GATE_OPEN i false
  else d

/-- R439: no idle report within 64 cycles. -/
def effGateDefer (i : Nat) (d : Dev) : Dev :=
  if i ∈ d.clk.quiesce then
    (d.modClk (fun c => { c with quiesce := c.quiesce.filter (· != i) })).bump (R.CLK_GATE_DEFER i) |>.pmc 0x0101 (some i) 1
  else d

/-! ### Outputs (R443, R444, R451) -/

/-- The restart of one output at SYNC_IN (R443). -/
def syncOut (j : Nat) (d : Dev) : Dev :=
  if d.bit (R.CLKOj_CFG j) 2 ∧ d.bit (R.CLKOj_STAT j) 0 then (d.setBit (R.CLKOj_STAT j) 2 true).emit (.clkSync j) else d

/-- R443: a SYNC_IN edge. -/
def effSyncIn (hit : Hit) (d : Dev) : Dev :=
  if !d.bit R.OUT_SYNC_CFG 0 then d
  else
    let t := d.stampAt 0 61 hit
    let since := d.sinceSet t
    let near := match d.clk.lastSync with
      | some l => decide (since < l + (1000000 * 2 ^ 16 : Nat))
      | none => false
    let d := d.modClk (fun c => { c with lastSync := some since })
    if near then d.bump R.OUT_SYNC_IGN
    else
      let d := ((d.wrNat R.OUT_SYNC_TS_SEC (sec16 t)).wrNat R.OUT_SYNC_TS_NS (ns16 t)).wrNat R.OUT_SYNC_TS_FRAC (frac16 t)
      forRange 12 syncOut (d.bumpWrap R.OUT_SYNC_CNT)

/-- R444: a whole second of TB0 at an aligned output: a divider that does not run starts on it, moved earlier by
CLKOj_DLY; a running one has its edge measured against that target, and moved by at most OUT_ADLL_SLEW ps. -/
def effAlign (j : Nat) (edge : Int) (d : Dev) : Dev :=
  let dly := signed 16 (d.fld (R.CLKOj_DLY j) 15 0)
  let err := edge + dly
  let c := R.CLKOj_CFG j
  if !d.bit c 3 || !d.bit c 0 || !d.bit (R.OSYNk_STAT (d.fld c 5 4)) 1 then d
  else if !(d.clkOutAt j).started then
    (clkShow j (d.setClkOut j { d.clkOutAt j with started := true })).emit (.clkMove j (-dly))
  else
    let slew : Int := d.fld R.OUT_ADLL_SLEW 16 0
    let d := (d.setBit (R.CLKOj_ADLL j) 31 (decide (err.natAbs < 100))).setFld (R.CLKOj_ADLL j) 15 0
      (satInt 16 err % (2 ^ 16 : Nat)).toNat
    d.emit (.clkMove j (max (-slew) (min slew (-err))))

/-- R445: a synthesizer relocks; its outputs restart. -/
def effOsynRelock (k : Nat) (d : Dev) : Dev :=
  if d.clkSrc = 2 ∨ !d.bit (R.OSYNk_CFG k) 31 then d
  else
    let d := (((d.setBit (R.OSYNk_STAT k) 1 true).setBit (R.OSYNk_STAT k) 2 false).endLevel (66 + k)).emit
      (.osynWord k (d.osynWord k))
    forRange 12 (fun j d => if d.fld (R.CLKOj_CFG j) 5 4 = k then clkShow j d else d) d

/-- R451: a read of OSYNk_WORD_INT latches the other halves. -/
def effOsynLatch (p : Port) (k : Nat) (d : Dev) : Dev :=
  (d.latchRegs p [R.OSYNk_WORD_FHI k, R.OSYNk_WORD_FLO k]).emit (.readData p (d.rd (R.OSYNk_WORD_INT k)))

/-- A Custodian write of CLKOj_CFG: IDLEZ, OWNGATE and EN (R452). -/
def effClkoCfg (p : Port) (j : Nat) (v : Word) (d : Dev) : Dev :=
  d.asCust p (fun d =>
    let d := d.wr (R.CLKOj_CFG j) (d.rd (R.CLKOj_CFG j) &&& ~~~0x43#32 ||| v &&& 0x43#32)
    clkShow j (if wbit v 0 then d else d.setClkOut j { d.clkOutAt j with started := false }))

/-- A Custodian write of AUX_EN (R446). -/
def effAuxEn (p : Port) (v : Word) (d : Dev) : Dev := d.asCust p (fun d => forRange 4 auxShow (d.wr R.AUX_EN (v &&& 0xF)))

/-! ### Meanings -/

def execXoEdgeDefect (gap : Int) (s : State) : Result := s.on (effXoEdge gap)
def execXoFreqMeasure (edges : Nat) (gap : Int) (s : State) : Result := s.on (effXoFreq edges gap)
def execXoQualified (gap : Int) (s : State) : Result := s.on (effXoQualified gap)
def execBandTryTimeout (s : State) : Result := s.on effBandTimeout
def execPllLocked (s : State) : Result := s.on effPllLocked
def execPllRetryTimer (s : State) : Result := s.on effRetryTimer
def execClkRetry (p : Port) (s : State) : Result := s.on (effClkRetry p)
def execPllLossOfLock (gap : Int) (s : State) : Result := s.on (effPllLoss gap)
def execRelockHoldComplete (s : State) : Result := s.on effRelock
def execClkBandWrite (w : Agent) (b : Fin 64) (v : Word) (s : State) : Result := s.on (effBandWrite w b v)
def execBandSurvey (mhz : List Nat) (s : State) : Result := s.on (effSurvey mhz)
def execReducedByTimeout (s : State) : Result := s.on effReduced
def execGateQuiesceRequest (i : Fin 24) (s : State) : Result := s.on (effQuiesce i)
def execGateClose (i : Fin 24) (s : State) : Result := s.on (effGateClose i)
def execGateDefer (i : Fin 24) (s : State) : Result := s.on (effGateDefer i)
def execGateOpen (i : Fin 24) (s : State) : Result := s.on (fun d => d.gateOpen i)
def execSyncInEdge (hit : Hit) (s : State) : Result := s.on (effSyncIn hit)
def execAlignCorrection (j : Fin 12) (edge : Int) (s : State) : Result := s.on (effAlign j edge)
def execOsynWordLatchRead (p : Port) (k : Fin 4) (s : State) : Result := s.on (fun d => d.asRead p (effOsynLatch p k))
def execXoEdgesResume (s : State) : Result := s.on effXoResume
def execRcOscillatorStop (s : State) : Result := s.on effRcStop
def execOsynRelock (k : Fin 4) (s : State) : Result := s.on (effOsynRelock k)

end Sys2Proof.Machine
end

