-- ==== Sys2Proof/Machine/Recorder.lean ====
section
/-! DEFINITION. The event recorder (R489 to R496, R502): segments in flash, flushes, freezes and read windows. -/
namespace Sys2Proof.Machine

/-- Change the recorder's hidden state. -/
def Dev.modRec (d : Dev) (f : RecHid → RecHid) : Dev := { d with recd := f d.recd }

/-! ### Segments (R491, R492) -/

/-- The flash address of a segment. -/
def segAddr (s : Nat) : Nat := 0x02000000 + s * 0x10000

/-- A segment's 32-byte header. -/
def segHeader (segseq boot seq : Nat) : List Byte :=
  let b := be 4 0x58425253 ++ be 4 segseq ++ be 4 boot ++ be 4 seq ++ zeros 12
  b ++ be 4 (crc32 b)

/-- A header is valid: MAGIC and CRC-32. -/
def headerOk (h : List Byte) : Bool := beAt h 0 4 == 0x58425253 && beAt h 28 4 == crc32 (h.take 28)

/-- Open a segment: erase it unless that has been done ahead, write its header, start behind it (R491, R492). -/
def Dev.segOpen (d : Dev) (s segseq seq : Nat) : Dev :=
  let d := if d.recd.nextErased then d else d.flashErase (segAddr s) 0x10000
  let d := d.flashProgram (segAddr s) (segHeader (segseq % 2 ^ 32) (d.nat R.REC_BOOT) seq)
  let d := (d.wrNat R.REC_SEG s).wrNat R.REC_SEGSEQ segseq
  d.modRec (fun r => { r with segOff := 32, nextErased := false })

/-- Open the segment after the current one (R492). -/
def Dev.segNext (d : Dev) (seq : Nat) : Dev := d.segOpen ((d.nat R.REC_SEG + 1) % 512) (d.nat R.REC_SEGSEQ + 1) seq

/-- Write one record to flash; none crosses a segment's end (R491). -/
def Dev.recToFlash (d : Dev) (bytes : List Byte) : Dev :=
  let d := if 0x10000 < d.recd.segOff + bytes.length then d.segNext (beAt bytes 4 4) else d
  let d := d.flashProgram (segAddr (d.nat R.REC_SEG) + d.recd.segOff) bytes
  d.modRec (fun r => { r with segOff := r.segOff + bytes.length })

/-- The rest of the last page stays erased; the next flush starts at the next page (R491). -/
def Dev.recPageEnd (d : Dev) : Dev := d.modRec (fun r => { r with segOff := (r.segOff + 255) / 256 * 256 })

/-- Recording starts in the segment after the newest one, with the next boot number, or in segment 0 with the first. -/
def Dev.segFirst (d : Dev) : Option (Nat × List Byte) → Dev
  | some (s, h) => (d.wrNat R.REC_BOOT (beAt h 8 4 + 1)).segOpen ((s + 1) % 512) (beAt h 4 4 + 1) 0
  | none => (d.wr R.REC_BOOT 0).segOpen 0 0 0

/-- The recorder starts at stage CLOCK: it opens the segment after the one with the highest SEGSEQ and writes a BOOT
record (R492). -/
def Dev.recOpen (d : Dev) : Dev :=
  let hs := (List.range 512).map (fun s => (s, d.flashRead (segAddr s) 32))
  let good := hs.filter (fun x => headerOk x.2)
  let bad := hs.any (fun x => !headerOk x.2 && x.2.any (· != 0xFF))
  let d := d.setBit R.REC_STAT 6 bad
  let best := good.foldl (fun (m : Option (Nat × List Byte)) x => match m with
    | some y => if beAt y.2 4 4 < beAt x.2 4 4 then some x else m
    | none => some x) none
  let d := d.segFirst best
  let d := ((d.setBit R.REC_STAT 0 true).wr R.REC_SEQ 0).modRec (fun r => { r with flushedAt := d.nowNs })
  d.record 0x0001 0x1F (be 4 (d.nat R.CFG_VERSION) ++ be 4 (d.nat R.SYS_RSTCAUSE) ++ be 4 (d.nat R.CFG_STAT) ++
    be 4 (d.nat R.REC_BOOT))

/-- R492: the erase of the segment after the current one starts. -/
def effSegErase (d : Dev) : Dev :=
  if d.bit R.REC_STAT 0 ∧ !d.recd.nextErased then d.setBit R.REC_STAT 1 true else d

/-- R492: the erase completes. -/
def effSegErased (d : Dev) : Dev :=
  if d.bit R.REC_STAT 1 then
    ((d.flashErase (segAddr ((d.nat R.REC_SEG + 1) % 512)) 0x10000).modRec (fun r => { r with nextErased := true })).setBit
      R.REC_STAT 1 false
  else d

/-! ### Flushes (R489 to R493) -/

/-- The records a flush writes: the ring's unflushed ones, then the staged ones not yet flushed (R494). -/
def Dev.unflushedRecs (d : Dev) : List (List Byte) :=
  ((d.recd.held.drop (d.recd.held.length - d.recd.unflushed)).map (·.bytes)) ++ d.recd.staged.drop d.recd.stagedFlushed

/-- R489: 4 KiB are unflushed, or REC_FLPER seconds have passed since the latest flush (DEDUCED, log 68) with some content
unflushed. -/
def Dev.flushDue (d : Dev) : Bool :=
  decide (4096 ≤ d.unflushedRecs.flatten.length) ||
  (!d.unflushedRecs.isEmpty && decide (d.recd.flushedAt + d.fld R.REC_FLPER 11 0 * 1000000000 ≤ d.nowNs))

/-- R489: a background flush, which waits for the flash controller. -/
def effBackFlush (d : Dev) : Dev :=
  if !d.flushDue ∨ d.ks.store.isSome ∨ d.bit R.CFG_FL_STAT 31 then d else d.startFlush 0

/-- The FLUSH record that ends a flush (R490): reason, bytes covered, CRC-32 of the records since the previous one. It is
created as any record and goes to flash only. -/
def Dev.flushRecord (d : Dev) (covered : List Byte) : Dev :=
  let bytes := d.recBytes ⟨0x0009, 0x1F, be 1 d.recd.flushReason ++ zeros 3 ++ be 4 covered.length ++ be 4 (crc32 covered)⟩ false
  (d.bumpWrap R.REC_SEQ).recToFlash bytes

/-- R491: a flush ends: all unflushed content, then a FLUSH record, in whole pages. -/
def effFlushDone (us : Nat) (d : Dev) : Dev :=
  if !d.bit R.REC_STAT 2 then d
  else
    let rs := d.unflushedRecs
    let d := ((rs.foldl Dev.recToFlash d).flushRecord rs.flatten).recPageEnd
    let d := d.modRec (fun r => { r with unflushed := 0, stagedFlushed := r.staged.length, flushedAt := d.nowNs })
    ((((d.setBit R.REC_STAT 2 false).bumpWrap R.REC_FLUSHES).wrNat R.REC_FLUSH_US us).pmc 0x0B01 none rs.flatten.length).recShow

/-! ### Freezes and marks (R490, R494) -/

/-- R494: appends to the ring stop. -/
def effFreeze (p : Port) (d : Dev) : Dev :=
  d.asCust p (fun d =>
    if !d.bit R.REC_STAT 0 || d.bit R.REC_STAT 3 then d
    else (d.setBit R.REC_STAT 3 true).modRec (fun r => { r with freezeAt := d.nowNs }))

/-- Move one staged record into the ring, flushed already or not; without flushed space it is dropped and counted
(R489, R494). -/
def Dev.unstage (d : Dev) (done : Bool) (bytes : List Byte) : Dev :=
  match d.recRing bytes with
  | (d, true) => if done then d.modRec (fun r => { r with unflushed := r.unflushed - 1 }) else d
  | (d, false) => ((d.modRec (fun r => { r with lossRing := r.lossRing + 1 })).bump R.REC_DROP).setBit R.REC_STAT 4 true

/-- The freeze ends: the staged records move into the ring in order (R494). -/
def Dev.unfreeze (d : Dev) : Dev :=
  if !d.bit R.REC_STAT 3 then d
  else
    let st := d.recd.staged
    let k := d.recd.stagedFlushed
    let d := (d.modRec (fun r => { r with staged := [], stagedFlushed := 0 })).setBit R.REC_STAT 3 false
    let d := (st.take k).foldl (fun d b => d.unstage true b) d
    ((st.drop k).foldl (fun d b => d.unstage false b) d).recShow

def effUnfreeze (p : Port) (d : Dev) : Dev := d.asCust p Dev.unfreeze

/-- R494: REC_FREEZE_MAX seconds end the freeze. -/
def effFreezeExpire (d : Dev) : Dev :=
  if d.bit R.REC_STAT 3 ∧ d.recd.freezeAt + d.fld R.REC_FREEZE_MAX 9 0 * 1000000000 ≤ d.nowNs then d.unfreeze.setBit R.REC_STAT 5 true else d

/-- R490: a MARK record with REC_MARK0 to REC_MARK3. -/
def effMark (p : Port) (d : Dev) : Dev :=
  d.asCust p (fun d => d.record 0x000D 0x1F ((List.range 4).flatMap (fun w => be 4 (d.nat (R.REC_MARK w)))))

/-! ### Read windows (R495) -/

/-- R495: LOAD in either role; the window's load waits or runs. -/
def effWinLoad (p : Port) (d : Dev) : Dev :=
  d.asAny p (fun d =>
    let d := d.modRec (fun r => { r with
      winLoad := Map.put r.winLoad (fun _ => none) p.num (some (d.rd (pAddr p R.REC_WIN_ADDR))) })
    d.wr (pAddr p R.REC_WIN_STAT) 0x80000000)

/-- A byte of the ring: of the record held there; a ring byte that no record has filled reads 0. -/
def Dev.ringByte (d : Dev) (off : Nat) : Byte :=
  match d.recd.held.reverse.find? (fun r => decide ((off + 262144 - r.off) % 262144 < r.bytes.length)) with
  | some r => r.bytes.getD ((off + 262144 - r.off) % 262144) 0
  | none => 0

/-- The 256 bytes a window load copies; none outside the ring. -/
def Dev.winBytes (d : Dev) (a : Word) : Option (List Byte) :=
  let off := wfld a 24 8 * 256
  if wbit a 31 then some (d.flashRead (0x02000000 + off) 256)
  else if off < 262144 then some ((List.range 256).map (fun i => d.ringByte (off + i))) else none

/-- R495: the copy completes; a flash load waits while a flush holds the controller. -/
def effWinDone (p : Port) (d : Dev) : Dev :=
  match Map.get d.recd.winLoad (fun _ => none) p.num with
  | none => d
  | some a =>
    if wbit a 31 ∧ d.bit R.REC_STAT 2 then d
    else
      let d := d.modRec (fun r => { r with winLoad := Map.put r.winLoad (fun _ => none) p.num none })
      match d.winBytes a with
      | some bs => forRange 64 (fun w d => d.wrNat (pAddr p (R.REC_WIN w)) (beAt bs (4 * w) 4)) (d.wr (pAddr p R.REC_WIN_STAT) 0)
      | none => d.wr (pAddr p R.REC_WIN_STAT) 1

/-! ### Meanings -/

def execRecBackgroundFlush (s : State) : Result := s.on effBackFlush
def execRecSegmentErase (s : State) : Result := s.on effSegErase
def execRecSegmentEraseDone (s : State) : Result := s.on effSegErased
def execRecFreeze (p : Port) (s : State) : Result := s.on (effFreeze p)
def execRecUnfreeze (p : Port) (s : State) : Result := s.on (effUnfreeze p)
def execRecFreezeExpire (s : State) : Result := s.on effFreezeExpire
def execRecMark (p : Port) (s : State) : Result := s.on (effMark p)
def execRecWinLoad (p : Port) (s : State) : Result := s.on (effWinLoad p)
def execRecWinLoadDone (p : Port) (s : State) : Result := s.on (effWinDone p)

end Sys2Proof.Machine
end

