-- ==== Sys2Proof/Machine/Image.lean ====
section
/-! DEFINITION. The configuration image: the flash directory, the image's records, the register values it gives, and its
verification (R2, R457 to R463, R547, and every rule that says "fails verification"). -/
namespace Sys2Proof.Machine

/-! ### The directory (R458, R459) -/

/-- The flash address of a directory copy and of a bank. -/
def dirAddr (c : Nat) : Nat := c * 0x1000
def bankAddr (b : Nat) : Nat := 0x00100000 + b * 0x00400000

/-- A directory copy is valid: MAGIC, CRC and BANK. -/
def dirOk (c : List Byte) : Bool :=
  beAt c 0 4 == 0x58424452 && beAt c 12 4 == crc32 (c.take 12) && decide (beAt c 8 1 ≤ 1)

/-- A directory copy as the flash holds it. -/
def Dev.dirCopy (d : Dev) (c : Nat) : List Byte := d.flashRead (dirAddr c) 16

/-- The valid copy with the higher SEQ: its index. -/
def Dev.dirUsed (d : Dev) : Option Nat :=
  let a := d.dirCopy 0
  let b := d.dirCopy 1
  match dirOk a, dirOk b with
  | true, true => some (if beAt a 4 4 < beAt b 4 4 then 1 else 0)
  | true, false => some 0
  | false, true => some 1
  | false, false => none

/-! ### Records (R461) -/

/-- One record of an image: TYPE, FLAGS, byte offset in the image, body. -/
structure ImgRec where
  typ : Nat
  flags : Nat
  off : Nat
  body : List Byte
deriving DecidableEq, Repr

/-- Parse records from an offset; they must end exactly at the end of the bytes. -/
def parseRecs : Nat → Nat → List Byte → Option (List ImgRec)
  | _, _, [] => some []
  | 0, _, _ :: _ => none
  | fuel + 1, off, bs =>
    let len := beAt bs 4 4
    let size := 8 + (len + 7) / 8 * 8
    if bs.length < size then none
    else (parseRecs fuel (off + size) (bs.drop size)).map (fun r => ⟨beAt bs 0 2, beAt bs 2 2, off, slice bs 8 len⟩ :: r)

/-- The record types of R461. -/
def knownTypes : List Nat := [0x0001, 0x0010, 0x0020, 0x0021, 0x0030, 0x0031, 0x0032, 0x0040, 0x0041, 0x0000]

/-- Records of one type. -/
def ofType (rs : List ImgRec) (t : Nat) : List ImgRec := rs.filter (fun r => r.typ == t)

/-- No two of a list are equal. -/
def allDistinct : List (List Byte) → Bool
  | [] => true
  | x :: r => !r.contains x && allDistinct r

/-- Check 5 of R463: the counts of R461, IDENT first, END last, no unknown type that is not optional. The bodies'
lengths are those R461 gives. -/
def recsOk (rs : List ImgRec) : Bool :=
  let n := fun t => (ofType rs t).length
  n 1 == 1 && ((rs.head?).map (·.typ)) == some 1 && n 0 == 1 && ((rs.getLast?).map (·.typ)) == some 0 &&
  n 0x20 == 1 && n 0x21 == 1 && n 0x40 == 1 && decide (n 0x30 ≤ 1) && decide (n 0x41 ≤ 1) &&
  allDistinct ((ofType rs 0x31).map (fun r => r.body.take 1)) && allDistinct ((ofType rs 0x32).map (fun r => r.body.take 2)) &&
  rs.all (fun r => decide (r.flags ≤ 1) && (knownTypes.contains r.typ || r.flags == 1)) &&
  (ofType rs 0).all (fun r => r.body == []) && (ofType rs 1).all (fun r => r.body.length == 32) &&
  (ofType rs 0x10).all (fun r => r.body.length % 8 == 0) && (ofType rs 0x40).all (fun r => r.body.length == 96) &&
  (ofType rs 0x41).all (fun r => r.body.length == 96)

/-- The REG pairs in order: record offset, address, value. -/
def regPairs (rs : List ImgRec) : List (Nat × Nat × Word) :=
  (ofType rs 0x10).flatMap (fun r => (List.range (r.body.length / 8)).map (fun i =>
    (r.off, beAt r.body (8 * i) 4, BitVec.ofNat 32 (beAt r.body (8 * i + 4) 4))))

/-- Check 8 of R463: a firmware record's own header, and its size limit (R547). -/
def fwOk (kind limit : Nat) (r : ImgRec) : Bool :=
  beAt r.body 0 4 == 0x58424657 && beAt r.body 4 1 == kind && beAt r.body 12 4 == 0x92560001 &&
  decide (16 ≤ r.body.length) && decide (r.body.length ≤ limit)

/-! ### Register values (R462) -/

/-- The bits of a register that a REG pair sets; none where a pair may not name the address. -/
def imgMask (a : Nat) : Option Nat := match regAt a with
  | some r => if r.img = 0 ∨ a % 4 ≠ 0 then none else some r.img
  | none => none

/-- The default reaction word of a fault source: FLUSH and FNEN after its REACT (R479). -/
def srcDefault (s : Nat) : Nat :=
  let r := if s = 4 ∨ s = 29 then 5
    else if s = 32 ∨ s = 34 ∨ s = 35 ∨ s = 60 ∨ s = 61 then 4
    else if (target? s).isSome then 3
    else if s = 63 ∨ s = 70 then 0
    else if s = 31 ∨ s = 42 ∨ s = 71 ∨ s = 95 then 0 else 1
  r + (if 1 ≤ r then 0x100 else 0) + (if 3 ≤ r then 0x200 else 0)

/-- The Famate defaults of the clocks, start-up, faults and recorder (R448, R451, R473, R479, R482, R500, R502). -/
def defaultsA : List (Nat × Nat) :=
  [(R.CLK_XOQUAL, 50), (R.CLK_RELOCK, 100), (R.CLK_GATE_IDLE, 256), (R.CLK_GATE_EN, 0xFFFFFF), (R.OUT_ADLL_SLEW, 1000),
   (R.CFG_SETSRC, 3), (R.FLT_ESC, 0x303C0004), (R.FLT_CE_THR, 16), (R.REC_FREEZE_MAX, 60), (R.REC_FLPER, 10),
   (R.PAIR_CFG, 0x60000000), (R.PAIR_SILENCE, 60)] ++
  (List.range 96).map (fun s => (R.FLT_SRCs_CFG s, srcDefault s))

/-- The Famate defaults of time bases, references, servo and models (R64, R154, R165, R184). -/
def defaultsB : List (Nat × Nat) :=
  (List.range 8).flatMap (fun n => [(R.TBn_SMEAR_LEN n, 86400), (R.REF_TBn_CFG n, 0x40A), (R.REF_TBn_PMAX n, 1000000),
    (R.SRVn_CFG n, 0x5200),
    (R.SRVn_SCHk_A n 0, 10000 * 65536 + 64), (R.SRVn_SCHk_B n 0, 2 * 2 ^ 20 + 1000),
    (R.SRVn_SCHk_A n 1, 1000 * 65536 + 45), (R.SRVn_SCHk_B n 1, 10 * 2 ^ 20 + 200),
    (R.SRVn_SCHk_A n 2, 100 * 65536 + 45), (R.SRVn_SCHk_B n 2, 60 * 2 ^ 20 + 50),
    (R.SRVn_SCHk_A n 3, 10 * 65536 + 45), (R.SRVn_SCHk_B n 3, 600 * 2 ^ 20 + 20),
    (R.SRVn_SCHk_A n 4, 1 * 65536 + 45)]) ++
  (List.range 24).flatMap (fun r => [(R.REFr_HOLDOFF r, 300), (R.REFr_WTR r, 300), (R.REFr_TRWIN r, 300), (R.REFr_TRTOL r, 100),
    (R.REFr_REENTRY r, 100)]) ++
  [(R.REF_TAIUTC, 37), (R.REF_PPSWIN, 10000), (R.SRV_TW, 256 * 65536), (R.SRV_Mm_LCFG 0, 4 * 256 + 72),
   (R.SRV_Mm_LCFG 1, 4 * 256 + 72)]

/-- The Famate defaults of GNSS, Ethernet, NTS and PTP (R200, R250, R258, R332, R363). -/
def defaultsC : List (Nat × Nat) :=
  [(R.GNSS_LOOPCFG, 150 * 2 ^ 24 + 100 * 2 ^ 16 + 50 * 2 ^ 8), (R.GNSS_TCFG, 10 * 2 ^ 8 + 8), (R.GNSS_SVYTIME, 120), (R.GNSS_KSIG, 48),
   (R.GNSS_UIONO, 25000), (R.GNSS_UUTCK, 5000), (R.GNSS_DA_THR, 154), (R.GNSS_ISO_TOL, 20), (R.GNSS_PTOL, 20),
   (R.GNSS_INTEG_HOLD, 60), (R.NTS_CFG, 0xC2000000), (R.NTP_HDR, 0xE000402E), (R.NTP_RL_CFG, 0xC020100A),
   (R.NTP_RL_LIMIT, 2048), (R.NTP_RL_WIN, 1000), (R.NTP_STAT_PER, 60), (R.PE_CLASSMAP, 0x58F7)] ++
  (List.range 8).flatMap (fun n => [(R.MACn_PREEMPT n, 10 * 65536 + 7), (R.PTPi_UDUR n, 1000 * 65536 + 60), (R.PTPi_UQUOTA n, 512),
    (R.PTPi_UCFG n, 0xFDF9F9)])

/-- The default of PTPi_INTV for a profile: log intervals and announceReceiptTimeout 3 (R337). -/
def intvDefault (profile : Nat) : Nat :=
  let v := fun (a s q : Nat) => a * 2 ^ 24 + s * 2 ^ 16 + q * 2 ^ 8 + 3
  match profile with
  | 0 => v 1 0 0
  | 1 => v 1 0 0
  | 2 => v 0xFD 0xFC 0xFC
  | 3 => v 0 0xFC 0xFC
  | _ => v 0 0 0

/-- The nominal bypass increment for an XOF, 2^-40 ns (R36). -/
def bincDefault (xof : Nat) : Nat := match xof with
  | 0 => 200 * 2 ^ 40
  | 1 => 100 * 2 ^ 40
  | 2 => 80 * 2 ^ 40
  | _ => (12500 * 2 ^ 40 * 2 + 243) / 486

/-- Write a register value of the image. -/
def Dev.imgWrite (d : Dev) (a : Nat) (v : Word) : Dev := match imgMask a with
  | some m => d.wr a (d.rd a &&& ~~~ BitVec.ofNat 32 m ||| v &&& BitVec.ofNat 32 m)
  | none => d

/-- The register values that an image gives: Famate's defaults where the manual gives one, then the pairs in order
(R462); the defaults that hang on another field (BINC on XOF, PTPi_INTV and PTPi_FIXQ on the profile) where no pair
names the register; SYS_MODE from IDENT. -/
def Dev.imgRegs (d : Dev) (i : ImageHid) : Dev :=
  let named := fun a => i.pairs.any (fun p => p.2.1 == a)
  let dflt := fun (d : Dev) (a v : Nat) => if named a then d else d.imgWrite a (BitVec.ofNat 32 v)
  let d := (defaultsA ++ defaultsB ++ defaultsC).foldl (fun d p => dflt d p.1 p.2) d
  let d := i.pairs.foldl (fun d p => d.imgWrite p.2.1 p.2.2) d
  let b := bincDefault (d.fld R.CLK_CFG 1 0)
  let d := forRange 8 (fun n d =>
    if named (R.TBn_BINC_HI n) ∨ named (R.TBn_BINC_LO n) then d
    else dflt (dflt d (R.TBn_BINC_HI n) (b / 2 ^ 32)) (R.TBn_BINC_LO n) b) d
  let d := forRange 8 (fun n d =>
    let pr := d.fld (R.PTPi_PROF n) 31 29
    let d := dflt d (R.PTPi_INTV n) (intvDefault pr)
    if pr = 2 ∨ pr = 3 then dflt d (R.PTPi_FIXQ n) 0x4E5D0021 else d) d
  d.wrNat R.SYS_MODE i.mode

/-! ### The rules that say "fails verification" -/

/-- f_LO of an XOF, Hz. -/
def loHz (xof : Nat) : Nat := match xof with
  | 0 => 10000000
  | 1 => 20000000
  | 2 => 25000000
  | _ => 38880000

/-- The time scale of a time base. -/
def Dev.tscale (d : Dev) (n : Nat) : Nat := d.fld (R.TBn_CFG n) 1 0

/-- The uses R123 allows a reference. -/
def useAllowed (r use : Nat) : Bool :=
  if 2 ≤ r ∧ r ≤ 9 then use == 1
  else if 10 ≤ r ∧ r ≤ 13 then decide (1 ≤ use)
  else if r = 16 then use == 1 || use == 2
  else decide (2 ≤ use)

/-- Clocks, outputs and time bases (R31, R36, R37, R65, R431, R441, R444, R529). Each entry: the register named, and
whether its rule holds. -/
def Dev.rulesClk (v : Dev) (named : Nat → Bool) : List (Nat × Bool) :=
  let c := v.rd R.CLK_CFG
  let f := loHz (wfld c 1 0)
  let rc := v.fld R.TB_RCINC_HI 19 0 * 2 ^ 32 + v.nat R.TB_RCINC_LO
  [(R.CLK_CFG, decide (wfld c 26 24 ≤ 5 ∧ wfld c 22 20 ≤ 5) && (wbit c 31 || (wfld c 26 24 == 0 && wfld c 22 20 == 0))),
   (R.TB_RCINC_HI, decide (76 * 2 ^ 40 ≤ rc ∧ rc ≤ 84 * 2 ^ 40))] ++
  (List.range 8).flatMap (fun n => [
    (R.TBn_CFG n, v.tscale n != 3 && (n != 0 || v.tscale 0 == 0) && v.fld (R.TBn_CFG n) 6 5 != 3),
    (R.TBn_BINC_HI n, v.bincInRange (v.fld (R.TBn_BINC_HI n) 19 0 * 2 ^ 32 + v.nat (R.TBn_BINC_LO n))),
    (R.EBn_THR_SERVE n, decide (v.nat (R.EBn_THR_SPEC n) ≤ v.nat (R.EBn_THR_SERVE n)))]) ++
  (List.range 4).map (fun k => (R.OSYNk_NOM_INT k,
    !(v.bit (R.OSYNk_CFG k) 31 || named (R.OSYNk_NOM_INT k) || named (R.OSYNk_NOM_FHI k) || named (R.OSYNk_NOM_FLO k)) ||
    decide (4800000000 * 2 ^ 48 ≤ f * v.osynNom k ∧ f * v.osynNom k ≤ 6400000000 * 2 ^ 48))) ++
  (List.range 12).map (fun j =>
    let g := v.rd (R.CLKOj_CFG j)
    let div := v.fld (R.CLKOj_DIV j) 23 0
    (R.CLKOj_CFG j, !wbit g 3 || (!wbit g 2 && decide (div ≠ 0) && f * v.osynNom (wfld g 5 4) % (div * 2 ^ 48) == 0))) ++
  (List.range 4).map (fun a => (R.AUXCLKa_DIV a,
    decide (v.fld (R.AUXCLKa_DIV a) 15 0 = 0 ∨ f * v.fld R.AUX_CFG 10 0 ≤ 200000000 * v.fld (R.AUXCLKa_DIV a) 15 0)))

/-- References and bounds (R106, R123, R126, R155). -/
def Dev.rulesRef (v : Dev) (named : Nat → Bool) : List (Nat × Bool) :=
  (List.range 24).flatMap (fun r =>
    let c := v.rd (R.REFr_CFG r)
    let use := wfld c 1 0
    [(R.REFr_CFG r,
      (use == 0 || useAllowed r use) && (decide (18 ≤ r) || wfld c 6 4 == 0) && ((use == 0 && !named (R.REFr_CFG r)) || wfld c 19 16 != 0) &&
      !(decide (10 ≤ r ∧ r ≤ 13) && wbit c 7) &&
      !((r == 14 || r == 15) && use != 0 && (List.range 8).any (fun n => wbit c (20 + n) && v.tscale n == 2))),
     (R.EB_RUNC r, use == 0 || v.bit (R.EB_RUNC r) 31 == (use == 1))])

/-- Servo, models and GNSS (R171, R184 to R186, R241, R251). -/
def Dev.rulesSrv (v : Dev) : List (Nat × Bool) :=
  let t := v.rd R.GNSS_TCFG
  let b2 := v.int R.GNSS_BASE_E * v.int R.GNSS_BASE_E + v.int R.GNSS_BASE_N * v.int R.GNSS_BASE_N +
    v.int R.GNSS_BASE_U * v.int R.GNSS_BASE_U
  [(R.SRV_CFG, v.tscale (v.fld R.SRV_CFG 2 0) != 2)] ++
  (List.range 2).map (fun m => (R.SRV_Mm_LCFG m, decide (v.fld (R.SRV_Mm_LCFG m) 15 8 ≤ v.fld (R.SRV_Mm_LCFG m) 7 0))) ++
  (List.range 8).flatMap (fun n =>
    let ns := v.fld (R.SRVn_CFG n) 15 12
    [(R.SRVn_CFG n, decide (1 ≤ ns ∧ ns ≤ 8 ∧ v.fld (R.SRVn_CFG n) 10 8 < ns))] ++
    (List.range (min ns 8)).map (fun k =>
      let a := v.rd (R.SRVn_SCHk_A n k)
      (R.SRVn_SCHk_A n k, decide (1 ≤ wfld a 29 16 ∧ wfld a 29 16 ≤ 10000 ∧ 32 ≤ wfld a 7 0)))) ++
  [(R.GNSS_TCFG, wfld t 5 4 != 3 && (!wbit t 3 || v.bit R.GNSS_CFG 5) && wfld t 1 0 != 3 && v.bit R.GNSS_CFG (8 + wfld t 1 0)),
   (R.GNSS_BASE_E, !v.bit R.GNSS_CFG 5 || decide (500 * 500 ≤ b2 ∧ b2 ≤ 30000 * 30000))]

/-- Ports, packet engine, NTP and NTS (R252, R278, R284, R304, R316, R333, R334). -/
def Dev.rulesNet (v : Dev) (named : Nat → Bool) : List (Nat × Bool) :=
  let nt := v.rd R.NTS_CFG
  let rl := v.rd R.NTP_RL_CFG
  (List.range 8).flatMap (fun n =>
    let p := v.rd (R.MACn_PREEMPT n)
    [(R.MACn_CFG n, decide (v.portMode n ≤ 7)),
     (R.MACn_PREEMPT n, !(wbit p 31 || named (R.MACn_PREEMPT n)) || decide (1 ≤ wfld p 23 16 ∧ wfld p 23 16 ≤ 128)),
     (R.MACn_PAUSE_CFG n, v.fld (R.MACn_PAUSE_CFG n) 1 0 != 3),
     (R.PEn_EGQ_QUOTA n 0, decide (((List.range 8).map (fun k => v.fld (R.PEn_EGQ_QUOTA n k) 9 0)).sum ≤ 512))]) ++
  [(R.MAC_QREF, decide (v.fld R.MAC_QREF 7 4 ≤ 4 ∧ v.fld R.MAC_QREF 3 0 ≤ 4)),
   (R.NTS_CFG, v.tscale (wfld nt 2 0) == 1 && v.bit (R.TBn_CFG (wfld nt 2 0)) 4 && wfld nt 26 24 != 0),
   (R.NTP_RL_CFG, decide (16 ≤ wfld rl 30 24 ∧ wfld rl 30 24 ≤ 64 ∧ 8 ≤ wfld rl 21 16 ∧ wfld rl 21 16 ≤ 32))]

/-- What a profile allows: transport, casting (UNICAST), domainNumber (R337). -/
def profileOk (prof tran dom : Nat) (uni : Bool) : Bool := match prof with
  | 0 => decide (dom ≤ 127)
  | 1 => !uni && decide (dom ≤ 127)
  | 2 => tran == 0 && !uni && decide (24 ≤ dom ∧ dom ≤ 43)
  | 3 => tran != 0 && uni && decide (44 ≤ dom ∧ dom ≤ 63)
  | _ => tran == 0 && !uni

/-- Ports of an instance. -/
def portList (w : Word) : List Nat := (List.range 8).filter (wbit w)

/-- Two enabled instances share a port, a transport and a domainNumber. -/
def Dev.ptpClash (v : Dev) (i j : Nat) : Bool :=
  let a := v.rd (R.PTPi_CFG i)
  let b := v.rd (R.PTPi_CFG j)
  wbit a 31 && wbit b 31 && wfld a 25 24 == wfld b 25 24 && wfld a 7 0 &&& wfld b 7 0 != 0 &&
  v.fld (R.PTPi_PROF i) 23 16 == v.fld (R.PTPi_PROF j) 23 16

/-- PTP instances (R335, R337, R357, R363 to R365). -/
def Dev.rulesPtp (v : Dev) : List (Nat × Bool) :=
  let slots := ((List.range 6).filter (fun j => v.refUse (18 + j) != 0)).map (fun j => v.fld (R.REFr_CFG (18 + j)) 6 4)
  (List.range 8).flatMap (fun i =>
    let c := v.rd (R.PTPi_CFG i)
    let p := v.rd (R.PTPi_PROF i)
    let ts := v.tscale (wfld c 30 28)
    let role := wfld c 27 26
    let en := wbit c 31
    [(R.PTPi_CFG i, role != 3 && wfld c 25 24 != 3 &&
      (!en || (ts != 1 && (ts != 2 || decide (wfld p 31 29 ≤ 1)) && (List.range i).all (fun j => !v.ptpClash i j) &&
        (role == 0 || slots.contains i) && (role != 1 || decide ((portList c).length ≤ 1))))),
     (R.PTPi_PROF i, decide (wfld p 31 29 ≤ 5) && wfld p 27 26 != 3 &&
      (!en || profileOk (wfld p 31 29) (wfld c 25 24) (wfld p 23 16) (wbit c 23))),
     (R.PTPi_UDUR i, decide (v.fld (R.PTPi_UDUR i) 15 0 ≤ v.fld (R.PTPi_UDUR i) 31 16))]) ++
  [(R.PTPi_UQUOTA 0, decide (((List.range 8).map (fun i => v.fld (R.PTPi_UQUOTA i) 12 0)).sum ≤ 4096))]

/-- Faults (R480, R482). -/
def Dev.rulesFlt (v : Dev) : List (Nat × Bool) :=
  let e := v.rd R.FLT_ESC
  [(R.FLT_ESC, decide (1 ≤ wfld e 31 28 ∧ 1 ≤ wfld e 27 16 ∧ wfld e 27 16 ≤ 3600) && (wfld e 2 0 == 4 || wfld e 2 0 == 5))] ++
  (List.range 96).map (fun s =>
    let r := v.fld (R.FLT_SRCs_CFG s) 2 0
    (R.FLT_SRCs_CFG s, decide (r ≤ 5) && (r != 3 || (target? s).isSome) && (s != 29 || r == 5)))

/-- The first value rule that an image breaks: the register it names (R463, check 7). -/
def badValue (i : ImageHid) : Option Nat :=
  if 3 < i.mode then some R.SYS_MODE
  else
    let v := Dev.imgRegs {} i
    let named := fun a => i.pairs.any (fun p => p.2.1 == a)
    ((v.rulesClk named ++ v.rulesRef named ++ v.rulesSrv ++ v.rulesNet named ++ v.rulesPtp ++ v.rulesFlt).find?
      (fun p => !p.2)).map (·.1)

/-! ### Verification (R463) -/

/-- What an image's records give. -/
def imageOf (rs : List ImgRec) (len : Nat) : ImageHid :=
  let body := fun t => ((ofType rs t).head?).elim [] ImgRec.body
  { version := beAt (body 1) 0 4, build := beAt (body 1) 4 6, mode := beAt (body 1) 10 1, len := len
    pairs := regPairs rs
    srvVer := beAt (body 0x20) 8 4, gnssVer := beAt (body 0x21) 8 4
    custKey := body 0x40, authKey := ((ofType rs 0x41).head?).map ImgRec.body }

/-- The byte offset of the record that last names a register; the IDENT record for SYS_MODE. -/
def ruleOffset (i : ImageHid) (a : Nat) : Nat :=
  if a = R.SYS_MODE then 192 else ((i.pairs.filter (fun p => p.2.1 == a)).getLast?).elim 0 Prod.fst

/-- Checks 5 to 8 on the records of an image of a length: the image, or the code with record offset and register. -/
def verifyRecs (body : List Byte) (len : Nat) : ImageHid ⊕ (Nat × Nat × Nat) :=
  match parseRecs body.length 192 body with
  | none => .inr (6, 0, 0)
  | some rs =>
    if !recsOk rs then .inr (6, 0, 0)
    else
      let i := imageOf rs len
      match i.pairs.find? (fun p => (imgMask p.2.1).isNone) with
      | some p => .inr (7, p.1, p.2.1)
      | none => match badValue i with
        | some a => .inr (8, ruleOffset i a, a)
        | none =>
          if (ofType rs 0x20).all (fwOk 1 262144) && (ofType rs 0x21).all (fwOk 2 524288) then .inl i else .inr (10, 0, 0)

/-- The checks of R463 in their order on a bank: the image, or the code with record offset and register. -/
def Dev.verifyBank (d : Dev) (b : Nat) (readOk : Bool) : ImageHid ⊕ (Nat × Nat × Nat) :=
  let h := d.flashRead (bankAddr b) 12
  let len := beAt h 8 4
  if !readOk then .inr (3, 0, 0)
  else if beAt h 0 4 ≠ 0x5842494D ∨ beAt h 4 1 ≠ 1 ∨ 4194304 < len ∨ len < 288 then .inr (2, 0, 0)
  else
    let img := d.flashRead (bankAddr b) len
    let key := slice img 96 96
    let hash := (List.range 12).flatMap (fun w => be 4 (d.nat (R.CFG_ROOTHASH w)))
    if sha384 key ≠ hash then .inr (4, 0, 0)
    else if !ecdsaOk key (img.take (len - 96)) (img.drop (len - 96)) then .inr (5, 0, 0)
    else verifyRecs (slice img 192 (len - 288)) len

end Sys2Proof.Machine
end

