-- ==== Sys2Proof/Machine/Startup.lean ====
section
/-! DEFINITION. Reset, start-up and the host's flash operations (chapter 16, R453 to R474). -/
namespace Sys2Proof.Machine

/-- Change the start-up state. -/
def Dev.modSys (d : Dev) (f : SysHid → SysHid) : Dev := { d with sys := f d.sys }

/-! ### Resets (R453, R454) -/

/-- The registers a reset leaves: the fuses, and the straps sampled at RESET_N (R453, R455). -/
def keptRegs : List Nat :=
  R.SYS_STRAP :: R.HIF_PCI_ID :: ((List.range 4).map R.KS_DEVID ++ (List.range 24).map R.KS_DEVPUB ++
    (List.range 12).map R.KS_AUTHHASH ++ (List.range 12).map R.CFG_ROOTHASH ++ (List.range 8).map R.TSUn_RX_FIX ++
    (List.range 8).map R.TSUn_TX_FIX)

/-- SYS_RSTCAUSE after a reset: the resets since power-on, saturating, and the cause (R475). -/
def Dev.rstCause (d : Dev) (cause : Nat) : Nat :=
  (if cause = 0 then 0 else min 65535 (d.fld R.SYS_RSTCAUSE 31 16 + 1)) * 65536 + cause

/-- A reset: everything but the fuses, SYS_RSTCAUSE and the flash takes its reset value; SYS_STAT.PFW shows its pin
(R453, R476), and the noise source draws the key of the rate limiter's hashes (R327). The pins' levels and the flash's JEDEC ID outlast it. -/
def Dev.deviceReset (d : Dev) (cause : Nat) : Dev :=
  let d := d.flTorn
  let e : Dev := {
    flash := d.flash, fresh := d.fresh + 1, out := d.out
    nts := { seed := d.fresh }
    sys := { resetN := d.sys.resetN, supplyLow := d.sys.supplyLow, jedec := d.sys.jedec } }
  let e := keptRegs.foldl (fun e a => e.wr a (d.rd a)) e
  ((e.wrNat R.SYS_RSTCAUSE (d.rstCause cause)).setBit R.SYS_STAT 5 d.pfw).emit .outputsReset

/-! ### LOAD (R459, R463 to R465) -/

/-- A bank fails: its CFG_ERR, and CFG_ERR_ADDR for codes 7 and 8. -/
def Dev.bankFailed (d : Dev) (b : Nat) (e : Nat × Nat × Nat) : Dev :=
  let d := d.wrNat (R.CFG_ERRa b) (e.1 * 2 ^ 24 + e.2.1 % 2 ^ 24)
  if e.1 = 7 ∨ e.1 = 8 then d.wrNat R.CFG_ERR_ADDR e.2.2 else d

/-- A bank passed: it is the running one and its image waits to be applied. -/
def Dev.bankRuns (d : Dev) (b : Nat) (i : ImageHid) : Dev :=
  (d.modSys (fun s => { s with image := some i })).setBit R.CFG_STAT 1 (decide (b = 1))

/-- Verify the named bank, then the other one (R464); with both failed, NOIMAGE (R465). -/
def Dev.tryBanks (d : Dev) (first : Nat) (named : Bool) (readOk : Nat → Bool) : Dev :=
  match d.verifyBank first (readOk first) with
  | .inl i => d.bankRuns first i
  | .inr e =>
    let d := d.bankFailed first e
    match d.verifyBank (1 - first) (readOk (1 - first)) with
    | .inl i => (d.bankRuns (1 - first) i).setBit R.CFG_STAT 0 named
    | .inr e => (d.bankFailed (1 - first) e).setStage 15

/-- RESET_N is high: factory test mode, or LOAD with the directory's reading and the banks' verification
(R455, R459, R467). -/
def Dev.load (d : Dev) (readA readB : Bool) : Dev :=
  let d := d.refreshFaultN
  if d.bit R.SYS_STRAP 1 then d.setStage 14
  else
    let d := (d.setStage 1).wrNat R.CFG_FL_JEDEC (d.sys.jedec.getD 0 % 2 ^ 24)
    let able := d.sys.jedec.isSome
    let readOk := fun b => able && (if b = 0 then readA else readB)
    let d := (d.setBit R.CFG_STAT 3 (able && dirOk (d.dirCopy 0))).setBit R.CFG_STAT 4 (able && dirOk (d.dirCopy 1))
    match if able then d.dirUsed else none with
    | some c => (d.wrNat R.CFG_DIRSEQ (beAt (d.dirCopy c) 4 4)).tryBanks (beAt (d.dirCopy c) 8 1) true readOk
    | none => d.tryBanks 0 false readOk

/-- A reset while RESET_N is high: LOAD follows at once; the flash is read as at the last start. -/
def Dev.resetAndLoad (d : Dev) (cause : Nat) : Dev :=
  let d := d.deviceReset cause
  if d.sys.resetN ∧ !d.sys.supplyLow then d.load true true else d

/-- R453: power-on; RESET_N is low. -/
def effPowerOn (d : Dev) : Dev := (d.modSys (fun s => { s with resetN := false, supplyLow := false })).deviceReset 0

/-- R453: RESET_N goes low. -/
def effResetLow (d : Dev) : Dev := (d.modSys (fun s => { s with resetN := false })).deviceReset 1

/-- R453, R528: the supply monitor acts; every output is at high impedance until it releases. -/
def effSupplyLow (d : Dev) : Dev :=
  ((d.modSys (fun s => { s with supplyLow := true })).deviceReset 4).emit .outputsFloat

/-- R528: the monitor releases. -/
def effSupplyBack (d : Dev) : Dev :=
  if !d.sys.supplyLow then d
  else
    let d := (d.modSys (fun s => { s with supplyLow := false })).emit .outputsReset
    if d.sys.resetN then d.load true true else d

/-- R453: RESTART; the recorder is flushed first. In NOIMAGE either role may write SYS_CMD (R465). -/
def effRestart (p : Port) (d : Dev) : Dev :=
  let go := fun (d : Dev) =>
    if d.bit R.REC_STAT 0 then
      ({ d with flt := { d.flt with resetAfterFlush := d.flt.resetAfterFlush.or (some 2) } }).startFlush 3
    else d.resetAndLoad 2
  if d.stage = 15 ∧ d.reaches p then go d else d.asCust p go

/-- R455, R467: RESET_N rises. -/
def effResetRise (i : StartIn) (d : Dev) : Dev :=
  if d.sys.resetN then d
  else
    let d := d.modSys (fun s => { s with resetN := true, jedec := i.jedec })
    let d := d.wrNat R.SYS_STRAP (2 * b2n i.testMode + b2n i.pairPref)
    if d.sys.supplyLow then d else d.load i.readA i.readB

/-! ### Applying the image (R466) -/

/-- The key region (R371, R382): the slot records, with the key-store source for each BAD slot; the counter. -/
def readSlot (s : Nat) (d : Dev) : Dev :=
  let d := { d with ks := { d.ks with sram := Map.put d.ks.sram (fun _ => []) s (d.flashRead (slotAddr s) 64) } }
  d.slotShow s

/-- The largest CTR among the usable slot records. -/
def Dev.slotCtr (d : Dev) : Nat :=
  (List.range 64).foldl (fun m s => if d.slotState s = 1 then max m (beAt (d.slotRec s) 4 8) else m) 0

/-- KS_CTR and CTR_BAD at start (R382). -/
def Dev.readCounter (d : Dev) : Dev :=
  let bad := (d.copyCounter 0).isNone && (d.copyCounter 1).isNone
  let v := if bad then d.slotCtr else max ((d.copyCounter 0).getD 0) ((d.copyCounter 1).getD 0)
  (d.wrNat64 R.KS_CTR_LO R.KS_CTR_HI v).setBit R.KS_STAT 3 bad

/-- Read every slot record; raise the key-store source for each BAD one (R369, R371). -/
def Dev.readSlots (d : Dev) : Dev :=
  let d := (forRange 64 readSlot d).badAny
  forRange 64 (fun s d => if d.slotState s = 2 then d.raise 24 s else d) d

/-- The authority hash (R378, R466): fused from the image when none is fused, unless PFW_N is asserted. -/
def Dev.fuseAuthority (d : Dev) (key : Option (List Byte)) : Dev :=
  let d := match key with
    | some k =>
      if d.authHash ≠ zeros 48 then d
      else if d.pfw then d.setBit R.CFG_STAT 5 true
      else forRange 12 (fun w d => d.wrNat (R.KS_AUTHHASH w) (beAt (sha384 k) (4 * w) 4)) d
    | none => d
  d.setBit R.KS_STAT 1 (decide (d.authHash ≠ zeros 48))

/-- The registers that show the image (R473, R547). -/
def Dev.showImage (d : Dev) (i : ImageHid) : Dev :=
  let d := (d.wrNat R.CFG_VERSION i.version).wrNat64 R.CFG_BUILD_LO R.CFG_BUILD_HI i.build
  ((d.wrNat R.CFG_IMGLEN i.len).wrNat R.SRV_FW_VER i.srvVer).wrNat R.GNSS_FW_VER i.gnssVer

/-- A time base at CLOCK: its bypass increment from the image, on the RC oscillator (R36, R37, R467). -/
def startTb (n : Nat) (d : Dev) : Dev :=
  let b := d.fld (R.TBn_BINC_HI n) 19 0 * 2 ^ 32 + d.nat (R.TBn_BINC_LO n)
  let d := d.setTb n { d.tbAt n with binc := b, bincC := b }
  (d.setBit (R.TBn_STAT n) 5 true).setFld (R.TSUn_STAT n) 1 0 2

/-- A synthesizer starts at its nominal word (R468) and is stopped on the RC oscillator (R445). -/
def startOsyn (k : Nat) (d : Dev) : Dev :=
  let d := d.wrNat (R.OSYNk_WORD_INT k) (d.osynNom k / 2 ^ 48)
  let d := (d.wrNat (R.OSYNk_WORD_FHI k) (d.osynNom k / 2 ^ 32 % 2 ^ 16)).wrNat (R.OSYNk_WORD_FLO k) (d.osynNom k)
  osynStop k d

/-- A reference in use starts in FAILED, not counted (R134). -/
def startRef (r : Nat) (d : Dev) : Dev := if d.refUse r = 0 then d else d.refTo r 1

/-- The island of a port with MODE 0 stays closed (R440). -/
def startGate (n : Nat) (d : Dev) : Dev :=
  if d.fld (R.MACn_CFG n) 3 0 = 0 then d.setBit R.CLK_GATE_OPEN n false else d

/-- NTS requests admitted per second, millions, by mode (R287). -/
def ntsAdmit (mode : Nat) : Nat := match mode with
  | 0 => 64
  | 1 => 96
  | 2 => 32
  | _ => 96

/-- POSMODE 1 holds the image's position (R234). -/
def Dev.startPosition (d : Dev) : Dev :=
  if d.fld R.GNSS_TCFG 5 4 ≠ 1 then d
  else
    let d := ((d.wr R.GNSS_HPOS_X (d.rd R.GNSS_POS_X)).wr R.GNSS_HPOS_Y (d.rd R.GNSS_POS_Y)).wr R.GNSS_HPOS_Z (d.rd R.GNSS_POS_Z)
    (d.wr R.GNSS_HPOS_UNC (d.rd R.GNSS_POSUNC_IMG)).setFld R.GNSS_POSSTAT 31 30 2

/-- The registers and the hidden state that the image gives (R462, R466). -/
def Dev.loadImage (d : Dev) (i : ImageHid) (x : ImgExtras) : Dev :=
  let d := d.imgRegs i
  let d := d.modSys (fun s => { s with
    shadow := i.pairs.map (·.2), custKey := i.custKey, wakePats := x.wake })
  let d := { d with atom := { d.atom with patterns := x.pats, pollString := x.poll } }
  let d := d.modGnss (fun g => { g with feSeqs := x.feSeqs.foldl (fun m p => Map.put m (fun _ => []) p.1 p.2) [] })
  let d := (d.showImage i).wrNat R.CLK_FBDIV (fbdiv (d.fld R.CLK_CFG 1 0))
  (d.wrNat R.PE_NTS_ADMIT (ntsAdmit i.mode)).setBit R.SRV_STAT 1 (d.bit R.SRV_CFG 3)

/-- The key region and the authority fuse (R466, steps 3 and 4). -/
def Dev.loadKeys (d : Dev) (i : ImageHid) : Dev :=
  ((d.readSlots.readCounter).setBit R.KS_STAT 0 true).fuseAuthority i.authKey

/-- A unit that works alone owns from its start, ACTIVE_ALONE; one of a pair begins as a non-owner in INIT (R390, R408). -/
def Dev.startOwn (d : Dev) : Dev :=
  if d.bit R.PAIR_CFG 31 then d.setBit R.PAIR_STATE 0 false
  else (d.setBit R.PAIR_STATE 0 true).setFld R.PAIR_STATE 31 28 2

/-- The fused latencies of a port for its mode (R77). -/
def portFix (n : Nat) (d : Dev) : Dev :=
  let mode := d.fld (R.MACn_CFG n) 3 0
  (d.wr (R.TSUn_RX_FIX n) (Config.rxFix n mode)).wr (R.TSUn_TX_FIX n) (Config.txFix n mode)

/-- The blocks start at CLOCK (R390, R408, R467). -/
def Dev.startBlocks (d : Dev) : Dev :=
  let d := (forRange 8 startTb (d.modClk (fun c => { c with xoGoodAt := d.nowNs }))).setBit R.SRV_STAT 5 true
  let d := { d with pair := { d.pair with
    appliedAt := d.nowNs, listenAt := if d.pair.lock.any id then some d.nowNs else none } }
  let d := forRange 8 startGate (forRange 24 startRef (forRange 4 startOsyn d))
  let d := ((d.startPosition).setBit R.PAIR_STATE 8 (d.bit R.SYS_STRAP 0)).startOwn
  let d := forRange 8 (fun i d => d.setBit (R.PTPi_STAT i) 0 (d.bit R.PAIR_STATE 0 && d.bit (R.PTPi_CFG i) 31)) d
  let d := ptpShowAll (d.rootCheck).saAll
  (forRange 8 ppsIdle (forRange 8 portFix (forRange 12 clkShow d))).faultUpdate

/-- R464: running from the bank the directory did not name raises the image source. -/
def Dev.fallbackFault (d : Dev) : Dev :=
  if d.bit R.CFG_STAT 0 then d.raise 27 (d.nat (R.CFG_ERRa (1 - d.fld R.CFG_STAT 1 1))) else d

/-- The image is taken out of LOAD and its registers load (R466). -/
def Dev.takeImage (d : Dev) (i : ImageHid) (x : ImgExtras) : Dev :=
  (d.loadImage i x).modSys (fun s => { s with applied := true, image := none })

/-- R466, R467: the image is applied, the recorder opens, and CLOCK begins. -/
def effApply (x : ImgExtras) (d : Dev) : Dev :=
  match d.sys.image with
  | none => d
  | some i =>
    if d.stage ≠ 1 then d
    else ((((((d.takeImage i x).recOpen).emit .aliveStart).loadKeys i).startBlocks).fallbackFault).refreshFaultN.setStage 2

/-! ### The host's flash operations (R471, R472) -/

/-- The banks the host may write: the one not running, either in NOIMAGE. -/
def Dev.flBanks (d : Dev) : List Nat := if d.stage = 15 then [0, 1] else [1 - d.fld R.CFG_STAT 1 1]
/-- n bytes from an address lie inside a bank. -/
def inBank (a n b : Nat) : Bool := decide (bankAddr b ≤ a) && decide (a + n ≤ bankAddr b + 0x400000)

/-- A write of an OP to CFG_FL_CMD: by a Custodian, in NOIMAGE by either role (R465); ignored while BUSY. -/
def Dev.flCommand (d : Dev) (p : Port) (f : Dev → Dev) : Dev :=
  let g := fun (d : Dev) => if d.bit R.CFG_FL_STAT 31 then d else f d
  if d.stage = 15 ∧ d.reaches p then g d else d.asCust p g

/-- The 256 bytes of the buffer. -/
def Dev.flBuffer (d : Dev) : List Byte := (List.range 64).flatMap (fun w => be 4 (d.nat (R.CFG_FL_BUF w)))

/-- Start an operation, or refuse it with a result: 3 with PFW_N asserted, then the operation's own (R471). -/
def Dev.flStart (d : Dev) (refuse : Nat) (o : FlOp) : Dev :=
  let r := if d.pfw then 3 else refuse
  if r ≠ 0 then d.setFld R.CFG_FL_STAT 2 0 r
  else (d.modSys (fun s => { s with fl := some o })).setBit R.CFG_FL_STAT 31 true

/-- An ERASE or PROGRAM that runs clears CHKOK and sets WRITTEN_STKY. -/
def Dev.flWrites (d : Dev) : Dev :=
  if d.sys.fl.isSome then (d.setBit R.CFG_STAT 6 false).setBit R.CFG_STAT 7 true else d

/-- CFG_FL_ADDR. -/
def Dev.flAddr (d : Dev) : Nat := d.fld R.CFG_FL_ADDR 25 0

/-- R471: ERASE. -/
def effFlErase (p : Port) (d : Dev) : Dev := d.flCommand p (fun d =>
  let a := d.flAddr
  (d.flStart (if d.flBanks.any (inBank (a / 65536 * 65536) 65536) then 0 else 1) ⟨1, a, []⟩).flWrites)

/-- R471: PROGRAM. -/
def effFlProgram (p : Port) (d : Dev) : Dev := d.flCommand p (fun d =>
  let a := d.flAddr
  (d.flStart (if !d.flBanks.any (fun b => inBank a 1 b) then 1 else if a % 256 ≠ 0 then 2 else 0) ⟨2, a, d.flBuffer⟩).flWrites)

/-- R471: READ. -/
def effFlRead (p : Port) (d : Dev) : Dev := d.flCommand p (fun d =>
  let a := d.flAddr
  let inside := decide (a < 0x2000) || inBank a 1 0 || inBank a 1 1
  d.flStart (if !inside then 1 else if a % 256 ≠ 0 then 2 else 0) ⟨3, a, []⟩)

/-- The bank that CHECK verifies: the one not running; in NOIMAGE the one that holds CFG_FL_ADDR. -/
def Dev.checkBank (d : Dev) : Option Nat := if d.stage = 15 then [0, 1].find? (inBank d.flAddr 1) else d.flBanks.head?

/-- R471: CHECK. -/
def effFlCheck (p : Port) (d : Dev) : Dev := d.flCommand p (fun d => match d.checkBank with
  | some b => (d.flStart 0 ⟨4, bankAddr b, []⟩)
  | none => d.flStart 1 ⟨4, 0, []⟩)

/-- The directory copy that ACTIVATE writes: one that is not valid, else the one with the lower SEQ. -/
def Dev.dirOlder (d : Dev) : Nat := match d.dirUsed with
  | some c => 1 - c
  | none => 0

/-- R471: ACTIVATE. -/
def effFlActivate (p : Port) (d : Dev) : Dev := d.flCommand p (fun d =>
  d.flStart (if d.bit R.CFG_STAT 6 then 0 else 6) ⟨5, dirAddr d.dirOlder, []⟩)

/-- The directory copy ACTIVATE writes: SEQ one above the newer, RDOP and DUMMY as in it; with no valid copy those two
bytes are free. -/
def Dev.dirNew (d : Dev) : List Byte × Dev :=
  let bank := if d.stage = 15 then d.sys.chkBank else 1 - d.fld R.CFG_STAT 1 1
  let (seq, rd, d) := match d.dirUsed with
    | some c => (beAt (d.dirCopy c) 4 4 + 1, slice (d.dirCopy c) 9 2, d)
    | none => let (bs, d) := d.freeBytes 2; (1, bs, d)
  let b := be 4 0x58424452 ++ be 4 seq ++ be 1 bank ++ rd ++ [0]
  (b ++ be 4 (crc32 b), d)

/-- CHECK's outcome (R471, R463). -/
def Dev.flChecked (d : Dev) (b : Nat) (readOk : Bool) : Dev := match d.verifyBank b readOk with
  | .inl i =>
    ((((d.modSys (fun s => { s with chkBank := b })).wr (R.CFG_ERRa b) 0).setBit R.CFG_STAT 6 true)).wrNat R.CFG_CHK_VER i.version
  | .inr e => (d.bankFailed b e).setBit R.CFG_STAT 6 false

/-- The buffer takes 256 bytes. -/
def Dev.setFlBuffer (d : Dev) (bs : List Byte) : Dev := forRange 64 (fun w d => d.wrNat (R.CFG_FL_BUF w) (beAt bs (4 * w) 4)) d

/-- What a completed operation does. -/
def Dev.flPerform (d : Dev) (o : FlOp) : Dev := match o.op with
  | 1 => d.flashErase (o.addr / 65536 * 65536) 65536
  | 2 => d.flashProgram o.addr o.data
  | 3 => d.setFlBuffer (d.flashRead o.addr 256)
  | 4 => d.flChecked (if o.addr = bankAddr 0 then 0 else 1) true
  | _ =>
    let (bs, d) := d.dirNew
    ((d.flashErase o.addr 4096).flashProgram o.addr bs).setBit R.CFG_STAT (if o.addr = 0 then 3 else 4) true

/-- What a failed operation leaves: a torn region, a buffer with no stated contents, or a bank that did not read. -/
def Dev.flFailed (d : Dev) (o : FlOp) : Dev := match o.op with
  | 3 => let (bs, d) := d.freeBytes 256; d.setFlBuffer bs
  | 4 => d.flChecked (if o.addr = bankAddr 0 then 0 else 1) false
  | _ => ({ d with sys := { d.sys with fl := some o } }).flTorn

/-- R471: the operation completes. -/
def effFlDone (failed : Bool) (d : Dev) : Dev := match d.sys.fl with
  | none => d
  | some o =>
    let d := d.modSys (fun s => { s with fl := none })
    let d := if failed then d.flFailed o else d.flPerform o
    (d.setBit R.CFG_FL_STAT 31 false).setFld R.CFG_FL_STAT 2 0 (if failed then 5 else 0)

/-! ### Meanings -/

def execPowerOnReset (s : State) : Result := s.on effPowerOn
def execResetNLow (s : State) : Result := s.on effResetLow
def execSysRestart (p : Port) (s : State) : Result := s.on (effRestart p)
def execSupplyMonitorReset (s : State) : Result := s.on effSupplyLow
def execResetNRise (i : StartIn) (s : State) : Result := s.on (effResetRise i)
def execImageApply (x : ImgExtras) (s : State) : Result := s.on (effApply x)
def execFlErase (p : Port) (s : State) : Result := s.on (effFlErase p)
def execFlProgram (p : Port) (s : State) : Result := s.on (effFlProgram p)
def execFlRead (p : Port) (s : State) : Result := s.on (effFlRead p)
def execFlCheck (p : Port) (s : State) : Result := s.on (effFlCheck p)
def execFlActivate (p : Port) (s : State) : Result := s.on (effFlActivate p)
def execFlOpComplete (failed : Bool) (s : State) : Result := s.on (effFlDone failed)
def execSupplyMonitorRelease (s : State) : Result := s.on effSupplyBack

end Sys2Proof.Machine
end

