-- ==== Sys2Proof/Machine/Faults.lean ====
section
/-! DEFINITION. Faults, block resets, chip resets and power failure (R477 to R488, R493). -/
namespace Sys2Proof.Machine

/-- Change the fault controller's hidden state. -/
def Dev.modFlt (d : Dev) (f : FltHid → FltHid) : Dev := { d with flt := f d.flt }

/-! ### Occurrences (R477, R479) -/

/-- The level sources (kind L of R479). -/
def levelSources : List Nat := [0, 1, 2, 3, 20, 22, 23, 25, 26, 28, 64, 65, 66, 67, 68, 69, 70, 92]
/-- The numbers R479 does not list: they never occur. -/
def reservedSources : List Nat := [31, 42, 71, 95]

/-- R477: an occurrence, or for a level source its onset or its end. -/
def effFault (s info : Nat) (ended : Bool) (d : Dev) : Dev :=
  if reservedSources.contains s then d
  else if levelSources.contains s then (if ended then d.endLevel s else d.raiseLevel s info)
  else d.raise s info

/-- R485: SUP raises source 29 itself. -/
def effWatchdog (d : Dev) : Dev := d.raise 29 0

/-- R487: pending bits are cleared but those of active level sources; FAULT_N follows. -/
def effPendClear (p : Port) (w : Nat) (v : Word) (d : Dev) : Dev :=
  d.asCust p (fun d => (d.wr (R.FLT_PEND w) (d.rd (R.FLT_PEND w) &&& ~~~(v &&& ~~~d.rd (R.FLT_ACTIVE w)))).refreshFaultN)

/-- R488: injection in factory test mode only; elsewhere the write is ignored. -/
def effInject (p : Port) (v : Word) (d : Dev) : Dev :=
  if d.stage = 14 then
    (if !d.reaches p then d else if wbit v 31 ∧ wfld v 6 0 < 96 ∧ !reservedSources.contains (wfld v 6 0) then d.raise (wfld v 6 0) 0 else d)
  else d.asCust p id

/-- R500: a read of FLT_INFOs_LO latches the high word. -/
def effInfoLatch (p : Port) (s : Nat) (d : Dev) : Dev :=
  (d.latchRegs p [R.FLT_INFOs_HI s]).emit (.readData p (d.rd (R.FLT_INFOs_LO s)))

/-- R479: the known-answer tests; a failed engine raises its source. The pipelines PFW_N has stopped run none. -/
def effKat (aes : BitVec 16) (sha : BitVec 4) (d : Dev) : Dev :=
  if d.flt.pfwStopped ∨ !d.sys.applied then d
  else
    let d := forRange 16 (fun e d => if aes.getLsbD e then d.raise (72 + e) e else d) d
    forRange 4 (fun e d => if sha.getLsbD e then d.raise (88 + e) e else d) d

/-- The sources of the memories with corrected errors: 32 to 61 (R497). -/
def memorySource (s : Nat) : Bool := decide (32 ≤ s) && decide (s ≤ 61) && s != 42

/-- A corrected SRAM error: counted; the source occurs once in a second whose errors pass FLT_CE_THR (R479, R500). -/
def effCorrected (s : Nat) (d : Dev) : Dev :=
  if !memorySource s then d
  else
    let sec := d.nat R.SYS_UPTIME / 1000
    let k := if d.flt.ceAt = sec then d.flt.ceSecond + 1 else 1
    let d := ((d.bump R.FLT_CE_CNT).modFlt (fun f => { f with ceSecond := k, ceAt := sec })).pmc 0x0C00 (some s) 1
    if k = d.fld R.FLT_CE_THR 15 0 + 1 then d.raise 30 s else d

/-! ### Block resets (R298, R299, R372, R484) -/

/-- The bases [23:16] whose REG pairs are replayed for a target (R484, R522); a MAC port's by its own registers. -/
def Target.blocks : Target → List Nat
  | .servo _ => [0x08]
  | .gnss => [0x09, 0x0A]
  | .tsu => [0x04]
  | .gacq => [0x0B]
  | .pe => [0x12, 0x13, 0x14]
  | .ks => [0x1C]
  | .pair => [0x1D]
  | .recorder => [0x1F]
  | .pmc => [0x20]
  | _ => []

/-- An address belongs to a target's registers. -/
def Target.owns (t : Target) (a : Nat) : Bool := match t with
  | .mac n => decide (R.MACn_CFG n ≤ a) && decide (a < R.MACn_CFG n + 0x2000)
  | t => t.blocks.contains (a / 65536)

/-- The shadow's REG pairs for a target are replayed (R484, step 4). -/
def Dev.replay (d : Dev) (t : Target) : Dev :=
  d.sys.shadow.foldl (fun d p => if t.owns p.1 then d.imgWrite p.1 p.2 else d) d

/-- Zero the registers of a storage range [lo, hi). -/
def Dev.zeroRange (d : Dev) (lo hi : Nat) : Dev :=
  { d with regs := d.regs.filter (fun p => decide (p.1 < lo) || decide (hi ≤ p.1)) }

/-- The port of a job. -/
def Job.port : Job → Nat
  | .ntp r => r.port
  | .nts r .. => r.port
  | .ptpIn m => m.port
  | .send f _ => f.port

/-- The ports of the frames and jobs the packet engine holds, each once per frame. -/
def Dev.peHeld (d : Dev) : List Nat :=
  (List.range 8).flatMap (fun n => List.replicate (d.portsAt n).rx.length n) ++
  d.pe.input.map Job.port ++ d.pe.builders.map (fun b => b.job.port) ++ d.pe.replies.map (·.port) ++
  (List.range 64).flatMap (fun q => (d.egressAt q).map (·.port)) ++ d.pe.htx.toList.map (·.port) ++ d.pe.ptp.map (·.port)

/-- R299: the packet engine discards every frame and job; the sketch restarts empty and the token bucket full. -/
def Dev.resetPe (d : Dev) : Dev :=
  let d := d.peHeld.foldl (fun d n => d.bump (R.PEn_RXDROP n 11)) d
  let d := if d.pe.htx.isSome then d.headAdvance 6 else d
  let d := forRange 8 (fun n d => d.modPort n (fun h => { h with rx := [] })) d
  forRange 64 (fun q d => d.queueShow (q / 8) (q % 8))
    { d with pe := { tokAt := d.pe.tokAt }, egress := [], nts := { d.nts with cur := [], prev := [] } }

/-- R372: the key store reads the slot records again, clears the WKR and derives the epoch keys again. -/
def Dev.resetKs (d : Dev) : Dev := ((d.clearWkr.readSlots).rootCheck.saAll).deriveWindow

/-- A servo core's time bases: the integrator as at R169, the schedule at SWSTEP (R484); its run of misses ends. -/
def resetLoop (n : Nat) (d : Dev) : Dev :=
  let k := d.fld (R.SRVn_CFG n) 10 8
  let d := { d with srvg := { d.srvg with misses := Map.put d.srvg.misses (fun _ => 0) (n % 4) 0 } }
  (d.restartAt n k).setSrv n { (d.restartAt n k).srvAt n with retake := some k }

/-- Every channel returns to IDLE, the navigation ring is empty, and acquisition starts again (R484, R298). -/
def Dev.resetGnss (d : Dev) : Dev :=
  let d := channels.foldl (fun d c => if d.chUsed c then d.chRelease c else d) d
  ((d.modGnss (fun g => { g with fwMisses := [], navCount := 0 })).zeroRange 0x98000 0xA0000).acquire

/-- The pair's buffers and shadow table are empty (R298, R479); the latch stands. -/
def Dev.resetPair (d : Dev) : Dev :=
  (forRange 2 effLockLoss d).modPair (fun h => { h with
    mate := none, sent := [], echo := (0, 0), xch := [], diffs := [], shadow := [], mofs := none })

/-- The recorder's ring and staging are empty (R298, R479). -/
def Dev.resetRec (d : Dev) : Dev :=
  (d.modRec (fun r => { r with held := [], unflushed := 0, staged := [], stagedFlushed := 0, winLoad := [] })).recShow

/-- What a block reset does to its target's storage. -/
def Dev.resetTarget (d : Dev) (t : Target) : Dev := match t with
  | .servo c => resetLoop (c % 4 + 4) (resetLoop (c % 4) d)
  | .gnss => d.resetGnss
  | .tsu => ({ d with lines := [] }).calShow
  | .gacq => (d.modGnss (fun g => { g with detect := [], sweepAt := none, sweepPts := 0 })).wr R.GACQ_STAT 0
  | .mac n => d.modPort n (fun h => { h with rx := [], fifo := [], wire := none })
  | .pe => d.resetPe
  | .ks => d.resetKs
  | .pair => d.resetPair
  | .recorder => d.resetRec
  | .pmc => (d.wr R.PMC_SAMP_STAT 0).zeroRange 0x204000 0x208000
  | .aes _ => d
  | .sha _ => d

/-- The targets whose firmware is reloaded (R484, step 5). -/
def Target.hasFw : Target → Bool
  | .servo _ => true
  | .gnss => true
  | _ => false

/-- A RESTART whose flush is over (R453). -/
def Dev.pendingRestart (d : Dev) : Dev :=
  if d.flt.resetAfterFlush = some 2 ∧ !d.bit R.REC_STAT 2 then d.resetAndLoad 2 else d

/-- R484: the block reset ends, and the block resumes. -/
def effBlkDone (t : Target) (fwOk : Bool) (d : Dev) : Dev :=
  if t ∉ d.flt.running then d
  else
    let d := (d.replay t).resetTarget t
    let d := d.modFlt (fun f => { f with running := f.running.filter (fun x => decide (x ≠ t)) })
    let d := if d.flt.running.isEmpty then d.setBit R.FLT_STAT 4 false else d
    let d := if t.hasFw && !fwOk then d.raise 61 0 else d
    d.pendingRestart

/-! ### Resets after a flush (R453, R478) -/

/-- R491: the flush ends; a RESTART that waited for it resets the device. -/
def effFlushEnd (us : Nat) (d : Dev) : Dev := (effFlushDone us d).pendingRestart

/-- R478: the reset of cause 3. -/
def effChipReset (d : Dev) : Dev :=
  if d.bit R.FLT_STAT 2 ∧ !d.bit R.REC_STAT 2 ∧ d.flt.resetAfterFlush = some 3 then d.resetAndLoad 3 else d

/-! ### Power failure (R401, R493) -/

/-- R493: PFW_N asserts: ownership goes, a flush starts. -/
def effPfwOn (d : Dev) : Dev :=
  if d.pfw then d
  else ((((d.modFlt (fun f => { f with pfwAt := d.nowNs })).setBit R.SYS_STAT 5 true).raiseLevel 28 0).faultUpdate).startFlush 2

/-- R493: 100 µs later the serdes lanes, the correlators and the crypto pipelines stop. -/
def effPfwStop (d : Dev) : Dev :=
  if !d.pfw || d.flt.pfwStopped || decide (d.nowNs < d.flt.pfwAt + 100000) then d
  else
    let d := forRange 2 effLockLoss (forRange 8 (fun n d => d.linkLost n) d)
    d.modFlt (fun f => { f with pfwStopped := true })

/-- R401: PFW_N deasserts. -/
def effPfwOff (d : Dev) : Dev :=
  if d.pfw then (((d.modFlt (fun f => { f with pfwOffAt := d.nowNs })).setBit R.SYS_STAT 5 false).endLevel 28).faultUpdate
  else d

/-- R493: PFW_N has stayed deasserted for 10 ms after the flush. -/
def Dev.pfwOver (d : Dev) : Bool :=
  !d.pfw && !d.bit R.REC_STAT 2 && decide (max d.flt.pfwOffAt d.recd.flushedAt + 10000000 ≤ d.nowNs)

/-- R493: the stopped blocks restart: ports as from link-down, GNSS as after R221. -/
def effPfwRestart (d : Dev) : Dev :=
  if !d.pfwOver || !d.flt.pfwStopped then d
  else
    let d := channels.foldl (fun d c => if d.chUsed c then d.chRelease c else d) d
    let d := (d.modGnss (fun g => { g with feRun := [], feStarted := [] })).setBit R.GNSS_STAT 0 false
    d.modFlt (fun f => { f with pfwStopped := false })

/-! ### Meanings -/

def execRecFlushDone (us : Nat) (s : State) : Result := s.on (effFlushEnd us)
def execFaultOccurrence (src : Fin 96) (info : Nat) (ended : Bool) (s : State) : Result := s.on (effFault src info ended)
def execBlockResetComplete (t : Target) (fwOk : Bool) (s : State) : Result := s.on (effBlkDone t fwOk)
def execChipReset (s : State) : Result := s.on effChipReset
def execFltWatchdog (s : State) : Result := s.on effWatchdog
def execFltPendClear (p : Port) (w : Fin 3) (v : Word) (s : State) : Result := s.on (effPendClear p w v)
def execFaultInject (p : Port) (v : Word) (s : State) : Result := s.on (effInject p v)
def execFltInfoLatchRead (p : Port) (src : Fin 96) (s : State) : Result := s.on (fun d => d.asRead p (effInfoLatch p src))
def execKatRun (aes : BitVec 16) (sha : BitVec 4) (s : State) : Result := s.on (effKat aes sha)
def execPfwAssert (s : State) : Result := s.on effPfwOn
def execPfwDeassert (s : State) : Result := s.on effPfwOff
def execPfwRestart (s : State) : Result := s.on effPfwRestart
def execPfwBlockStop (s : State) : Result := s.on effPfwStop
def execSramCorrectedError (src : Fin 96) (s : State) : Result := s.on (effCorrected src)

end Sys2Proof.Machine
end

