-- ==== Sys2Proof/Machine/Pmc.lean ====
section
/-! DEFINITION. Performance counters and the instruction sampler (R497 to R499, R504). -/
namespace Sys2Proof.Machine

/-- R497: START and STOP. -/
def effPmcRun (p : Port) (run : Bool) (d : Dev) : Dev := d.asCust p (fun d => d.setBit R.PMC_STAT 0 run)

/-- R497: every counter is copied into its SNAP registers. -/
def effPmcSnap (p : Port) (d : Dev) : Dev := d.asCust p (forRange 128 (fun c d =>
  (d.wr (R.PMCc_SNAP_LO c) (d.rd (R.PMCc_LO c))).wr (R.PMCc_SNAP_HI c) (d.rd (R.PMCc_HI c))))

/-- R497: every counter is zeroed. -/
def effPmcClear (p : Port) (d : Dev) : Dev := d.asCust p (forRange 128 (fun c d => d.wrNat64 (R.PMCc_LO c) (R.PMCc_HI c) 0))

/-- R497: a counter of cycles, which the model does not count one by one, passes 2^48 − 1. -/
def effPmcWrap (c : Nat) (d : Dev) : Dev :=
  if d.bit R.PMC_STAT 0 && d.bit (R.PMCc_SEL c) 31 then
    (d.wrNat64 (R.PMCc_LO c) (R.PMCc_HI c) 0).setBit (R.PMC_WRAP (c / 32)) (c % 32) true
  else d

/-- An Observer reads 0 from a counter while OBSEN is clear (R499). -/
def Dev.pmcHidden (d : Dev) (p : Port) : Bool := !d.isCust p && !d.bit R.PMC_CFG 0

/-- R504: a read of PMCc_LO latches PMCc_HI. -/
def effPmcLatch (p : Port) (c : Nat) (d : Dev) : Dev :=
  let hidden := d.pmcHidden p
  (d.latchWord p (R.PMCc_HI c) (if hidden then 0 else d.rd (R.PMCc_HI c))).emit
    (.readData p (if hidden then 0 else d.rd (R.PMCc_LO c)))

/-- A sampler entry (R498). -/
def Dev.sampleBytes (d : Dev) (i : SampleIn) : List Byte :=
  be 1 i.core.val ++ [i.flags] ++ be 2 (cNs (d.count 0) / 1000000) ++ be 4 i.addr.toNat ++ be 4 i.word.toNat ++
  be 2 (min i.latency 65535) ++ be 2 i.tb.toNat

/-- R498: an entry goes to ring 3, or into the buffer until it is full. -/
def effSample (i : SampleIn) (d : Dev) : Dev :=
  let cfg := d.rd R.PMC_SAMP_CFG
  let k := d.fld R.PMC_SAMP_STAT 10 0
  if !wbit cfg 31 || !wbit cfg (24 + i.core) then d
  else if wbit cfg 30 then (d.bumpWrap R.PMC_SAMP_CNT).ringOffer 3 0x09 (d.sampleBytes i) none
  else if d.bit R.PMC_SAMP_STAT 31 || decide (1024 ≤ k) then d
  else
    let bs := d.sampleBytes i
    let d := forRange 4 (fun w d => d.wrNat (R.PMC_SAMPLE k w) (beAt bs (4 * w) 4)) (d.bumpWrap R.PMC_SAMP_CNT)
    (d.setFld R.PMC_SAMP_STAT 10 0 (k + 1)).setBit R.PMC_SAMP_STAT 31 (decide (k + 1 = 1024))

/-- R498: RESET empties the buffer. -/
def effSampReset (p : Port) (d : Dev) : Dev := d.asCust p (fun d => d.wr R.PMC_SAMP_STAT 0)

/-! ### Meanings -/

def execPmcStart (p : Port) (s : State) : Result := s.on (effPmcRun p true)
def execPmcStop (p : Port) (s : State) : Result := s.on (effPmcRun p false)
def execPmcSnap (p : Port) (s : State) : Result := s.on (effPmcSnap p)
def execPmcClear (p : Port) (s : State) : Result := s.on (effPmcClear p)
def execPmcSample (i : SampleIn) (s : State) : Result := s.on (effSample i)
def execPmcSampReset (p : Port) (s : State) : Result := s.on (effSampReset p)
def execPmcLatchRead (p : Port) (c : Fin 128) (s : State) : Result := s.on (fun d => d.asRead p (effPmcLatch p c))
def execPmcCounterWrap (c : Fin 128) (s : State) : Result := s.on (effPmcWrap c)

end Sys2Proof.Machine
end

