-- ==== Sys2Proof/Machine/HostBus.lean ====
section
/-! DEFINITION. The host ports (chapter 18): what a read or a write of any address does, the SPI slave, the PCIe
endpoint's own events and the interrupts' registers. -/
namespace Sys2Proof.Machine

/-! ### Arrays of registers -/

/-- The index of an address in an array of registers with a first address, a stride and a count. -/
def arrayIdx (base stride count a : Nat) : Option Nat :=
  if base ≤ a ∧ (a - base) % stride = 0 ∧ (a - base) / stride < count then some ((a - base) / stride) else none

/-- The index of an address in an array of registers. -/
def regIdx (r : Nat → Nat) (count a : Nat) : Option Nat := arrayIdx (r 0) (r 1 - r 0) count a

/-- The first answer of a list of partial functions of an address. -/
def firstOf {α : Type} : List (Nat → Option α) → Nat → Option α
  | [], _ => none
  | f :: fs, a => match f a with
    | some x => some x
    | none => firstOf fs a

/-! ### Writes with an effect of their own -/

/-- What a write of a word from a port does. -/
abbrev WriteFn := Port → Word → Dev → Dev

/-- The writes of an array of registers. -/
def arr (r : Nat → Nat) (count : Nat) (f : Nat → WriteFn) : Nat → Option WriteFn := fun a => (regIdx r count a).map f
/-- The write of one register. -/
def one (r : Nat) (f : WriteFn) : Nat → Option WriteFn := fun a => if a = r then some f else none

/-- A command register: the effects of the bits that are set, in rising order of the bits. -/
def cmdBits (fs : List (Nat × (Port → Dev → Dev))) : WriteFn := fun p v d =>
  fs.foldl (fun d f => if wbit v f.1 then f.2 p d else d) d

/-- A command register only a Custodian writes. -/
def custBits (fs : List (Nat × (Port → Dev → Dev))) : WriteFn := fun p v d => d.asCust p (cmdBits fs p v)

/-- Time bases (R33 to R49). -/
def tbWrites : List (Nat → Option WriteFn) :=
  [ arr R.TBn_CMD 8 (fun n => custBits [(0, fun p => effSetArm (.host p) n), (1, fun p => effPabort (.host p) n)]),
    arr R.TBn_INC_HI 8 (fun n p v => effIncHi (.host p) n v),
    arr R.TBn_INC_LO 8 (fun n p v => effIncCommit (.host p) n v),
    arr R.TBn_BINC_HI 8 (fun n p v => effBincHi (.host p) n v),
    arr R.TBn_BINC_LO 8 (fun n p v => effBincCommit (.host p) n v),
    arr R.TBn_PADJ_HI 8 (fun n p v d => d.asWriter (.host p) n (fun d => d.wr (R.TBn_PADJ_HI n) (v &&& 0x8000FFFF))),
    arr R.TBn_PADJ_LO 8 (fun n p v => effPadjCommit (.host p) n v),
    arr R.TBn_PSLOPE 8 (fun n p v => effPslope (.host p) n v),
    arr R.TBn_LEAP_AT_HI 8 (fun n p v => effLeapHold (.host p) n .atHi v),
    arr R.TBn_LEAP_AT_LO 8 (fun n p v => effLeapHold (.host p) n .atLo v),
    arr R.TBn_SMEAR_LEN 8 (fun n p v => effLeapHold (.host p) n .smearLen v),
    arr R.TBn_LEAP_CTL 8 (fun n p v => effLeapCtl (.host p) n v),
    one R.TB_SNAP_CMD effSnap ]

/-- Event pins (R50 to R69). -/
def eioWrites : List (Nat → Option WriteFn) :=
  [ arr R.EIOn_CFG 32 (fun n p v => effEioCfg p n v),
    arr R.EIOn_CMD 32 (fun n => custBits [(0, fun p => effEioArm p n), (1, fun p => effEioDisarm p n),
      (2, fun p => effEioPop p n)]),
    arr R.EIOn_T0_SEC 32 (fun n p v => effEioSchedule p n .t0Sec v),
    arr R.EIOn_T0_NS 32 (fun n p v => effEioSchedule p n .t0Ns v),
    arr R.EIOn_T0_FRAC 32 (fun n p v => effEioSchedule p n .t0Frac v),
    arr R.EIOn_PER_NS 32 (fun n p v => effEioSchedule p n .perNs v),
    arr R.EIOn_PER_FRAC 32 (fun n p v => effEioSchedule p n .perFrac v),
    arr R.EIOn_WIDTH 32 (fun n p v => effEioSchedule p n .width v),
    arr R.EIOn_COUNT 32 (fun n p v => effEioSchedule p n .count v),
    arr R.EIOn_STUCK 32 (fun n p v => effEioStuckWrite p n v) ]

/-- A write that takes effect only for a value in range; another one is ignored (R546). -/
def ranged (a lo hi mask : Nat) : WriteFn := fun p v d =>
  d.asCust p (fun d => if lo ≤ v.toNat &&& mask ∧ v.toNat &&& mask ≤ hi then d.wrNat a (v.toNat &&& mask) else d)

/-- Timestamp units and PPS outputs (R70 to R97). -/
def tsuWrites : List (Nat → Option WriteFn) :=
  [ arr R.TSUn_CFG 8 (fun n p v => effTsuCfg p n v),
    arr R.PPSm_CFG 8 (fun m p v => effPpsWrite p m .cfg v),
    arr R.PPSm_OFS 8 (fun m p v => effPpsWrite p m .ofs v),
    arr R.PPSm_WIDTH 8 (fun m p v => effPpsWrite p m .width v),
    arr R.PPSm_DLY 8 (fun m p v => effPpsWrite p m .dly v),
    one R.TSU_LAUNCH_LEAD (ranged R.TSU_LAUNCH_LEAD 200 20000 0x7FFF) ]

/-- References, servo loops and the GNSS baseband. -/
def timingWrites : List (Nat → Option WriteFn) :=
  [ one R.REF_LOCKOUT effLockout,
    arr R.REF_TBn_FORCE 8 (fun n p v => effForce p n v),
    arr R.REF_TBn_ACCEPT 8 (fun n p v => effAccept p n v),
    arr R.SRVn_CTL 8 (fun n p v => effSrvCtl p n v),
    one R.GNSS_EXCL_GPS (fun p v => effExcl p .gps v),
    one R.GNSS_EXCL_GAL_LO (fun p v => effExcl p .galLo v),
    one R.GNSS_EXCL_GAL_HI (fun p v => effExcl p .galHi v),
    one R.GNSS_EXCL_BDS_LO (fun p v => effExcl p .bdsLo v),
    one R.GNSS_EXCL_BDS_HI (fun p v => effExcl p .bdsHi v),
    one R.GNSS_EXCL_QZS (fun p v => effExcl p .qzs v),
    one R.GNSS_FESPI_CTL effFeGo,
    one R.GNSS_NAV_RD effNavRd,
    one R.GACQ_CMD effSweepCmd,
    one R.GNSS_TCMD effResurvey ]

/-- R292: BASE and WB are written only while EN is clear; other writes are ignored. -/
def ringAddr (r : Nat → Nat) (mask : Word) (k : Nat) : WriteFn := fun p v d =>
  d.asCust p (fun d => if d.ringEn k then d else d.wr (r k) (v &&& mask))

/-- Ports, rings, PTP. -/
def netWrites : List (Nat → Option WriteFn) :=
  [ arr R.MACn_CMD 8 (fun n => custBits [(0, fun p => effIsletCmd p n), (1, fun p => effWakeCmd p n)]),
    arr R.PE_RINGk_CFG 8 (fun k p v => if wbit v 31 then effRingEnable p k v else effRingDisable p k v),
    arr R.PE_RINGk_BASE_LO 8 (ringAddr R.PE_RINGk_BASE_LO 0xFFFFF000),
    arr R.PE_RINGk_BASE_HI 8 (ringAddr R.PE_RINGk_BASE_HI 0xFFFFFFFF),
    arr R.PE_RINGk_WB_LO 8 (ringAddr R.PE_RINGk_WB_LO 0xFFFFFFF8),
    arr R.PE_RINGk_WB_HI 8 (ringAddr R.PE_RINGk_WB_HI 0xFFFFFFFF),
    arr R.PE_RINGk_TAIL 8 (fun k p v => effTail p k v),
    arr R.PE_RINGk_TMO 8 (fun k => ranged (R.PE_RINGk_TMO k) 1 65535 0xFFFF),
    arr R.PTPi_TXSA 8 (fun i p v => effTxsaWrite p i v),
    one R.PTP_SESS_CMD effCancelCmd ]

/-- R386: the duration, in either role; a larger value is ignored. -/
def effUnlockDur (p : Port) (v : Word) (d : Dev) : Dev := d.asAny p (fun d =>
  if wfld v 16 0 ≤ 86400 then d.wrNat (pAddr p R.KS_UNLOCK_DUR) (wfld v 16 0) else d)

/-- Key store and pair. -/
def keyWrites : List (Nat → Option WriteFn) :=
  [ one R.KS_CMD (cmdBits [(0, fun p d => d.asAny p (effChallenge p)), (1, fun p d => d.asAny p (effUnlock p)),
      (2, fun p d => d.asAny p (effLock p))]),
    one R.KS_UNLOCK_DUR effUnlockDur,
    arr R.KS_RESP 24 (fun w p v d => d.asAny p (fun d => d.wr (pAddr p (R.KS_RESP w)) v)),
    one R.PAIR_CMD (custBits [(0, effTakeCmd), (1, effHandoverCmd)]) ]

/-- R471: the operation a write of CFG_FL_CMD starts; another code does nothing. -/
def effFlCmd (p : Port) (v : Word) (d : Dev) : Dev := match wfld v 2 0 with
  | 1 => effFlErase p d
  | 2 => effFlProgram p d
  | 3 => effFlRead p d
  | 4 => effFlCheck p d
  | 5 => effFlActivate p d
  | _ => d.flCommand p id

/-- R519: a write of the port's own HIF_ISTAT, in either role. -/
def effIstat (p : Port) (v : Word) (d : Dev) : Dev := d.asAny p (fun d =>
  d.wr (pAddr p R.HIF_ISTAT) (d.rd (pAddr p R.HIF_ISTAT) &&& ~~~v))

/-- R519, R521: a write of the port's own HIF_IEN, in either role. -/
def effIen (p : Port) (v : Word) (d : Dev) : Dev := d.asAny p (fun d =>
  Dev.msixRises d (d.wr (pAddr p R.HIF_IEN) (v &&& 0x1FFF)))

/-- R521: a write of a source's vector. -/
def effIvec (s : Nat) (p : Port) (v : Word) (d : Dev) : Dev := d.asCust p (fun d =>
  Dev.msixRises d (d.wr (R.HIF_IVEC s) (v &&& 0xF)))

/-- Clocks, start-up, faults, recorder, counters, host interface. -/
def sysWrites : List (Nat → Option WriteFn) :=
  [ one R.CLK_CMD (custBits [(0, effClkRetry)]),
    arr R.CLK_BAND 64 (fun b p v => effBandWrite (.host p) b v),
    arr R.CLKOj_CFG 12 (fun j p v => effClkoCfg p j v),
    one R.AUX_EN effAuxEn,
    one R.CFG_FL_CMD effFlCmd,
    one R.SYS_CMD (fun p v d => if wbit v 0 then effRestart p d else if d.stage = 15 then d else d.asCust p id),
    one R.FLT_INJ effInject,
    arr R.FLT_PEND 3 (fun w p v => effPendClear p w v),
    one R.REC_CMD (custBits [(0, effFreeze), (1, effUnfreeze), (2, effMark)]),
    one R.REC_WIN_ADDR (fun p v d => d.asAny p (fun d => d.wr (pAddr p R.REC_WIN_ADDR) (v &&& 0x81FFFF00))),
    one R.REC_WIN_CMD (fun p v d => if wbit v 0 then effWinLoad p d else d.asAny p id),
    one R.PMC_CMD (custBits [(0, fun p => effPmcRun p true), (1, fun p => effPmcRun p false), (2, effPmcSnap),
      (3, effPmcClear)]),
    one R.PMC_SAMP_CMD (custBits [(0, effSampReset)]),
    one R.HIF_ISTAT effIstat,
    one R.HIF_IEN effIen,
    arr R.HIF_IVEC 13 effIvec ]

/-- The effect of a write to a register whose write does more than store. -/
def writeFn? (a : Nat) : Option WriteFn :=
  firstOf (tbWrites ++ eioWrites ++ tsuWrites ++ timingWrites ++ netWrites ++ keyWrites ++ sysWrites) a

/-! ### A write of one word (R8 to R11, R508 to R510, R517, R518) -/

/-- A register stores its writable bits and clears the W1C bits written 1 (R9); reserved bits stay 0 (R11). -/
def Dev.store (d : Dev) (r : RegRow) (a : Nat) (v : Word) : Dev :=
  d.wr a ((d.rd a &&& ~~~(BitVec.ofNat 32 r.rw) ||| v &&& BitVec.ofNat 32 r.rw) &&& ~~~(v &&& BitVec.ofNat 32 r.w1c))

/-- The registers that either role may write before the image is applied: in NOIMAGE the flash commands and RESTART
(R465), in factory test mode FLT_INJ (R488). -/
def Dev.openEarly (d : Dev) (a : Nat) : Bool :=
  (d.stage == 15 && (a == R.CFG_FL_ADDR || a == R.CFG_FL_CMD || a == R.SYS_CMD || (regIdx R.CFG_FL_BUF 64 a).isSome)) ||
  (d.stage == 14 && a == R.FLT_INJ)

/-- An access code whose registers no host write changes. -/
def Acc.fixed : Acc → Bool
  | .ro | .il | .rc => true
  | .rw | .wo | .w1c | .mixed => false

/-- A write of a word arrives at a port. -/
def Dev.hostWrite (d : Dev) (p : Port) (a : Nat) (v : Word) : Dev :=
  if !d.reaches p then d
  else match regAt a with
    | none => d.bump (pAddr p R.HIF_UNMAPPED)
    | some r =>
      if (!d.sys.applied && !d.openEarly a) || r.acc.fixed then d.writeIgnored p
      else match writeFn? a with
        | some f => f p v d
        | none =>
          let at_ := if r.perPort then pAddr p a else a
          if d.sys.applied then d.asCust p (fun d => d.store r at_ v) else d.store r at_ v

/-! ### A read of one word (R48, R499, R508, R510, R517) -/

/-- The reads that load a port's latch. -/
def latchReads : List (Nat → Option (Port → Dev → Dev)) :=
  let arr := fun (r : Nat → Nat) (c : Nat) (f : Nat → Port → Dev → Dev) (a : Nat) => (regIdx r c a).map f
  let one := fun (r : Nat) (f : Port → Dev → Dev) (a : Nat) => if a = r then some f else none
  [ arr R.TBn_NOW_SEC_LO 8 (fun n p => effNowLatch p n),
    arr R.EBn_B_LO 8 (fun n p => effEbLatch p n),
    arr R.REF_TBn_STEER_LO 8 (fun n p => effSteerLatch p n),
    arr R.SRVn_ERR 8 (fun n p => effErrLatch p n),
    arr R.SRV_Mm_STAT 2 (fun m p => effModelLatch p m),
    arr R.GCHc_MEAS_EPOCH 256 (fun c p => effGchMeasLatch p c),
    arr R.GCHc_VE_I 256 (fun c p => effGchCorrLatch p c),
    arr R.GNSS_SOLr_STAT 2 (fun r p => effSolLatch p r),
    (fun a => (arrayIdx R.NTP_RX_LO 8 4 a).map (fun c p => effNtsLatch p c)),
    (fun a => (firstOf ((List.range 4).map (fun c a => (regIdx (fun n => R.MACn_RX_FRAMES_LO n + 8 * c) 8 a).map
      (fun n => (fun p d => effMacLatch p n c d : Port → Dev → Dev)))) a)),
    arr R.PTPi_OFS_LO 8 (fun i p => effOfsLatch p i),
    one R.KS_CTR_LO effCtrLatch,
    one R.PAIR_MOFS_LO effMofsLatch,
    arr R.OSYNk_WORD_INT 4 (fun k p => effOsynLatch p k),
    arr R.FLT_INFOs_LO 96 (fun s p => effInfoLatch p s),
    arr R.PMCc_LO 128 (fun c p => effPmcLatch p c) ]

/-- The registers that read from the port's latch. -/
def latchedRegs : List ((Nat → Nat) × Nat) :=
  [R.TBn_NOW_SEC_HI, R.TBn_NOW_NS, R.TBn_NOW_FRAC, R.TBn_PRES_SEC_HI, R.TBn_PRES_SEC_LO, R.TBn_PRES_NS, R.TBn_PRES_FRAC,
    R.EBn_B_HI, R.EBn_LO_LO, R.EBn_LO_HI, R.EBn_HI_LO, R.EBn_HI_HI, R.EBn_RATE, R.EBn_TAU, R.EBn_P_LO, R.EBn_P_HI, R.EBn_PRATE, R.EBn_Y, R.EBn_D, R.EBn_K, R.EBn_DT, R.EBn_SEQ, 
    R.REF_TBn_STEER_HI, R.SRVn_INTEG, R.SRVn_CORR, R.SRVn_MODELINC_HI, R.SRVn_MODELINC_LO, R.SRVn_BW_EFF, R.SRVn_STEPTIME,
    R.SRVn_UPD, R.PTPi_OFS_HI, R.PTPi_MPD].map (·, 8) ++
  [R.SRV_Mm_Y0, R.SRV_Mm_AGE, R.SRV_Mm_TC, R.SRV_Mm_TREF, R.SRV_Mm_EPOCH, R.SRV_Mm_Y, R.SRV_Mm_D, R.SRV_Mm_K,
    R.GNSS_SOLr_M_LO, R.GNSS_SOLr_M_HI, R.GNSS_SOLr_U, R.GNSS_SOLr_DRIFT, R.GNSS_SOLr_CHK, R.GNSS_SOLr_DA].map (·, 2) ++
  [R.GCHc_MEAS_CODE_INT, R.GCHc_MEAS_CODE_FRAC, R.GCHc_MEAS_CARR_CYC, R.GCHc_MEAS_CARR_FRAC, R.GCHc_MEAS_DOPP].map (·, 256) ++
  (List.range 11).map (fun j => (fun c => R.GCHc_VE_I c + 4 * (j + 1), 256)) ++
  (List.range 4).map (fun c => (fun n => R.MACn_RX_FRAMES_LO n + 8 * c + 4, 8)) ++
  (List.range 4).map (fun c => (fun _ => R.NTP_RX_LO + 8 * c + 4, 1)) ++
  [(fun _ => R.KS_CTR_HI, 1), (fun _ => R.PAIR_MOFS_HI, 1), (R.OSYNk_WORD_FHI, 4), (R.OSYNk_WORD_FLO, 4), (R.FLT_INFOs_HI, 96),
    (R.PMCc_HI, 128)]

/-- An address reads from the latch. -/
def isLatched (a : Nat) : Bool :=
  latchedRegs.any (fun r => if r.2 = 1 then a == r.1 0 else (regIdx r.1 r.2 a).isSome)

/-- An Observer reads 0 here: the sampler's registers and buffer, and the counters while OBSEN is clear (R499). -/
def Dev.readHidden (d : Dev) (p : Port) (a : Nat) : Bool :=
  !d.isCust p && (decide (0x201100 ≤ a ∧ a < 0x210000) || (decide (0x200100 ≤ a ∧ a < 0x201100) && !d.bit R.PMC_CFG 0))

/-- The word that a loading read returned, taken back from the log of outputs. -/
def Dev.latchedWord (after : Dev) (out : List Out) : Word × Dev := match after.out with
  | .readData _ w :: _ => (w, { after with out := out })
  | _ => (0, after)

/-- HIF_LINK while the link is not up: the LTSSM passes through the states outside L0 and its neighbours, in an order that
the link partner settles; which one a read meets is free (R545, log 62). -/
def Dev.ltssmRead (d : Dev) : Word × Dev :=
  let (w, d) := d.freeWord
  (BitVec.ofNat 32 ([0x00, 0x01, 0x02, 0x03, 0x04, 0x05, 0x06, 0x07, 0x08, 0x09, 0x0A, 0x13, 0x14, 0x15, 0x16].getD (w.toNat % 15) 0), d)

/-- A read of a word by a port: the value and the state after. -/
def Dev.hostRead (d : Dev) (p : Port) (a : Nat) : Word × Dev :=
  match regAt a with
  | none => (0, d.bump (pAddr p R.HIF_UNMAPPED))
  | some r =>
    let at_ := if r.perPort then pAddr p a else a
    if !d.sys.applied && (a / 65536 != 0 && a / 65536 != 0x22) || d.readHidden p a || r.acc = .wo then (0, d)
    else if r.acc = .rc then (d.rd at_, if d.isCust p then d.wr at_ 0 else d)
    else match firstOf latchReads a with
      | some f => (f p d).latchedWord d.out
      | none =>
        if a = R.HIF_LINK ∧ !d.bit R.HIF_LINK 31 then d.ltssmRead
        else (if isLatched a then d.latched p a else if a = R.HIF_PORT then BitVec.ofNat 32 p.num else d.rd at_, d)

/-! ### Requests and the limit of R431 -/

/-- The image breaks the HOST:MGMT limit of R431: an MGMT divider above four times the HOST divider. -/
def Dev.mgmtTooSlow (d : Dev) : Bool :=
  let h := [8, 4, 5, 6, 10, 12].getD (d.fld R.CLK_CFG 26 24) 8
  let m := [32, 16, 20, 24, 40, 48].getD (d.fld R.CLK_CFG 22 20) 32
  decide (4 * h < m)

/-- How often MGMT takes a request: once, where the image keeps the limit (R432). -/
def Dev.taken (d : Dev) (times : Nat) : Nat := if d.mgmtTooSlow then times else 1

/-- R508, R432: a write request; one with a byte enable clear is ignored and counted. -/
def effRegWrite (p : Port) (a : Nat) (v : Word) (part : Bool) (times : Nat) (d : Dev) : Dev :=
  if part ∧ p = .pcie then (if d.reaches p then d.bump R.HIF_BADACC else d)
  else (List.range (d.taken times)).foldl (fun d _ => d.hostWrite p (a / 4 * 4) v) d

/-- A read that reached MGMT once returns its value; with the limit broken the value is free (R432). -/
def Dev.readRequest (d : Dev) (p : Port) (a times : Nat) : Word × Dev :=
  if d.mgmtTooSlow then ((List.range times).foldl (fun d _ => (d.hostRead p a).2) d).freeWord else d.hostRead p a

/-- R9, R10: a read request. -/
def effRegRead (p : Port) (a times : Nat) (d : Dev) : Dev :=
  if !d.reaches p then (if p = .pcie then d.emit .unsupported else d)
  else
    let (v, d) := d.readRequest p (a / 4 * 4) times
    d.emit (.readData p v)

/-- R510: an access to an unmapped address. -/
def effUnmapped (p : Port) (a : Nat) (write : Bool) (d : Dev) : Dev :=
  if (regAt (a / 4 * 4)).isSome then d
  else if write then d.hostWrite p (a / 4 * 4) 0
  else effRegRead p a 1 d

/-! ### The SPI slave (R512 to R515) -/

/-- A word waits in FRY_SPI. -/
def Dev.spiBusy (d : Dev) : Bool := !d.hif.ferry.isEmpty

/-- R513: the status byte leaves, and WROVF clears. -/
def Dev.spiStatusOut (d : Dev) : Dev :=
  let w := d.hif.wrovf
  let d := d.emit (.spiStatus (BitVec.ofNat 8 (0xA0 + 8 * b2n w + 4 * b2n (d.isCust .spi) + 2 * b2n d.sys.applied + b2n d.spiBusy)))
  ({ d with hif := { d.hif with wrovf := false } }).setBit R.HIF_SPI_STAT 3 w

/-- A transaction of the SPI port; one that finds BUSY set is ignored and counted (R513). -/
def Dev.spiTransaction (d : Dev) (f : Dev → Dev) : Dev :=
  if !d.reaches .spi then d
  else if d.spiBusy then d.spiStatusOut.bump R.HIF_SPI_BUSYREJ else f d.spiStatusOut

/-- R512, R513: a STATUS transaction, or one with OP 00: only the status byte. -/
def effSpiStatus (d : Dev) : Dev := if d.reaches .spi then d.spiStatusOut else d

/-- Word i of a burst (R512). -/
def burstAddr (a i : Nat) : Nat := (a / 4 * 4 + 4 * i) % 0x1000000

/-- The reads of a burst in order (R508, R514). -/
def Dev.readBurst (a : Nat) : Nat → Nat → Dev → List Word × Dev
  | 0, _, d => ([], d)
  | k + 1, i, d =>
    let (w, d) := d.readRequest .spi (burstAddr a i) 1
    let (ws, d) := Dev.readBurst a k (i + 1) d
    (w :: ws, d)

/-- R514: every read of the burst is performed, whether or not the host receives the words. -/
def effSpiRead (a n : Nat) (inTime : Bool) (d : Dev) : Dev := d.spiTransaction (fun d =>
  let (ws, d) := Dev.readBurst a (n + 1) 0 d
  if inTime then d.emit (.spiRead 0xA5 ws) else (d.emit (.spiRead 0xFF [])).bump R.HIF_SPI_RDTMO)

/-- The words of a burst that enter the ferry: all of them on the root; in a bypass as many as find room, the depth of
FRY_SPI at least (R24, R515). -/
def Dev.spiTaken (d : Dev) (count fits : Nat) : Nat := if d.clkSrc = 0 then count else min count (max fits 2)

/-- R515: the words enter FRY_SPI; a word that finds it full is discarded with every later one. -/
def effSpiWrite (a : Nat) (words : List Word) (fits : Nat) (d : Dev) : Dev := d.spiTransaction (fun d =>
  let ws := (words.take 64).zipIdx.map (fun w => (burstAddr a w.2, w.1))
  let k := d.spiTaken ws.length fits
  ({ d with hif := { d.hif with ferry := d.hif.ferry ++ ws.take k, wrovf := d.hif.wrovf || decide (k < ws.length) } }).setBit
    R.HIF_SPI_STAT 0 (!ws.isEmpty))

/-- R513: the oldest word in FRY_SPI is performed in MGMT. -/
def effSpiPerformed (d : Dev) : Dev := match d.hif.ferry with
  | [] => d
  | (a, v) :: rest =>
    (({ d with hif := { d.hif with ferry := rest } }).setBit R.HIF_SPI_STAT 0 (!rest.isEmpty)).hostWrite .spi a v

/-! ### The PCIe endpoint (R506, R507, R545) -/

/-- The words of the configuration header that R505 fixes: device and vendor ID, class code and revision ID, subsystem
IDs. -/
def Dev.pciHeader (d : Dev) : List Word := [d.rd R.HIF_PCI_ID, 0x088000B0, d.rd R.HIF_SUBSYS]

/-- R505, R506: a configuration request: retried before the image is applied, else answered from the header. -/
def effConfigReq (d : Dev) : Dev :=
  let retry := !d.sys.applied && d.stage != 15 && d.stage != 14
  d.emit (.configAnswer retry (if retry then [] else d.pciHeader))

/-- R506: a memory request before the image is applied. -/
def effEarlyMem (write : Bool) (d : Dev) : Dev :=
  if d.sys.applied || d.stage == 15 || d.stage == 14 || write then d else d.emit .unsupported

/-- DMA stops: the rings are disabled, and the results of commands already fetched are lost (R507). -/
def Dev.dmaStop (d : Dev) : Dev :=
  let d := (List.range 8).foldl (fun d k => d.ringStop k) d
  { d with pe := { d.pe with lostResults := d.pe.hostCmds.length }
           ks := { d.ks with store := d.ks.store.map (fun s => { s with lost := true }) } }

/-- R507: what a Function Level Reset, a hot reset and a link-down do. -/
def Dev.hifReset (d : Dev) : Dev :=
  let d := (d.dmaStop.toObserver .pcie).wr R.HIF_IEN 0
  ({ d with hif := { d.hif with msixMask := 0xFFFF, msixPend := 0, d3hot := false } }).bump R.HIF_LINKEV

/-- R507: a hot reset, or PCIE_PERST_N low; the link leaves L0. -/
def effHotReset (d : Dev) : Dev := d.hifReset.wr R.HIF_LINK 0

/-- R507: a link-down. -/
def effPcieLinkDown (d : Dev) : Dev := (d.hifReset.wr R.HIF_LINK 0).raise 62 0

/-- R545: the link reaches L0. -/
def effPcieLinkUp (speed width : Nat) (d : Dev) : Dev := d.wrNat R.HIF_LINK (2 ^ 31 + speed * 2 ^ 16 + width * 2 ^ 8 + 0x0B)

/-- R507: D3hot. -/
def effD3 (d : Dev) : Dev := { d.dmaStop with hif := { d.hif with d3hot := true } }

/-- R507: D0. -/
def effD0 (d : Dev) : Dev := { d with hif := { d.hif with d3hot := false } }

/-- R521: a vector is unmasked; a pending message leaves. -/
def effUnmask (v : Nat) (d : Dev) : Dev :=
  if !d.reaches .pcie then d
  else
    let pend := d.hif.msixPend.getLsbD v
    let d := { d with hif := { d.hif with
      msixMask := d.hif.msixMask &&& ~~~(BitVec.twoPow 16 v), msixPend := d.hif.msixPend &&& ~~~(BitVec.twoPow 16 v) } }
    if pend then d.emit (.msix v) else d

/-! ### Meanings -/

def execRegisterWrite (p : Port) (a : BitVec 24) (v : Word) (part : Bool) (times : Fin 3) (s : State) : Result :=
  s.on (effRegWrite p a.toNat v part times)
def execUnmappedAccess (p : Port) (a : BitVec 24) (write : Bool) (s : State) : Result := s.on (effUnmapped p a.toNat write)
def execRcReadClear (p : Port) (a : BitVec 24) (times : Fin 3) (s : State) : Result := s.on (effRegRead p a.toNat times)
def execPcieConfigRequest (s : State) : Result := s.on effConfigReq
def execPcieEarlyMemoryRequest (write : Bool) (s : State) : Result := s.on (effEarlyMem write)
def execPcieFlr (s : State) : Result := s.on Dev.hifReset
def execPcieHotReset (s : State) : Result := s.on effHotReset
def execPcieLinkDown (s : State) : Result := s.on effPcieLinkDown
def execPcieLinkUp (speed width : Fin 5) (s : State) : Result := s.on (effPcieLinkUp speed width)
def execPcieD3hotEntry (s : State) : Result := s.on effD3
def execPcieD0Return (s : State) : Result := s.on effD0
def execSpiRead (a : BitVec 24) (n : Fin 64) (inTime : Bool) (s : State) : Result := s.on (effSpiRead a.toNat n inTime)
def execSpiWrite (a : BitVec 24) (words : List Word) (fits : Nat) (s : State) : Result := s.on (effSpiWrite a.toNat words fits)
def execSpiStatus (s : State) : Result := s.on effSpiStatus
def execSpiNop (s : State) : Result := s.on effSpiStatus
def execSpiWritePerformed (s : State) : Result := s.on effSpiPerformed
def execHifIstatWrite (p : Port) (v : Word) (s : State) : Result := s.on (effIstat p v)
def execMsixUnmask (v : Fin 16) (s : State) : Result := s.on (effUnmask v)

end Sys2Proof.Machine
end

