-- ==== Sys2Proof/Machine/Irig.lean ====
section
/-! DEFINITION. IRIG-B output (chapters 00 and 19, R7, R32, R45, R65, R538). -/
namespace Sys2Proof.Machine

/-- The time-quality code a bound earns: the least whose upper limit covers it (the limits of R103); 15 without service.
No rule names the output's code: DESIGN CHOICE (log 64). -/
def Dev.irigQuality (d : Dev) (n : Nat) : Nat :=
  let b := d.bound n
  if d.fld (R.EBn_STAT n) 2 0 = 0 ∨ d.fld (R.EBn_STAT n) 2 0 = 4 then 15
  else match (List.range 12).find? (fun q => decide (1 ≤ q) && decide (b ≤ 1000 * 10 ^ (q - 1))) with
    | some q => q
    | none => 15

/-- R32, R45, R65, R538: the on-time edge and the frame of the presented second; a time base that is unset or out of
service sends none. A leap is pending from 59 s before it. -/
def effIrigOut (k : Nat) (o : IrigOut) (d : Dev) : Dev :=
  let n := o.tb.val
  if !d.isSet n || !d.sys.applied || !d.bit (R.TBn_CFG n) 4 then d
  else
    let q := d.presented n
    let (pend, del) := match (d.tbAt n).leap with
      | some l => (decide (d.count n < l.at_) && decide (l.at_ ≤ d.count n + 59 * secUnit), l.del)
      | none => (false, false)
    d.emit (.irigb k n (d.count n - q % secUnit)
      (irigElems o.code o.ext (irigTime (cSec q) (d.bit (R.TBn_STAT n) 7)) pend del (d.irigQuality n)))

/-! ### Meaning -/

def execIrigbOutFrame (k : Fin 2) (o : IrigOut) (s : State) : Result := s.on (effIrigOut k o)

end Sys2Proof.Machine
end

