-- ==== Sys2Proof/Machine/Tick.lean ====
section
/-! DEFINITION. What spans the chapters: an initial set with all that starts from it (R42, R113, R165, R174, R318, R470),
the alignment epoch (R17, R430) and the 1 ms tick (R16, R136). -/
namespace Sys2Proof.Machine

/-! ### The initial set (R42, R470) -/

/-- No sample and no trend point taken against the unset count of a time base is kept (R146, R548). -/
def Dev.forgetSamples (d : Dev) (n : Nat) : Dev :=
  let d := forRange 24 (fun r d => d.modRn r n (fun h => { h with
    inbox := [], cur := none, latest := none, last := none, points := [], tu := none, times := [] })) d
  d.setSel n { d.selAt n with fresh := none, pullDue := false, conflict := none }

/-- R113: the first anchor with M = 0 and U the setter's uncertainty, ps; none without one, and none in RC bypass
(R102). -/
def Dev.firstAnchor (d : Dev) (n : Nat) (u : Option Nat) : Dev :=
  let h := { (d.ebAt n).because 8 with tickAt := d.count 0, steerT := (d.tbAt n).steer, presT := c16 (d.presented n) }
  match u with
  | some u =>
    let h := { h with inc := some ⟨0, u, 0, 0, h.lo, h.hi⟩ }
    if d.clkSrc = 2 then d.setEb n h else d.setEb n (d.measAnchor h (-(u * 65536 : Nat)) (u * 65536 : Nat))
  | none => d.setEb n h

/-- R165, R548: the loop starts with I = 0 and c = 0 at step 0. -/
def Dev.loopStart (d : Dev) (n : Nat) : Dev := (d.setSrv n { d.srvAt n with i := 0, c := 0, restart := none }).restartAt n 0

/-- What shows and starts with the set of TB0: its bit and instant in SYS (R467, R475), the epoch keys (R318). -/
def Dev.tb0Set (d : Dev) : Dev := (((d.setBit R.SYS_STAT 4 true).stageTime 3).deriveWindow).showKeys

/-- A time base other than TB0 that follows TB0's set: unset, and not in REF17_CFG.TBMASK (R470). -/
def Dev.follows (d : Dev) (m : Nat) : Bool := !d.isSet m && !d.bit (R.REFr_CFG 17) (20 + m)

/-- TAI − UTC of REF_TAIUTC as a time difference of linear counts. -/
def Dev.taiUtcUnits (d : Dev) : Int := signed 16 (d.fld R.REF_TAIUTC 15 0) * (secUnit : Nat)

/-- A count less TAI − UTC, modulo the linear count's range. -/
def Dev.asUtc (d : Dev) (c : Nat) : Nat := (((c : Int) - d.taiUtcUnits) % (2 ^ 48 * secUnit : Nat)).toNat

/-- The target that time base m takes at TB0's set instant (R470): TB0's own for a TAI time base, less REF_TAIUTC for a
UTC one while VALID reads 1. -/
def Dev.followTarget (d : Dev) (target m : Nat) : Option Nat :=
  if m = 0 || !d.follows m then none
  else match d.fld (R.TBn_CFG m) 1 0 with
    | 0 => some target
    | 1 => if d.bit R.REF_TAIUTC 31 then some (d.asUtc target) else none
    | _ => none

/-- The set of a time base seeds the models: of the learning time base, or of TB0 with the learning time base following
it at the same instant (R174, R470). -/
def Dev.setSeeds (d : Dev) (n target : Nat) : Bool :=
  let ltb := d.fld R.SRV_CFG 2 0
  n == ltb || (n == 0 && (d.followTarget target ltb).isSome)

/-- TB0's initial set moves its count: the instants that are held as counts of it move along. -/
def Dev.shiftInstants (d : Dev) : Dev :=
  let k := (d.tbAt 0).setShift
  let mv (c : Nat) : Nat := ((c : Int) + k).toNat
  let smp (s : Sample) : Sample := { s with at_ := mv s.at_ }
  let d := forRange 8 (fun n d => (d.setEb n { d.ebAt n with
    tickAt := mv (d.ebAt n).tickAt, pubAt := mv (d.ebAt n).pubAt
    marks := (d.ebAt n).marks.map (fun m => (mv m.1, m.2)) }).setSrv n { d.srvAt n with
      lastFresh := (d.srvAt n).lastFresh.map mv }) d
  forRange 24 (fun r d => forRange 8 (fun n d => d.modRn r n (fun h => { h with
    inbox := h.inbox.map smp, cur := h.cur.map smp, latest := h.latest.map smp, last := h.last.map smp
    points := h.points.map (fun p => (p.1 + k / (nsUnit : Nat), p.2)) })) d) d

/-- One initial set: the count takes the target, and the models, the anchor, the samples, the loop and what serves from
the time base start from it. -/
def Dev.applySet (d : Dev) (n target : Nat) (u : Option Nat) (freq : Option (Int × Nat)) : Dev :=
  let seeds := d.setSeeds n target
  let d := d.takeSet n target
  let d := if n = 0 then d.shiftInstants else d
  let d := if seeds then d.seedModels (freq.map (fun f => ((f.1 : Rat) / 65536, f.2))) else d
  let d := ((d.firstAnchor n u).forgetSamples n).loopStart n
  let d := if n = d.ntpTb then d.setBit R.NTS_STAT 1 false else d
  (ptpShowAll (if n = 0 then d.tb0Set else d)).ppsShowAll

/-- R470: the set of the time bases that follow TB0. -/
def followSet (target : Nat) (u : Option Nat) (freq : Option (Int × Nat)) (m : Nat) (d : Dev) : Dev :=
  match d.followTarget target m with
  | some t => d.applySet m t u freq
  | none => d

/-- The setter's uncertainty at the instant of the set: the mate's bound as it stands, or what the setter gave when it
armed the set (R113). -/
def Dev.setterU (d : Dev) (n : Nat) : Option Nat := if (d.tbAt n).setMate then d.mateSetU n else (d.tbAt n).setU

/-- R42: the unset count reaches the armed instant. -/
def effSetApply (n : Nat) (d : Dev) : Dev :=
  match (d.tbAt n).armed with
  | none => d
  | some a =>
    if d.isSet n then d
    else
      let u := d.setterU n
      let freq := (d.tbAt n).setFreq
      let d := d.setTb n { d.tbAt n with setU := u }
      let d := d.applySet n a.target u freq
      if n = 0 then forRange 8 (followSet a.target u freq) d else d

/-- R470: a UTC time base that had no VALID offset at TB0's set takes its set at a whole second of TB0 after VALID is
set, with the uncertainty of TB0's set. -/
def lateUtcSet (m : Nat) (d : Dev) : Dev :=
  if m = 0 || !d.isSet 0 || !d.follows m || d.fld (R.TBn_CFG m) 1 0 != 1 || !d.bit R.REF_TAIUTC 31 || !d.secondTick then d
  else d.applySet m (d.asUtc (d.count 0)) (d.tbAt 0).setU (d.tbAt 0).setFreq

/-! ### The alignment epoch (R17, R430) -/

/-- A synthesizer takes the word written for this epoch (R170, R441); in RC bypass every word is held (R183). -/
def epochOsyn (k : Nat) (d : Dev) : Dev := match (d.osynAt k).next with
  | none => d
  | some w =>
    if d.clkSrc = 2 then d else
    let d := ((d.wrNat (R.OSYNk_WORD_INT k) (w / 2 ^ 48 % 2 ^ 10)).wrNat (R.OSYNk_WORD_FHI k) (w / 2 ^ 32 % 2 ^ 16)).wrNat
      (R.OSYNk_WORD_FLO k) w
    ((d.setOsyn k { d.osynAt k with next := none }).setBit (R.OSYNk_STAT k) 0 true).emit (.osynWord k w)

/-- R17, R30, R39, R40, R54: committed increments, slopes, adjustments and aborts act, arms and disarms of event pins are
taken, and the synthesizers take their words. -/
def effEpoch (d : Dev) : Dev := forRange 4 epochOsyn (forRange 32 epochEio (forRange 8 epochTb (forRange 8 ebMark d)))

/-! ### The tick (R16, R136) -/

/-- Counters of milliseconds: SYS_UPTIME, and CLK_BYPMS in either bypass. -/
def tickCounters (d : Dev) : Dev :=
  let d := d.bump R.SYS_UPTIME
  if d.clkSrc = 0 then d else d.bump R.CLK_BYPMS

/-- The model and the bounds at a tick, once the selector is done: the bounds grow to the tick first, so that a model
raised at it starts its anchors from there (R105, R107, R178, R179). -/
def tickModel (inp : TickIn) (d : Dev) : Dev :=
  let d := forRange 8 ebGrow (tickTemps inp d)
  let d := (tickSeed (tickAtom inp d)).predCorrect (d.fld R.SRV_CFG 2 0)
  forRange 8 ebIdle (forRange 8 ebOpen d.incModel)

/-- Loop updates that have not come, the selector, the predictor, the bounds and the servo, in that order (R17, R136). -/
def tickTiming (inp : TickIn) (d : Dev) : Dev :=
  let d := forRange 8 ebStamp (forRange 8 lateUtcSet ((forRange 8 tickLate d).bumpWrap R.REF_TICKS))
  stageTick (tickServo (tickModel inp (selectorTick inp (tickPairIn d))))

/-- The crypto engines' loads over the last ms, of which the spec states no rule. -/
def Dev.cryptoLoad (d : Dev) : Dev :=
  let (w, d) := d.freeWord
  d.wr R.PE_CRYPTO_LOAD (w &&& 0x3FF03FF)

/-- What else shows or acts once in a tick: burst tracking, the calibration's age, held classes, ESMC events, slots,
PTP's status and the roles' remaining time. -/
def tickShows (d : Dev) : Dev :=
  let d := forRange 8 tickEsmc (forRange 8 heldUpdate ((tickBurst d).calShow.cryptoLoad))
  tickPairOut (tickRole (ptpShowAll d.storeRecheck))

/-- R16: the tick; before the image is applied only the uptime counts. -/
def effTick (inp : TickIn) (d : Dev) : Dev :=
  let d := tickCounters d
  if d.sys.applied then tickShows (tickTiming inp d) else d

/-! ### Meanings -/

def execQualificationTick (inp : TickIn) (s : State) : Result := s.on (effTick inp)
def execAlignmentEpoch (s : State) : Result := s.on effEpoch
def execTbSetApply (n : Fin 8) (s : State) : Result := s.on (effSetApply n)

end Sys2Proof.Machine
end

