-- ==== Sys2Proof/Machine/Dispatch.lean ====
section
/-! DEFINITION. One arm per command. -/
namespace Sys2Proof.Machine

def exec (i : Instr) (s : State) : Host.Outcome State Fault Refusal :=
  match i with
  | .qualificationTick x1 => Sys2Proof.Machine.execQualificationTick x1 s
  | .refHoldoffExpire x1 => Sys2Proof.Machine.execRefHoldoffExpire x1 s
  | .refWtrExpire x1 => Sys2Proof.Machine.execRefWtrExpire x1 s
  | .trendDefectClear x1 => Sys2Proof.Machine.execTrendDefectClear x1 s
  | .refMsgTimeout x1 x2 => Sys2Proof.Machine.execRefMsgTimeout x1 x2 s
  | .servoLoopUpdate x1 x2 => Sys2Proof.Machine.execServoLoopUpdate x1 x2 s
  | .loopDeadlineMiss x1 => Sys2Proof.Machine.execLoopDeadlineMiss x1 s
  | .servoStall x1 => Sys2Proof.Machine.execServoStall x1 s
  | .tempSensorRecover x1 => Sys2Proof.Machine.execTempSensorRecover x1 s
  | .atomModelReturn => Sys2Proof.Machine.execAtomModelReturn s
  | .modelFit x1 x2 => Sys2Proof.Machine.execModelFit x1 x2 s
  | .ebLatchRead x1 x2 => Sys2Proof.Machine.execEbLatchRead x1 x2 s
  | .alignmentEpoch => Sys2Proof.Machine.execAlignmentEpoch s
  | .tbIncHiWrite x1 x2 x3 => Sys2Proof.Machine.execTbIncHiWrite x1 x2 x3 s
  | .tbIncCommit x1 x2 x3 => Sys2Proof.Machine.execTbIncCommit x1 x2 x3 s
  | .tbBincHiWrite x1 x2 x3 => Sys2Proof.Machine.execTbBincHiWrite x1 x2 x3 s
  | .tbBincCommit x1 x2 x3 => Sys2Proof.Machine.execTbBincCommit x1 x2 x3 s
  | .padjCommit x1 x2 x3 => Sys2Proof.Machine.execPadjCommit x1 x2 x3 s
  | .padjComplete x1 => Sys2Proof.Machine.execPadjComplete x1 s
  | .pslopeWrite x1 x2 x3 => Sys2Proof.Machine.execPslopeWrite x1 x2 x3 s
  | .pabort x1 x2 => Sys2Proof.Machine.execPabort x1 x2 s
  | .tbSetArm x1 x2 => Sys2Proof.Machine.execTbSetArm x1 x2 s
  | .tbSetApply x1 => Sys2Proof.Machine.execTbSetApply x1 s
  | .leapScheduleHoldWrite x1 x2 x3 x4 => Sys2Proof.Machine.execLeapScheduleHoldWrite x1 x2 x3 x4 s
  | .leapCtlCommit x1 x2 x3 => Sys2Proof.Machine.execLeapCtlCommit x1 x2 x3 s
  | .leapInsertStart x1 => Sys2Proof.Machine.execLeapInsertStart x1 s
  | .leapInsertEnd x1 => Sys2Proof.Machine.execLeapInsertEnd x1 s
  | .leapDelete x1 => Sys2Proof.Machine.execLeapDelete x1 s
  | .smearWindowStart x1 => Sys2Proof.Machine.execSmearWindowStart x1 s
  | .smearWindowEnd x1 => Sys2Proof.Machine.execSmearWindowEnd x1 s
  | .tbNowLatchRead x1 x2 => Sys2Proof.Machine.execTbNowLatchRead x1 x2 s
  | .tbSnap x1 x2 => Sys2Proof.Machine.execTbSnap x1 x2 s
  | .eioArm x1 x2 => Sys2Proof.Machine.execEioArm x1 x2 s
  | .eioDisarm x1 x2 => Sys2Proof.Machine.execEioDisarm x1 x2 s
  | .eioTriggerPosition x1 => Sys2Proof.Machine.execEioTriggerPosition x1 s
  | .eioPulseEnd x1 => Sys2Proof.Machine.execEioPulseEnd x1 s
  | .eioCfgWrite x1 x2 x3 => Sys2Proof.Machine.execEioCfgWrite x1 x2 x3 s
  | .eioScheduleWrite x1 x2 x3 x4 => Sys2Proof.Machine.execEioScheduleWrite x1 x2 x3 x4 s
  | .eioCaptureEdge x1 x2 x3 => Sys2Proof.Machine.execEioCaptureEdge x1 x2 x3 s
  | .eioFifoToRing x1 => Sys2Proof.Machine.execEioFifoToRing x1 s
  | .eioPop x1 x2 => Sys2Proof.Machine.execEioPop x1 x2 s
  | .eioStuckWrite x1 x2 x3 => Sys2Proof.Machine.execEioStuckWrite x1 x2 x3 s
  | .eioStuckTimeout x1 => Sys2Proof.Machine.execEioStuckTimeout x1 s
  | .eioStuckRelease x1 => Sys2Proof.Machine.execEioStuckRelease x1 s
  | .tsuCalStart x1 => Sys2Proof.Machine.execTsuCalStart x1 s
  | .tsuCalComplete x1 x2 => Sys2Proof.Machine.execTsuCalComplete x1 x2 s
  | .tsuLineSwap x1 x2 => Sys2Proof.Machine.execTsuLineSwap x1 x2 s
  | .tsuCalStale x1 => Sys2Proof.Machine.execTsuCalStale x1 s
  | .tsuCfgWrite x1 x2 x3 => Sys2Proof.Machine.execTsuCfgWrite x1 x2 x3 s
  | .ppsEdge x1 x2 => Sys2Proof.Machine.execPpsEdge x1 x2 s
  | .ppsPulseEnd x1 => Sys2Proof.Machine.execPpsPulseEnd x1 s
  | .ppsSettingsWrite x1 x2 x3 x4 => Sys2Proof.Machine.execPpsSettingsWrite x1 x2 x3 x4 s
  | .ppsSettingsApply x1 => Sys2Proof.Machine.execPpsSettingsApply x1 s
  | .frameRx x1 x2 x3 x4 => Sys2Proof.Machine.execFrameRx x1 x2 x3 x4 s
  | .classifyFrame => Sys2Proof.Machine.execClassifyFrame s
  | .cryptoInputJob x1 x2 => Sys2Proof.Machine.execCryptoInputJob x1 x2 s
  | .cryptoOutputJob x1 => Sys2Proof.Machine.execCryptoOutputJob x1 s
  | .egressSchedule x1 x2 => Sys2Proof.Machine.execEgressSchedule x1 x2 s
  | .egressQueueTimeout x1 => Sys2Proof.Machine.execEgressQueueTimeout x1 s
  | .frameTx x1 x2 x3 => Sys2Proof.Machine.execFrameTx x1 x2 x3 s
  | .preemptFragment x1 x2 => Sys2Proof.Machine.execPreemptFragment x1 x2 s
  | .pauseFrameRx x1 x2 => Sys2Proof.Machine.execPauseFrameRx x1 x2 s
  | .pauseTimerExpire x1 x2 => Sys2Proof.Machine.execPauseTimerExpire x1 x2 s
  | .linkUp x1 x2 x3 => Sys2Proof.Machine.execLinkUp x1 x2 x3 s
  | .linkDown x1 x2 x3 x4 x5 => Sys2Proof.Machine.execLinkDown x1 x2 x3 x4 x5 s
  | .preemptVerifyTimeout x1 => Sys2Proof.Machine.execPreemptVerifyTimeout x1 s
  | .preemptRespondRx x1 => Sys2Proof.Machine.execPreemptRespondRx x1 s
  | .verifyMpacketRx x1 => Sys2Proof.Machine.execVerifyMpacketRx x1 s
  | .esmcPduRx x1 x2 x3 => Sys2Proof.Machine.execEsmcPduRx x1 x2 x3 s
  | .esmcInfoTx x1 => Sys2Proof.Machine.execEsmcInfoTx x1 s
  | .isletCmd x1 x2 => Sys2Proof.Machine.execIsletCmd x1 x2 s
  | .isletAutoIdle x1 => Sys2Proof.Machine.execIsletAutoIdle x1 s
  | .wakeCmd x1 x2 => Sys2Proof.Machine.execWakeCmd x1 x2 s
  | .wakeFrameRx x1 x2 => Sys2Proof.Machine.execWakeFrameRx x1 x2 s
  | .macCounterLatchRead x1 x2 x3 => Sys2Proof.Machine.execMacCounterLatchRead x1 x2 x3 s
  | .ringRecordWrite x1 => Sys2Proof.Machine.execRingRecordWrite x1 s
  | .ringStagingTimeout x1 => Sys2Proof.Machine.execRingStagingTimeout x1 s
  | .ringTailWrite x1 x2 x3 => Sys2Proof.Machine.execRingTailWrite x1 x2 x3 s
  | .ringEnable x1 x2 x3 => Sys2Proof.Machine.execRingEnable x1 x2 x3 s
  | .ringDisable x1 x2 x3 => Sys2Proof.Machine.execRingDisable x1 x2 x3 s
  | .ringImodExpire x1 => Sys2Proof.Machine.execRingImodExpire x1 s
  | .htxDescriptorFetch x1 x2 => Sys2Proof.Machine.execHtxDescriptorFetch x1 x2 s
  | .htxQueueTimeout => Sys2Proof.Machine.execHtxQueueTimeout s
  | .dmaReadError x1 x2 => Sys2Proof.Machine.execDmaReadError x1 x2 s
  | .hcmdFetch x1 => Sys2Proof.Machine.execHcmdFetch x1 s
  | .cookieIssue x1 x2 => Sys2Proof.Machine.execCookieIssue x1 x2 s
  | .epochKeyDerive => Sys2Proof.Machine.execEpochKeyDerive s
  | .epochDayTurn => Sys2Proof.Machine.execEpochDayTurn s
  | .rootKeyRederive => Sys2Proof.Machine.execRootKeyRederive s
  | .rlWindowSwap => Sys2Proof.Machine.execRlWindowSwap s
  | .clientStatsRecord => Sys2Proof.Machine.execClientStatsRecord s
  | .ntsCounterLatchRead x1 x2 => Sys2Proof.Machine.execNtsCounterLatchRead x1 x2 s
  | .ptpAnnounceTx x1 x2 => Sys2Proof.Machine.execPtpAnnounceTx x1 x2 s
  | .bmcaRun x1 => Sys2Proof.Machine.execBmcaRun x1 s
  | .ptpSyncTx x1 x2 => Sys2Proof.Machine.execPtpSyncTx x1 x2 s
  | .ptpFollowupTx x1 => Sys2Proof.Machine.execPtpFollowupTx x1 s
  | .ptpDelayReqTx x1 x2 => Sys2Proof.Machine.execPtpDelayReqTx x1 x2 s
  | .ptpPdelayReqTx x1 x2 => Sys2Proof.Machine.execPtpPdelayReqTx x1 x2 s
  | .ptpAnnounceRx => Sys2Proof.Machine.execPtpAnnounceRx s
  | .ptpSyncRx => Sys2Proof.Machine.execPtpSyncRx s
  | .ptpFollowupRx => Sys2Proof.Machine.execPtpFollowupRx s
  | .ptpDelayReqRx => Sys2Proof.Machine.execPtpDelayReqRx s
  | .ptpDelayRespRx => Sys2Proof.Machine.execPtpDelayRespRx s
  | .ptpPdelayReqRx => Sys2Proof.Machine.execPtpPdelayReqRx s
  | .ptpPdelayRespRx => Sys2Proof.Machine.execPtpPdelayRespRx s
  | .ptpPdelayRespFupRx => Sys2Proof.Machine.execPtpPdelayRespFupRx s
  | .announceReceiptTimeout x1 x2 => Sys2Proof.Machine.execAnnounceReceiptTimeout x1 x2 s
  | .preMasterTimeout x1 x2 => Sys2Proof.Machine.execPreMasterTimeout x1 x2 s
  | .syncFollowupTimeout x1 => Sys2Proof.Machine.execSyncFollowupTimeout x1 s
  | .unicastRequestRx => Sys2Proof.Machine.execUnicastRequestRx s
  | .unicastCancelRx => Sys2Proof.Machine.execUnicastCancelRx s
  | .unicastAckCancelRx => Sys2Proof.Machine.execUnicastAckCancelRx s
  | .unicastGrantRx => Sys2Proof.Machine.execUnicastGrantRx s
  | .unicastGrantEnd x1 => Sys2Proof.Machine.execUnicastGrantEnd x1 s
  | .sessionCancelCmd x1 x2 => Sys2Proof.Machine.execSessionCancelCmd x1 x2 s
  | .sessionCancelResend x1 => Sys2Proof.Machine.execSessionCancelResend x1 s
  | .unicastRenew x1 => Sys2Proof.Machine.execUnicastRenew x1 s
  | .unicastRequestRetry x1 x2 => Sys2Proof.Machine.execUnicastRequestRetry x1 x2 s
  | .ptpTxsaWrite x1 x2 x3 => Sys2Proof.Machine.execPtpTxsaWrite x1 x2 x3 s
  | .ptpOfsLatchRead x1 x2 => Sys2Proof.Machine.execPtpOfsLatchRead x1 x2 s
  | .wkrLoad => Sys2Proof.Machine.execWkrLoad s
  | .wkrDerive => Sys2Proof.Machine.execWkrDerive s
  | .wrap x1 => Sys2Proof.Machine.execWrap x1 s
  | .encrypt x1 => Sys2Proof.Machine.execEncrypt x1 s
  | .decrypt x1 => Sys2Proof.Machine.execDecrypt x1 s
  | .wkrClear => Sys2Proof.Machine.execWkrClear s
  | .apgor x1 => Sys2Proof.Machine.execApgor x1 s
  | .apgorStoreDone => Sys2Proof.Machine.execApgorStoreDone s
  | .ksChallenge x1 => Sys2Proof.Machine.execKsChallenge x1 s
  | .ksUnlock x1 => Sys2Proof.Machine.execKsUnlock x1 s
  | .ksLock x1 => Sys2Proof.Machine.execKsLock x1 s
  | .custodianExpire x1 => Sys2Proof.Machine.execCustodianExpire x1 s
  | .challengeExpire x1 => Sys2Proof.Machine.execChallengeExpire x1 s
  | .unlockLockoutEnd x1 => Sys2Proof.Machine.execUnlockLockoutEnd x1 s
  | .ksCtrLatchRead x1 => Sys2Proof.Machine.execKsCtrLatchRead x1 s
  | .straitHeartbeatTx => Sys2Proof.Machine.execStraitHeartbeatTx s
  | .straitHeartbeatRx x1 x2 x3 => Sys2Proof.Machine.execStraitHeartbeatRx x1 x2 x3 s
  | .stateFrameTx => Sys2Proof.Machine.execStateFrameTx s
  | .sessionFrameTx x1 => Sys2Proof.Machine.execSessionFrameTx x1 s
  | .stateFrameRx x1 x2 x3 => Sys2Proof.Machine.execStateFrameRx x1 x2 x3 s
  | .sessionFrameRx x1 x2 x3 => Sys2Proof.Machine.execSessionFrameRx x1 x2 x3 s
  | .setFrameTx => Sys2Proof.Machine.execSetFrameTx s
  | .setFrameRx x1 x2 x3 x4 x5 => Sys2Proof.Machine.execSetFrameRx x1 x2 x3 x4 x5 s
  | .cwFaultPattern => Sys2Proof.Machine.execCwFaultPattern s
  | .cwNormalPattern => Sys2Proof.Machine.execCwNormalPattern s
  | .cwSilence => Sys2Proof.Machine.execCwSilence s
  | .straitSilence => Sys2Proof.Machine.execStraitSilence s
  | .ownLatchRefresh => Sys2Proof.Machine.execOwnLatchRefresh s
  | .ownLatchExpire => Sys2Proof.Machine.execOwnLatchExpire s
  | .ownSenseAssert => Sys2Proof.Machine.execOwnSenseAssert s
  | .ownSenseDeassert => Sys2Proof.Machine.execOwnSenseDeassert s
  | .overridePulsesSeen => Sys2Proof.Machine.execOverridePulsesSeen s
  | .overrideGiveUp => Sys2Proof.Machine.execOverrideGiveUp s
  | .ownChangeDeferred => Sys2Proof.Machine.execOwnChangeDeferred s
  | .pairListenEnd => Sys2Proof.Machine.execPairListenEnd s
  | .isolatedClaim => Sys2Proof.Machine.execIsolatedClaim s
  | .handoverCancel => Sys2Proof.Machine.execHandoverCancel s
  | .handoverShadowLoad => Sys2Proof.Machine.execHandoverShadowLoad s
  | .handoverLatchSet => Sys2Proof.Machine.execHandoverLatchSet s
  | .handoverLatchClear => Sys2Proof.Machine.execHandoverLatchClear s
  | .pairHandoverCmd x1 => Sys2Proof.Machine.execPairHandoverCmd x1 s
  | .pairTakeCmd x1 => Sys2Proof.Machine.execPairTakeCmd x1 s
  | .kcvMismatch => Sys2Proof.Machine.execKcvMismatch s
  | .kcvMismatchClear => Sys2Proof.Machine.execKcvMismatchClear s
  | .pairMofsLatchRead x1 => Sys2Proof.Machine.execPairMofsLatchRead x1 s
  | .xoEdgeDefect x1 => Sys2Proof.Machine.execXoEdgeDefect x1 s
  | .xoFreqMeasure x1 x2 => Sys2Proof.Machine.execXoFreqMeasure x1 x2 s
  | .xoQualified x1 => Sys2Proof.Machine.execXoQualified x1 s
  | .bandTryTimeout => Sys2Proof.Machine.execBandTryTimeout s
  | .pllLocked => Sys2Proof.Machine.execPllLocked s
  | .pllRetryTimer => Sys2Proof.Machine.execPllRetryTimer s
  | .clkRetry x1 => Sys2Proof.Machine.execClkRetry x1 s
  | .pllLossOfLock x1 => Sys2Proof.Machine.execPllLossOfLock x1 s
  | .relockHoldComplete => Sys2Proof.Machine.execRelockHoldComplete s
  | .clkBandWrite x1 x2 x3 => Sys2Proof.Machine.execClkBandWrite x1 x2 x3 s
  | .bandSurvey x1 => Sys2Proof.Machine.execBandSurvey x1 s
  | .reducedByTimeout => Sys2Proof.Machine.execReducedByTimeout s
  | .gateQuiesceRequest x1 => Sys2Proof.Machine.execGateQuiesceRequest x1 s
  | .gateClose x1 => Sys2Proof.Machine.execGateClose x1 s
  | .gateDefer x1 => Sys2Proof.Machine.execGateDefer x1 s
  | .gateOpen x1 => Sys2Proof.Machine.execGateOpen x1 s
  | .syncInEdge x1 => Sys2Proof.Machine.execSyncInEdge x1 s
  | .alignCorrection x1 x2 => Sys2Proof.Machine.execAlignCorrection x1 x2 s
  | .osynWordLatchRead x1 x2 => Sys2Proof.Machine.execOsynWordLatchRead x1 x2 s
  | .feStartSequence => Sys2Proof.Machine.execFeStartSequence s
  | .feSpiGo x1 x2 => Sys2Proof.Machine.execFeSpiGo x1 x2 s
  | .feSpiDone x1 => Sys2Proof.Machine.execFeSpiDone x1 s
  | .agcUpdate x1 x2 x3 => Sys2Proof.Machine.execAgcUpdate x1 x2 x3 s
  | .jamSet x1 => Sys2Proof.Machine.execJamSet x1 s
  | .jamClear x1 => Sys2Proof.Machine.execJamClear x1 s
  | .ferrySlip x1 => Sys2Proof.Machine.execFerrySlip x1 s
  | .strobeLoss x1 => Sys2Proof.Machine.execStrobeLoss x1 s
  | .streamDisqEnd x1 => Sys2Proof.Machine.execStreamDisqEnd x1 s
  | .correlatorDump x1 x2 => Sys2Proof.Machine.execCorrelatorDump x1 x2 s
  | .dumpProcess x1 x2 => Sys2Proof.Machine.execDumpProcess x1 x2 s
  | .dumpMiss x1 => Sys2Proof.Machine.execDumpMiss x1 s
  | .gnssFwStall => Sys2Proof.Machine.execGnssFwStall s
  | .pullinTimeout x1 => Sys2Proof.Machine.execPullinTimeout x1 s
  | .trackLoss x1 => Sys2Proof.Machine.execTrackLoss x1 s
  | .lostTimeout x1 => Sys2Proof.Machine.execLostTimeout x1 s
  | .measLatch x1 => Sys2Proof.Machine.execMeasLatch x1 s
  | .gchMeasLatchRead x1 x2 => Sys2Proof.Machine.execGchMeasLatchRead x1 x2 s
  | .gchCorrLatchRead x1 x2 => Sys2Proof.Machine.execGchCorrLatchRead x1 x2 s
  | .channelHandover x1 x2 x3 => Sys2Proof.Machine.execChannelHandover x1 x2 x3 s
  | .gnssExclWrite x1 x2 x3 => Sys2Proof.Machine.execGnssExclWrite x1 x2 x3 s
  | .navUnitDecoded x1 x2 => Sys2Proof.Machine.execNavUnitDecoded x1 x2 s
  | .navRdWrite x1 x2 => Sys2Proof.Machine.execNavRdWrite x1 x2 s
  | .acqSnapshotSearch x1 x2 x3 x4 x5 x6 => Sys2Proof.Machine.execAcqSnapshotSearch x1 x2 x3 x4 x5 x6 s
  | .acqDetectionVerify x1 x2 x3 => Sys2Proof.Machine.execAcqDetectionVerify x1 x2 x3 s
  | .acqSweepTimer => Sys2Proof.Machine.execAcqSweepTimer s
  | .acqSweepCmd x1 x2 => Sys2Proof.Machine.execAcqSweepCmd x1 x2 s
  | .aidedSearchStart x1 x2 x3 x4 x5 x6 x7 x8 x9 => Sys2Proof.Machine.execAidedSearchStart x1 x2 x3 x4 x5 x6 x7 x8 x9 s
  | .aidedSearchExhausted x1 => Sys2Proof.Machine.execAidedSearchExhausted x1 s
  | .aidedSearchRetry x1 => Sys2Proof.Machine.execAidedSearchRetry x1 s
  | .burstOnSequence => Sys2Proof.Machine.execBurstOnSequence s
  | .burstWindowOpen => Sys2Proof.Machine.execBurstWindowOpen s
  | .burstMissCheck => Sys2Proof.Machine.execBurstMissCheck s
  | .burstWindowClose x1 => Sys2Proof.Machine.execBurstWindowClose x1 s
  | .burstFullInterval => Sys2Proof.Machine.execBurstFullInterval s
  | .gnssSolutionEpoch x1 x2 => Sys2Proof.Machine.execGnssSolutionEpoch x1 x2 s
  | .integrityEpoch x1 x2 => Sys2Proof.Machine.execIntegrityEpoch x1 x2 s
  | .gnssResurvey x1 x2 => Sys2Proof.Machine.execGnssResurvey x1 x2 s
  | .gnssSolLatchRead x1 x2 => Sys2Proof.Machine.execGnssSolLatchRead x1 x2 s
  | .refPpsEdge x1 x2 => Sys2Proof.Machine.execRefPpsEdge x1 x2 s
  | .irigbFrameRx x1 x2 x3 => Sys2Proof.Machine.execIrigbFrameRx x1 x2 x3 s
  | .atomPoll => Sys2Proof.Machine.execAtomPoll s
  | .atomReplyRx x1 => Sys2Proof.Machine.execAtomReplyRx x1 s
  | .atomReplyTimeout => Sys2Proof.Machine.execAtomReplyTimeout s
  | .atomListenSilence => Sys2Proof.Machine.execAtomListenSilence s
  | .refLockoutWrite x1 x2 => Sys2Proof.Machine.execRefLockoutWrite x1 x2 s
  | .refForceWrite x1 x2 x3 => Sys2Proof.Machine.execRefForceWrite x1 x2 x3 s
  | .refAcceptWrite x1 x2 x3 => Sys2Proof.Machine.execRefAcceptWrite x1 x2 x3 s
  | .refSteerLatchRead x1 x2 => Sys2Proof.Machine.execRefSteerLatchRead x1 x2 s
  | .srvLoopOpen x1 x2 x3 => Sys2Proof.Machine.execSrvLoopOpen x1 x2 x3 s
  | .srvOpenEffect x1 => Sys2Proof.Machine.execSrvOpenEffect x1 s
  | .srvLoopClose x1 x2 x3 => Sys2Proof.Machine.execSrvLoopClose x1 x2 x3 s
  | .srvHostWatchdog x1 => Sys2Proof.Machine.execSrvHostWatchdog x1 s
  | .srvErrLatchRead x1 x2 => Sys2Proof.Machine.execSrvErrLatchRead x1 x2 s
  | .srvModelLatchRead x1 x2 => Sys2Proof.Machine.execSrvModelLatchRead x1 x2 s
  | .powerOnReset => Sys2Proof.Machine.execPowerOnReset s
  | .resetNLow => Sys2Proof.Machine.execResetNLow s
  | .sysRestart x1 => Sys2Proof.Machine.execSysRestart x1 s
  | .supplyMonitorReset => Sys2Proof.Machine.execSupplyMonitorReset s
  | .resetNRise x1 => Sys2Proof.Machine.execResetNRise x1 s
  | .imageApply x1 => Sys2Proof.Machine.execImageApply x1 s
  | .flErase x1 => Sys2Proof.Machine.execFlErase x1 s
  | .flProgram x1 => Sys2Proof.Machine.execFlProgram x1 s
  | .flRead x1 => Sys2Proof.Machine.execFlRead x1 s
  | .flCheck x1 => Sys2Proof.Machine.execFlCheck x1 s
  | .flActivate x1 => Sys2Proof.Machine.execFlActivate x1 s
  | .flOpComplete x1 => Sys2Proof.Machine.execFlOpComplete x1 s
  | .faultOccurrence x1 x2 x3 => Sys2Proof.Machine.execFaultOccurrence x1 x2 x3 s
  | .blockResetComplete x1 x2 => Sys2Proof.Machine.execBlockResetComplete x1 x2 s
  | .chipReset => Sys2Proof.Machine.execChipReset s
  | .fltWatchdog => Sys2Proof.Machine.execFltWatchdog s
  | .fltPendClear x1 x2 x3 => Sys2Proof.Machine.execFltPendClear x1 x2 x3 s
  | .faultInject x1 x2 => Sys2Proof.Machine.execFaultInject x1 x2 s
  | .fltInfoLatchRead x1 x2 => Sys2Proof.Machine.execFltInfoLatchRead x1 x2 s
  | .katRun x1 x2 => Sys2Proof.Machine.execKatRun x1 x2 s
  | .pfwAssert => Sys2Proof.Machine.execPfwAssert s
  | .pfwRestart => Sys2Proof.Machine.execPfwRestart s
  | .recBackgroundFlush => Sys2Proof.Machine.execRecBackgroundFlush s
  | .recFlushDone x1 => Sys2Proof.Machine.execRecFlushDone x1 s
  | .recSegmentErase => Sys2Proof.Machine.execRecSegmentErase s
  | .recFreeze x1 => Sys2Proof.Machine.execRecFreeze x1 s
  | .recUnfreeze x1 => Sys2Proof.Machine.execRecUnfreeze x1 s
  | .recFreezeExpire => Sys2Proof.Machine.execRecFreezeExpire s
  | .recMark x1 => Sys2Proof.Machine.execRecMark x1 s
  | .recWinLoad x1 => Sys2Proof.Machine.execRecWinLoad x1 s
  | .recWinLoadDone x1 => Sys2Proof.Machine.execRecWinLoadDone x1 s
  | .pmcStart x1 => Sys2Proof.Machine.execPmcStart x1 s
  | .pmcStop x1 => Sys2Proof.Machine.execPmcStop x1 s
  | .pmcSnap x1 => Sys2Proof.Machine.execPmcSnap x1 s
  | .pmcClear x1 => Sys2Proof.Machine.execPmcClear x1 s
  | .pmcSample x1 => Sys2Proof.Machine.execPmcSample x1 s
  | .pmcSampReset x1 => Sys2Proof.Machine.execPmcSampReset x1 s
  | .pmcLatchRead x1 x2 => Sys2Proof.Machine.execPmcLatchRead x1 x2 s
  | .registerWrite x1 x2 x3 x4 x5 => Sys2Proof.Machine.execRegisterWrite x1 x2 x3 x4 x5 s
  | .unmappedAccess x1 x2 x3 => Sys2Proof.Machine.execUnmappedAccess x1 x2 x3 s
  | .pcieConfigRequest => Sys2Proof.Machine.execPcieConfigRequest s
  | .pcieEarlyMemoryRequest x1 => Sys2Proof.Machine.execPcieEarlyMemoryRequest x1 s
  | .pcieFlr => Sys2Proof.Machine.execPcieFlr s
  | .pcieHotReset => Sys2Proof.Machine.execPcieHotReset s
  | .pcieLinkDown => Sys2Proof.Machine.execPcieLinkDown s
  | .pcieD3hotEntry => Sys2Proof.Machine.execPcieD3hotEntry s
  | .pcieD0Return => Sys2Proof.Machine.execPcieD0Return s
  | .spiRead x1 x2 x3 => Sys2Proof.Machine.execSpiRead x1 x2 x3 s
  | .spiWrite x1 x2 x3 => Sys2Proof.Machine.execSpiWrite x1 x2 x3 s
  | .spiStatus => Sys2Proof.Machine.execSpiStatus s
  | .spiNop => Sys2Proof.Machine.execSpiNop s
  | .hifIstatWrite x1 x2 => Sys2Proof.Machine.execHifIstatWrite x1 x2 s
  | .msixUnmask x1 => Sys2Proof.Machine.execMsixUnmask x1 s
  | .pfwDeassert => Sys2Proof.Machine.execPfwDeassert s
  | .pfwBlockStop => Sys2Proof.Machine.execPfwBlockStop s
  | .xoEdgesResume => Sys2Proof.Machine.execXoEdgesResume s
  | .rcOscillatorStop => Sys2Proof.Machine.execRcOscillatorStop s
  | .osynRelock x1 => Sys2Proof.Machine.execOsynRelock x1 s
  | .strobeReturn x1 => Sys2Proof.Machine.execStrobeReturn x1 s
  | .straitBlockLockGain x1 => Sys2Proof.Machine.execStraitBlockLockGain x1 s
  | .straitBlockLockLoss x1 => Sys2Proof.Machine.execStraitBlockLockLoss x1 s
  | .aidedSearchFound x1 x2 => Sys2Proof.Machine.execAidedSearchFound x1 x2 s
  | .feSequenceDone x1 => Sys2Proof.Machine.execFeSequenceDone x1 s
  | .irigbOutFrame x1 x2 => Sys2Proof.Machine.execIrigbOutFrame x1 x2 s
  | .ptpPdelayRespFupTx x1 => Sys2Proof.Machine.execPtpPdelayRespFupTx x1 s
  | .keyDerivationDone => Sys2Proof.Machine.execKeyDerivationDone s
  | .apgorSlotStored => Sys2Proof.Machine.execApgorSlotStored s
  | .recSegmentEraseDone => Sys2Proof.Machine.execRecSegmentEraseDone s
  | .spiWritePerformed => Sys2Proof.Machine.execSpiWritePerformed s
  | .rcReadClear x1 x2 x3 => Sys2Proof.Machine.execRcReadClear x1 x2 x3 s
  | .pcieLinkUp x1 x2 => Sys2Proof.Machine.execPcieLinkUp x1 x2 s
  | .sramCorrectedError x1 => Sys2Proof.Machine.execSramCorrectedError x1 s
  | .pmcCounterWrap x1 => Sys2Proof.Machine.execPmcCounterWrap x1 s
  | .supplyMonitorRelease => Sys2Proof.Machine.execSupplyMonitorRelease s

end Sys2Proof.Machine
end

