-- ==== Sys2Proof/Machine/Step.lean ====
section
/-! DEFINITION. One step: take the command at the front of the queue; on an empty queue one TIME clock passes. -/
namespace Sys2Proof.Machine

/-- Take the command at the front of the queue and run it with the queue's rest; on an empty queue the device's TIME
clock ticks once and every linear count advances (R30). DESIGN CHOICE (log 6). -/
def step (s : State) : Host.Outcome State Fault Refusal :=
  match s.pending with
  | [] => .next { s with dev := timeClock s.dev }
  | c :: rest => exec c { s with pending := rest }

/-- The state with the command that a word spells at the front of its queue; no row of the table gives bits, so no word
spells one and the state stays. -/
def State.withFetchWord (s : State) (nbits w : Nat) : State :=
  match decodeTableWord nbits w with
  | some c => { s with pending := c :: s.pending }
  | none => s

end Sys2Proof.Machine
end

