-- ==== Sys2Proof/Safety.lean ====
section
/-! DEFINITION. What counts as a safe run, and the terms claims use: the canonical form of the register store, the
completion of a command, and what a command leaves unchanged. -/
namespace Sys2Proof.Machine

/-- The register store is in its canonical form: addresses strictly rising, no entry at its reset value. -/
def Dev.regsWf (d : Dev) : Prop := Map.wf d.regs resetWord

/-- A command completes: exec answers a next state, the queue is left alone, and the device after it is as stated. -/
def Completes (c : Instr) (s : State) (post : Dev → Prop) : Prop :=
  ∃ t, exec c s = .next t ∧ t.pending = s.pending ∧ post t.dev

/-- The parts of the device: its registers, and what no register holds. -/
inductive Part where
  | regs
  | latch
  | fresh
  | out
  | tb
  | eio
  | recd
  | flt
  | hif
  | rings
  | pe
  | egress
  | lines
  | pps
  | txq
  | eb
  | refs
  | rn
  | sel
  | atom
  | srv
  | models
  | srvg
  | ch
  | gnss
  | sols
  | ports
  | nts
  | ptpp
  | ptpi
  | ptpx
  | ptpg
  | ks
  | pair
  | osyn
  | clkOut
  | clk
  | sys
  | flash
deriving DecidableEq, Repr

/-- Two states of the device agree on a part. -/
def Dev.Agrees (d e : Dev) : Part → Prop
  | .regs => e.regs = d.regs
  | .latch => e.latch = d.latch
  | .fresh => e.fresh = d.fresh
  | .out => e.out = d.out
  | .tb => e.tb = d.tb
  | .eio => e.eio = d.eio
  | .recd => e.recd = d.recd
  | .flt => e.flt = d.flt
  | .hif => e.hif = d.hif
  | .rings => e.rings = d.rings
  | .pe => e.pe = d.pe
  | .egress => e.egress = d.egress
  | .lines => e.lines = d.lines
  | .pps => e.pps = d.pps
  | .txq => e.txq = d.txq
  | .eb => e.eb = d.eb
  | .refs => e.refs = d.refs
  | .rn => e.rn = d.rn
  | .sel => e.sel = d.sel
  | .atom => e.atom = d.atom
  | .srv => e.srv = d.srv
  | .models => e.models = d.models
  | .srvg => e.srvg = d.srvg
  | .ch => e.ch = d.ch
  | .gnss => e.gnss = d.gnss
  | .sols => e.sols = d.sols
  | .ports => e.ports = d.ports
  | .nts => e.nts = d.nts
  | .ptpp => e.ptpp = d.ptpp
  | .ptpi => e.ptpi = d.ptpi
  | .ptpx => e.ptpx = d.ptpx
  | .ptpg => e.ptpg = d.ptpg
  | .ks => e.ks = d.ks
  | .pair => e.pair = d.pair
  | .osyn => e.osyn = d.osyn
  | .clkOut => e.clkOut = d.clkOut
  | .clk => e.clk = d.clk
  | .sys => e.sys = d.sys
  | .flash => e.flash = d.flash

/-- Between two states of the device, only these parts may differ. -/
def Dev.Keeps (d : Dev) (parts : List Part) (e : Dev) : Prop := ∀ k, k ∉ parts → d.Agrees e k

/-- The parts that the occurrence of a fault source and its reaction may change. -/
def faultParts : List Part :=
  [.regs, .fresh, .out, .eio, .recd, .flt, .hif, .rings, .pps, .nts, .ks, .pair, .clkOut, .clk, .sys, .flash]

/-- The parts of the device that a command may change. -/
def touches : Instr → List Part
  | .gateQuiesceRequest .. => [.clk]
  | .pcieD0Return .. => [.hif]
  | .challengeExpire .. | .unlockLockoutEnd .. => [.ks]
  | .tsuCalStart .. | .tsuLineSwap .. => [.lines]
  | .epochKeyDerive .. | .rlWindowSwap .. => [.nts]
  | .verifyMpacketRx .. | .pcieConfigRequest .. | .pcieEarlyMemoryRequest .. | .irigbOutFrame .. => [.out]
  | .ownLatchRefresh .. | .straitBlockLockGain .. => [.pair]
  | .refMsgTimeout .. | .atomListenSilence .. => [.refs]
  | .tbIncHiWrite .. | .tbBincHiWrite .. | .pslopeWrite .. | .leapScheduleHoldWrite .. | .leapInsertStart .. |
    .smearWindowStart .. | .tbSnap .. | .eioScheduleWrite .. | .tsuCfgWrite .. | .preemptRespondRx .. |
    .ringTailWrite .. | .clkBandWrite .. | .aidedSearchStart .. | .aidedSearchRetry .. | .refLockoutWrite .. |
    .recSegmentErase .. | .pmcStart .. | .pmcStop .. | .pmcSnap .. | .pmcClear .. | .pmcSampReset .. |
    .hifIstatWrite .. | .pcieLinkUp .. | .pmcCounterWrap .. => [.regs]
  | .integrityEpoch .. => [.gnss, .sols]
  | .ebLatchRead .. | .tbNowLatchRead .. | .macCounterLatchRead .. | .ntsCounterLatchRead .. | .ptpOfsLatchRead .. |
    .ksCtrLatchRead .. | .pairMofsLatchRead .. | .osynWordLatchRead .. | .gchMeasLatchRead .. | .gchCorrLatchRead ..
    | .gnssSolLatchRead .. | .srvErrLatchRead .. | .srvModelLatchRead .. | .fltInfoLatchRead .. | .pmcLatchRead ..
    => [.latch, .out]
  | .atomPoll .. => [.out, .atom]
  | .burstOnSequence .. => [.out, .gnss]
  | .msixUnmask .. => [.out, .hif]
  | .stateFrameTx .. | .sessionFrameTx .. | .setFrameTx .. => [.out, .pair]
  | .atomReplyTimeout .. => [.refs, .atom]
  | .streamDisqEnd .. | .dumpProcess .. | .pullinTimeout .. | .trackLoss .. | .lostTimeout .. | .channelHandover ..
    | .gnssExclWrite .. | .burstMissCheck .. | .aidedSearchFound .. => [.regs, .ch]
  | .bandSurvey .. | .gateClose .. | .gateDefer .. | .gateOpen .. => [.regs, .clk]
  | .eioArm .. | .eioDisarm .. | .eioCaptureEdge .. | .eioPop .. | .eioStuckWrite .. => [.regs, .eio]
  | .navRdWrite .. | .acqSnapshotSearch .. | .acqSweepTimer .. | .acqSweepCmd .. | .aidedSearchExhausted .. |
    .gnssResurvey .. | .strobeReturn .. => [.regs, .gnss]
  | .ksUnlock .. | .ksLock .. => [.regs, .ks]
  | .tsuCalStale .. => [.regs, .lines]
  | .epochDayTurn .. | .rootKeyRederive .. => [.regs, .nts]
  | .fltPendClear .. => [.regs, .out]
  | .sessionFrameRx .. | .handoverCancel .. | .pairHandoverCmd .. | .pairTakeCmd .. | .straitBlockLockLoss .. =>
    [.regs, .pair]
  | .cryptoInputJob .. => [.regs, .pe]
  | .pauseFrameRx .. | .pauseTimerExpire .. => [.regs, .ports]
  | .ppsSettingsWrite .. => [.regs, .pps]
  | .syncFollowupTimeout .. => [.regs, .ptpi]
  | .isletCmd .. | .isletAutoIdle .. | .preMasterTimeout .. | .ptpTxsaWrite .. => [.regs, .ptpp]
  | .unicastGrantEnd .. | .handoverShadowLoad .. => [.regs, .ptpx]
  | .recFreeze .. | .recUnfreeze .. | .recFreezeExpire .. | .recWinLoad .. | .recWinLoadDone .. => [.regs, .recd]
  | .esmcPduRx .. => [.regs, .refs]
  | .ringStagingTimeout .. | .ringEnable .. | .pmcSample .. => [.regs, .rings]
  | .refForceWrite .. | .refAcceptWrite .. => [.regs, .sel]
  | .srvLoopOpen .. | .srvLoopClose .. => [.regs, .srv]
  | .flErase .. | .flProgram .. | .flRead .. | .flCheck .. | .flActivate .. => [.regs, .sys]
  | .tbIncCommit .. | .tbBincCommit .. | .padjCommit .. | .padjComplete .. | .pabort .. | .tbSetArm .. |
    .leapCtlCommit .. | .leapInsertEnd .. | .leapDelete .. | .smearWindowEnd .. => [.regs, .tb]
  | .rcOscillatorStop .. => [.out, .flt, .clk]
  | .correlatorDump .. | .dumpMiss .. | .acqDetectionVerify .. | .burstWindowOpen .. | .burstFullInterval .. =>
    [.regs, .ch, .gnss]
  | .atomModelReturn .. => [.regs, .eb, .srvg]
  | .eioFifoToRing .. => [.regs, .eio, .rings]
  | .measLatch .. => [.regs, .fresh, .ch]
  | .ksChallenge .. => [.regs, .fresh, .ks]
  | .esmcInfoTx .. => [.regs, .fresh, .pe]
  | .refSteerLatchRead .. => [.regs, .latch, .out]
  | .syncInEdge .. => [.regs, .out, .clk]
  | .alignCorrection .. => [.regs, .out, .clkOut]
  | .eioTriggerPosition .. | .eioPulseEnd .. | .eioCfgWrite .. => [.regs, .out, .eio]
  | .feStartSequence .. | .feSpiGo .. | .feSpiDone .. | .agcUpdate .. => [.regs, .out, .gnss]
  | .spiWrite .. | .spiStatus .. | .spiNop .. => [.regs, .out, .hif]
  | .straitHeartbeatTx .. => [.regs, .out, .pair]
  | .preemptFragment .. | .preemptVerifyTimeout .. => [.regs, .out, .ports]
  | .ppsEdge .. | .ppsPulseEnd .. | .ppsSettingsApply .. => [.regs, .out, .pps]
  | .egressQueueTimeout .. => [.regs, .pe, .egress]
  | .ptpDelayRespRx .. => [.regs, .pe, .ptpp]
  | .unicastAckCancelRx .. | .unicastGrantRx .. => [.regs, .pe, .ptpx]
  | .recSegmentEraseDone .. => [.regs, .recd, .flash]
  | .eioStuckRelease .. | .kcvMismatchClear .. => [.regs, .recd, .rings]
  | .stateFrameRx .. => [.regs, .refs, .pair]
  | .refPpsEdge .. | .irigbFrameRx .. => [.regs, .refs, .rn]
  | .clientStatsRecord .. => [.regs, .rings, .nts]
  | .ringDisable .. | .wrap .. | .encrypt .. | .decrypt .. => [.regs, .rings, .pe]
  | .setFrameRx .. => [.regs, .tb, .pair]
  | .srvOpenEffect .. => [.regs, .tb, .srv]
  | .pfwRestart .. => [.regs, .flt, .ch, .gnss]
  | .ptpPdelayReqRx .. => [.regs, .fresh, .pe, .ptpg]
  | .ptpDelayReqTx .. | .ptpPdelayReqTx .. | .ptpPdelayRespRx .. | .ptpPdelayRespFupRx .. => [.regs, .fresh, .pe,
    .ptpp]
  | .ptpDelayReqRx .. => [.regs, .fresh, .pe, .ptpx]
  | .atomReplyRx .. => [.regs, .fresh, .refs, .atom]
  | .rcReadClear .. => [.regs, .latch, .fresh, .out]
  | .burstWindowClose .. => [.regs, .out, .ch, .gnss]
  | .custodianExpire .. => [.regs, .out, .hif, .ks]
  | .ownSenseDeassert .. => [.regs, .out, .hif, .pair]
  | .ringImodExpire .. => [.regs, .out, .hif, .rings]
  | .linkUp .. | .linkDown .. => [.regs, .out, .ports, .ptpp]
  | .egressSchedule .. => [.regs, .pe, .egress, .ports]
  | .ptpAnnounceRx .. => [.regs, .pe, .refs, .ptpp]
  | .pllLocked .. => [.regs, .recd, .rings, .clk]
  | .jamClear .. => [.regs, .recd, .rings, .gnss]
  | .navUnitDecoded .. => [.regs, .rings, .ch, .gnss]
  | .apgorStoreDone .. => [.regs, .rings, .ks, .flash]
  | .wkrLoad .. | .wkrDerive .. | .wkrClear .. => [.regs, .rings, .pe, .ks]
  | .pfwBlockStop .. => [.regs, .flt, .ports, .ptpp, .pair]
  | .modelFit .. => [.regs, .fresh, .eb, .models, .srvg]
  | .ringRecordWrite .. => [.regs, .fresh, .out, .hif, .rings]
  | .cryptoOutputJob .. => [.regs, .fresh, .pe, .egress, .nts]
  | .ptpAnnounceTx .. | .unicastRequestRx .. | .unicastCancelRx .. | .sessionCancelCmd .. | .sessionCancelResend ..
    | .unicastRenew .. | .unicastRequestRetry .. => [.regs, .fresh, .pe, .ptpp, .ptpx]
  | .ptpFollowupTx .. | .ptpPdelayRespFupTx .. => [.regs, .fresh, .pe, .txq, .ptpg]
  | .pcieFlr .. | .pcieHotReset .. | .pcieD3hotEntry .. => [.regs, .hif, .rings, .pe, .ks]
  | .spiRead .. => [.regs, .latch, .fresh, .out, .hif]
  | .ownLatchExpire .. => [.regs, .out, .eio, .pps, .clkOut]
  | .htxQueueTimeout .. | .hcmdFetch .. => [.regs, .out, .hif, .rings, .pe]
  | .osynRelock .. => [.regs, .out, .recd, .rings, .clkOut]
  | .cookieIssue .. => [.regs, .out, .rings, .pe, .nts]
  | .ptpSyncTx .. => [.regs, .fresh, .pe, .ptpp, .ptpx, .ptpg]
  | .classifyFrame .. => [.regs, .fresh, .rings, .pe, .ports, .nts]
  | .wakeCmd .. | .wakeFrameRx .. => [.regs, .out, .hif, .ports, .ptpp, .clk]
  | .htxDescriptorFetch .. => [.regs, .out, .hif, .rings, .pe, .egress]
  | .alignmentEpoch .. => [.regs, .out, .tb, .eio, .eb, .osyn]
  | .bmcaRun .. | .announceReceiptTimeout .. => [.regs, .fresh, .pe, .refs, .ptpp, .ptpi, .ptpx]
  | .overrideGiveUp .. => [.regs, .out, .eio, .hif, .pps, .pair, .clkOut]
  | .frameRx .. => [.regs, .out, .hif, .refs, .ports, .ptpp, .clk]
  | .frameTx .. => [.regs, .out, .rings, .txq, .ports, .nts, .ptpp]
  | .ptpSyncRx .. | .ptpFollowupRx .. => [.regs, .tb, .pe, .refs, .rn, .ptpp, .ptpi]
  | .recBackgroundFlush .. => [.regs, .fresh, .recd, .rings, .nts, .ks, .sys, .flash]
  | .pairListenEnd .. | .isolatedClaim .. => [.regs, .out, .eio, .hif, .pps, .ptpx, .pair, .clkOut]
  | .tbSetApply .. => [.regs, .fresh, .tb, .eb, .rn, .sel, .srv, .models, .srvg, .nts, .ptpp]
  | .pfwDeassert .. => [.regs, .out, .eio, .recd, .flt, .hif, .rings, .pps, .ptpx, .pair, .clkOut]
  | .servoStall .. | .tempSensorRecover .. | .eioStuckTimeout .. | .ownSenseAssert .. | .overridePulsesSeen .. |
    .ownChangeDeferred .. | .handoverLatchSet .. | .handoverLatchClear .. | .kcvMismatch .. | .bandTryTimeout .. |
    .pllRetryTimer .. | .clkRetry .. | .reducedByTimeout .. | .jamSet .. | .faultOccurrence .. | .fltWatchdog .. |
    .faultInject .. | .katRun .. | .recMark .. | .keyDerivationDone .. | .sramCorrectedError .. => faultParts
  | .tsuCalComplete .. => [.lines] ++ faultParts
  | .dmaReadError .. | .apgor .. | .pcieLinkDown .. => [.pe] ++ faultParts
  | .gnssFwStall .. | .feSequenceDone .. => [.gnss] ++ faultParts
  | .apgorSlotStored .. => [.ptpp] ++ faultParts
  | .straitHeartbeatRx .. | .cwFaultPattern .. | .cwNormalPattern .. | .cwSilence .. | .straitSilence .. |
    .pfwAssert .. => [.ptpx] ++ faultParts
  | .refHoldoffExpire .. => [.rn] ++ faultParts
  | .srvHostWatchdog .. => [.srv] ++ faultParts
  | .ferrySlip .. | .strobeLoss .. => [.ch, .gnss] ++ faultParts
  | .refWtrExpire .. | .trendDefectClear .. => [.refs, .rn] ++ faultParts
  | .loopDeadlineMiss .. => [.eb, .sel, .srvg] ++ faultParts
  | .imageApply .. => [.tb, .atom, .gnss, .ptpp, .ptpx] ++ faultParts
  | .gnssSolutionEpoch .. => [.tb, .refs, .rn, .gnss, .sols] ++ faultParts
  | .xoEdgeDefect .. | .xoFreqMeasure .. | .xoQualified .. | .pllLossOfLock .. | .relockHoldComplete .. |
    .xoEdgesResume .. => [.tb, .lines, .eb, .gnss, .ports, .ptpp, .ptpx] ++ faultParts
  | .servoLoopUpdate .. => [.tb, .eb, .sel, .srv, .models, .srvg, .osyn] ++ faultParts
  | .qualificationTick .. => [.tb, .pe, .eb, .refs, .rn, .sel, .srv, .models, .srvg, .ch, .ports, .ptpp] ++
    faultParts
  | .powerOnReset .. | .resetNLow .. | .sysRestart .. | .supplyMonitorReset .. | .resetNRise .. | .flOpComplete .. |
    .blockResetComplete .. | .chipReset .. | .recFlushDone .. | .registerWrite .. | .unmappedAccess .. |
    .spiWritePerformed .. | .supplyMonitorRelease .. => [.regs, .latch, .fresh, .out, .tb, .eio, .recd, .flt, .hif,
    .rings, .pe, .egress, .lines, .pps, .txq, .eb, .refs, .rn, .sel, .atom, .srv, .models, .srvg, .ch, .gnss, .sols,
    .ports, .nts, .ptpp, .ptpi, .ptpx, .ptpg, .ks, .pair, .osyn, .clkOut, .clk, .sys, .flash]

/-- Between two states of the device, outside its registers only these parts may differ, and of its registers only those
at these addresses. -/
def Dev.Frame (d e : Dev) (parts : List Part) (regs : List Nat) : Prop :=
  d.Keeps (.regs :: parts) e ∧ ∀ a, a ∉ regs → e.rd a = d.rd a

/-- Between two states of the device, no bit of a register but these differs. -/
def Dev.OtherBits (d e : Dev) (a : Nat) (bits : List Nat) : Prop := ∀ i, i ∉ bits → e.bit a i = d.bit a i

/-- The registers that counting an event may change. -/
def pmcRegs : List Nat :=
  (List.range 128).map R.PMCc_LO ++ (List.range 128).map R.PMCc_HI ++ (List.range 4).map R.PMC_WRAP

/-- The registers of a channel that its oscillators move. -/
def chOscRegs (c : Nat) : List Nat :=
  [R.GCHc_CODE_INT c, R.GCHc_CODE_FRAC c, R.GCHc_CARR_CYC c, R.GCHc_CARR_FRAC c]

/-- The registers of one ring that offering it a record may change. -/
def ringRegs (k : Nat) : List Nat := [R.PE_RINGk_DROP k, R.PE_RINGk_STAT k] ++ pmcRegs

/-- A port may command the device: its accesses reach the registers and it holds the Custodian role (R10). -/
def Dev.commands (d : Dev) (p : Port) : Prop := d.reaches p = true ∧ d.isCust p = true

/-- A party may steer a time base (R18): the device while the loop is closed, a Custodian while it is open. -/
def Dev.maySteer (d : Dev) (w : Agent) (n : Nat) : Prop := match w with
  | .device => d.loopOpen n = false
  | .host p => d.commands p ∧ d.loopOpen n = true

/-- A party may write a time base's leap schedule (R47): the device with LEAPSRC 0, a Custodian with LEAPSRC 1. -/
def Dev.mayLeap (d : Dev) (w : Agent) (n : Nat) : Prop := match w with
  | .device => d.bit (R.TBn_CFG n) 3 = false
  | .host p => d.commands p ∧ d.bit (R.TBn_CFG n) 3 = true


/-- A register that no occurrence of a fault source reaches, unless it resets the packet engine: not one of the fault
system, the recorder and the performance counters, not the state of the clock outputs, the DMA rings 0 to 5 and the key
slots, and none of a few more that show what a fault's reaction does. -/
abbrev quietReg (a : Nat) : Prop :=
  a < 0x230000 ∧ ¬(0x20200 ≤ a ∧ a < 0x20400) ∧ ¬(0x122000 ≤ a ∧ a < 0x122180) ∧
  ¬(0x140000 ≤ a ∧ a < 0x142000 ∧ a % 0x400 = 8) ∧ ¬(0x1C0100 ≤ a ∧ a < 0x1C0200) ∧ ¬(0x1E0000 ≤ a ∧ a < 0x210000) ∧
  a ≠ R.CLK_GATE_OPEN ∧ a ≠ R.PE_HOSTOPS ∧ a ≠ R.NTS_STAT ∧ a ≠ R.KS_STAT ∧ a ≠ R.KS_APGOR_REJ ∧ a ≠ R.PAIR_STAT ∧
  a ≠ R.PAIR_STATE ∧ a ≠ R.HIF_ISTAT ∧ a ≠ R.CFG_FL_STAT

/-- Between two states of the device lies at most the occurrence of fault sources, beside changes to these parts and
these registers. -/
def Dev.FaultFrame (d e : Dev) (parts : List Part) (regs : List Nat) : Prop :=
  d.Keeps (parts ++ faultParts) e ∧ ∀ a, a ∉ regs → quietReg a → e.rd a = d.rd a

/-- A fault source has occurred once: it is pending, and counted (R477). -/
def Dev.Raised (d e : Dev) (s : Nat) : Prop :=
  e.bit (R.FLT_PEND (s / 32)) (s % 32) = true ∧ e.rd (R.FLT_CNTs s) = satAdd (d.rd (R.FLT_CNTs s)) 1

/-- Between two states of the device, one PTP message of a type goes to crypto input, for a port and an instance. -/
def Dev.Sends (d e : Dev) (i p typ : Nat) (also : EgFrame → Prop) : Prop :=
  ∃ f sa, e.pe.input = d.pe.input ++ [.send f sa] ∧ f.port = p ∧ f.tb = d.ptpTb i ∧ (∃ q, f.src = .ptp i typ q) ∧ also f

/-- Between two states of the device, the host command at the front of its queue ended: it left the queue, it is counted,
and its result goes to ring 5 if the result is not lost and ring 5 has room (R297). -/
def Dev.Ends (d e : Dev) (body : List Byte) : Prop :=
  e.pe = { d.pe with hostCmds := d.pe.hostCmds.tail, lostResults := d.pe.lostResults - 1 } ∧
  e.rd R.PE_HOSTOPS = d.rd R.PE_HOSTOPS + 1 ∧
  (d.pe.lostResults = 0 → d.ringRoom 5 body.length = true →
    (e.ringsAt 5).staged = (d.ringsAt 5).staged ++ [⟨0x0B, (d.ringsAt 5).seq, body, none, d.nowNs⟩]) ∧
  ∀ k : Nat, k ≠ 5 → e.ringsAt k = d.ringsAt k

/-- The result record of a key-store command (R375). -/
def ksResult (c : List Byte) (status : Nat) (out : List Byte) : List Byte :=
  c.take 1 ++ be 1 status ++ [0, 0] ++ slice c 4 4 ++ le 4 out.length ++ zeros 4 ++ out

/-- The state registers of the PTP ports. -/
def ptpStatRegs : List Nat := (List.range 8).flatMap (fun i => (List.range 8).map (R.PTPi_Pp_STAT i))

/-- The port whose write a command is, where only a Custodian may make it whatever the device's stage (R10). -/
def custodianOnly : Instr → Option Port
  | .tbSnap p _ | .eioArm p _ | .eioDisarm p _ | .eioCfgWrite p _ _ | .eioScheduleWrite p _ _ _ | .eioPop p _
  | .eioStuckWrite p _ _ | .tsuCfgWrite p _ _ | .ppsSettingsWrite p _ _ _ | .isletCmd p _ | .wakeCmd p _
  | .ringTailWrite p _ _ | .ringEnable p _ _ | .ringDisable p _ _ | .sessionCancelCmd p _ | .ptpTxsaWrite p _ _
  | .pairHandoverCmd p | .pairTakeCmd p | .clkRetry p | .feSpiGo p _ | .gnssExclWrite p _ _ | .navRdWrite p _
  | .acqSweepCmd p _ | .gnssResurvey p _ | .refLockoutWrite p _ | .refForceWrite p _ _ | .refAcceptWrite p _ _
  | .srvLoopOpen p _ _ | .srvLoopClose p _ _ | .fltPendClear p _ _ | .recFreeze p | .recUnfreeze p | .recMark p
  | .pmcStart p | .pmcStop p | .pmcSnap p | .pmcClear p | .pmcSampReset p => some p
  | .tbIncHiWrite w _ _ | .tbIncCommit w _ _ | .tbBincHiWrite w _ _ | .tbBincCommit w _ _ | .padjCommit w _ _
  | .pslopeWrite w _ _ | .pabort w _ | .tbSetArm w _ | .leapScheduleHoldWrite w _ _ _ | .leapCtlCommit w _ _
  | .clkBandWrite w _ _ => match w with
    | .host p => some p
    | .device => none
  | _ => none

/-- The reads that latch registers: the port, the register read, and the registers latched with it. -/
def latchesOf : Instr → Option (Port × Nat × List Nat)
  | .ebLatchRead p n => some (p, R.EBn_B_LO n, [R.EBn_B_HI n, R.EBn_LO_LO n, R.EBn_LO_HI n, R.EBn_HI_LO n, R.EBn_HI_HI n,
      R.EBn_RATE n, R.EBn_TAU n, R.EBn_P_LO n, R.EBn_P_HI n, R.EBn_PRATE n, R.EBn_Y n, R.EBn_D n, R.EBn_K n, R.EBn_DT n,
      R.EBn_SEQ n])
  | .macCounterLatchRead p n c => some (p, R.MACn_RX_FRAMES_LO n + 8 * c, [R.MACn_RX_FRAMES_HI n + 8 * c])
  | .ntsCounterLatchRead p c => some (p, R.NTP_RX_LO + 8 * c, [R.NTP_RX_HI + 8 * c])
  | .ptpOfsLatchRead p i => some (p, R.PTPi_OFS_LO i, [R.PTPi_OFS_HI i, R.PTPi_MPD i])
  | .ksCtrLatchRead p => some (p, R.KS_CTR_LO, [R.KS_CTR_HI])
  | .pairMofsLatchRead p => some (p, R.PAIR_MOFS_LO, [R.PAIR_MOFS_HI])
  | .osynWordLatchRead p k => some (p, R.OSYNk_WORD_INT k, [R.OSYNk_WORD_FHI k, R.OSYNk_WORD_FLO k])
  | .gchMeasLatchRead p c => some (p, R.GCHc_MEAS_EPOCH c, [R.GCHc_MEAS_CODE_INT c, R.GCHc_MEAS_CODE_FRAC c,
      R.GCHc_MEAS_CARR_CYC c, R.GCHc_MEAS_CARR_FRAC c, R.GCHc_MEAS_DOPP c])
  | .gchCorrLatchRead p c => some (p, R.GCHc_VE_I c, [R.GCHc_VE_Q c, R.GCHc_E_I c, R.GCHc_E_Q c, R.GCHc_P_I c,
      R.GCHc_P_Q c, R.GCHc_L_I c, R.GCHc_L_Q c, R.GCHc_VL_I c, R.GCHc_VL_Q c, R.GCHc_DP_I c, R.GCHc_DP_Q c])
  | .gnssSolLatchRead p r => some (p, R.GNSS_SOLr_STAT r, [R.GNSS_SOLr_M_LO r, R.GNSS_SOLr_M_HI r, R.GNSS_SOLr_U r,
      R.GNSS_SOLr_DRIFT r, R.GNSS_SOLr_CHK r, R.GNSS_SOLr_DA r])
  | .srvErrLatchRead p n => some (p, R.SRVn_ERR n, [R.SRVn_INTEG n, R.SRVn_CORR n, R.SRVn_MODELINC_HI n,
      R.SRVn_MODELINC_LO n, R.SRVn_BW_EFF n, R.SRVn_STEPTIME n, R.SRVn_UPD n])
  | .srvModelLatchRead p m => some (p, R.SRV_Mm_STAT m, [R.SRV_Mm_Y0 m, R.SRV_Mm_AGE m, R.SRV_Mm_TC m, R.SRV_Mm_TREF m,
      R.SRV_Mm_EPOCH m, R.SRV_Mm_Y m, R.SRV_Mm_D m, R.SRV_Mm_K m])
  | .fltInfoLatchRead p s => some (p, R.FLT_INFOs_LO s, [R.FLT_INFOs_HI s])
  | _ => none

end Sys2Proof.Machine
end

