-- ==== Sys2Proof/Certificates/Slice0/Obligations.lean ====
section
/-! DEFINITION. The statements for the provers: what the commands do, group by group in the order of the chapters, and
what every step keeps. -/
open Sys2Proof Sys2Proof.Machine

/-! ### The queue, every command, and the registers -/

/-- The command at the front of the queue is taken, and runs with the queue's rest. -/
def Obligations.StepRunsFront : Prop :=
  ∀ (s : State) (c : Instr) (rest : List Instr),
    step { s with pending := c :: rest } = exec c { s with pending := rest }

/-- What reset leaves where the spec gives a value: no command waits; every time base is unset with a count of 0, nominal
increment and slope, and an unbounded error bound; no reference is selected; the event pins and PPS outputs have their
default widths; every ring is disabled and empty; every fault source may interrupt and none is pending; every gate is
open; both ports are Observers; uptime is 0. -/
def Obligations.ResetSpecValues : Prop :=
  State.reset.pending = [] ∧
  (∀ n : Fin 8, State.reset.dev.rd (R.TBn_STAT n) = 2 ∧ State.reset.dev.rd (R.TBn_INC_HI n) = 0xA000 ∧
    State.reset.dev.rd (R.TBn_INC_LO n) = 0 ∧ State.reset.dev.rd (R.TBn_PSLOPE n) = 10 ∧
    State.reset.dev.rd (R.EBn_B_LO n) = 0xFFFFFFFF ∧ State.reset.dev.rd (R.EBn_B_HI n) = 0xFFFFFFFF ∧
    State.reset.dev.rd (R.REF_TBn_STAT n) = 0xBFF ∧ State.reset.dev.rd (R.SRVn_MODELINC_HI n) = 0xA000 ∧
    State.reset.dev.rd (R.TBn_SET_REJ n) = 0 ∧ (State.reset.dev.tbAt n).count = 0) ∧
  (∀ n : Fin 32, State.reset.dev.rd (R.EIOn_CFG n) = 0x800 ∧ State.reset.dev.rd (R.EIOn_WIDTH n) = 5) ∧
  (∀ m : Fin 8, State.reset.dev.rd (R.PPSm_WIDTH m) = 0x5F5E100) ∧
  (∀ r : Fin 24, State.reset.dev.rd (R.REFr_STAT r) = 8) ∧
  (∀ k : Fin 8, State.reset.dev.rd (R.PE_RINGk_CFG k) = 0 ∧ State.reset.dev.rd (R.PE_RINGk_TMO k) = 100) ∧
  (∀ w : Fin 3, State.reset.dev.rd (R.FLT_INTEN w) = 0xFFFFFFFF ∧ State.reset.dev.rd (R.FLT_PEND w) = 0) ∧
  State.reset.dev.rd R.CLK_GATE_OPEN = 0xFFFFFF ∧ State.reset.dev.rd R.SYS_ID = 0x92560001 ∧
  State.reset.dev.rd R.KS_ROLE = 0 ∧ State.reset.dev.rd (pAddr .spi R.KS_ROLE) = 0 ∧
  State.reset.dev.rd R.SYS_UPTIME = 0 ∧ State.reset.dev.rings = [] ∧ State.reset.dev.recd = {}

/-- Every command answers a next state in every state: the queue is as it was, and of the device only the parts that
the command may reach have changed. -/
def Obligations.EveryCommandCompletes : Prop :=
  ∀ (c : Instr) (s : State), Completes c s (fun e => s.dev.Keeps (touches c) e)

/-- The register store stays in its canonical form over every step. -/
def Obligations.RegistersCanonicalStep : Prop :=
  ∀ (s t : State), s.dev.regsWf → step s = .next t → t.dev.regsWf

/-- The register store is in its canonical form at reset. -/
def Obligations.RegistersCanonicalReset : Prop := State.reset.dev.regsWf

/-- A write that only a Custodian may make, by a port that is not, is ignored and counted in that port's HIF_WRIGN;
nothing else changes. A port that cannot reach the device does not even count. (On R10, R510.) -/
def Obligations.ObserverWritesIgnored : Prop :=
  ∀ (s : State) (c : Instr) (p : Port), custodianOnly c = some p →
    (s.dev.reaches p = true → s.dev.isCust p = false → Completes c s (fun e =>
      e.rd (pAddr p R.HIF_WRIGN) = satAdd (s.dev.rd (pAddr p R.HIF_WRIGN)) 1 ∧
      s.dev.Frame e [] [pAddr p R.HIF_WRIGN])) ∧
    (s.dev.reaches p = false → Completes c s (fun e => e = s.dev))

/-- The read of a latching register answers its value and gives the reading port its own copy of the registers latched
with it; the other port's copies and every register stay. (On R121, R154, R184, R203, R250, R275, R332, R363, R388,
R421, R451, R500.) -/
def Obligations.LatchReads : Prop :=
  ∀ (s : State) (c : Instr) (p : Port) (a : Nat) (ls : List Nat), latchesOf c = some (p, a, ls) →
    s.dev.reaches p = true → s.dev.sys.applied = true → Completes c s (fun e =>
      e.out = .readData p (s.dev.rd a) :: s.dev.out ∧ (∀ b ∈ ls, e.latched p b = s.dev.rd b) ∧
      (∀ q b, q ≠ p → b < 0x1000000 → e.latched q b = s.dev.latched q b) ∧ s.dev.Frame e [.latch, .out] [])

/-- The reads whose answer is more than a register's word. TBn_NOW_SEC_LO latches the linear and the presented value of
one instant; REF_TBn_STEER_LO latches the steering of that instant; PMCc_LO answers 0 to an Observer while OBSEN is
clear. (On R48, R142, R154, R499, R504.) -/
def Obligations.SpecialLatchReads : Prop :=
  ∀ (s : State) (p : Port) (n : Fin 8) (c : Fin 128), s.dev.reaches p = true → s.dev.sys.applied = true →
    Completes (.tbNowLatchRead p n) s (fun e =>
      e.out = .readData p (BitVec.ofNat 32 (cSec (s.dev.count n))) :: s.dev.out ∧
      e.latched p (R.TBn_NOW_SEC_HI n) = BitVec.ofNat 32 (cSec (s.dev.count n) / 2 ^ 32) ∧
      e.latched p (R.TBn_NOW_NS n) = BitVec.ofNat 32 (cNs (s.dev.count n)) ∧
      e.latched p (R.TBn_NOW_FRAC n) = BitVec.ofNat 32 (cFrac (s.dev.count n)) ∧
      e.latched p (R.TBn_PRES_SEC_HI n) = BitVec.ofNat 32 (cSec (s.dev.presented n) / 2 ^ 32) ∧
      e.latched p (R.TBn_PRES_SEC_LO n) = BitVec.ofNat 32 (cSec (s.dev.presented n)) ∧
      e.latched p (R.TBn_PRES_NS n) = BitVec.ofNat 32 (cNs (s.dev.presented n)) ∧
      e.latched p (R.TBn_PRES_FRAC n) = BitVec.ofNat 32 (cFrac (s.dev.presented n)) ∧
      s.dev.Frame e [.latch, .out] []) ∧
    Completes (.refSteerLatchRead p n) s (fun e =>
      e.out = .readData p (e.rd (R.REF_TBn_STEER_LO n)) :: s.dev.out ∧
      e.int64 (R.REF_TBn_STEER_LO n) (R.REF_TBn_STEER_HI n) =
        (BitVec.ofInt 64 ((s.dev.tbAt n).steer * 1000 / (2 ^ 48 : Nat))).toInt ∧
      e.latched p (R.REF_TBn_STEER_HI n) = e.rd (R.REF_TBn_STEER_HI n) ∧
      s.dev.Frame e [.latch, .out] [R.REF_TBn_STEER_LO n, R.REF_TBn_STEER_HI n]) ∧
    Completes (.pmcLatchRead p c) s (fun e =>
      (s.dev.isCust p = true ∨ s.dev.bit R.PMC_CFG 0 = true →
        e.out = .readData p (s.dev.rd (R.PMCc_LO c)) :: s.dev.out ∧
        e.latched p (R.PMCc_HI c) = s.dev.rd (R.PMCc_HI c)) ∧
      (s.dev.isCust p = false → s.dev.bit R.PMC_CFG 0 = false →
        e.out = .readData p 0 :: s.dev.out ∧ e.latched p (R.PMCc_HI c) = 0) ∧
      s.dev.Frame e [.latch, .out] [])

/-! ### Time bases -/

/-- The writer's write of a high half is held; its commit takes the 52-bit value for the next epoch when it is in range,
and otherwise keeps the previous increment, shows it, and sets CFG_ERR. (On R18, R33, R34, R36.) -/
def Obligations.IncrementCommits : Prop :=
  ∀ (s : State) (w : Agent) (n : Fin 8) (v : Word), s.dev.maySteer w n →
    Completes (.tbIncHiWrite w n v) s (fun e => e.rd (R.TBn_INC_HI n) = v &&& 0xFFFFF ∧
      s.dev.Frame e [] [R.TBn_INC_HI n]) ∧
    Completes (.tbBincHiWrite w n v) s (fun e => e.rd (R.TBn_BINC_HI n) = v &&& 0xFFFFF ∧
      s.dev.Frame e [] [R.TBn_BINC_HI n]) ∧
    (∀ c, c = s.dev.fld (R.TBn_INC_HI n) 19 0 * 2 ^ 32 + v.toNat →
      Completes (.tbIncCommit w n v) s (fun e =>
        (0x9FEB851EB852 ≤ c ∧ c ≤ 0xA0147AE147AE → (e.tbAt n).incC = c ∧ e.rd (R.TBn_INC_LO n) = v ∧
          e.rd (R.TBn_INC_HI n) = s.dev.rd (R.TBn_INC_HI n) ∧ e.rd (R.TBn_STAT n) = s.dev.rd (R.TBn_STAT n)) ∧
        (¬ (0x9FEB851EB852 ≤ c ∧ c ≤ 0xA0147AE147AE) → (e.tbAt n).incC = (s.dev.tbAt n).incC ∧
          e.rd (R.TBn_INC_HI n) = BitVec.ofNat 32 ((s.dev.tbAt n).incC / 2 ^ 32) ∧
          e.rd (R.TBn_INC_LO n) = BitVec.ofNat 32 (s.dev.tbAt n).incC ∧ e.bit (R.TBn_STAT n) 9 = true) ∧
        (e.tbAt n).inc = (s.dev.tbAt n).inc ∧ (e.tbAt n).count = (s.dev.tbAt n).count ∧
        (∀ m : Nat, m ≠ n → e.tbAt m = s.dev.tbAt m) ∧ s.dev.OtherBits e (R.TBn_STAT n) [9] ∧
        s.dev.Frame e [.tb] [R.TBn_INC_HI n, R.TBn_INC_LO n, R.TBn_STAT n])) ∧
    (∀ c, c = s.dev.fld (R.TBn_BINC_HI n) 19 0 * 2 ^ 32 + v.toNat →
      Completes (.tbBincCommit w n v) s (fun e =>
        (s.dev.bincInRange c = true → (e.tbAt n).bincC = c ∧ e.rd (R.TBn_BINC_LO n) = v ∧
          e.rd (R.TBn_BINC_HI n) = s.dev.rd (R.TBn_BINC_HI n) ∧ e.rd (R.TBn_STAT n) = s.dev.rd (R.TBn_STAT n)) ∧
        (s.dev.bincInRange c = false → (e.tbAt n).bincC = (s.dev.tbAt n).bincC ∧
          e.rd (R.TBn_BINC_HI n) = BitVec.ofNat 32 ((s.dev.tbAt n).bincC / 2 ^ 32) ∧
          e.rd (R.TBn_BINC_LO n) = BitVec.ofNat 32 (s.dev.tbAt n).bincC ∧ e.bit (R.TBn_STAT n) 9 = true) ∧
        (e.tbAt n).binc = (s.dev.tbAt n).binc ∧ (∀ m : Nat, m ≠ n → e.tbAt m = s.dev.tbAt m) ∧
        s.dev.OtherBits e (R.TBn_STAT n) [9] ∧
        s.dev.Frame e [.tb] [R.TBn_BINC_HI n, R.TBn_BINC_LO n, R.TBn_STAT n]))

/-- A write from the party that is not the writer of a time base is ignored: it counts in SRVn_WR_IGN, sets SRVn_STAT's
WR_IGN flag, and changes nothing else. (On R18.) -/
def Obligations.NonWriterIgnored : Prop :=
  ∀ (s : State) (w : Agent) (n : Fin 8) (v : Word),
    (match w with
      | .device => s.dev.loopOpen n = true
      | .host p => s.dev.commands p ∧ s.dev.loopOpen n = false) →
    ∀ c ∈ [Instr.tbIncHiWrite w n v, .tbIncCommit w n v, .tbBincHiWrite w n v, .tbBincCommit w n v, .padjCommit w n v,
        .pslopeWrite w n v, .pabort w n],
      Completes c s (fun e => e.rd (R.SRVn_WR_IGN n) = satAdd (s.dev.rd (R.SRVn_WR_IGN n)) 1 ∧
        e.bit (R.SRVn_STAT n) 9 = true ∧ s.dev.OtherBits e (R.SRVn_STAT n) [9] ∧
        s.dev.Frame e [] [R.SRVn_WR_IGN n, R.SRVn_STAT n])

/-- A commit in replace mode discards what remained and leaves the new amount to apply; in add mode it joins what
remains, saturating at 2^31 ns with PADJ_SAT; PADJ_BUSY and PREM show what remains. A slope of 1 to 1 000 ns/s is
taken, another sets CFG_ERR. PABORT discards at the next epoch. The last slope step applies only what remains, so
the count lands on the whole amount; an amount that waits for its epoch stays. (Model choices: log 17.) (On R38 to
R40.) -/
def Obligations.PhaseAdjustments : Prop :=
  ∀ (s : State) (w : Agent) (n : Fin 8) (v : Word),
    (s.dev.maySteer w n →
      (∀ amount, amount = signed 48 (s.dev.fld (R.TBn_PADJ_HI n) 15 0 * 2 ^ 32 + v.toNat) * (2 ^ 32 : Int) →
        Completes (.padjCommit w n v) s (fun e =>
          (s.dev.bit (R.TBn_PADJ_HI n) 31 = false → (e.tbAt n).owed = amount ∧
            (e.bit (R.TBn_STAT n) 3 = true ↔ amount ≠ 0) ∧ s.dev.OtherBits e (R.TBn_STAT n) [3]) ∧
          (s.dev.bit (R.TBn_PADJ_HI n) 31 = true →
            (-(2 ^ 79 : Int) ≤ (s.dev.tbAt n).owed + amount ∧ (s.dev.tbAt n).owed + amount ≤ 2 ^ 79 - 2 ^ 32 →
              (e.tbAt n).owed = (s.dev.tbAt n).owed + amount ∧ s.dev.OtherBits e (R.TBn_STAT n) [3]) ∧
            ((s.dev.tbAt n).owed + amount < -(2 ^ 79 : Int) → (e.tbAt n).owed = -(2 ^ 79 : Int) ∧
              e.bit (R.TBn_STAT n) 8 = true) ∧
            ((2 : Int) ^ 79 - 2 ^ 32 < (s.dev.tbAt n).owed + amount → (e.tbAt n).owed = 2 ^ 79 - 2 ^ 32 ∧
              e.bit (R.TBn_STAT n) 8 = true)) ∧
          (e.tbAt n).count = (s.dev.tbAt n).count ∧ e.rd (R.TBn_PADJ_LO n) = v ∧
          (∀ m : Nat, m ≠ n → e.tbAt m = s.dev.tbAt m) ∧ s.dev.OtherBits e (R.TBn_STAT n) [3, 8] ∧
          s.dev.Frame e [.tb] [R.TBn_PADJ_LO n, R.TBn_PREM_HI n, R.TBn_PREM_LO n, R.TBn_STAT n])) ∧
      Completes (.pslopeWrite w n v) s (fun e =>
        (1 ≤ wfld v 9 0 ∧ wfld v 9 0 ≤ 1000 → e.rd (R.TBn_PSLOPE n) = BitVec.ofNat 32 (wfld v 9 0) ∧
          s.dev.Frame e [] [R.TBn_PSLOPE n]) ∧
        (¬ (1 ≤ wfld v 9 0 ∧ wfld v 9 0 ≤ 1000) → e.bit (R.TBn_STAT n) 9 = true ∧
          s.dev.OtherBits e (R.TBn_STAT n) [9] ∧ s.dev.Frame e [] [R.TBn_STAT n])) ∧
      Completes (.pabort w n) s (fun e => (e.tbAt n).abortPend = true ∧ (e.tbAt n).owed = (s.dev.tbAt n).owed ∧
        (e.tbAt n).count = (s.dev.tbAt n).count ∧ (∀ m : Nat, m ≠ n → e.tbAt m = s.dev.tbAt m) ∧
        s.dev.Frame e [.tb] [])) ∧
    Completes (.padjComplete n) s (fun e =>
      ((s.dev.tbAt n).rem = 0 ∨ (s.dev.padjStep n).1 ≠ (s.dev.tbAt n).rem → e = s.dev) ∧
      ((s.dev.tbAt n).rem ≠ 0 → (s.dev.padjStep n).1 = (s.dev.tbAt n).rem →
        (e.tbAt n).rem = 0 ∧ (e.tbAt n).padjNew = (s.dev.tbAt n).padjNew ∧
        (e.tbAt n).steer = (s.dev.tbAt n).steer + (s.dev.tbAt n).rem ∧
        ((e.tbAt n).count : Int) = ((s.dev.tbAt n).count + (s.dev.tbAt n).rem) % (2 ^ 48 * secUnit : Nat) ∧
        ((s.dev.tbAt n).padjNew = none → (e.tbAt n).owed = 0 ∧ e.bit (R.TBn_STAT n) 3 = false ∧
          e.bit (R.REF_TBn_STAT n) 13 = false)) ∧
      s.dev.OtherBits e (R.TBn_STAT n) [3] ∧ s.dev.OtherBits e (R.REF_TBn_STAT n) [13] ∧
      (∀ m : Nat, m ≠ n → e.tbAt m = s.dev.tbAt m) ∧
      s.dev.Frame e [.tb] [R.TBn_PREM_HI n, R.TBn_PREM_LO n, R.TBn_STAT n, R.REF_TBn_STAT n])

/-- A set by an allowed setter of an unset time base with no armed set, at an instant at least 400 ns ahead, arms with
the registers as they stand; any other attempt is rejected and counted. (On R42, R43.) -/
def Obligations.InitialSetArms : Prop :=
  ∀ (s : State) (w : Agent) (n : Fin 8),
    (match w with
      | .device => True
      | .host p => s.dev.commands p) →
    ∀ ok, (ok ↔ (w = .device ∨ s.dev.bit (R.TBn_CFG n) 2 = true) ∧ s.dev.isSet n = false ∧ (s.dev.tbAt n).armed = none ∧
        400 * 2 ^ 16 ≤ signedDiff (s.dev.nat (R.TBn_SET_AT_SEC n)) (s.dev.nat (R.TBn_SET_AT_NS n)) 0 (s.dev.count n)) →
      Completes (.tbSetArm w n) s (fun e =>
        (ok → (e.tbAt n).armed = some {
            target := mkCount (s.dev.nat (R.TBn_SET_SEC_HI n) * 2 ^ 32 + s.dev.nat (R.TBn_SET_SEC_LO n))
              (s.dev.nat (R.TBn_SET_NS n)) (s.dev.nat (R.TBn_SET_FRAC n))
            atSec := s.dev.nat (R.TBn_SET_AT_SEC n), atNs := s.dev.nat (R.TBn_SET_AT_NS n) } ∧
          (e.tbAt n).count = (s.dev.tbAt n).count ∧ s.dev.Frame e [.tb] []) ∧
        (¬ ok → e.rd (R.TBn_SET_REJ n) = satAdd (s.dev.rd (R.TBn_SET_REJ n)) 1 ∧ s.dev.Frame e [] [R.TBn_SET_REJ n]) ∧
        ∀ m : Nat, m ≠ n → e.tbAt m = s.dev.tbAt m)

/-- While a time base is set and no leap is in progress, the schedule's writer holds the instant and the smear length; a
length outside 60 to 86 400 s sets CFG_ERR. (Model choices: log 18.) (On R47.) -/
def Obligations.LeapScheduleHeld : Prop :=
  ∀ (s : State) (w : Agent) (n : Fin 8) (v : Word), s.dev.mayLeap w n → s.dev.isSet n = true →
    s.dev.bit (R.TBn_STAT n) 6 = false →
    Completes (.leapScheduleHoldWrite w n .atHi v) s (fun e => e.rd (R.TBn_LEAP_AT_HI n) = v &&& 0xFFFF ∧
      s.dev.Frame e [] [R.TBn_LEAP_AT_HI n]) ∧
    Completes (.leapScheduleHoldWrite w n .atLo v) s (fun e => e.rd (R.TBn_LEAP_AT_LO n) = v ∧
      s.dev.Frame e [] [R.TBn_LEAP_AT_LO n]) ∧
    Completes (.leapScheduleHoldWrite w n .smearLen v) s (fun e =>
      (60 ≤ wfld v 16 0 ∧ wfld v 16 0 ≤ 86400 → e.nat (R.TBn_SMEAR_LEN n) = wfld v 16 0 ∧
        s.dev.Frame e [] [R.TBn_SMEAR_LEN n]) ∧
      (¬ (60 ≤ wfld v 16 0 ∧ wfld v 16 0 ≤ 86400) → e.bit (R.TBn_STAT n) 9 = true ∧
        s.dev.OtherBits e (R.TBn_STAT n) [9] ∧ s.dev.Frame e [] [R.TBn_STAT n])) ∧
    Completes (.leapCtlCommit w n v) s (fun e =>
      (wfld v 1 0 = 3 → e.bit (R.TBn_STAT n) 9 = true ∧ (e.tbAt n).leap = (s.dev.tbAt n).leap ∧
        e.rd (R.TBn_LEAP_CTL n) = s.dev.rd (R.TBn_LEAP_CTL n)) ∧
      (wfld v 1 0 ≠ 3 → wbit v 2 = false → (e.tbAt n).leap = none ∧
        e.rd (R.TBn_LEAP_CTL n) = v &&& 0x1F ∧ e.rd (R.TBn_STAT n) = s.dev.rd (R.TBn_STAT n)) ∧
      (wbit v 2 = true →
        ∀ at_, at_ = (s.dev.nat (R.TBn_LEAP_AT_HI n) * 2 ^ 32 + s.dev.nat (R.TBn_LEAP_AT_LO n)) * secUnit →
          (wfld v 1 0 ≠ 3 → at_ ≤ s.dev.count n → (e.tbAt n).leap = none ∧ e.bit (R.TBn_LEAP_CTL n) 2 = false ∧
            e.bit (R.TBn_STAT n) 9 = true) ∧
          (wfld v 1 0 = 0 → s.dev.count n < at_ → (e.tbAt n).leap = none ∧ e.rd (R.TBn_LEAP_CTL n) = v &&& 0x1F) ∧
          (wfld v 1 0 = 1 → s.dev.count n < at_ → e.rd (R.TBn_LEAP_CTL n) = v &&& 0x1F ∧
            (e.tbAt n).leap = some ⟨false, wbit v 3, at_, at_ - secUnit, at_ + secUnit, false⟩)) ∧
      (e.tbAt n).count = (s.dev.tbAt n).count ∧ (∀ m : Nat, m ≠ n → e.tbAt m = s.dev.tbAt m) ∧
      s.dev.OtherBits e (R.TBn_STAT n) [6, 9] ∧ s.dev.Frame e [.tb] [R.TBn_LEAP_CTL n, R.TBn_STAT n])

/-- An inserted second steps the presented value back at L and counts in TBn_LEAPCNT at L + 1; a deleted one counts down
at L − 1; a smear starts its term at Ws and counts at its end. The linear count never steps. (Model choices: log
18.) (On R45, R46.) -/
def Obligations.LeapsCount : Prop :=
  ∀ (s : State) (n : Fin 8) (l : Leap), (s.dev.tbAt n).leap = some l →
    (l.smear = false → l.del = false → Completes (.leapInsertStart n) s (fun e => e.bit (R.TBn_STAT n) 7 = true ∧
      e.bit (R.TBn_STAT n) 6 = true ∧ s.dev.OtherBits e (R.TBn_STAT n) [6, 7] ∧ s.dev.Frame e [] [R.TBn_STAT n])) ∧
    (s.dev.bit (R.TBn_STAT n) 7 = true → Completes (.leapInsertEnd n) s (fun e =>
      e.rd (R.TBn_LEAPCNT n) = s.dev.rd (R.TBn_LEAPCNT n) + 1 ∧ e.bit (R.TBn_STAT n) 7 = false ∧
      e.bit (R.TBn_STAT n) 6 = false ∧ e.bit (R.TBn_LEAP_CTL n) 2 = false ∧
      s.dev.OtherBits e (R.TBn_STAT n) [6, 7] ∧ s.dev.OtherBits e (R.TBn_LEAP_CTL n) [2] ∧
      (e.tbAt n).count = (s.dev.tbAt n).count ∧ (∀ m : Nat, m ≠ n → e.tbAt m = s.dev.tbAt m) ∧
      s.dev.Frame e [.tb] [R.TBn_LEAPCNT n, R.TBn_STAT n, R.TBn_LEAP_CTL n])) ∧
    (l.smear = false → l.del = true → l.done = false → Completes (.leapDelete n) s (fun e =>
      e.rd (R.TBn_LEAPCNT n) = s.dev.rd (R.TBn_LEAPCNT n) - 1 ∧ e.bit (R.TBn_LEAP_CTL n) 2 = false ∧
      e.bit (R.TBn_STAT n) 6 = true ∧ s.dev.OtherBits e (R.TBn_STAT n) [6] ∧ s.dev.OtherBits e (R.TBn_LEAP_CTL n) [2] ∧
      (e.tbAt n).count = (s.dev.tbAt n).count ∧ (∀ m : Nat, m ≠ n → e.tbAt m = s.dev.tbAt m) ∧
      s.dev.Frame e [.tb] [R.TBn_LEAPCNT n, R.TBn_STAT n, R.TBn_LEAP_CTL n])) ∧
    (l.smear = true → Completes (.smearWindowStart n) s (fun e => e.bit (R.TBn_STAT n) 6 = true ∧
      s.dev.OtherBits e (R.TBn_STAT n) [6] ∧ s.dev.Frame e [] [R.TBn_STAT n])) ∧
    (l.smear = true → Completes (.smearWindowEnd n) s (fun e =>
      e.rd (R.TBn_LEAPCNT n) = (if l.del then s.dev.rd (R.TBn_LEAPCNT n) - 1 else s.dev.rd (R.TBn_LEAPCNT n) + 1) ∧
      e.bit (R.TBn_LEAP_CTL n) 2 = false ∧ e.bit (R.TBn_STAT n) 6 = false ∧ (e.tbAt n).leap = none ∧
      s.dev.OtherBits e (R.TBn_STAT n) [6] ∧ s.dev.OtherBits e (R.TBn_LEAP_CTL n) [2] ∧
      (e.tbAt n).count = (s.dev.tbAt n).count ∧ (∀ m : Nat, m ≠ n → e.tbAt m = s.dev.tbAt m) ∧
      s.dev.Frame e [.tb] [R.TBn_LEAPCNT n, R.TBn_STAT n, R.TBn_LEAP_CTL n]))

/-! ### Event pins -/

/-- Arming sets ARMED at once, clears DONE and starts the trigger's check; writes to an armed pin only set WR_IGN;
disarming an armed pin waits for the epoch. A new configuration takes the pin to its resting level, and lets a pulse
in progress complete. (Model choices: log 19, 62.) (On R54, R55.) -/
def Obligations.EventPinArming : Prop :=
  ∀ (s : State) (p : Port) (n : Fin 32) (r : EioReg) (v : Word), s.dev.commands p →
    (s.dev.bit (R.EIOn_STAT n) 0 = false →
      Completes (.eioArm p n) s (fun e => e.bit (R.EIOn_STAT n) 0 = true ∧ e.rd (R.EIOn_DONE n) = 0 ∧
        (e.eioAt n).armPend = true ∧ (e.eioAt n).running = false ∧ s.dev.OtherBits e (R.EIOn_STAT n) [0] ∧
        (∀ m : Nat, m ≠ n → e.eioAt m = s.dev.eioAt m) ∧ s.dev.Frame e [.eio] [R.EIOn_STAT n, R.EIOn_DONE n]) ∧
      Completes (.eioScheduleWrite p n r v) s (fun e => e.rd (r.at_ n).1 = v &&& (r.at_ n).2 ∧
        s.dev.Frame e [] [(r.at_ n).1]) ∧
      Completes (.eioCfgWrite p n v) s (fun e =>
        (wfld v 2 0 < 4 → e.rd (R.EIOn_CFG n) = v &&& 0x1FFF ∧ (e.eioAt n).fifo = (s.dev.eioAt n).fifo ∧
          (s.dev.bit (R.EIOn_STAT n) 1 = false → (e.eioAt n).pin = e.eioRest n) ∧
          (s.dev.bit (R.EIOn_STAT n) 1 = true → (e.eioAt n).pin = (s.dev.eioAt n).pin ∧ e.out = s.dev.out) ∧
          (∀ m : Nat, m ≠ n → e.eioAt m = s.dev.eioAt m) ∧ s.dev.Frame e [.eio, .out] [R.EIOn_CFG n]) ∧
        (4 ≤ wfld v 2 0 → e.bit (R.EIOn_STAT n) 9 = true ∧ s.dev.OtherBits e (R.EIOn_STAT n) [9] ∧
          s.dev.Frame e [] [R.EIOn_STAT n])) ∧
      Completes (.eioDisarm p n) s (fun e => e = s.dev)) ∧
    (s.dev.bit (R.EIOn_STAT n) 0 = true →
      Completes (.eioDisarm p n) s (fun e => (e.eioAt n).disarmPend = true ∧
        (∀ m : Nat, m ≠ n → e.eioAt m = s.dev.eioAt m) ∧ s.dev.Frame e [.eio] []) ∧
      ∀ c ∈ [Instr.eioArm p n, .eioScheduleWrite p n r v, .eioCfgWrite p n v],
        Completes c s (fun e => e.bit (R.EIOn_STAT n) 6 = true ∧ s.dev.OtherBits e (R.EIOn_STAT n) [6] ∧
          s.dev.Frame e [] [R.EIOn_STAT n])) ∧
    Completes (.eioStuckWrite p n v) s (fun e =>
      (wfld v 19 0 ≤ 1000000 → e.nat (R.EIOn_STUCK n) = wfld v 19 0 ∧
        e.eioAt n = { s.dev.eioAt n with stuckAt := s.dev.nowNs } ∧ (∀ m : Nat, m ≠ n → e.eioAt m = s.dev.eioAt m) ∧
        s.dev.Frame e [.eio] [R.EIOn_STUCK n]) ∧
      (1000000 < wfld v 19 0 → e = s.dev))

/-- A running trigger that reaches a position drives its pulse, emitted EIOn_DLY before its target, and counts it in
DONE, or suppresses it and counts it in SUPP when it is gated; the last position of the schedule ends it. The pulse
ends after its width. (Model choices: log 8, 62.) (On R51, R56, R57, R549.) -/
def Obligations.EventPinPulses : Prop :=
  ∀ (s : State) (n : Fin 32),
    ((s.dev.eioAt n).running = true → ∀ place, s.dev.eioPlace n = some place →
      ∀ on, on = s.dev.placeOn (s.dev.eioTb n) (16 + n) (s.dev.eioTarget n place * (2 ^ 16 * 1000 : Nat) -
        signed 16 (s.dev.nat (R.EIOn_DLY n)) * (2 ^ 48 : Nat)) →
      Completes (.eioTriggerPosition n) s (fun e =>
        (s.dev.gated (s.dev.bit (R.EIOn_CFG n) 10) (s.dev.eioTb n) = true →
          e.rd (R.EIOn_SUPP n) = satAdd (s.dev.rd (R.EIOn_SUPP n)) 1 ∧
          e.rd (R.EIOn_DONE n) = s.dev.rd (R.EIOn_DONE n) ∧ e.out = s.dev.out ∧
          (e.eioAt n).pin = (s.dev.eioAt n).pin) ∧
        (s.dev.gated (s.dev.bit (R.EIOn_CFG n) 10) (s.dev.eioTb n) = false →
          e.rd (R.EIOn_DONE n) = s.dev.rd (R.EIOn_DONE n) + 1 ∧ e.rd (R.EIOn_SUPP n) = s.dev.rd (R.EIOn_SUPP n) ∧
          ∃ driven, (driven = true ↔ s.dev.bit (R.EIOn_CFG n) 11 = false ∨ s.dev.owns = true) ∧
            e.bit (R.EIOn_STAT n) 1 = driven ∧
            (e.eioAt n).pin = (if driven then some (!s.dev.bit (R.EIOn_CFG n) 6) else none) ∧
            e.out = .lead (.eio n) (s.dev.eioTarget n place) on.1 on.2 (!s.dev.bit (R.EIOn_CFG n) 6) driven ::
              s.dev.out) ∧
        (e.eioAt n).passed = (s.dev.eioAt n).passed + 1 ∧
        (s.dev.eioMode n = 1 → (e.eioAt n).running = false ∧ e.bit (R.EIOn_STAT n) 0 = false ∧
          e.bit (R.EIOn_STAT n) 8 = true) ∧
        (s.dev.eioMode n = 2 → s.dev.nat (R.EIOn_COUNT n) = 0 → (e.eioAt n).running = true) ∧
        (∀ m : Nat, m ≠ n → e.eioAt m = s.dev.eioAt m) ∧ s.dev.OtherBits e (R.EIOn_STAT n) [0, 1, 8] ∧
        s.dev.Frame e [.eio, .out] [R.EIOn_STAT n, R.EIOn_DONE n, R.EIOn_SUPP n])) ∧
    ((s.dev.eioAt n).running = false ∨ s.dev.eioPlace n = none →
      Completes (.eioTriggerPosition n) s (fun e => e = s.dev)) ∧
    (s.dev.bit (R.EIOn_STAT n) 1 = true → s.dev.eioWidthOver n = true →
      Completes (.eioPulseEnd n) s (fun e => e.bit (R.EIOn_STAT n) 1 = false ∧
        e.out = .trail (.eio n) (s.dev.eioRest n) :: s.dev.out ∧
        e.eioAt n = { s.dev.eioAt n with pin := s.dev.eioRest n } ∧ (∀ m : Nat, m ≠ n → e.eioAt m = s.dev.eioAt m) ∧
        s.dev.OtherBits e (R.EIOn_STAT n) [1] ∧ s.dev.Frame e [.eio, .out] [R.EIOn_STAT n]))

/-- A selected edge on a capture pin, at least 50 ns after the last accepted one, is timestamped at the FIFO's tail by
the centre of the tap it hit, or lost at a full FIFO; one less than 50 ns after it is dropped and counted in
EIOn_DROP, as is an active edge of a stuck pin; an edge of another polarity only moves the level. The host's POP and
a transfer to ring 0 take the head. (Model choices: log 8, 62.) (On R58 to R61.) -/
def Obligations.EventPinCaptures : Prop :=
  ∀ (s : State) (n : Fin 32) (p : Port) (rising : Bool) (hit : Hit),
    (s.dev.eioMode n = 3 → s.dev.bit (R.EIOn_STAT n) 2 = false → s.dev.eioSelects n rising = true →
      ∀ t, t = s.dev.monoAt (16 + n) hit →
      (∀ l, (s.dev.eioAt n).lastAcc = some l → l + 50 * 2 ^ 16 ≤ t) →
      Completes (.eioCaptureEdge n rising hit) s (fun e =>
        (e.eioAt n).seq = ((s.dev.eioAt n).seq + 1) % 2 ^ 16 ∧ (e.eioAt n).lastAcc = some t ∧
        (e.eioAt n).level = rising ∧
        ((s.dev.eioAt n).fifo.length < 64 → (e.eioAt n).fifo = (s.dev.eioAt n).fifo ++
            [⟨rising, s.dev.clkSrc, lessPs (s.dev.stampAt (s.dev.eioTb n) (16 + n) hit)
              (signed 16 (s.dev.nat (R.EIOn_DLY n))), (s.dev.eioAt n).seq⟩] ∧
          e.nat (R.EIOn_FIFO_LVL n) = (s.dev.eioAt n).fifo.length + 1 ∧
          e.rd (R.EIOn_OVF n) = s.dev.rd (R.EIOn_OVF n)) ∧
        (64 ≤ (s.dev.eioAt n).fifo.length → (e.eioAt n).fifo = (s.dev.eioAt n).fifo ∧
          e.rd (R.EIOn_OVF n) = satAdd (s.dev.rd (R.EIOn_OVF n)) 1 ∧ e.bit (R.EIOn_STAT n) 5 = true) ∧
        (∀ m : Nat, m ≠ n → e.eioAt m = s.dev.eioAt m) ∧ s.dev.OtherBits e (R.EIOn_STAT n) [5] ∧
        s.dev.Frame e [.eio] [R.EIOn_FIFO_LVL n, R.EIOn_CAP0 n, R.EIOn_CAP1 n, R.EIOn_CAP2 n, R.EIOn_CAP3 n,
          R.EIOn_OVF n, R.EIOn_STAT n])) ∧
    (s.dev.eioMode n = 3 →
      (s.dev.bit (R.EIOn_STAT n) 2 = false ∧ s.dev.eioSelects n rising = true ∧
        (∃ l, (s.dev.eioAt n).lastAcc = some l ∧ s.dev.monoAt (16 + n) hit < l + 50 * 2 ^ 16)) ∨
      (s.dev.bit (R.EIOn_STAT n) 2 = true ∧ rising = !s.dev.bit (R.EIOn_CFG n) 6) →
      Completes (.eioCaptureEdge n rising hit) s (fun e =>
        e.rd (R.EIOn_DROP n) = satAdd (s.dev.rd (R.EIOn_DROP n)) 1 ∧ (e.eioAt n).level = rising ∧
        (e.eioAt n).fifo = (s.dev.eioAt n).fifo ∧ (e.eioAt n).seq = (s.dev.eioAt n).seq ∧
        (e.eioAt n).lastAcc = (s.dev.eioAt n).lastAcc ∧ (∀ m : Nat, m ≠ n → e.eioAt m = s.dev.eioAt m) ∧
        s.dev.Frame e [.eio] [R.EIOn_DROP n])) ∧
    (s.dev.eioMode n ≠ 3 ∨ (s.dev.bit (R.EIOn_STAT n) 2 = false ∧ s.dev.eioSelects n rising = false) ∨
        (s.dev.bit (R.EIOn_STAT n) 2 = true ∧ rising = s.dev.bit (R.EIOn_CFG n) 6) →
      Completes (.eioCaptureEdge n rising hit) s (fun e => (e.eioAt n).level = rising ∧
        (e.eioAt n).fifo = (s.dev.eioAt n).fifo ∧ (e.eioAt n).seq = (s.dev.eioAt n).seq ∧
        (∀ m : Nat, m ≠ n → e.eioAt m = s.dev.eioAt m) ∧ s.dev.Frame e [.eio] [])) ∧
    (s.dev.commands p → Completes (.eioPop p n) s (fun e => (e.eioAt n).fifo = (s.dev.eioAt n).fifo.tail ∧
      (e.eioAt n).seq = (s.dev.eioAt n).seq ∧ (∀ m : Nat, m ≠ n → e.eioAt m = s.dev.eioAt m) ∧
      s.dev.Frame e [.eio] [R.EIOn_FIFO_LVL n, R.EIOn_CAP0 n, R.EIOn_CAP1 n, R.EIOn_CAP2 n, R.EIOn_CAP3 n])) ∧
    (∀ c rest, (s.dev.eioAt n).fifo = c :: rest → s.dev.bit (R.EIOn_CFG n) 12 = true → s.dev.ringRoom 0 16 = true →
      Completes (.eioFifoToRing n) s (fun e => (e.eioAt n).fifo = rest ∧
        (e.ringsAt 0).staged = (s.dev.ringsAt 0).staged ++
          [⟨4, (s.dev.ringsAt 0).seq, captureBody n c, none, s.dev.nowNs⟩] ∧
        (e.ringsAt 0).seq = ((s.dev.ringsAt 0).seq + 1) % 2 ^ 32 ∧ (∀ k, k ≠ 0 → e.ringsAt k = s.dev.ringsAt k) ∧
        (∀ m : Nat, m ≠ n → e.eioAt m = s.dev.eioAt m) ∧
        s.dev.Frame e [.eio, .rings] [R.EIOn_FIFO_LVL n, R.EIOn_CAP0 n, R.EIOn_CAP1 n, R.EIOn_CAP2 n,
          R.EIOn_CAP3 n]))

/-- A capture pin held active for more than its timeout without an accepted edge enters the stuck state with its sticky
flag; one inactive for 1 µs leaves it. Neither changes another pin's registers, what any pin has captured or
scheduled, or any time base. (On R61.) -/
def Obligations.EventPinStuck : Prop :=
  ∀ (s : State) (n : Fin 32),
    (s.dev.eioMode n = 3 → s.dev.nat (R.EIOn_STUCK n) ≠ 0 → s.dev.eioActive n = true →
      s.dev.bit (R.EIOn_STAT n) 2 = false →
      (s.dev.eioAt n).stuckAt + s.dev.nat (R.EIOn_STUCK n) * 1000 < s.dev.nowNs →
      Completes (.eioStuckTimeout n) s (fun e => e.bit (R.EIOn_STAT n) 2 = true ∧ e.bit (R.EIOn_STAT n) 3 = true ∧
        s.dev.OtherBits e (R.EIOn_STAT n) [2, 3] ∧ e.tb = s.dev.tb ∧
        (∀ m, { e.eioAt m with pin := none } = { s.dev.eioAt m with pin := none }) ∧
        ∀ m : Nat, m < 32 → m ≠ n → e.rd (R.EIOn_STAT m) = s.dev.rd (R.EIOn_STAT m))) ∧
    (s.dev.bit (R.EIOn_STAT n) 2 = true → s.dev.eioActive n = false → (s.dev.eioAt n).idleAt + 1000 ≤ s.dev.nowNs →
      Completes (.eioStuckRelease n) s (fun e => e.bit (R.EIOn_STAT n) 2 = false ∧
        s.dev.OtherBits e (R.EIOn_STAT n) [2] ∧ e.eio = s.dev.eio ∧ e.tb = s.dev.tb ∧
        ∀ m : Nat, m < 32 → m ≠ n → e.rd (R.EIOn_STAT m) = s.dev.rd (R.EIOn_STAT m)))

/-! ### Interpolators, timestamp units, PPS outputs -/

/-- On the root the line of a position that does not serve is calibrated when its period has passed; a table with every
tap between 2 ps and 20 ps is accepted for it and waits for the swap; another is rejected and counted. The swap lets
that line serve; a position that places edges defers it while an edge is within 10 ns, and from 1 024 deferrals on
takes the first TIME cycle without one. A line older than four periods shows STALE. CKSUM 3 sets CFG_ERR. (Model
choices: log 8, 20, 62.) (On R72 to R74, R84, R95.) -/
def Obligations.InterpolatorCalibration : Prop :=
  ∀ (s : State) (pos : Fin 62) (hits : List Nat) (p : Port) (n : Fin 8) (v : Word) (h : LineHid),
    h = s.dev.linesAt pos →
    (s.dev.clkSrc = 0 → h.calibrating = false →
      (∀ t, (h.line (!h.serving)).start = some t → t + s.dev.calPeriod ≤ s.dev.nat R.SYS_UPTIME) →
      Completes (.tsuCalStart pos) s (fun e => (e.linesAt pos).calibrating = true ∧
        ((e.linesAt pos).line (!h.serving)).start = some (s.dev.nat R.SYS_UPTIME) ∧
        ((e.linesAt pos).line (!h.serving)).tab = (h.line (!h.serving)).tab ∧
        (e.linesAt pos).line h.serving = h.line h.serving ∧
        (e.linesAt pos).serving = h.serving ∧ (∀ m : Nat, m ≠ pos → e.linesAt m = s.dev.linesAt m) ∧
        s.dev.Frame e [.lines] [])) ∧
    (s.dev.clkSrc ≠ 0 → Completes (.tsuCalStart pos) s (fun e => e = s.dev)) ∧
    (h.calibrating = true → Completes (.tsuCalComplete pos hits) s (fun e =>
      (e.linesAt pos).calibrating = false ∧ (e.linesAt pos).serving = h.serving ∧
      (e.linesAt pos).line h.serving = h.line h.serving ∧
      (tapsOk hits = true → (e.linesAt pos).swapDue = true ∧
        (e.linesAt pos).line (!h.serving) =
          ⟨tapCentres 0 hits, some (s.dev.nat R.SYS_UPTIME), (h.line (!h.serving)).start, false⟩ ∧
        s.dev.Frame e [.lines] ([R.TSU_CAL_STAT, R.TSU_CAL_AGE] ++ pmcRegs)) ∧
      (tapsOk hits = false → (e.linesAt pos).line (!h.serving) = h.line (!h.serving) ∧
        (e.linesAt pos).swapDue = h.swapDue ∧
        e.rd R.TSU_CAL_FAIL = satAdd (s.dev.rd R.TSU_CAL_FAIL) 1) ∧
      ∀ m : Nat, m ≠ pos → e.linesAt m = s.dev.linesAt m)) ∧
    (∀ atEpoch : Bool, h.swapDue = true → s.dev.clkSrc = 0 → atEpoch = true ∨ 1024 ≤ h.deferrals →
      Completes (.tsuLineSwap pos atEpoch) s (fun e =>
        (s.dev.placesEdges pos = false ∨ s.dev.edgeNear pos = false →
          (e.linesAt pos).serving = !h.serving ∧ (e.linesAt pos).swapDue = false) ∧
        (s.dev.placesEdges pos = true → s.dev.edgeNear pos = true →
          (e.linesAt pos).serving = h.serving ∧ (e.linesAt pos).swapDue = true ∧
          (e.linesAt pos).deferrals = if h.deferrals < 1024 then h.deferrals + 1 else h.deferrals) ∧
        (e.linesAt pos).a = h.a ∧ (e.linesAt pos).b = h.b ∧
        (∀ m : Nat, m ≠ pos → e.linesAt m = s.dev.linesAt m) ∧ s.dev.Frame e [.lines] [])) ∧
    Completes (.tsuCalStale pos) s (fun e =>
      (∀ isB t, (h.line isB).acc = some t → t + 4 * s.dev.calPeriod < s.dev.nat R.SYS_UPTIME →
        ((e.linesAt pos).line isB).stale = true ∧ e.bit R.TSU_CAL_STAT 31 = true) ∧
      (∀ isB, ((e.linesAt pos).line isB).tab = (h.line isB).tab) ∧ (e.linesAt pos).serving = h.serving ∧
      (∀ m : Nat, m ≠ pos → e.linesAt m = s.dev.linesAt m) ∧
      s.dev.Frame e [.lines] [R.TSU_CAL_STAT, R.TSU_CAL_AGE]) ∧
    (s.dev.commands p → Completes (.tsuCfgWrite p n v) s (fun e =>
      (wfld v 1 0 = 3 → e.bit (R.TSUn_STAT n) 6 = true ∧ s.dev.OtherBits e (R.TSUn_STAT n) [6] ∧
        s.dev.Frame e [] [R.TSUn_STAT n]) ∧
      (wfld v 1 0 ≠ 3 → e.rd (R.TSUn_CFG n) = v &&& 0xB ∧ s.dev.Frame e [] [R.TSUn_CFG n])))

/-- A PPS write is held and read back; when it is applied the setting is in effect and RUN follows the enable, the
width's range and the time base, enabled and set, and is 0 in RC bypass; a width out of range sets CFG_ERR; a pulse
in progress ends after its width. (Model choices: log 19.) (On R90 to R92.) -/
def Obligations.PpsSettings : Prop :=
  ∀ (s : State) (p : Port) (m : Fin 8) (v : Word),
    (s.dev.commands p →
      Completes (.ppsSettingsWrite p m .cfg v) s (fun e => e.rd (R.PPSm_CFG m) = v &&& 0x1FF ∧
        (e.ppsAt m).pend = (s.dev.ppsAt m).pend ++ [(.cfg, v &&& 0x1FF)] ∧ (e.ppsAt m).cfg = (s.dev.ppsAt m).cfg ∧
        (∀ k : Nat, k ≠ m → e.ppsAt k = s.dev.ppsAt k) ∧ s.dev.Frame e [.pps] [R.PPSm_CFG m]) ∧
      Completes (.ppsSettingsWrite p m .ofs v) s (fun e => e.rd (R.PPSm_OFS m) = v ∧
        (e.ppsAt m).pend = (s.dev.ppsAt m).pend ++ [(.ofs, v)] ∧ s.dev.Frame e [.pps] [R.PPSm_OFS m]) ∧
      Completes (.ppsSettingsWrite p m .width v) s (fun e => e.rd (R.PPSm_WIDTH m) = v ∧
        (e.ppsAt m).pend = (s.dev.ppsAt m).pend ++ [(.width, v)] ∧ s.dev.Frame e [.pps] [R.PPSm_WIDTH m]) ∧
      Completes (.ppsSettingsWrite p m .dly v) s (fun e => e.rd (R.PPSm_DLY m) = v &&& 0xFFFF ∧
        (e.ppsAt m).pend = (s.dev.ppsAt m).pend ++ [(.dly, v &&& 0xFFFF)] ∧ s.dev.Frame e [.pps] [R.PPSm_DLY m])) ∧
    (∀ rest, (s.dev.ppsAt m).pend = (.cfg, v) :: rest → Completes (.ppsSettingsApply m) s (fun e =>
      (e.ppsAt m).cfg = v ∧ (e.ppsAt m).pend = rest ∧ (e.ppsAt m).ofs = (s.dev.ppsAt m).ofs ∧
      (e.ppsAt m).width = (s.dev.ppsAt m).width ∧ (e.ppsAt m).dly = (s.dev.ppsAt m).dly ∧
      (e.bit (R.PPSm_STAT m) 0 = true ↔ wbit v 0 = true ∧ ppsWidthOk v (s.dev.ppsAt m).width = true ∧
        s.dev.bit (R.TBn_CFG (wfld v 3 1)) 4 = true ∧ s.dev.isSet (wfld v 3 1) = true ∧ s.dev.clkSrc ≠ 2) ∧
      (ppsWidthOk v (s.dev.ppsAt m).width = false → e.bit (R.PPSm_STAT m) 2 = true) ∧
      (s.dev.bit (R.PPSm_STAT m) 1 = false → (e.ppsAt m).pin =
        if wbit v 8 = false ∨ s.dev.owns = true then some (wbit v 6) else none) ∧
      s.dev.OtherBits e (R.PPSm_STAT m) [0, 2] ∧ (∀ k : Nat, k ≠ m → e.ppsAt k = s.dev.ppsAt k) ∧
      s.dev.Frame e [.pps, .out] [R.PPSm_STAT m])) ∧
    (s.dev.bit (R.PPSm_STAT m) 1 = true → s.dev.ppsWidthOver m = true →
      Completes (.ppsPulseEnd m) s (fun e => e.bit (R.PPSm_STAT m) 1 = false ∧
        e.out = .trail (.pps m) (s.dev.ppsRest m) :: s.dev.out ∧
        e.ppsAt m = { s.dev.ppsAt m with pin := s.dev.ppsRest m } ∧ (∀ k : Nat, k ≠ m → e.ppsAt k = s.dev.ppsAt k) ∧
        s.dev.OtherBits e (R.PPSm_STAT m) [1] ∧ s.dev.Frame e [.pps, .out] [R.PPSm_STAT m]))

/-- An enabled output on a set time base drives its edge to its active level at the whole second plus OFS, the edge
leaving DLY earlier, unless it is gated or follows the last pulse too closely; it then counts in SUPP. The grid runs
over every integer. (Model choices: log 8, 19, 62.) (On R90 to R95, R100.) -/
def Obligations.PpsEdges : Prop :=
  ∀ (s : State) (m : Fin 8) (k : Int) (h : PpsHid), h = s.dev.ppsAt m → wbit h.cfg 0 = true →
    s.dev.bit (R.TBn_CFG (wfld h.cfg 3 1)) 4 = true → s.dev.isSet (wfld h.cfg 3 1) = true →
    ppsWidthOk h.cfg h.width = true →
    ∀ target emitAt : Int, target = k * (ppsPeriod (wfld h.cfg 5 4) : Nat) + h.ofs.toInt →
      emitAt = target - signed 16 h.dly.toNat →
      ((s.dev.tbAt (wfld h.cfg 3 1)).setAt + 1000 * 2 ^ 48) * 1000 ≤ target * 2 ^ 48 →
      ∀ on, on = s.dev.placeOn (wfld h.cfg 3 1) (48 + m) (emitAt * (2 ^ 48 : Nat)) →
      Completes (.ppsEdge m k) s (fun e =>
        (s.dev.gated (wbit h.cfg 7) (wfld h.cfg 3 1) = true ∨ (∃ t, h.lastTrail = some t ∧ emitAt < t + 50000) →
          e.out = s.dev.out ∧ e.ppsAt m = h ∧ e.rd (R.PPSm_SUPP m) = satAdd (s.dev.rd (R.PPSm_SUPP m)) 1) ∧
        (s.dev.gated (wbit h.cfg 7) (wfld h.cfg 3 1) = false →
          (∀ t, h.lastTrail = some t → t + 50000 ≤ emitAt) →
          (∃ driven, (driven = true ↔ wbit h.cfg 8 = false ∨ s.dev.owns = true) ∧
            (e.ppsAt m).pin = (if driven then some (!wbit h.cfg 6) else none) ∧
            e.out = .lead (.pps m) (target * 2 ^ 32 / 1000) on.1 on.2 (!wbit h.cfg 6) driven :: s.dev.out) ∧
          (e.ppsAt m).lastTrail = some (emitAt + (h.width.toNat * 1000 : Nat)) ∧ e.bit (R.PPSm_STAT m) 1 = true ∧
          e.rd (R.PPSm_SUPP m) = s.dev.rd (R.PPSm_SUPP m)) ∧
        (∀ j : Nat, j ≠ m → e.ppsAt j = s.dev.ppsAt j) ∧ s.dev.OtherBits e (R.PPSm_STAT m) [0, 1, 2] ∧
        s.dev.Frame e [.pps, .out] [R.PPSm_STAT m, R.PPSm_SUPP m])

/-! ### The clock, the alignment epoch and the tick -/

/-- With no command waiting, one TIME clock passes: every time base advances by the increment of its clock source and
the slope step of its phase adjustment, which is at most what remains; the steering phase of a set one gains what
the count gained beyond the model. No command waits after it. (Taking a clock when the queue is empty, and the
model's own clock, are the model's choice, log 6 and 68.) (On R30, R35, R39, R142.) -/
def Obligations.IdleStepAdvancesTime : Prop :=
  ∀ (s : State), s.pending = [] → ∃ t, step s = .next t ∧ t.pending = [] ∧
    (∀ n : Fin 8, ∀ st : Int, st = (s.dev.padjStep n).1 →
      (t.dev.tbAt n).count = ((s.dev.tbAt n).count + s.dev.activeInc n + st) % (2 ^ 48 * secUnit : Nat) ∧
      (t.dev.tbAt n).rem = (s.dev.tbAt n).rem - st ∧ st.natAbs ≤ (s.dev.tbAt n).rem.natAbs ∧
      (s.dev.clkSrc = 2 → st = 0) ∧
      (s.dev.isSet n = true → (t.dev.tbAt n).steer = (s.dev.tbAt n).steer + s.dev.activeInc n + st - s.dev.modelStep n) ∧
      (t.dev.tbAt n).inc = (s.dev.tbAt n).inc ∧ (t.dev.tbAt n).armed = (s.dev.tbAt n).armed) ∧
    t.dev.clk = { s.dev.clk with mono := s.dev.clk.mono + s.dev.cycle48 } ∧
    s.dev.Keeps [.regs, .tb, .clk] t.dev

/-- At the alignment epoch each time base takes its committed increments, slope and phase adjustment, a pending PABORT
discards what remained, and each synthesizer takes the word written for it, which in RC bypass is held. No count
steps. A tick counts one millisecond of uptime, whatever else it does; before an image is applied it does nothing
else but count a bypass. (On R16, R17, R33, R38 to R40, R170, R475.) -/
def Obligations.EpochsAndTicks : Prop :=
  ∀ (s : State) (inp : TickIn), Completes .alignmentEpoch s (fun e =>
    (∀ n : Fin 8, (e.tbAt n).inc = (s.dev.tbAt n).incC ∧ (e.tbAt n).binc = (s.dev.tbAt n).bincC ∧
      (e.tbAt n).slope = s.dev.nat (R.TBn_PSLOPE n) ∧ (e.tbAt n).padjNew = none ∧ (e.tbAt n).abortPend = false ∧
      (e.tbAt n).rem = (if (s.dev.tbAt n).abortPend then 0 else (s.dev.tbAt n).owed) ∧
      (e.tbAt n).count = (s.dev.tbAt n).count ∧ (e.tbAt n).leap = (s.dev.tbAt n).leap) ∧
    (s.dev.clkSrc = 2 → e.osyn = s.dev.osyn) ∧
    (s.dev.clkSrc ≠ 2 → ∀ k : Fin 4, ∀ w, (s.dev.osynAt k).next = some w → (e.osynAt k).next = none ∧
      e.nat (R.OSYNk_WORD_INT k) = w / 2 ^ 48 % 2 ^ 10 ∧ e.nat (R.OSYNk_WORD_FHI k) = w / 2 ^ 32 % 2 ^ 16 ∧
      e.nat (R.OSYNk_WORD_FLO k) = w % 2 ^ 32 ∧ e.bit (R.OSYNk_STAT k) 0 = true) ∧
    s.dev.Keeps (touches .alignmentEpoch) e) ∧
  Completes (.qualificationTick inp) s (fun e =>
    e.rd R.SYS_UPTIME = satAdd (s.dev.rd R.SYS_UPTIME) 1 ∧
    (s.dev.sys.applied = false → s.dev.Frame e [] [R.SYS_UPTIME, R.CLK_BYPMS]) ∧
    s.dev.Keeps (touches (.qualificationTick inp)) e)

/-- At the armed instant an unset time base takes the target, is set, and forgets the pending adjustment. (Model
choices: log 27.) (On R42.) -/
def Obligations.InitialSetTakes : Prop :=
  ∀ (s : State) (n : Fin 8) (a : SetArm), (s.dev.tbAt n).armed = some a → s.dev.isSet n = false →
    Completes (.tbSetApply n) s (fun e => (e.tbAt n).count = a.target % (2 ^ 48 * secUnit) ∧ e.isSet n = true ∧
      (e.tbAt n).armed = none ∧ (e.tbAt n).owed = 0 ∧ (e.tbAt n).steer = 0 ∧ (e.tbAt n).inc = (s.dev.tbAt n).inc ∧
      e.int (R.TBn_LEAPCNT n) = 0 ∧ e.eio = s.dev.eio ∧ e.rings = s.dev.rings ∧ e.flash = s.dev.flash)

/-! ### References -/

/-- A held-off reference whose hold-off passes is FAILED and counted; a waiting one without a defect becomes QUALIFIED;
a TREND defect whose conditions are met for every time base that has it ends; a signal's or a message's timeout is
noted once it has passed. (Model choices: log 68.) (On R133, R134, R149.) -/
def Obligations.ReferenceTimers : Prop :=
  ∀ (s : State) (r : Fin 24),
    (s.dev.refState r = 2 → s.dev.fld (R.REFr_HOLDOFF r) 13 0 ≤ (s.dev.refsAt r).timer + 1 →
      Completes (.refHoldoffExpire r) s (fun e => e.refState r = 1 ∧
      e.rd (R.REFr_FAILS r) = satAdd (s.dev.rd (R.REFr_FAILS r)) 1 ∧ e.rd (R.REFr_TIMER r) = 0 ∧
      (∀ n : Fin 8, e.suspect r n = false ∧ (e.rnAt (8 * r + n)).waitTest = false) ∧
      (∀ q : Nat, q < 24 → q ≠ r → e.refState q = s.dev.refState q) ∧ s.dev.Keeps (touches (.refHoldoffExpire r)) e)) ∧
    (s.dev.refState r = 3 → s.dev.fld (R.REFr_STAT r) 14 8 = 0 →
      s.dev.fld (R.REFr_WTR r) 11 0 * 1000 ≤ (s.dev.refsAt r).timer + 1 → Completes (.refWtrExpire r) s (fun e =>
      e.refState r = 4 ∧ e.rd (R.REFr_TIMER r) = 0 ∧
      (s.dev.refPhase r = true → ∀ n : Fin 8, s.dev.refServes r n = true → (e.rnAt (8 * r + n)).waitTest = true) ∧
      (∀ q : Nat, q < 24 → q ≠ r → e.refState q = s.dev.refState q) ∧ s.dev.Keeps (touches (.refWtrExpire r)) e)) ∧
    ((∀ n : Fin 8, (s.dev.rnAt (8 * r + n)).trend = true → s.dev.trendClear r n = true) →
      Completes (.trendDefectClear r) s (fun e => (∀ n : Fin 8, (e.rnAt (8 * r + n)).trend = false) ∧
        e.bit (R.REFr_STAT r) 12 = false ∧ s.dev.Keeps (touches (.trendDefectClear r)) e)) ∧
    (∀ t, s.dev.losAfter r = some t → (s.dev.refsAt r).sigAt + t ≤ s.dev.nowNs →
      Completes (.refMsgTimeout r true) s (fun e => e.refsAt r = { s.dev.refsAt r with los := true } ∧
        (∀ q : Nat, q ≠ r → e.refsAt q = s.dev.refsAt q) ∧ s.dev.Frame e [.refs] [])) ∧
    (2 ≤ r.val → r.val ≤ 9 → (s.dev.refsAt r).msgAt + 5000000000 ≤ s.dev.nowNs →
      Completes (.refMsgTimeout r false) s (fun e => e.refsAt r = { s.dev.refsAt r with msg := true } ∧
        (∀ q : Nat, q ≠ r → e.refsAt q = s.dev.refsAt q) ∧ s.dev.Frame e [.refs] []))

/-- An on-time edge of a PPS input inside its window is delivered as a sample of every time base the reference serves,
by the centre of the tap it hit; another is dropped and counted. An IRIG-B frame is delivered likewise, and its
extensions' quality code and leap announcement are taken; one that is not valid is counted. (Model choices: log 24,
64.) (On R123, R125, R126, R154.) -/
def Obligations.ReferenceEdges : Prop :=
  ∀ (s : State) (r : Fin 24) (hit : Hit) (code : Fin 8) (el : List Nat), s.dev.refPhase r = true →
    ((10 ≤ r.val ∧ r.val ≤ 13) ∨ r.val = 16 → ∀ pos t, pos = (if r.val = 16 then 60 else 46 + r.val) →
      t = s.dev.sinceSet (s.dev.stampAt 0 pos hit) →
      Completes (.refPpsEdge r hit) s (fun e =>
        (s.dev.ppsDropped r t = true → e.rd (R.REFr_GLITCH r) = satAdd (s.dev.rd (R.REFr_GLITCH r)) 1 ∧
          s.dev.Frame e [] [R.REFr_GLITCH r]) ∧
        (s.dev.ppsDropped r t = false →
          e.refsAt r = { s.dev.refsAt r with los := false, lastEdge := some t, sigAt := s.dev.nowNs } ∧
          (∀ q : Nat, q ≠ r → e.refsAt q = s.dev.refsAt q) ∧
          (∀ n : Fin 8, s.dev.refServes r n = true →
            (e.rnAt (8 * r + n)).inbox = (s.dev.rnAt (8 * r + n)).inbox ++ [s.dev.edgeSample n (s.dev.stampAt n pos hit)
              (s.dev.fld (R.EB_RUNC r) 30 0) (s.dev.nat (R.EB_RPATH r)) 80 true]) ∧
          s.dev.Frame e [.refs, .rn] []))) ∧
    (r.val = 14 ∨ r.val = 15 →
      (irigValid el = false → Completes (.irigbFrameRx r code el) s (fun e =>
        e.rd (R.REFr_GLITCH r) = satAdd (s.dev.rd (R.REFr_GLITCH r)) 1 ∧ s.dev.Frame e [] [R.REFr_GLITCH r])) ∧
      (irigValid el = true → ∀ u, u = (if irigExt code el then irigUnc (irigTq el)
          else some (s.dev.fld (R.EB_RUNC r) 30 0)) →
        Completes (.irigbFrameRx r code el) s (fun e => (e.refsAt r).los = false ∧
          (irigExt code el = true → e.fld (R.REFr_QLMSG r) 31 24 = 4 ∧ e.fld (R.REFr_QLMSG r) 15 0 = irigTq el ∧
            (e.refsAt r).level = irigLevel (irigTq el) ∧ (e.refsAt r).msg = false ∧
            (e.refsAt r).leap = (List.range 8).findSome? (fun n => if s.dev.refServes r n then
              irigLeap el (s.dev.utcAtEdge n (c16 (s.dev.count n))).toNat else none)) ∧
          (irigExt code el = false → e.rd (R.REFr_QLMSG r) = s.dev.rd (R.REFr_QLMSG r) ∧ (e.refsAt r).leap = none ∧
            ((e.refsAt r).msg = true ↔ s.dev.bit (R.REFr_CFG r) 7 = true)) ∧
          ((e.refsAt r).tod = true ↔
            ∃ n : Fin 8, s.dev.refServes r n = true ∧ s.dev.irigMatches n (c16 (s.dev.count n)) code el = false) ∧
          (∀ n : Fin 8, s.dev.refServes r n = true →
            (e.rnAt (8 * r + n)).inbox = (s.dev.rnAt (8 * r + n)).inbox ++ [s.dev.edgeSample n (c16 (s.dev.count n))
              (u.getD 0) (s.dev.nat (R.EB_RPATH r)) (if irigExt code el then 10000 else 80) u.isSome]) ∧
          (∀ q : Nat, q ≠ r → e.refsAt q = s.dev.refsAt q) ∧ s.dev.Frame e [.refs, .rn] [R.REFr_QLMSG r])))

/-- With POLL set the poll string is sent, a second after the latest one, and one reply awaited for 500 ms; the first
pattern that matches a line gives the level; a line that comes unpolled or late is counted; three polls in a row
without a reply, or a listener silent for 3 s, are a MSG defect. (Model choices: log 68.) (On R127, R154.) -/
def Obligations.AtomicClockUart : Prop :=
  ∀ (s : State) (line : List Byte),
    (s.dev.bit R.REF_ATOM_CFG 8 = true → (∀ t, s.dev.atom.pollAt = some t → t + 1000000000 ≤ s.dev.nowNs) →
      Completes .atomPoll s (fun e => e.atom = { s.dev.atom with waiting := true, pollAt := some s.dev.nowNs } ∧
        e.out = .atomTx s.dev.atom.pollString :: s.dev.out ∧ s.dev.Frame e [.atom, .out] [])) ∧
    (s.dev.bit R.REF_ATOM_CFG 8 = false ∨ (s.dev.atom.waiting = true ∧ s.dev.pollOver = false) →
      Completes (.atomReplyRx line) s (fun e =>
        e.atom = { s.dev.atom with waiting := false, misses := 0, lineAt := s.dev.nowNs } ∧ (e.refsAt 16).msg = false ∧
        (∀ i l, matchPattern 0 s.dev.atom.patterns line = some (i, l) → (e.refsAt 16).level = l ∧
          e.fld (R.REFr_QLMSG 16) 31 24 = 5 ∧ e.fld (R.REFr_QLMSG 16) 15 0 = i % 2 ^ 16) ∧
        (matchPattern 0 s.dev.atom.patterns line = none → (e.refsAt 16).level = 15) ∧
        (∀ q, q ≠ 16 → e.refsAt q = s.dev.refsAt q) ∧ s.dev.Frame e [.atom, .refs, .fresh] [R.REFr_QLMSG 16])) ∧
    (s.dev.bit R.REF_ATOM_CFG 8 = true → s.dev.atom.waiting = false ∨ s.dev.pollOver = true →
      Completes (.atomReplyRx line) s (fun e => e.rd (R.REFr_GLITCH 16) = satAdd (s.dev.rd (R.REFr_GLITCH 16)) 1 ∧
        e.atom = { s.dev.atom with lineAt := s.dev.nowNs } ∧ s.dev.Frame e [.atom] [R.REFr_GLITCH 16])) ∧
    (s.dev.bit R.REF_ATOM_CFG 8 = true → s.dev.atom.waiting = true → s.dev.pollOver = true →
      Completes .atomReplyTimeout s (fun e =>
        e.atom = { s.dev.atom with waiting := false, misses := s.dev.atom.misses + 1 } ∧
        (2 ≤ s.dev.atom.misses → (e.refsAt 16).msg = true) ∧ (s.dev.atom.misses < 2 → e.refs = s.dev.refs) ∧
        s.dev.Frame e [.atom, .refs] [])) ∧
    (s.dev.bit R.REF_ATOM_CFG 8 = false → s.dev.atom.lineAt + 3000000000 ≤ s.dev.nowNs →
      Completes .atomListenSilence s (fun e => (e.refsAt 16).msg = true ∧
        (∀ q, q ≠ 16 → e.refsAt q = s.dev.refsAt q) ∧ s.dev.Frame e [.refs] []))

/-- A Custodian's lockout and force are stored, and its accept bits are kept for the next tick. What the selector
chooses for a time base is a selectable reference; without a force and without the mate among the candidates, and
with REVERT set, no selectable phase reference ranks before a chosen one; a frequency reference is chosen only when
no phase reference may be. (Model choices: log 25.) (On R135, R137 to R141, R151.) -/
def Obligations.SelectionIsBest : Prop :=
  (∀ (s : State) (p : Port) (n : Fin 8) (v : Word), s.dev.commands p →
    Completes (.refLockoutWrite p v) s (fun e => e.rd R.REF_LOCKOUT = v &&& 0xFFFFFF ∧ s.dev.Frame e [] [R.REF_LOCKOUT]) ∧
    Completes (.refForceWrite p n v) s (fun e => e.rd (R.REF_TBn_FORCE n) = v &&& 0x8000001F ∧
      (e.selAt n).forceNew = true ∧ (∀ m : Nat, m ≠ n → e.selAt m = s.dev.selAt m) ∧
      s.dev.Frame e [.sel] [R.REF_TBn_FORCE n]) ∧
    Completes (.refAcceptWrite p n v) s (fun e => (e.selAt n).accept = (s.dev.selAt n).accept ||| (v &&& 0xFFFFFF) ∧
      (∀ m : Nat, m ≠ n → e.selAt m = s.dev.selAt m) ∧ s.dev.Frame e [.sel] [])) ∧
  (∀ (d : Dev) (n : Fin 8) (r : Nat) (forced : Bool), d.choose n = (some r, forced) →
    r < 24 ∧ d.selectable r n = true ∧
    (d.refPhase r = false → ∀ q, q < 24 → q ≠ 17 → d.selectable q n = true → d.refPhase q = false) ∧
    (forced = false → r ≠ 17 → d.refPhase r = true → d.bit (R.REF_TBn_CFG n) 10 = true →
      ∀ q, q < 24 → q ≠ 17 → d.selectable q n = true → d.refPhase q = true → d.ranksBefore n q r = false))

/-! ### Servo loops, models and snapshots -/

/-- A loop update that misses its deadline, or whose core is being reset, is discarded and counted; it keeps every
increment, and the bound goes on with the previous p, counted as well. The 16th tick in a row with a miss raises the
core's stall source. (Model choices: log 68.) (On R17, R109, R159.) -/
def Obligations.LoopDeadlines : Prop :=
  ∀ (s : State) (n : Fin 8) (core : Fin 4) (endUs : Nat),
    (∀ c, c = Instr.loopDeadlineMiss n ∨ (c = Instr.servoLoopUpdate n endUs ∧ s.dev.clkSrc = 0 ∧
        (500 < endUs ∨ s.dev.coreStopped (n % 4) = true)) →
      Completes c s (fun e => e.rd R.SRV_DEADLINE_MISS = satAdd (s.dev.rd R.SRV_DEADLINE_MISS) 1 ∧
        (e.selAt n).fresh = none ∧ n.val % 4 ∈ e.srvg.missNow ∧ e.srvg.misses = s.dev.srvg.misses ∧
        e.tb = s.dev.tb ∧ (∀ m : Nat, m ≠ n → e.selAt m = s.dev.selAt m) ∧
        ((s.dev.ebAt n).due = true → e.rd (R.EBn_MISS n) = satAdd (s.dev.rd (R.EBn_MISS n)) 1 ∧
          e.bit (R.EBn_STAT n) 6 = true ∧ (e.ebAt n).due = false ∧ (e.ebAt n).pNew = (s.dev.ebAt n).pOld) ∧
        s.dev.Keeps (touches (.loopDeadlineMiss n)) e)) ∧
    Completes (.servoStall core) s (fun e =>
      (16 ≤ s.dev.missRun core → s.dev.coreStopped core = false → e.bit R.SRV_STAT 7 = true ∧
        s.dev.OtherBits e R.SRV_STAT [7] ∧ s.dev.Raised e (8 + core) ∧ s.dev.FaultFrame e [] [R.SRV_STAT]) ∧
      (s.dev.missRun core < 16 ∨ s.dev.coreStopped core = true → e = s.dev))

/-- A loop update that meets its deadline moves the correction of a set time base by at most 40 000 ppt and keeps the
integrator within 100 000 000 ppt when it changes it; the first update after a closing takes the correction from the
present increment (R169); an unset time base runs on the model alone; an open loop keeps both; in RC bypass there is
no update. (Model choices: log 14, 15 and 26.) (On R160, R163, R182, R548.) -/
def Obligations.LoopUpdateLimits : Prop :=
  ∀ (s : State) (n : Fin 8) (endUs : Nat), (s.dev.srvAt n).closeDue = false → s.dev.coreStopped (n % 4) = false →
    (s.dev.clkSrc = 2 → Completes (.servoLoopUpdate n endUs) s (fun e => e = s.dev)) ∧
    (s.dev.clkSrc = 0 → endUs ≤ 500 → Completes (.servoLoopUpdate n endUs) s (fun e =>
      (s.dev.loopOpen n = true → (e.srvAt n).c = (s.dev.srvAt n).c ∧ (e.srvAt n).i = (s.dev.srvAt n).i) ∧
      (s.dev.loopOpen n = false → s.dev.isSet n = false → (e.srvAt n).c = 0 ∧ (e.srvAt n).i = 0) ∧
      (s.dev.loopOpen n = false → s.dev.isSet n = true → ∀ k, (s.dev.srvAt n).retake = some k →
        (s.dev.selAt n).pullDue = false → (e.srvAt n).c = s.dev.presentCorr n ∧ (e.srvAt n).retake = none) ∧
      (s.dev.loopOpen n = false → s.dev.isSet n = true → (s.dev.srvAt n).retake = none →
        (s.dev.srvAt n).c - 40000 ≤ (e.srvAt n).c ∧ (e.srvAt n).c ≤ (s.dev.srvAt n).c + 40000 ∧
        ((e.srvAt n).i = (s.dev.srvAt n).i ∨ (-100000000 ≤ (e.srvAt n).i ∧ (e.srvAt n).i ≤ 100000000))) ∧
      (∀ m : Nat, m ≠ n → e.srvAt m = s.dev.srvAt m) ∧ s.dev.Keeps (touches (.servoLoopUpdate n endUs)) e))

/-- A Custodian opens a loop that may be opened, with effect at the open instant; closing it and the host watchdog's
expiry leave it to close at the next update. (Model choices: log 26.) (On R166, R168, R169.) -/
def Obligations.LoopOpensAndCloses : Prop :=
  ∀ (s : State) (p : Port) (n : Fin 8) (v : Word),
    (s.dev.commands p → s.dev.bit (R.SRVn_CFG n) 11 = false → Completes (.srvLoopOpen p n v) s (fun e =>
      e.rd (R.SRVn_WR_IGN n) = satAdd (s.dev.rd (R.SRVn_WR_IGN n)) 1 ∧ s.dev.Frame e [] [R.SRVn_WR_IGN n])) ∧
    (s.dev.commands p → s.dev.bit (R.SRVn_CFG n) 11 = true → s.dev.loopOpen n = false →
      Completes (.srvLoopOpen p n v) s (fun e => e.rd (R.SRVn_CTL n) = (v &&& 7) ||| 0x80000000 ∧
        e.srvAt n = { s.dev.srvAt n with openDue := 1, closeDue := false } ∧
        (∀ m : Nat, m ≠ n → e.srvAt m = s.dev.srvAt m) ∧ s.dev.Frame e [.srv] [R.SRVn_CTL n])) ∧
    ((s.dev.srvAt n).openDue ≠ 0 → Completes (.srvOpenEffect n) s (fun e => e.loopOpen n = true ∧
      e.bit (R.SRVn_STAT n) 7 = false ∧ s.dev.OtherBits e (R.SRVn_STAT n) [6, 7] ∧ (e.srvAt n).openDue = 0 ∧
      (e.tbAt n).hostIncAge = 0 ∧ (e.tbAt n).count = (s.dev.tbAt n).count ∧
      (∀ m : Nat, m ≠ n → e.srvAt m = s.dev.srvAt m ∧ e.tbAt m = s.dev.tbAt m) ∧
      s.dev.Frame e [.srv, .tb] [R.SRVn_STAT n])) ∧
    (s.dev.commands p → s.dev.loopOpen n = true → Completes (.srvLoopClose p n v) s (fun e =>
      e.rd (R.SRVn_CTL n) = v &&& 7 ∧ e.srvAt n = { s.dev.srvAt n with openDue := 0, closeDue := true } ∧
      e.loopOpen n = true ∧ (∀ m : Nat, m ≠ n → e.srvAt m = s.dev.srvAt m) ∧
      s.dev.Frame e [.srv] [R.SRVn_CTL n])) ∧
    (s.dev.loopOpen n = true → s.dev.fld (R.SRVn_HOSTWD n) 15 0 ≠ 0 → (s.dev.srvAt n).closeDue = false →
      Completes (.srvHostWatchdog n) s (fun e => (e.srvAt n).closeDue = true ∧ e.bit (R.SRVn_STAT n) 10 = true ∧
        s.dev.OtherBits e (R.SRVn_STAT n) [10] ∧ s.dev.Raised e 12 ∧ (∀ m : Nat, m ≠ n → e.srvAt m = s.dev.srvAt m) ∧
        s.dev.FaultFrame e [.srv] [R.SRVn_STAT n]))

/-- A fit over the epochs of a model that learns becomes the model, its frequency uncertainty the floor and six standard
errors within the limit; with fewer than ten epochs there is none. A sensor is good again after 1 000 good readings
in a row; the atomic model returns while ATOM_10M is free of defect. (Model choices: log 14, 26, 65.) (On R173,
R175, R176, R178.) -/
def Obligations.ModelsFollow : Prop :=
  ∀ (s : State) (m i : Fin 2) (f : FitIn),
    (s.dev.learning m = true → ∀ v, s.dev.fitOf m f.weights = some v → Completes (.modelFit m f) s (fun e =>
      (e.modelsAt m).y0 = v.y0 ∧ (e.modelsAt m).a = v.a ∧ (e.modelsAt m).c = v.c ∧ (e.modelsAt m).tref = v.tref ∧
      (e.modelsAt m).tm = v.tm ∧
      e.nat (R.SRV_Mm_Y m) = min (s.dev.nat (R.SRV_Mm_YFLOOR m) + 6 * v.sy) (65535 * 65536) ∧
      e.bit (R.SRV_Mm_STAT m) 31 = decide (s.dev.fld (R.SRV_Mm_LCFG m) 15 8 ≤ (s.dev.modelsAt m).learned / 60) ∧
      (∀ k : Nat, k ≠ m → e.modelsAt k = s.dev.modelsAt k) ∧ s.dev.Keeps (touches (.modelFit m f)) e)) ∧
    (s.dev.learning m = false ∨ ((s.dev.modelsAt m).epochs.filter (fun e => e.on)).length < 10 →
      Completes (.modelFit m f) s (fun e => e = s.dev)) ∧
    (1000 ≤ (if i.val = 0 then s.dev.srvg.good0 else s.dev.srvg.good1) →
      Completes (.tempSensorRecover i) s (fun e => e.bit R.SRV_STAT (2 + i) = false ∧
        s.dev.OtherBits e R.SRV_STAT [2 + i] ∧
        s.dev.FaultFrame e [] [R.SRV_STAT, R.SRV_Mm_K 0, R.SRV_Mm_K 1])) ∧
    ((if i.val = 0 then s.dev.srvg.good0 else s.dev.srvg.good1) < 1000 →
      Completes (.tempSensorRecover i) s (fun e => e = s.dev)) ∧
    (s.dev.bit R.SRV_CFG 3 = true → s.dev.atomOk = true → Completes .atomModelReturn s (fun e =>
      e.bit R.SRV_STAT 1 = true ∧ s.dev.Keeps (touches .atomModelReturn) e)) ∧
    (s.dev.atomOk = false → Completes .atomModelReturn s (fun e => e = s.dev)) ∧
    (s.dev.bit R.SRV_CFG 3 = false → Completes .atomModelReturn s (fun e => e.rd R.SRV_STAT = s.dev.rd R.SRV_STAT ∧
      s.dev.Frame e [.srvg] []))

/-- A snapshot captures the linear value of every selected time base and of no other, and sets DONE. (On R49.) -/
def Obligations.SnapshotCaptures : Prop :=
  ∀ (s : State) (p : Port) (v : Word), s.dev.commands p → Completes (.tbSnap p v) s (fun e =>
    (∀ n : Fin 8, v.getLsbD n = true → e.nat (R.TBn_SNAP_SEC_HI n) = cSec (s.dev.count n) / 2 ^ 32 % 2 ^ 16 ∧
      e.nat (R.TBn_SNAP_SEC_LO n) = cSec (s.dev.count n) % 2 ^ 32 ∧ e.nat (R.TBn_SNAP_NS n) = cNs (s.dev.count n) ∧
      e.nat (R.TBn_SNAP_FRAC n) = cFrac (s.dev.count n)) ∧
    (∀ n : Fin 8, v.getLsbD n = false → ∀ a ∈ [R.TBn_SNAP_SEC_HI n, R.TBn_SNAP_SEC_LO n, R.TBn_SNAP_NS n,
      R.TBn_SNAP_FRAC n], e.rd a = s.dev.rd a) ∧
    e.bit R.TB_SNAP_STAT 0 = true ∧
    s.dev.Frame e [] (R.TB_SNAP_STAT :: (List.range 8).flatMap (fun n =>
      [R.TBn_SNAP_SEC_HI n, R.TBn_SNAP_SEC_LO n, R.TBn_SNAP_NS n, R.TBn_SNAP_FRAC n])))

/-! ### GNSS -/

/-- The front-end sequences start and complete in order, with FE_DONE after both start sequences and a bad read raised;
the host's transaction runs when no sequence does; with its clock the AGC sends its level and moves it toward the
target, and without it does nothing; JAM follows the low-gain side; a slip disqualifies the stream for 1 s, a lost
strobe loses its channels until it returns. (Model choices: log 66, 68.) (On R192 to R196.) -/
def Obligations.FrontEndAndStreams : Prop :=
  ∀ (s : State) (p : Port) (v rx : Word) (i : Fin 4) (iq : List Iq) (move : Fin 17) (reads : List Word),
    (s.dev.clkSrc = 0 → s.dev.gnss.feRun = [] → s.dev.gnss.feHost ≠ 2 → Completes .feStartSequence s (fun e =>
      e.gnss = { s.dev.gnss with feRun := [(0, 0), (1, 0)], feStarted := [] } ∧ e.bit R.GNSS_STAT 0 = false ∧
      e.out = ((s.dev.feSeq 0 0).map (fun x => Out.feSpi 0 x.len x.data)).reverse ++ s.dev.out ∧
      s.dev.OtherBits e R.GNSS_STAT [0] ∧ s.dev.Frame e [.gnss, .out] [R.GNSS_STAT])) ∧
    (∀ cs kind rest, s.dev.gnss.feRun = (cs, kind) :: rest → Completes (.feSequenceDone reads) s (fun e =>
      e.gnss.feRun = rest ∧ (kind = 0 → cs ∈ e.gnss.feStarted) ∧
      (2 ≤ e.gnss.feStarted.length → e.bit R.GNSS_STAT 0 = true) ∧
      (feBad (s.dev.feSeq cs kind) reads = true → e.bit R.GNSS_STAT 1 = true ∧ s.dev.Raised e 14) ∧
      s.dev.OtherBits e R.GNSS_STAT [0, 1] ∧ s.dev.FaultFrame e [.gnss] [R.GNSS_STAT, R.GACQ_STAT])) ∧
    (s.dev.commands p → s.dev.bit R.GNSS_FESPI_CTL 31 = false → v.getLsbD 31 = true → s.dev.gnss.feRun = [] →
      Completes (.feSpiGo p v) s (fun e => e.rd R.GNSS_FESPI_CTL = v &&& 0x8100003F ∧ e.gnss.feHost = 2 ∧
        e.out = .feSpi (wfld v 24 24) (wfld v 5 0) (s.dev.rd R.GNSS_FESPI_TX) :: s.dev.out ∧
        s.dev.Frame e [.gnss, .out] [R.GNSS_FESPI_CTL])) ∧
    (s.dev.gnss.feHost = 2 → Completes (.feSpiDone rx) s (fun e => e.rd R.GNSS_FESPI_RX = rx ∧
      e.bit R.GNSS_FESPI_CTL 31 = false ∧ e.gnss = { s.dev.gnss with feHost := 0 } ∧
      s.dev.Frame e [.gnss, .out] [R.GNSS_FESPI_RX, R.GNSS_FESPI_CTL])) ∧
    (s.dev.clkSrc = 0 → Completes (.agcUpdate i iq move) s (fun e =>
      let level := s.dev.fld (R.GNSS_Ss_AGC i) 27 16
      let target := s.dev.fld (R.GNSS_Ss_AGCCFG i) 25 16
      let up := decide (fractionF iq < target) != s.dev.bit (R.GNSS_Ss_AGCCFG i) 30
      e.fld (R.GNSS_Ss_AGC i) 9 0 = fractionF iq ∧
      e.fld (R.GNSS_Ss_AGC i) 27 16 = (if fractionF iq = target then level
        else if up = true then min 4095 (level + max 1 move.val) else level - max 1 move.val) ∧
      e.out = .agc i (sigmaDelta level iq.length (Map.get s.dev.gnss.sd (fun _ => 0) i)).1 :: s.dev.out ∧
      s.dev.Frame e [.out, .gnss] [R.GNSS_Ss_AGC i])) ∧
    (s.dev.clkSrc ≠ 0 → Completes (.agcUpdate i iq move) s (fun e => e = s.dev)) ∧
    (s.dev.lowGain i = true → s.dev.bit R.GNSS_STAT (28 + i) = false → Completes (.jamSet i) s (fun e =>
      e.bit R.GNSS_STAT (28 + i) = true ∧ s.dev.Raised e 92 ∧ s.dev.OtherBits e R.GNSS_STAT [28 + i] ∧
      s.dev.FaultFrame e [] [R.GNSS_STAT])) ∧
    (s.dev.lowGain i = false → s.dev.bit R.GNSS_STAT (28 + i) = true → Completes (.jamClear i) s (fun e =>
      e.bit R.GNSS_STAT (28 + i) = false ∧ s.dev.OtherBits e R.GNSS_STAT [28 + i] ∧
      s.dev.FaultFrame e [.gnss] [R.GNSS_STAT])) ∧
    Completes (.ferrySlip i) s (fun e => e.rd (R.GNSS_Ss_SLIP i) = satAdd (s.dev.rd (R.GNSS_Ss_SLIP i)) 1 ∧
      e.bit R.GNSS_STAT (24 + i) = true ∧ e.bit R.GNSS_STAT (16 + i) = true ∧
      s.dev.OtherBits e R.GNSS_STAT [24 + i, 16 + i] ∧ s.dev.Raised e (15 + i) ∧
      (∀ c : Fin 256, e.bit (R.GCHc_STAT c) 28 =
        (s.dev.bit (R.GCHc_STAT c) 28 || (s.dev.chUsed c && s.dev.chStream c == i))) ∧
      Map.get e.gnss.ferry (fun _ => 8) i = 8 ∧
      s.dev.FaultFrame e [.ch, .gnss] (R.GNSS_Ss_SLIP i :: R.GNSS_STAT :: (List.range 256).map R.GCHc_STAT)) ∧
    (s.dev.bit R.GNSS_STAT (20 + i) = false → Completes (.strobeLoss i) s (fun e =>
      e.bit R.GNSS_STAT (20 + i) = true ∧ s.dev.OtherBits e R.GNSS_STAT [20 + i] ∧
      e.rd (R.GNSS_Ss_LOS i) = satAdd (s.dev.rd (R.GNSS_Ss_LOS i)) 1 ∧ s.dev.Raised e (15 + i) ∧
      (∀ c : Fin 256, s.dev.chUsed c = true → s.dev.chStream c = i → s.dev.chState c ≠ 0 → e.chState c = 4) ∧
      s.dev.FaultFrame e [.ch, .gnss] (R.GNSS_Ss_LOS i :: R.GNSS_STAT :: R.GNSS_CHUSE ::
        ((List.range 256).map R.GCHc_STAT ++ (List.range 256).map R.GCHc_LOSTCNT)))) ∧
    (s.dev.clkSrc = 0 → s.dev.bit R.GNSS_STAT (20 + i) = true → Completes (.strobeReturn i) s (fun e =>
      e.bit R.GNSS_STAT (20 + i) = false ∧ s.dev.OtherBits e R.GNSS_STAT [20 + i] ∧
      Map.get e.gnss.ferry (fun _ => 8) i = 8 ∧ s.dev.Frame e [.gnss] [R.GNSS_STAT])) ∧
    (s.dev.bit R.GNSS_STAT (16 + i) = true →
      Map.get s.dev.gnss.slipAt (fun _ => 0) i + 1000000000 ≤ s.dev.nowNs → Completes (.streamDisqEnd i) s (fun e =>
      e.bit R.GNSS_STAT (16 + i) = false ∧ s.dev.OtherBits e R.GNSS_STAT [16 + i] ∧
      (∀ c : Fin 256, e.bit (R.GCHc_STAT c) 28 =
        (s.dev.bit (R.GCHc_STAT c) 28 && !(s.dev.chUsed c && s.dev.chStream c == i))) ∧
      s.dev.Frame e [.ch] (R.GNSS_STAT :: (List.range 256).map R.GCHc_STAT)))

/-- A channel's correlators take their stream's samples one after the other: each steps both oscillators and adds to the
twelve sums; at a 1 ms boundary of the code the sums, limited to 24 bits, are dumped, and the firmware's words take
effect. Where the channel does not correlate nothing happens. (Model choices: log 28.) (On R190, R198, R199.) -/
def Obligations.CorrelatorsTakeSamples : Prop :=
  ∀ (s t : State) (c : Fin 256) (x : Iq) (xs ys : List Iq),
    (s.dev.correlates c = false → Completes (.correlatorDump c ⟨xs⟩) s (fun e => e = s.dev)) ∧
    (exec (.correlatorDump c ⟨xs⟩) s = .next t →
      exec (.correlatorDump c ⟨xs ++ ys⟩) s = exec (.correlatorDump c ⟨ys⟩) t) ∧
    (s.dev.correlates c = true → Completes (.correlatorDump c ⟨[x]⟩) s (fun e =>
      let sig := s.dev.chSig c
      let w := s.dev.nat (R.GCHc_CODEFREQ c)
      let o := (s.dev.osc c).moveCode sig w
      let acc := addTerms (s.dev.chAt c).acc (tapTerms sig (s.dev.chSvid c) (s.dev.fld (R.GCHc_TAPSP c) 5 0)
        (s.dev.fld (R.GCHc_TAPSP c) 13 8) (s.dev.bit (R.GNSS_Ss_AGCCFG (s.dev.chStream c)) 31) x (s.dev.osc c))
      e.osc c = ⟨o.code % 2 ^ 46, o.sec % 2 ^ 11, wrap64 ((s.dev.osc c).carr + s.dev.int (R.GCHc_CARRFREQ c))⟩ ∧
      e.chState c = s.dev.chState c ∧ (∀ k : Nat, k ≠ c → e.chAt k = s.dev.chAt k) ∧
      (crosses sig w (s.dev.osc c) = false →
        e.chAt c = { s.dev.chAt c with acc := acc } ∧ s.dev.Frame e [.ch] (chOscRegs c)) ∧
      (crosses sig w (s.dev.osc c) = true →
        e.chAt c = { s.dev.chAt c with words := none, acc := [], dumpDue := true } ∧
        (∀ j : Fin 12, e.rd (R.GCHc_VE_I c + 4 * j) = BitVec.ofInt 32 (satTap (acc.getD j 0))) ∧
        e.rd (R.GCHc_DUMPCNT c) = s.dev.rd (R.GCHc_DUMPCNT c) + 1 ∧
        (∀ u v, (s.dev.chAt c).words = some (u, v) → e.rd (R.GCHc_CODEFREQ c) = BitVec.ofNat 32 u ∧
          e.rd (R.GCHc_CARRFREQ c) = BitVec.ofInt 32 (v + s.dev.ifWord (s.dev.chStream c))) ∧
        e.rd R.GNSS_FW_MISS =
          (if (s.dev.chAt c).dumpDue = true then satAdd (s.dev.rd R.GNSS_FW_MISS) 1 else s.dev.rd R.GNSS_FW_MISS) ∧
        s.dev.Frame e [.ch, .gnss] (chOscRegs c ++ [R.GCHc_STAT c, R.GCHc_DUMPCNT c, R.GCHc_CODEFREQ c,
          R.GCHc_CARRFREQ c, R.GNSS_FW_MISS] ++ pmcRegs ++ (List.range 12).map (fun j => R.GCHc_VE_I c + 4 * j)))))

/-- Processing a dump writes the firmware's words and moves a channel to TRACK after 20 locked dumps and to SYNC at its
boundaries; a missed one is counted and the 64th in a second raised; a channel that fails is LOST, with the
followers of a lead, and then released; at a millisecond the channels of satellites excluded since are released and
every other one is latched; a handover takes the channel with the source's tracking. (Model choices: log 28, 62,
68.) (On R200 to R202, R204, R205, R208.) -/
def Obligations.ChannelsTrack : Prop :=
  ∀ (s : State) (c src : Fin 256) (x : ProcIn) (ahead : List Nat) (a : ChanIn),
    ((s.dev.chAt c).dumpDue = true → Completes (.dumpProcess c x) s (fun e => (e.chAt c).dumpDue = false ∧
      (e.chAt c).words = some (s.dev.procWords c x) ∧ (e.chAt c).rate = x.rate ∧
      e.fld (R.GCHc_STAT c) 9 0 = min x.cn0 1023 ∧
      e.chState c = (if s.dev.chState c = 1 ∧ 800 ≤ x.lock ∧ 19 ≤ (s.dev.chAt c).lockRun then 2
        else if s.dev.chState c = 2 ∧ x.found = true then 3 else s.dev.chState c) ∧
      (s.dev.chState c = 3 → (e.chAt c).lockLow = (if x.lock < 500 then (s.dev.chAt c).lockLow + 1 else 0) ∧
        (e.chAt c).cnLow = (if x.cn0 < s.dev.fld R.GNSS_LOOPCFG 7 0 * 10 then (s.dev.chAt c).cnLow + 1 else 0)) ∧
      (∀ k : Nat, k ≠ c → e.chAt k = s.dev.chAt k) ∧
      s.dev.Frame e [.ch] ([R.GCHc_STAT c, R.GNSS_CHUSE] ++ pmcRegs))) ∧
    ((s.dev.chAt c).dumpDue = true → Completes (.dumpMiss c) s (fun e =>
      e.chAt c = { s.dev.chAt c with dumpDue := false } ∧ e.rd R.GNSS_FW_MISS = satAdd (s.dev.rd R.GNSS_FW_MISS) 1 ∧
      e.gnss = { s.dev.gnss with fwMisses :=
        s.dev.nowNs :: s.dev.gnss.fwMisses.filter (fun t => decide (s.dev.nowNs < t + 1000000000)) } ∧
      s.dev.Frame e [.ch, .gnss] (R.GNSS_FW_MISS :: pmcRegs))) ∧
    (64 ≤ (s.dev.gnss.fwMisses.filter (fun t => decide (s.dev.nowNs < t + 1000000000))).length →
      Completes .gnssFwStall s (fun e =>
        e.gnss = { s.dev.gnss with fwMisses := [] } ∧ s.dev.Raised e 13 ∧ s.dev.FaultFrame e [.gnss] [])) ∧
    (s.dev.chState c = 1 → (s.dev.chAt c).stAt + 500000000 ≤ s.dev.nowNs → Completes (.pullinTimeout c) s (fun e =>
      e.chState c = 4 ∧ e.rd (R.GCHc_LOSTCNT c) = satAdd (s.dev.rd (R.GCHc_LOSTCNT c)) 1 ∧
      s.dev.Frame e [.ch] [R.GCHc_STAT c, R.GCHc_LOSTCNT c, R.GNSS_CHUSE])) ∧
    (s.dev.chState c = 2 ∨ s.dev.chState c = 3 → 100 ≤ (s.dev.chAt c).cnLow ∨ 50 ≤ (s.dev.chAt c).lockLow →
      Completes (.trackLoss c) s (fun e => e.chState c = 4 ∧
      (s.dev.chFollower c = false → ∀ k : Fin 256, s.dev.chUsed k = true → s.dev.chFollower k = true →
        s.dev.fld (R.GCHc_CFG k) 15 8 = c → s.dev.chState k ≠ 0 → e.chState k = 4) ∧
      s.dev.Frame e [.ch] (R.GNSS_CHUSE ::
        ((List.range 256).map R.GCHc_STAT ++ (List.range 256).map R.GCHc_LOSTCNT)))) ∧
    (s.dev.chState c = 4 → (s.dev.chAt c).stAt + 1000000000 ≤ s.dev.nowNs → Completes (.lostTimeout c) s (fun e =>
      e.chState c = 0 ∧ e.chUsed c = false ∧ e.chAt c = {} ∧ (∀ k : Nat, k ≠ c → e.chAt k = s.dev.chAt k) ∧
      s.dev.Frame e [.ch] [R.GCHc_CFG c, R.GCHc_STAT c, R.GNSS_CHUSE])) ∧
    Completes (.measLatch ahead) s (fun e =>
      (∀ k : Fin 256, (s.dev.chAt k).excl = true → e.chUsed k = false ∧ e.chState k = 0) ∧
      (∀ k : Fin 256, s.dev.chUsed k = true → (s.dev.chAt k).excl = false →
        let o := s.dev.oscAhead k (ahead.getD k 0)
        e.chUsed k = true ∧ e.nat (R.GCHc_MEAS_EPOCH k) = s.dev.msCount ∧
        e.nat (R.GCHc_MEAS_CODE_INT k) = o.sec % 2 ^ 11 * 2 ^ 16 + o.code / 2 ^ 32 % 2 ^ 14 ∧
        e.nat (R.GCHc_MEAS_CODE_FRAC k) = o.code % 2 ^ 32 ∧
        e.rd (R.GCHc_MEAS_CARR_CYC k) = BitVec.ofInt 32 (o.carr / (2 ^ 32 : Nat)) ∧
        e.nat (R.GCHc_MEAS_CARR_FRAC k) = (o.carr % (2 ^ 32 : Nat)).toNat) ∧
      s.dev.Keeps (touches (.measLatch ahead)) e) ∧
    (s.dev.mayAssign a = true → s.dev.handoverOk c src a = true → s.dev.mayTake c a = true →
      Completes (.channelHandover c src a) s (fun e => e.chUsed c = true ∧ e.chState c = 1 ∧ e.chSig c = a.sig ∧
        e.chSvid c = a.svid ∧ e.chStream c = a.stream ∧
        e.rd (R.GCHc_CODEFREQ c) = BitVec.ofNat 32 (s.dev.handWords src a).1 ∧
        e.rd (R.GCHc_CARRFREQ c) = BitVec.ofInt 32 ((s.dev.handWords src a).2 + s.dev.ifWord a.stream) ∧
        (a.role = false → src.val < 16 → 16 ≤ c.val → a.sig.val = s.dev.chSig src → e.chUsed src = false) ∧
        s.dev.Keeps [.regs, .ch] e))

/-- An exclusion is stored, and marks the channels that track the satellites; a decoded unit of a channel in SYNC fills
the next entry of the navigation ring, or with NAVDMA goes to DMA ring 0, or is counted as dropped; an ephemeris
with PASS makes the orbit known and takes check NAV's tests; a read pointer's write frees entries. (Model choices:
log 28, 66.) (On R208 to R212, R291.) -/
def Obligations.NavigationData : Prop :=
  ∀ (s : State) (p : Port) (v : Word) (x : ExclReg) (c : Fin 256) (u : NavUnit),
    (s.dev.commands p → Completes (.gnssExclWrite p x v) s (fun e => e.rd x.at_.1 = v &&& x.at_.2 ∧
      (∀ k : Fin 256, (e.chAt k).excl =
        ((s.dev.chAt k).excl || (s.dev.chUsed k && e.excluded (s.dev.chSig k) (s.dev.chSvid k)))) ∧
      s.dev.Frame e [.ch] [x.at_.1])) ∧
    (s.dev.commands p → Completes (.navRdWrite p v) s (fun e => e.nat R.GNSS_NAV_RD = wfld v 7 0 ∧
      e.gnss.navCount = (s.dev.fld R.GNSS_NAV_WR 7 0 + 256 - wfld v 7 0) % 256 ∧
      s.dev.Frame e [.gnss] [R.GNSS_NAV_RD])) ∧
    (s.dev.chState c ≠ 3 → Completes (.navUnitDecoded c u) s (fun e => e = s.dev)) ∧
    (s.dev.chState c = 3 → s.dev.bit (R.GCHc_STAT c) 28 = false →
      (s.dev.chAt c).since + u.ago * nsUnit / 1000 ≤ s.dev.clk.mono → Completes (.navUnitDecoded c u) s (fun e =>
        let unit := unitCode (s.dev.chSig c) u.sub
        let ver := verdictOf unit (s.dev.chAt c).lastD (u.bits.map (navBits unit))
        let entry := s.dev.navEntry c ver u
        e.gnss.navSeq = (s.dev.gnss.navSeq + 1) % 65536 ∧
        (∀ k : Nat, k ≠ c → e.chAt k = s.dev.chAt k) ∧
        (ver ≠ 0 ∨ u.eph = none → e.gnss.orbits = s.dev.gnss.orbits ∧ e.gnss.rejected = s.dev.gnss.rejected) ∧
        (∀ y, ver = 0 → u.eph = some y → s.dev.chSat c ∈ e.gnss.orbits ∧
          (s.dev.chSat c ∈ e.gnss.rejected ↔
            50000 < y.jump ∨ ((s.dev.ebAt 0).bounded = true ∧ s.dev.bound 0 + 1000000000 < y.tow.natAbs))) ∧
        (s.dev.bit R.GNSS_CFG 7 = false → s.dev.gnss.navCount < 256 →
          e.nat R.GNSS_NAV_WR = (s.dev.fld R.GNSS_NAV_WR 7 0 + 1) % 256 ∧ e.gnss.navCount = s.dev.gnss.navCount + 1 ∧
          (∀ w : Fin 32, e.nat (R.GNSS_NAV (s.dev.fld R.GNSS_NAV_WR 7 0) w) = beAt entry (4 * w) 4) ∧
          s.dev.Frame e [.gnss, .ch] (R.GNSS_NAV_WR ::
            (List.range 32).map (R.GNSS_NAV (s.dev.fld R.GNSS_NAV_WR 7 0)))) ∧
        (s.dev.bit R.GNSS_CFG 7 = false → 256 ≤ s.dev.gnss.navCount →
          e.rd R.GNSS_NAV_DROP = satAdd (s.dev.rd R.GNSS_NAV_DROP) 1 ∧ e.gnss.navCount = s.dev.gnss.navCount ∧
          s.dev.Frame e [.gnss, .ch] [R.GNSS_NAV_DROP]) ∧
        (s.dev.bit R.GNSS_CFG 7 = true → s.dev.ringRoom 0 128 = true →
          (e.ringsAt 0).staged = (s.dev.ringsAt 0).staged ++ [⟨0x05, (s.dev.ringsAt 0).seq, entry,
            some R.GNSS_NAV_DROP, s.dev.nowNs⟩] ∧ e.rd R.GNSS_NAV_DROP = s.dev.rd R.GNSS_NAV_DROP) ∧
        (s.dev.bit R.GNSS_CFG 7 = true → s.dev.ringRoom 0 128 = false →
          (e.ringsAt 0).staged = (s.dev.ringsAt 0).staged ∧
          e.rd R.GNSS_NAV_DROP = satAdd (s.dev.rd R.GNSS_NAV_DROP) 1) ∧
        s.dev.Keeps (touches (.navUnitDecoded c u)) e))

/-- A sweep starts where a satellite is left to search; each search of the running sweep notes its detection, and the
last one ends the sweep, which starts again until four satellites are in SYNC; a detection's verification takes a
free channel or is counted false; an aided search goes from searching to its end and is retried after 30 s. (Model
choices: log 28, 62, 66.) (On R213 to R216.) -/
def Obligations.Acquisition : Prop :=
  ∀ (s : State) (p : Port) (v : Word) (c : Fin 256) (sig : Fin 8) (svid : Fin 256) (ratio code : Nat) (bin dopp : Int)
      (ms : Option Nat) (a : ChanIn) (h : AidHit) (k : Fin 16) (half centre span tcoh blocks : Nat),
    (∀ cmd, cmd = Instr.acqSweepTimer ∨ (cmd = Instr.acqSweepCmd p v ∧ s.dev.commands p ∧ v.getLsbD 0 = true) →
      s.dev.bit R.GACQ_STAT 30 = false → s.dev.bursting = false → s.dev.clkSrc = 0 →
      (∃ y ∈ coldOrder, s.dev.coldWanted y = true) → Completes cmd s (fun e =>
        e.bit R.GACQ_STAT 30 = true ∧ e.bit R.GACQ_STAT 31 = true ∧
        e.fld R.GACQ_STAT 15 0 = (s.dev.fld R.GACQ_STAT 15 0 + 1) % 65536 ∧
        e.fld R.GACQ_STAT 29 16 = s.dev.fld R.GACQ_STAT 29 16 ∧
        e.gnss = { s.dev.gnss with sweepAt := none, sweepPts := 0 } ∧ s.dev.Frame e [.gnss] [R.GACQ_STAT])) ∧
    (s.dev.bit R.GACQ_STAT 30 = true → s.dev.bursting = false → s.dev.clkSrc = 0 →
      s.dev.nextCold = some (sig.val, svid.val) →
      Completes (.acqSnapshotSearch sig svid ratio bin code ms) s (fun e =>
        let more := (restAfter (some (sig.val, svid.val)) coldOrder).any s.dev.coldWanted
        e.fld R.GACQ_STAT 27 25 = sig ∧ e.fld R.GACQ_STAT 23 16 = svid ∧
        e.gnss.detect = s.dev.gnss.detect ++
          (if s.dev.fld R.GACQ_CFG 31 24 ≤ ratio ∧ bin.natAbs * binHz sig ≤ s.dev.fld R.GACQ_CFG 15 0 then
            [⟨sig, svid, ratio, bin * binHz sig, code, s.dev.fld R.GACQ_STAT 15 0⟩] else []) ∧
        (more = true → e.bit R.GACQ_STAT 30 = true ∧ e.gnss.sweepAt = some (sig.val, svid.val) ∧
          e.gnss.sweepPts = s.dev.gnss.sweepPts + s.dev.searchPts sig ∧
          e.rd R.GACQ_SWEEP_MS = s.dev.rd R.GACQ_SWEEP_MS) ∧
        (more = false → e.rd R.GACQ_SWEEP_MS =
            BitVec.ofNat 32 (ms.getD ((s.dev.gnss.sweepPts + s.dev.searchPts sig) / 1600000)) ∧
          (s.dev.fourSync = true → e.bit R.GACQ_STAT 30 = false ∧ e.bit R.GACQ_STAT 31 = false) ∧
          (s.dev.fourSync = false → e.bit R.GACQ_STAT 30 = true ∧ e.gnss.sweepAt = none)) ∧
        s.dev.Frame e [.gnss] [R.GACQ_STAT, R.GACQ_SWEEP_MS])) ∧
    (∀ ok x rest, s.dev.gnss.detect = x :: rest → s.dev.tracked x.sig x.svid = false →
      s.dev.excluded x.sig x.svid = false → s.dev.clkSrc = 0 → Completes (.acqDetectionVerify ok c a) s (fun e =>
        e.gnss = { s.dev.gnss with detect := rest } ∧
        (ok = false → e.rd R.GACQ_FALSE = satAdd (s.dev.rd R.GACQ_FALSE) 1 ∧
          s.dev.Frame e [.gnss] [R.GACQ_FALSE, R.GACQ_STAT]) ∧
        (ok = true → e.rd R.GACQ_HITS = satAdd (s.dev.rd R.GACQ_HITS) 1 ∧
          e.rd R.GACQ_LAST_DOPP = BitVec.ofInt 32 x.dopp ∧
          (s.dev.chUsed c = false → a.role = false → a.sig.val = x.sig → a.svid.val = x.svid →
            s.dev.mayAssign a = true → s.dev.mayTake c a = true →
            e.chUsed c = true ∧ e.chState c = 1 ∧ e.chSig c = x.sig ∧ e.chSvid c = x.svid)) ∧
        s.dev.Keeps [.regs, .ch, .gnss] e)) ∧
    (s.dev.aidable sig svid = true → svidOk sig svid = true → s.dev.constUsed sig = true →
      s.dev.excluded sig svid = false → half = s.dev.aidHalf sig → span = s.dev.aidSpan sig → 2 * half ≤ 16 * 512 →
      s.dev.chUsed k = false ∨ s.dev.chState k = 4 →
      Completes (.aidedSearchStart k sig svid half centre dopp span tcoh blocks) s (fun e =>
        e.fld (R.GACQ_AIDk_STAT k) 31 29 = 1 ∧ e.fld (R.GACQ_AIDk_STAT k) 27 25 = sig ∧
        e.fld (R.GACQ_AIDk_STAT k) 23 16 = svid ∧ e.fld (R.GACQ_AIDk_STAT k) 15 0 = 0 ∧
        e.nat (R.GACQ_AIDk_WIN k) = half * 65536 + centre % 65536 ∧
        e.fld (R.GACQ_AIDk_DOPP k) 15 0 = span % 65536 ∧
        s.dev.Frame e [] [R.GACQ_AIDk_STAT k, R.GACQ_AIDk_WIN k, R.GACQ_AIDk_DOPP k, R.GACQ_AIDk_TINT k])) ∧
    (∀ part, s.dev.aidPart k (s.dev.fld (R.GACQ_AIDk_STAT k) 27 25) (h.code / 64) = some part →
      s.dev.fld (R.GACQ_AIDk_STAT k) 31 29 = 1 → h.asg.sig.val = s.dev.fld (R.GACQ_AIDk_STAT k) 27 25 →
      h.asg.svid.val = s.dev.fld (R.GACQ_AIDk_STAT k) 23 16 → h.asg.role = false → s.dev.mayAssign h.asg = true →
      s.dev.fld R.GACQ_CFG 31 24 ≤ h.ratio → s.dev.clkSrc = 0 →
      (h.dopp - signed 16 (s.dev.fld (R.GACQ_AIDk_DOPP k) 31 16)).natAbs ≤ s.dev.fld (R.GACQ_AIDk_DOPP k) 15 0 →
      Completes (.aidedSearchFound k h) s (fun e =>
        let ch := (s.dev.lostCh h.asg.sig h.asg.svid).getD k
        e.fld (R.GACQ_AIDk_STAT k) 31 29 = 2 ∧ e.fld (R.GACQ_AIDk_STAT k) 15 0 = (part + 1) % 65536 ∧
        e.chUsed ch = true ∧ e.chState ch = 1 ∧ e.chSig ch = h.asg.sig ∧ e.chSvid ch = h.asg.svid ∧
        s.dev.Keeps [.regs, .ch] e)) ∧
    (s.dev.fld (R.GACQ_AIDk_STAT k) 31 29 = 1 → Completes (.aidedSearchExhausted k) s (fun e =>
      e.fld (R.GACQ_AIDk_STAT k) 31 29 = 3 ∧ e.fld (R.GACQ_AIDk_STAT k) 15 0 = s.dev.aidParts k % 65536 ∧
      Map.get e.gnss.aidAt (fun _ => 0) k = s.dev.nowNs ∧ s.dev.Frame e [.gnss] [R.GACQ_AIDk_STAT k])) ∧
    (s.dev.fld (R.GACQ_AIDk_STAT k) 31 29 = 3 →
      Map.get s.dev.gnss.aidAt (fun _ => 0) k + 30000000000 ≤ s.dev.nowNs →
      s.dev.aidable (s.dev.fld (R.GACQ_AIDk_STAT k) 27 25) (s.dev.fld (R.GACQ_AIDk_STAT k) 23 16) = true →
      Completes (.aidedSearchRetry k) s (fun e => e.fld (R.GACQ_AIDk_STAT k) 31 29 = 1 ∧
        e.fld (R.GACQ_AIDk_STAT k) 15 0 = 0 ∧ s.dev.Frame e [] [R.GACQ_AIDk_STAT k]))

/-- 20 ms before the window the front-ends start; in the window it opens the gates, and once, 40 ms into it, counts a
miss of every gated channel that has not pulled in and gives it up at the third; after it the channels that it gates
stand, but for those whose orbit data are old; FULLINT opens the gates for 30 s. (On R218, R219.) -/
def Obligations.BurstWindows : Prop :=
  ∀ (s : State) (old : List Nat),
    (s.dev.bursting = true → (s.dev.msInSec + 20) % 1000 = s.dev.burstOfs → s.dev.gnss.feRun = [] →
      s.dev.gnss.feHost ≠ 2 → Completes .burstOnSequence s (fun e =>
      e.gnss = { s.dev.gnss with feRun := [(0, 1), (1, 1)] } ∧
      e.out = ((s.dev.feSeq 0 1).map (fun x => Out.feSpi 0 x.len x.data)).reverse ++ s.dev.out ∧
      s.dev.Frame e [.gnss, .out] [])) ∧
    (s.dev.inBurst = true → s.dev.gnss.window = false → Completes .burstWindowOpen s (fun e =>
      e.gnss = { s.dev.gnss with window := true } ∧
      (∀ c : Fin 256, e.chState c = if s.dev.chState c = 5 then 1 else s.dev.chState c) ∧
      s.dev.Frame e [.gnss, .ch] (R.GNSS_CHUSE :: channels.flatMap (fun c =>
        R.GCHc_STAT c :: R.GCHc_CODEFREQ c :: R.GCHc_CARRFREQ c :: chOscRegs c)))) ∧
    (s.dev.inBurst = true → s.dev.burstOfs + 40 ≤ s.dev.msInSec → Completes .burstMissCheck s (fun e =>
      (∀ c : Fin 256, s.dev.gatedCh c = true → s.dev.chState c = 1 →
        e.rd (R.GCHc_BURSTMISS c) = satAdd (s.dev.rd (R.GCHc_BURSTMISS c)) 1 ∧
        (2 ≤ (s.dev.chAt c).misses → e.chState c = 4 ∧ (e.chAt c).misses = 0) ∧
        ((s.dev.chAt c).misses < 2 → e.chState c = 1 ∧ (e.chAt c).misses = (s.dev.chAt c).misses + 1)) ∧
      (∀ c : Fin 256, s.dev.gatedCh c = true → s.dev.chState c ≠ 1 → (e.chAt c).misses = 0 ∧
        e.chState c = s.dev.chState c) ∧
      (∀ c : Fin 256, s.dev.gatedCh c = false → e.chAt c = s.dev.chAt c ∧ e.chState c = s.dev.chState c) ∧
      s.dev.Keeps [.regs, .ch] e)) ∧
    (s.dev.inBurst = false → Completes (.burstWindowClose old) s (fun e => e.gnss.window = false ∧
      e.gnss.feRun = s.dev.gnss.feRun ++
        (if s.dev.bursting = true ∧ s.dev.fullNow = false then [(0, 2), (1, 2)] else []) ∧
      (∀ c : Fin 256, e.chState c = if s.dev.gatedCh c = true ∧ c.val ∉ old ∧ (s.dev.chState c = 2 ∨ s.dev.chState c = 3)
        then 5 else s.dev.chState c) ∧
      s.dev.Frame e [.gnss, .ch, .out] (R.GNSS_CHUSE :: (List.range 256).map R.GCHc_STAT))) ∧
    (s.dev.bursting = true → s.dev.fld R.GNSS_BURST 31 20 ≠ 0 → Completes .burstFullInterval s (fun e =>
      e.gnss = { s.dev.gnss with fullUntil := cSec (s.dev.count 0) + 30 } ∧
      (∀ c : Fin 256, e.chState c = if s.dev.chState c = 5 then 1 else s.dev.chState c) ∧
      s.dev.Frame e [.gnss, .ch] (R.GNSS_CHUSE :: channels.flatMap (fun c =>
        R.GCHc_STAT c :: R.GCHc_CODEFREQ c :: R.GCHc_CARRFREQ c :: chOscRegs c))))

/-- An integrity epoch can only worsen a solution's state within its second, and a failed DANT check makes it SPOOFED or
worse; a solution epoch numbers the message and shows the solution's offset and uncertainty; while the tracking
firmware stands, as off the root PLL, there is neither; a resurvey waits for the next epoch. (Model choices: log 29,
67.) (On R229, R234, R237, R239, R243, R246, R250.) -/
def Obligations.SolutionsAndIntegrity : Prop :=
  ∀ (s : State) (p : Port) (v : Word) (a b : SolIn) (x y : IntegIn),
    (s.dev.trackFw = true → s.dev.bursting = false ∨ s.dev.inBurst = true → Completes (.integrityEpoch x y) s (fun e =>
      let dx := if s.dev.dantNow then s.dev.dant x else none
      integRank (e.solsAt 0).worst ≤ integRank (s.dev.solsAt 0).worst ∧
      (∀ w, dx = some (w, true) → (e.solsAt 0).failed.testBit 3 = true ∧ integRank (e.solsAt 0).worst ≤ 2) ∧
      (∀ w f, dx = some (w, f) → (e.solsAt 0).da = some w ∧ (e.solsAt 0).ran.testBit 3 = true) ∧
      (s.dev.solB = false → e.solsAt 1 = s.dev.solsAt 1) ∧
      (s.dev.solB = true → integRank (e.solsAt 1).worst ≤ integRank (s.dev.solsAt 1).worst) ∧
      e.gnss = { s.dev.gnss with
        jamPrev := s.dev.fld R.GNSS_STAT 31 28, navNew := none
        dantSec := if dx.isSome then some (cSec (s.dev.count 0)) else s.dev.gnss.dantSec } ∧
      s.dev.Frame e [.gnss, .sols] [])) ∧
    (s.dev.trackFw = false → Completes (.integrityEpoch x y) s (fun e => e = s.dev) ∧
      Completes (.gnssSolutionEpoch a b) s (fun e => e = s.dev)) ∧
    (s.dev.clkSrc ≠ 0 → s.dev.trackFw = false) ∧
    (s.dev.trackFw = true → s.dev.gnss.resurvey = false → Completes (.gnssSolutionEpoch a b) s (fun e =>
      let sol := (s.dev.solve 0 a).1
      e.fld (R.GNSS_SOLr_STAT 0) 15 0 = (s.dev.fld (R.GNSS_SOLr_STAT 0) 15 0 + 1) % 65536 ∧
      e.nat64 (R.GNSS_SOLr_M_LO 0) (R.GNSS_SOLr_M_HI 0) = (BitVec.ofInt 64 sol.m).toNat ∧
      (sol.kind = 0 → e.fld (R.GNSS_SOLr_STAT 0) 31 29 = 0 ∧ e.nat (R.GNSS_SOLr_U 0) = 0xFFFFFFFF) ∧
      (sol.kind ≠ 0 → e.nat (R.GNSS_SOLr_U 0) = min (s.dev.solU sol) 0xFFFFFFFE) ∧
      (s.dev.solB = false → e.solsAt 1 = s.dev.solsAt 1 ∧ e.rd (R.GNSS_SOLr_STAT 1) = s.dev.rd (R.GNSS_SOLr_STAT 1)) ∧
      s.dev.Keeps (touches (.gnssSolutionEpoch a b)) e)) ∧
    (s.dev.commands p → v.getLsbD 0 = true → s.dev.fld R.GNSS_TCFG 5 4 ≠ 1 → Completes (.gnssResurvey p v) s (fun e =>
      e.gnss = { s.dev.gnss with resurvey := true } ∧ s.dev.Frame e [.gnss] []))

/-! ### Ethernet ports -/

/-- The link comes up with preemption off, active, or under verification; it goes down with its FIFO dropped and counted
and preemption and pause in their initial state; the far end hears of a local fault; verification ends by a respond
mPacket or after three attempts; an express frame that nothing holds, or a pause, preempts at a permitted point.
(Model choices: log 30, 68.) (On R254, R258, R259.) -/
def Obligations.LinksAndPreemption : Prop :=
  ∀ (s : State) (n : Fin 8) (speed : Fin 3) (pl fl lf rf : Bool) (sent : Nat),
    (s.dev.portMode n ≠ 0 → s.dev.linkUp n = false → s.dev.islet n = false → s.dev.clkSrc ≠ 2 →
      s.dev.flt.pfwStopped = false → Completes (.linkUp n speed rf) s (fun e =>
        let fault := if s.dev.bit (R.MACn_STAT n) 8 = true ∧ 3 ≤ s.dev.portMode n then [Out.remoteFault n false] else []
        e.linkUp n = true ∧
        e.bit (R.MACn_STAT n) 2 = true ∧ e.bit (R.MACn_STAT n) 8 = false ∧ e.bit (R.MACn_STAT n) 9 = rf ∧
        e.bit (R.TSUn_STAT n) 2 = true ∧
        (s.dev.bit (R.MACn_PREEMPT n) 31 = false → e.verifyState n = 0 ∧ e.preemptActive n = false ∧ e.out = fault ++ s.dev.out) ∧
        (s.dev.bit (R.MACn_PREEMPT n) 31 = true → s.dev.bit (R.MACn_PREEMPT n) 30 = true →
          e.verifyState n = 0 ∧ e.preemptActive n = true ∧ e.out = fault ++ s.dev.out) ∧
        (s.dev.bit (R.MACn_PREEMPT n) 31 = true → s.dev.bit (R.MACn_PREEMPT n) 30 = false →
          e.verifyState n = 2 ∧ e.preemptActive n = false ∧ (e.portsAt n).attempts = 1 ∧
          e.out = .mpacket n false :: (fault ++ s.dev.out)) ∧
        s.dev.Frame e [.ports, .out, .ptpp] ([R.MACn_STAT n, R.TSUn_STAT n, R.MACn_PREEMPT_STAT n] ++ ptpStatRegs))) ∧
    (s.dev.linkUp n = true → Completes (.linkDown n pl fl lf rf) s (fun e => e.linkUp n = false ∧
      e.bit (R.MACn_STAT n) 7 = true ∧ e.bit (R.MACn_STAT n) 2 = pl ∧ e.bit (R.MACn_STAT n) 8 = lf ∧
      e.bit (R.MACn_STAT n) 9 = rf ∧ e.rd (R.MACn_LINK_DOWN n) = satAdd (s.dev.rd (R.MACn_LINK_DOWN n)) 1 ∧
      e.rd (R.MACn_TX_LINKDOWN_DROP n) = satAdd (s.dev.rd (R.MACn_TX_LINKDOWN_DROP n)) (s.dev.portsAt n).fifo.length ∧
      (e.portsAt n).fifo = [] ∧ (e.portsAt n).wire = none ∧ (e.portsAt n).pfc = [] ∧
      (e.portsAt n).rx = (s.dev.portsAt n).rx ∧ e.rd (R.MACn_PAUSE_STAT n) = 0 ∧ e.preemptActive n = false ∧
      e.bit (R.TSUn_STAT n) 2 = false ∧ (∀ m : Nat, m ≠ n → e.portsAt m = s.dev.portsAt m) ∧
      e.out = (if s.dev.bit (R.MACn_STAT n) 8 = lf ∨ s.dev.portMode n < 3 then s.dev.out
        else .remoteFault n lf :: s.dev.out) ∧
      s.dev.Frame e [.ports, .out, .ptpp] ([R.MACn_STAT n, R.MACn_LINK_DOWN n, R.MACn_TX_LINKDOWN_DROP n, R.MACn_TX_HELD n,
        R.MACn_PAUSE_STAT n, R.MACn_PREEMPT_STAT n, R.TSUn_STAT n] ++ ptpStatRegs))) ∧
    (s.dev.verifyState n = 2 →
      (s.dev.portsAt n).verifyAt + s.dev.fld (R.MACn_PREEMPT n) 23 16 * 1000000 ≤ s.dev.nowNs →
      Completes (.preemptVerifyTimeout n) s (fun e =>
      (3 ≤ (s.dev.portsAt n).attempts → e.verifyState n = 4 ∧ e.preemptActive n = false ∧
        s.dev.Frame e [] [R.MACn_PREEMPT_STAT n]) ∧
      ((s.dev.portsAt n).attempts < 3 → (e.portsAt n).attempts = (s.dev.portsAt n).attempts + 1 ∧
        e.out = .mpacket n false :: s.dev.out ∧ s.dev.Frame e [.ports, .out] []))) ∧
    (s.dev.verifyState n = 2 → Completes (.preemptRespondRx n) s (fun e => e.verifyState n = 3 ∧
      e.preemptActive n = true ∧ s.dev.Frame e [] [R.MACn_PREEMPT_STAT n])) ∧
    (s.dev.bit (R.MACn_PREEMPT n) 31 = true → s.dev.linkUp n = true → Completes (.verifyMpacketRx n) s (fun e =>
      e.out = .mpacket n true :: s.dev.out ∧ s.dev.Frame e [.out] [])) ∧
    (∀ w, (s.dev.portsAt n).wire = some w → s.dev.preemptActive n = true →
      ((s.dev.portsAt n).fifo.any (fun f => f.cls == s.dev.expClass n && !s.dev.held n f.cls) = true ∨
        s.dev.x3 n = true) →
      (1 + s.dev.fld (R.MACn_PREEMPT n) 9 8) * 64 - 4 ≤ sent → w.sent + sent + 64 ≤ w.bytes.length →
      Completes (.preemptFragment n sent) s (fun e =>
        (e.portsAt n).wire = some { w with sent := w.sent + sent, preempted := true } ∧
        (w.preempted = false → e.rd (R.MACn_TX_PREEMPT n) = satAdd (s.dev.rd (R.MACn_TX_PREEMPT n)) 1) ∧
        (w.preempted = true → e.rd (R.MACn_TX_PREEMPT n) = s.dev.rd (R.MACn_TX_PREEMPT n)) ∧
        e.out = .preempt n (w.sent + sent) (mcrc (w.bytes.take (w.sent + sent))) :: s.dev.out ∧
        (e.portsAt n).fifo = (s.dev.portsAt n).fifo ∧
        s.dev.Frame e [.ports, .out] (R.MACn_TX_PREEMPT n :: pmcRegs)))

/-- A received frame is dropped whole under one cause or delivered whole; pause, PFC and ESMC frames act where they are
honoured and are counted where not; Islet mode is entered only with nothing to lose, and left by a command or a wake
frame. (Model choices: log 30, 31, 63, 68.) (On R256, R263 to R265, R268 to R272.) -/
def Obligations.ReceptionAndIslet : Prop :=
  ∀ (s : State) (p : Port) (n : Fin 8) (bs : List Byte) (arr : Arrival) (i : RxInfo) (f : PauseIn) (t : Fin 9),
    (∀ a, s.dev.linkUp n = true → s.dev.islet n = false → s.dev.rxDrop n bs i = some a →
      Completes (.frameRx n bs arr i) s (fun e => e.rd a = satAdd (s.dev.rd a) 1 ∧
        e.rd (R.MACn_RX_FEC_CORR n) = satAdd (s.dev.rd (R.MACn_RX_FEC_CORR n)) i.corr ∧
        s.dev.Frame e [.ports] [a, R.MACn_RX_FEC_CORR n, R.MACn_RX_FEC_UNCORR n, R.MACn_RX_FRAG n, R.MACn_ESMC_ERR n])) ∧
    (s.dev.linkUp n = true → s.dev.islet n = false → s.dev.rxDrop n bs i = none → ctrlOpcode bs = none →
      isEsmc bs = false → Completes (.frameRx n bs arr i) s (fun e =>
        (e.portsAt n).rx = (s.dev.portsAt n).rx ++ [⟨bs.take (bs.length - 4), s.dev.rxStamps n arr.hit arr.pos, s.dev.clkSrc,
          (List.range 8).map (fun k => (s.dev.tbAt k).steer)⟩] ∧
        e.nat64 (R.MACn_RX_FRAMES_LO n) (R.MACn_RX_FRAMES_HI n) =
          (s.dev.nat64 (R.MACn_RX_FRAMES_LO n) (R.MACn_RX_FRAMES_HI n) + 1) % 2 ^ 64 ∧
        e.nat64 (R.MACn_RX_BYTES_LO n) (R.MACn_RX_BYTES_HI n) =
          (s.dev.nat64 (R.MACn_RX_BYTES_LO n) (R.MACn_RX_BYTES_HI n) + bs.length) % 2 ^ 64 ∧
        (∀ m : Nat, m ≠ n → e.portsAt m = s.dev.portsAt m) ∧
        s.dev.Frame e [.ports] ([R.MACn_RX_FRAMES_LO n, R.MACn_RX_FRAMES_HI n, R.MACn_RX_BYTES_LO n,
          R.MACn_RX_BYTES_HI n, R.MACn_RX_FEC_CORR n, R.MACn_RX_FEC_UNCORR n, R.MACn_RX_FRAG n] ++ pmcRegs))) ∧
    (s.dev.linkUp n = true → s.dev.islet n = false → Completes (.pauseFrameRx n f) s (fun e =>
      (s.dev.fld (R.MACn_PAUSE_CFG n) 1 0 = 1 → f.pfc = false →
        e.rd (R.MACn_RX_PAUSE n) = satAdd (s.dev.rd (R.MACn_RX_PAUSE n)) 1 ∧ e.x3 n = decide (f.times.getD 0 0 ≠ 0) ∧
        (e.portsAt n).pfc = (s.dev.portsAt n).pfc ∧
        s.dev.Frame e [.ports] [R.MACn_RX_PAUSE n, R.MACn_TX_HELD n, R.MACn_PAUSE_STAT n]) ∧
      (s.dev.fld (R.MACn_PAUSE_CFG n) 1 0 = 2 → f.pfc = true →
        e.rd (R.MACn_RX_PFC n) = satAdd (s.dev.rd (R.MACn_RX_PFC n)) 1 ∧ e.x3 n = s.dev.x3 n ∧
        (e.portsAt n).pfc = s.dev.pfcAfter n f ∧
        s.dev.Frame e [.ports] [R.MACn_RX_PFC n, R.MACn_TX_HELD n, R.MACn_PAUSE_STAT n]) ∧
      (s.dev.fld (R.MACn_PAUSE_CFG n) 1 0 = 0 ∨ s.dev.fld (R.MACn_PAUSE_CFG n) 1 0 = (if f.pfc then 1 else 2) →
        e.rd (R.MACn_RX_CTRL_IGN n) = satAdd (s.dev.rd (R.MACn_RX_CTRL_IGN n)) 1 ∧
        s.dev.Frame e [.ports] [R.MACn_RX_CTRL_IGN n]))) ∧
    (Map.get (s.dev.portsAt n).pauseEnd (fun _ => 0) t ≤ s.dev.nowNs → Completes (.pauseTimerExpire n t) s (fun e =>
      (t.val = 8 → e.x3 n = false ∧ (e.portsAt n).pfc = (s.dev.portsAt n).pfc) ∧
      (t.val ≠ 8 → e.x3 n = s.dev.x3 n ∧ (e.portsAt n).pfc = (s.dev.portsAt n).pfc.filter (· ≠ t.val)) ∧
      s.dev.Frame e [.ports] [R.MACn_TX_HELD n, R.MACn_PAUSE_STAT n])) ∧
    (s.dev.linkUp n = true → s.dev.islet n = false → s.dev.bit (R.MACn_CFG n) 7 = true →
      Completes (.esmcPduRx n bs true) s (fun e =>
        (∀ ssm essm, isEsmc bs = true → esmcCodes bs = some (ssm, essm) →
          e.rd (R.MACn_ESMC_RX n) = satAdd (s.dev.rd (R.MACn_ESMC_RX n)) 1 ∧
          (e.refsAt (2 + n)).level = esmcLevel ssm essm ∧ (e.refsAt (2 + n)).msg = false ∧
          (∀ r, r ≠ 2 + n.val → e.refsAt r = s.dev.refsAt r) ∧
          s.dev.Frame e [.refs] [R.MACn_ESMC_RX n, R.MACn_ESMC_STAT n, R.REFr_QLMSG (2 + n)]) ∧
        (isEsmc bs = false ∨ esmcCodes bs = none → e.rd (R.MACn_ESMC_ERR n) = satAdd (s.dev.rd (R.MACn_ESMC_ERR n)) 1 ∧
          s.dev.Frame e [] [R.MACn_ESMC_ERR n]))) ∧
    (s.dev.linkUp n = true → s.dev.islet n = false → s.dev.bit (R.MACn_CFG n) 8 = true →
      Completes (.esmcInfoTx n) s (fun e => e.fld (R.MACn_ESMC_STAT n) 11 0 = s.dev.esmcCode n % 2 ^ 12 ∧
        (∃ g : EgFrame, e.pe = { s.dev.pe with input := s.dev.pe.input ++ [.send g none] } ∧ g.port = n ∧ g.src = .esmc ∧
          g.bytes.take 28 = esmcDa ++ s.dev.portMac n ++ esmcHead ++ [0x10, 0, 0, 0, 0x01, 0x00, 0x04] ++
            be 1 (s.dev.esmcCode n / 256)) ∧
        s.dev.Frame e [.pe, .fresh] [R.MACn_ESMC_STAT n])) ∧
    (∀ c, (c = Instr.isletCmd p n ∧ s.dev.commands p) ∨ (c = Instr.isletAutoIdle n ∧
        s.dev.bit (R.MACn_ISLET_CFG n) 31 = true ∧ s.dev.idleLong n = true) →
      s.dev.bit (R.MACn_CFG n) 9 = true → s.dev.islet n = false → Completes c s (fun e =>
        (s.dev.isletBlocked n = true → e.bit (R.MACn_STAT n) 12 = true ∧ e.islet n = false ∧
          s.dev.Frame e [] [R.MACn_STAT n]) ∧
        (s.dev.isletBlocked n = false → e.islet n = true ∧ e.bit R.CLK_GATE_OPEN n = false ∧
          s.dev.Frame e [.ptpp] ([R.MACn_STAT n, R.CLK_GATE_OPEN] ++ ptpStatRegs)))) ∧
    (∀ c, (c = Instr.wakeCmd p n ∧ s.dev.commands p) ∨
        (c = Instr.wakeFrameRx n bs ∧ (s.dev.isMagic n bs = true ∨ s.dev.wakePattern n bs = true)) →
      s.dev.islet n = true → Completes c s (fun e => e.islet n = false ∧ e.linkUp n = false ∧
        e.bit (R.MACn_STAT n) 11 = true ∧ e.rd (R.MACn_WAKES n) = satAdd (s.dev.rd (R.MACn_WAKES n)) 1 ∧
        e.bit R.HIF_ISTAT 9 = true ∧ (s.dev.portMode n ≠ 0 → e.bit R.CLK_GATE_OPEN n = true) ∧
        s.dev.Keeps (touches c) e)) ∧
    (s.dev.islet n = true → s.dev.isMagic n bs = false → s.dev.wakePattern n bs = false →
      Completes (.wakeFrameRx n bs) s (fun e => e.rd (R.MACn_WAKE_DROP n) = satAdd (s.dev.rd (R.MACn_WAKE_DROP n)) 1 ∧
        s.dev.Frame e [] [R.MACn_WAKE_DROP n]))

/-! ### DMA rings -/

/-- The oldest staged record goes to host memory at HEAD when its cells are free, past the ring's end if it would cross
it, and HEAD and the write-back follow; a record that waits too long is dropped and counted; TAIL moves only toward
HEAD; enabling starts a ring of an allowed size empty, disabling drops what is staged; a moderation period ends with
the interrupt it held back. (Model choices: log 12, 57, 68.) (On R289 to R292, R520.) -/
def Obligations.RecordRings : Prop :=
  ∀ (s : State) (p : Port) (k : Fin 6) (j : Fin 8) (v : Word),
    (∀ x rest, (s.dev.ringsAt k).staged = x :: rest → s.dev.ringRuns k = true → s.dev.hostTooSlow = false →
      ∀ h cells pad, h = s.dev.nat (R.PE_RINGk_HEAD k) → cells = (8 + x.body.length + 63) / 64 →
      pad = (if s.dev.ringSize k < h + cells then s.dev.ringSize k - h else 0) → pad + cells ≤ s.dev.freeCells k →
      Completes (.ringRecordWrite k) s (fun e => (e.ringsAt k).staged = rest ∧
        e.nat (R.PE_RINGk_HEAD k) = (h + pad + cells) % s.dev.ringSize k ∧
        e.rd (R.PE_RINGk_RECS k) = s.dev.rd (R.PE_RINGk_RECS k) + 1 ∧
        Out.dma (s.dev.cellAddr k ((h + pad) % s.dev.ringSize k)) (cellsOf x.typ x.seq x.body) ∈ e.out ∧
        Out.dma (s.dev.nat64 (R.PE_RINGk_WB_LO k) (R.PE_RINGk_WB_HI k) / 8 * 8)
          (le 4 ((h + pad + cells) % s.dev.ringSize k) ++ le 4 (s.dev.ringsAt k).drops) ∈ e.out ∧
        (∀ i : Nat, i ≠ k → e.ringsAt i = s.dev.ringsAt i) ∧
        s.dev.Frame e [.rings, .out, .hif] ([R.PE_RINGk_HEAD k, R.PE_RINGk_RECS k, R.HIF_ISTAT,
          pAddr .spi R.HIF_ISTAT] ++ pmcRegs))) ∧
    (∀ x rest, (s.dev.ringsAt k).staged = x :: rest → (∀ c, x.ctr = some c → c ∉ ringRegs k) →
      x.at_ + s.dev.fld (R.PE_RINGk_TMO k) 15 0 * 1000 ≤ s.dev.nowNs → Completes (.ringStagingTimeout k) s (fun e => (e.ringsAt k).staged = rest ∧
        (e.ringsAt k).drops = (s.dev.ringsAt k).drops + 1 ∧
        e.rd (R.PE_RINGk_DROP k) = satAdd (s.dev.rd (R.PE_RINGk_DROP k)) 1 ∧ e.bit (R.PE_RINGk_STAT k) 2 = true ∧
        (∀ c, x.ctr = some c → e.rd c = satAdd (s.dev.rd c) 1) ∧ (∀ i : Nat, i ≠ k → e.ringsAt i = s.dev.ringsAt i) ∧
        s.dev.Frame e [.rings] (ringRegs k ++ x.ctr.toList))) ∧
    (s.dev.commands p → Completes (.ringTailWrite p j v) s (fun e =>
      (s.dev.tailOk j v.toNat = true → e.rd (R.PE_RINGk_TAIL j) = v ∧ s.dev.Frame e [] [R.PE_RINGk_TAIL j]) ∧
      (s.dev.tailOk j v.toNat = false → e.bit (R.PE_RINGk_STAT j) 4 = true ∧
        s.dev.OtherBits e (R.PE_RINGk_STAT j) [4] ∧ s.dev.Frame e [] [R.PE_RINGk_STAT j]))) ∧
    (s.dev.commands p → Completes (.ringEnable p j v) s (fun e =>
      (s.dev.ringEn j = true → e = s.dev) ∧
      (s.dev.ringEn j = false → sizeOk j (wfld v 20 16) = true → e.ringEn j = true ∧ e.ringSize j = 2 ^ wfld v 20 16 ∧
        e.bit (R.PE_RINGk_STAT j) 0 = true ∧ e.rd (R.PE_RINGk_HEAD j) = 0 ∧ e.rd (R.PE_RINGk_TAIL j) = 0 ∧
        (e.ringsAt j).staged = (s.dev.ringsAt j).staged ∧
        s.dev.Frame e [.rings] [R.PE_RINGk_CFG j, R.PE_RINGk_STAT j, R.PE_RINGk_HEAD j, R.PE_RINGk_TAIL j]) ∧
      (s.dev.ringEn j = false → sizeOk j (wfld v 20 16) = false → e.ringEn j = false ∧
        s.dev.Frame e [] [R.PE_RINGk_CFG j]))) ∧
    (s.dev.commands p → (∀ x ∈ (s.dev.ringsAt j).staged, ∀ c, x.ctr = some c → c ∉ R.PE_RINGk_CFG j :: ringRegs j) →
      Completes (.ringDisable p j v) s (fun e => e.ringEn j = false ∧
        (s.dev.ringEn j = true → e.bit (R.PE_RINGk_STAT j) 0 = false ∧ (e.ringsAt j).staged = [] ∧
          (e.ringsAt j).drops = (s.dev.ringsAt j).drops + (s.dev.ringsAt j).staged.length ∧
          (j.val = 6 → e.pe.htx = none)) ∧
        (s.dev.ringEn j = false → e.rd (R.PE_RINGk_CFG j) = v &&& 0x1F0000 ∧ s.dev.Frame e [] [R.PE_RINGk_CFG j]) ∧
        (∀ i : Nat, i ≠ j → e.ringsAt i = s.dev.ringsAt i) ∧ s.dev.Keeps [.regs, .rings, .pe] e)) ∧
    ((s.dev.ringsAt j).irqAt + s.dev.fld (R.PE_RINGk_IMOD j) 15 0 * 1000 ≤ s.dev.nowNs → Completes (.ringImodExpire j) s (fun e =>
      ((s.dev.ringsAt j).more = true → e.ringsAt j = { s.dev.ringsAt j with more := false, irqAt := s.dev.nowNs } ∧
        e.bit R.HIF_ISTAT (1 + j) = true ∧ e.bit (pAddr .spi R.HIF_ISTAT) (1 + j) = true) ∧
      ((s.dev.ringsAt j).more = false → e.ringsAt j = { s.dev.ringsAt j with quiet := true } ∧ s.dev.Frame e [.rings] []) ∧
      s.dev.Frame e [.rings, .out, .hif] [R.HIF_ISTAT, pAddr .spi R.HIF_ISTAT]))

/-- A host frame enters its class queue and HEAD advances, or it waits for the queue; a bad descriptor is skipped and
counted; a wait that times out drops the frame; a host command joins the queue of 16; a read error stops the ring
and is raised. (Model choices: log 13, 68.) (On R295 to R297.) -/
def Obligations.HostToDeviceRings : Prop :=
  ∀ (s : State) (desc frame : List Byte) (k : Fin 8) (input : Bool),
    (s.dev.descWaits 6 = true → s.dev.pe.htx = none → Completes (.htxDescriptorFetch desc frame) s (fun e =>
      (s.dev.descBad desc = true → e.rd R.PE_HTX_BAD = satAdd (s.dev.rd R.PE_HTX_BAD) 1 ∧
        e.nat (R.PE_RINGk_HEAD 6) = (s.dev.nat (R.PE_RINGk_HEAD 6) + 1) % s.dev.ringSize 6 ∧ e.egress = s.dev.egress ∧
        e.pe = s.dev.pe) ∧
      (∀ f, f = s.dev.descFrame desc frame → s.dev.descBad desc = false →
        (s.dev.queueFull f.port f.cls f.bytes.length = false →
          e.queue f.port f.cls = s.dev.queue f.port f.cls ++ [f] ∧ e.pe = s.dev.pe ∧
          e.nat (R.PE_RINGk_HEAD 6) = (s.dev.nat (R.PE_RINGk_HEAD 6) + 1) % s.dev.ringSize 6 ∧
          (∀ i, i ≠ 8 * f.port + f.cls → e.egressAt i = s.dev.egressAt i)) ∧
        (s.dev.queueFull f.port f.cls f.bytes.length = true → e.pe = { s.dev.pe with htx := some f, htxAt := s.dev.nowNs } ∧
          s.dev.Frame e [.pe] [])) ∧
      s.dev.Keeps (touches (.htxDescriptorFetch desc frame)) e)) ∧
    (∀ f, s.dev.descWaits 6 = true → s.dev.pe.htx = some f → s.dev.noSlot f = false →
      s.dev.queueFull f.port f.cls f.bytes.length = false →
      Completes (.htxDescriptorFetch desc frame) s (fun e => e.pe = { s.dev.pe with htx := none } ∧
        e.queue f.port f.cls = s.dev.queue f.port f.cls ++ [f] ∧
        e.nat (R.PE_RINGk_HEAD 6) = (s.dev.nat (R.PE_RINGk_HEAD 6) + 1) % s.dev.ringSize 6)) ∧
    (∀ f, s.dev.pe.htx = some f → s.dev.pe.htxAt + s.dev.fld (R.PE_RINGk_TMO 6) 15 0 * 1000 ≤ s.dev.nowNs →
      s.dev.queueFull f.port f.cls f.bytes.length = true →
      Completes .htxQueueTimeout s (fun e => e.pe = { s.dev.pe with htx := none } ∧
        e.rd (R.PE_RINGk_DROP 6) = satAdd (s.dev.rd (R.PE_RINGk_DROP 6)) 1 ∧ e.bit (R.PE_RINGk_STAT 6) 2 = true ∧
        e.nat (R.PE_RINGk_HEAD 6) = (s.dev.nat (R.PE_RINGk_HEAD 6) + 1) % s.dev.ringSize 6 ∧
        s.dev.Frame e [.pe, .rings, .out, .hif] ([R.PE_RINGk_DROP 6, R.PE_RINGk_STAT 6, R.PE_RINGk_HEAD 6,
          R.PE_RINGk_RECS 6, R.HIF_ISTAT, pAddr .spi R.HIF_ISTAT] ++ pmcRegs))) ∧
    (s.dev.descWaits 7 = true → s.dev.pe.hostCmds.length < 16 → Completes (.hcmdFetch desc) s (fun e =>
      e.pe = { s.dev.pe with hostCmds := s.dev.pe.hostCmds ++ [desc] } ∧
      e.nat (R.PE_RINGk_HEAD 7) = (s.dev.nat (R.PE_RINGk_HEAD 7) + 1) % s.dev.ringSize 7 ∧
      s.dev.Frame e [.pe, .rings, .out, .hif] [R.PE_RINGk_HEAD 7, R.PE_RINGk_RECS 7, R.HIF_ISTAT,
        pAddr .spi R.HIF_ISTAT])) ∧
    (6 ≤ k.val → s.dev.ringRuns k = true → Completes (.dmaReadError k input) s (fun e =>
      e.bit (R.PE_RINGk_STAT k) 0 = false ∧ e.bit (R.PE_RINGk_STAT k) 3 = true ∧ s.dev.Raised e 21 ∧
      (k.val = 6 → e.pe = { s.dev.pe with htx := none }) ∧ (k.val = 7 → input = false → e.pe = s.dev.pe) ∧
      (k.val = 7 → input = true → e.pe.hostCmds = s.dev.pe.hostCmds.tail) ∧
      s.dev.FaultFrame e [.pe] [R.PE_RINGk_STAT k]))

/-! ### The packet engine -/

/-- The scheduler takes the head of the highest unheld class that may go to the port's transmit FIFO; a frame whose
insertions fit leaves with its fields, checksum and FCS made good, and is counted, one whose insertions do not fit,
or a launch-time frame that comes too late, is dropped and counted; a departure off its prediction is counted; a
frame kept from its queue too long is dropped, as is a launch-time frame held in a full one. (Model choices: log 30,
62, 63, 68.) (On R26, R80 to R87, R283 to R285.) -/
def Obligations.EgressAndDeparture : Prop :=
  ∀ (s : State) (n : Fin 8) (lead pos : Nat) (dep : Departure) (i : Nat),
    (∀ (f : EgFrame) (k : Fin 8), (∀ g ∈ s.dev.pe.replies, g.port ≠ n) →
      (∀ j, j < 8 → ∀ g, (s.dev.queue n j).head? = some g → s.dev.tooLate n lead g = false) →
      (s.dev.queue n k).head? = some f → f.cls = k → s.dev.held n k = false → s.dev.eligible n lead f = true →
      s.dev.overlapsLaunch n lead f = false →
      (∀ j, k < j → j < 8 → s.dev.held n j = true ∨ ∀ g, (s.dev.queue n j).head? = some g →
        s.dev.eligible n lead g = false ∨ s.dev.overlapsLaunch n lead g = true) →
      Completes (.egressSchedule n lead) s (fun e => e.queue n k = (s.dev.queue n k).tail ∧
        (∀ j, j ≠ 8 * n.val + k.val → e.egressAt j = s.dev.egressAt j) ∧
        (s.dev.linkUp n = true → s.dev.islet n = false →
          f.bytes.length + (if f.fcs then 0 else 4) ≤ s.dev.fld (R.MACn_MAXLEN n) 13 0 →
          (e.portsAt n).fifo = (s.dev.portsAt n).fifo ++ [f]) ∧
        (s.dev.linkUp n = false → e.rd (R.MACn_TX_LINKDOWN_DROP n) = satAdd (s.dev.rd (R.MACn_TX_LINKDOWN_DROP n)) 1 ∧
          e.ports = s.dev.ports) ∧
        e.pe = s.dev.pe ∧ s.dev.Keeps (touches (.egressSchedule n lead)) e)) ∧
    (512 < s.dev.cyclesIn (s.dev.txLead n pos) → Completes (.frameTx n pos dep) s (fun e => e = s.dev)) ∧
    (∀ f, s.dev.nextOut n = some f → s.dev.cyclesIn (s.dev.txLead n pos) ≤ 512 →
      ∀ len ahead, len = f.bytes.length - (if f.fcs then 4 else 0) → ahead = s.dev.txLead n pos →
      Completes (.frameTx n pos dep) s (fun e =>
        (e.portsAt n).fifo = (s.dev.portsAt n).fifo.erase f ∧
        (f.ins.all (insOk len) = true → s.dev.tooLate n ahead f = true → e.out = s.dev.out ∧
          e.rd (R.TSUn_LAUNCH_LATE n) = satAdd (s.dev.rd (R.TSUn_LAUNCH_LATE n)) 1 ∧ e.bit (R.TSUn_STAT n) 4 = true ∧
          s.dev.Frame e [.ports] [R.TSUn_LAUNCH_LATE n, R.TSUn_STAT n]) ∧
        (f.ins.all (insOk len) = true → s.dev.tooLate n ahead f = false →
          e.out = .frame n (s.dev.finish n ahead f) :: s.dev.out ∧
          (f.stamped = true →
            10 * 65536 < ((s.dev.departed n f.tb dep : Int) - s.dev.linearIn f.tb ahead).natAbs * 1000 →
            e.rd (R.TSUn_TX_MISPRED n) = satAdd (s.dev.rd (R.TSUn_TX_MISPRED n)) 1 ∧ e.bit (R.TSUn_STAT n) 3 = true) ∧
          (∀ tag, f.twoStep = some tag → (∀ h b, f.src ≠ .host h b) → e.txqAt n = s.dev.txqAt n ++ [⟨tag, f.tb,
            s.dev.txPlane n (s.dev.departed n f.tb dep), s.dev.clkSrc, s.dev.boundAt f.tb n ahead false⟩]) ∧
          e.nat64 (R.MACn_TX_FRAMES_LO n) (R.MACn_TX_FRAMES_HI n) =
            (s.dev.nat64 (R.MACn_TX_FRAMES_LO n) (R.MACn_TX_FRAMES_HI n) + 1) % 2 ^ 64 ∧
          (f.fcs = false → ∃ x, s.dev.finish n ahead f = x ++ fcsOf x)) ∧
        (f.ins.all (insOk len) = false → e.out = s.dev.out ∧ e.bit (R.TSUn_STAT n) 5 = true ∧
          e.rd (R.TSUn_INS_ERR n) = satAdd (s.dev.rd (R.TSUn_INS_ERR n)) 1 ∧
          s.dev.Frame e [.ports] [R.TSUn_INS_ERR n, R.TSUn_STAT n]) ∧
        (∀ m : Nat, m ≠ n → e.portsAt m = s.dev.portsAt m) ∧ s.dev.Keeps (touches (.frameTx n pos dep)) e)) ∧
    (∀ b f, s.dev.pe.builders[i]? = some b → b.ready = some f → f.port < 8 → b.readyAt + 50000 ≤ s.dev.nowNs →
      Completes (.egressQueueTimeout i) s (fun e =>
        (s.dev.queueFull f.port f.cls f.bytes.length = true → e.pe = { s.dev.pe with
            builders := s.dev.pe.builders.take i ++ s.dev.pe.builders.drop (i + 1) } ∧
          e.rd (R.PE_EGQ_TMO_DROP f.port) = satAdd (s.dev.rd (R.PE_EGQ_TMO_DROP f.port)) 1 ∧
          s.dev.Frame e [.pe] (R.PE_EGQ_TMO_DROP f.port :: pmcRegs)) ∧
        (s.dev.queueFull f.port f.cls f.bytes.length = false → e = s.dev))) ∧
    (∀ f, s.dev.pe.builders[i]? = none → s.dev.heldLaunch[i - s.dev.pe.builders.length]? = some f → f.port < 8 →
      f.cls < 8 → s.dev.queueFull f.port f.cls 60 = true → Completes (.egressQueueTimeout i) s (fun e =>
        e.queue f.port f.cls = (s.dev.queue f.port f.cls).erase f ∧ e.pe = s.dev.pe ∧
        e.rd (R.PE_EGQ_TMO_DROP f.port) = satAdd (s.dev.rd (R.PE_EGQ_TMO_DROP f.port)) 1))

/-- The classifier takes the oldest frame of the next port in turn, drops one for another address, and gives a PTP
message to the instance it matches; crypto input takes the next job, and a job without an engine reaches a response
builder; a finished frame enters its egress queue or waits for it, a two-step Sync for a Follow_Up slot too. (Model
choices: log 32, 33, 62.) (On R26, R280, R281, R286, R336.) -/
def Obligations.PacketEngineJobs : Prop :=
  ∀ (s : State) (engine : Fin 16) (pass : Bool) (i : Nat),
    (∀ (n : Fin 8) f rest, s.dev.pe.input.length < 4096 → (s.dev.portsAt n).rx = f :: rest →
      ((List.range 8).map (fun j => (s.dev.pe.rr + j) % 8)).find? (fun k => !(s.dev.portsAt k).rx.isEmpty) = some n.val →
      Completes .classifyFrame s (fun e => (e.portsAt n).rx = rest ∧ (∀ m : Nat, m ≠ n → e.portsAt m = s.dev.portsAt m) ∧
        (s.dev.daOk n f.bytes = false → e.rd (R.PEn_RXDROP n 0) = satAdd (s.dev.rd (R.PEn_RXDROP n 0)) 1 ∧
          e.pe = { s.dev.pe with rr := (n + 1) % 8 } ∧ s.dev.Frame e [.pe, .ports] (R.PEn_RXDROP n 0 :: pmcRegs)) ∧
        (∀ inst len, s.dev.daOk n f.bytes = true → s.dev.vlanOk n f.bytes = true → etherType f.bytes = 0x88F7 →
          len = beAt (l3 f.bytes) 2 2 → 44 ≤ len → len ≤ (l3 f.bytes).length → beAt (l3 f.bytes) 0 1 % 16 = 0 →
          s.dev.ptpInst n 0 ((l3 f.bytes).take len) = some inst →
          e.pe.input = s.dev.pe.input ++ [.ptpIn ⟨inst, n, tagsOf f.bytes, slice f.bytes 6 6, zeros 16, 0,
            beAt f.bytes 0 1 % 2 == 1, (l3 f.bytes).take len, f.ats.getD (s.dev.ptpTb inst) 0, f.clksrc, f.steers, false⟩]) ∧
        s.dev.Keeps (touches .classifyFrame) e)) ∧
    (∀ j, s.dev.pe.builders.length + s.dev.heldLaunch.length < 512 → s.dev.nextJob pass = some j →
      s.dev.engineUp (s.dev.engineKind j) engine = true → Completes (.cryptoInputJob engine pass) s (fun e =>
        e.pe.input = s.dev.pe.input.erase j ∧
        (∀ f sa, j = .send f sa → e.pe.builders = s.dev.pe.builders ++ [{ job := j, engine := engine }] ∧
          s.dev.Frame e [.pe] []) ∧
        (∀ r, j = .ntp r → e.pe.builders = s.dev.pe.builders ++ [{ job := j, engine := engine }] ∧ s.dev.Frame e [.pe] []) ∧
        (∀ m, j = .ptpIn m → s.dev.ptpAuth m.inst = false → e.pe.ptp = s.dev.pe.ptp ++ [{ m with auth := false }] ∧
          e.pe.builders = s.dev.pe.builders) ∧
        s.dev.Keeps [.regs, .pe] e)) ∧
    (∀ b f, s.dev.pe.builders[i]? = some b → s.dev.engineUp (s.dev.engineKind b.job) b.engine = true →
      b.ready = some f ∨ (b.ready = none ∧ b.job = .send f none ∧ f.wantLaunch = false) →
      Completes (.cryptoOutputJob i) s (fun e =>
        (s.dev.noSlot f = false → f.slot = true ∨ s.dev.queueFull f.port f.cls f.bytes.length = false →
          e.queue f.port f.cls = s.dev.queue f.port f.cls ++ [f] ∧
          (∀ j, j ≠ 8 * f.port + f.cls → e.egressAt j = s.dev.egressAt j) ∧
          e.pe = { s.dev.pe with builders := s.dev.pe.builders.take i ++ s.dev.pe.builders.drop (i + 1) }) ∧
        (s.dev.noSlot f = true ∨ (f.slot = false ∧ s.dev.queueFull f.port f.cls f.bytes.length = true) →
          e.pe = { s.dev.pe with builders :=
            s.dev.pe.builders.take i ++ { b with ready := some f, readyAt := if b.ready.isSome then b.readyAt else s.dev.nowNs } :: s.dev.pe.builders.drop (i + 1) } ∧
          s.dev.Frame e [.pe] [])))

/-- The window's keys are derived and shown, the key after next is derived ahead, the day's turn drops what has left the
window, a new root key derives all again; a cookie-issue command that cannot run is counted and answered; the rate
limiter's banks change places; the statistics go to ring 4 and start again. (Model choices: log 11 and 33.) (On R316
to R318, R321, R325, R328, R330.) -/
def Obligations.NtsKeysAndStatistics : Prop :=
  ∀ (s : State) (engine : Fin 16) (keys : List Byte),
    (∀ root, s.dev.rootKey = some root → s.dev.nts.deriving_ ≠ [] → Completes .keyDerivationDone s (fun e =>
      e.nts.keys = s.dev.nts.deriving_.map (fun x => (x, s.dev.epochKey root x)) ∧ e.nts.deriving_ = [] ∧
      e.bit R.NTS_STAT 2 = true ∧ s.dev.OtherBits e R.NTS_STAT [2] ∧
      s.dev.Frame e [.nts] [R.NTS_STAT, R.NTS_EPOCH, R.NTS_KCV])) ∧
    (∀ root, s.dev.rootKey = some root → s.dev.bit R.NTS_STAT 2 = true →
      s.dev.heldKey ((s.dev.eNow + 2) % 65536) = none → Completes .epochKeyDerive s (fun e =>
        e.nts = { s.dev.nts with keys := s.dev.nts.keys ++
          [((s.dev.eNow + 2) % 65536, s.dev.epochKey root ((s.dev.eNow + 2) % 65536))] } ∧ s.dev.Frame e [.nts] [])) ∧
    (s.dev.isSet 0 = true → Completes .epochDayTurn s (fun e =>
      e.nts = { s.dev.nts with keys := s.dev.nts.keys.filter (fun x => s.dev.inWindow x.1 s.dev.eNow) } ∧
      e.nat R.NTS_EPOCH = 2 ^ 31 + s.dev.eNow ∧ s.dev.Frame e [.nts] [R.NTS_EPOCH, R.NTS_KCV])) ∧
    (s.dev.nts.rekey = true → s.dev.isSet 0 = true → s.dev.rootKey.isSome = true → Completes .rootKeyRederive s (fun e =>
      e.nts = { s.dev.nts with rekey := false, deriving_ := s.dev.window } ∧ e.bit R.NTS_STAT 4 = true ∧
      s.dev.OtherBits e R.NTS_STAT [4] ∧ s.dev.Frame e [.nts] [R.NTS_STAT])) ∧
    (∀ c rest, s.dev.pe.hostCmds = c :: rest → leAt c 0 1 = 1 → s.dev.cmdsRun = true →
      Completes (.cookieIssue engine keys) s (fun e => e.pe.hostCmds = rest ∧
        e.rd R.PE_HOSTOPS = s.dev.rd R.PE_HOSTOPS + 1 ∧
        (s.dev.issueStatus c ≠ 0 → e.rd R.NTS_ISSUE_ERR = satAdd (s.dev.rd R.NTS_ISSUE_ERR) 1 ∧
          e.rd R.NTS_ISSUED = s.dev.rd R.NTS_ISSUED ∧ e.nts = s.dev.nts) ∧
        (s.dev.issueStatus c = 0 → e.rd R.NTS_ISSUE_ERR = s.dev.rd R.NTS_ISSUE_ERR ∧
          e.nat R.NTS_ISSUED = (s.dev.nat R.NTS_ISSUED + leAt c 1 1) % 2 ^ 32 ∧ e.nts.keys = s.dev.nts.keys) ∧
        s.dev.Keeps (touches (.cookieIssue engine keys)) e)) ∧
    Completes .rlWindowSwap s (fun e => e.nts = { s.dev.nts with
      prev := s.dev.nts.cur, cur := [], winAt := s.dev.count 0 } ∧ s.dev.Frame e [.nts] []) ∧
    (s.dev.fld R.NTP_STAT_PER 11 0 ≠ 0 → s.dev.ringRoom 4 s.dev.statBody.length = true →
      Completes .clientStatsRecord s (fun e => e.nts = { s.dev.nts with stat := {} } ∧
        (e.ringsAt 4).staged = (s.dev.ringsAt 4).staged ++ [⟨0x0A, (s.dev.ringsAt 4).seq, s.dev.statBody, none,
          s.dev.nowNs⟩] ∧
        (∀ k : Nat, k ≠ 4 → e.ringsAt k = s.dev.ringsAt k) ∧ s.dev.Frame e [.nts, .rings] []))

/-! ### PTP -/

/-- A master port announces and sends Sync in multicast, or to a session that holds the grant, once at each instant of
the interval; a measured departure gives the Follow_Up; a delay request is answered, or dropped and counted when
there is no grant or the rate is exceeded; a change of the transmit SA shows at once. (Model choices: log 34 and
37.) (On R335, R342, R344, R348, R354, R359.) -/
def Obligations.PtpMasters : Prop :=
  ∀ (s : State) (n i : Fin 8) (p : Fin 8) (h : Port) (v : Word) (x : Fin 4096),
    (s.dev.ptpUnicast i = false → s.dev.bit (R.PTPi_STAT i) 5 = false → Completes (.ptpAnnounceTx i none) s (fun e =>
      (s.dev.mayMaster i p = true → (s.dev.ptppAt (8 * i + p)).annK ≠ some (s.dev.instantK i (s.dev.logAnn i) none) →
        (e.ptppAt (8 * i + p)).annSeq = ((s.dev.ptppAt (8 * i + p)).annSeq + 1) % 65536 ∧
        ∃ f sa q, Job.send f sa ∈ e.pe.input ∧ f.port = p ∧ f.tb = s.dev.ptpTb i ∧ f.src = .ptp i 0xB q) ∧
      (s.dev.mayMaster i p = false ∨ (s.dev.ptppAt (8 * i + p)).annK = some (s.dev.instantK i (s.dev.logAnn i) none) →
        e.ptppAt (8 * i + p) =
          { s.dev.ptppAt (8 * i + p) with annK := some (s.dev.instantK i (s.dev.logAnn i) none) }) ∧
      s.dev.Frame e [.fresh, .pe, .ptpp] [])) ∧
    (s.dev.sessServes i x 0 = true → s.dev.bit (R.PTPi_STAT i) 5 = false →
      (s.dev.ptpxAt x).annK ≠ some (s.dev.instantK i (s.dev.sessLog x 0) (some x.val)) →
      Completes (.ptpAnnounceTx i (some x)) s (fun e => s.dev.Sends e i (s.dev.sessPort x) 0xB (fun _ => True) ∧
        s.dev.Frame e [.fresh, .pe, .ptpx] [R.PTP_SESS x 14])) ∧
    (s.dev.syncReady i = true → s.dev.ptpUnicast i = false → s.dev.bit (R.PTPi_STAT i) 5 = false →
      Completes (.ptpSyncTx i none) s (fun e =>
        (s.dev.mayMaster i p = true →
          (s.dev.ptppAt (8 * i + p)).syncK ≠ some (s.dev.instantK i (s.dev.logSync i) none) →
          (e.ptppAt (8 * i + p)).syncSeq = ((s.dev.ptppAt (8 * i + p)).syncSeq + 1) % 65536 ∧
          ∃ f sa q, Job.send f sa ∈ e.pe.input ∧ f.port = p ∧ f.tb = s.dev.ptpTb i ∧ f.src = .ptp i 0 q ∧
            f.twoStep.isSome = !s.dev.oneStep i) ∧
        s.dev.Frame e [.fresh, .pe, .ptpp, .ptpg] [])) ∧
    (s.dev.syncReady i = true → s.dev.sessServes i x 1 = true → s.dev.bit (R.PTPi_STAT i) 5 = false →
      (s.dev.ptpxAt x).syncK ≠ some (s.dev.instantK i (s.dev.sessLog x 1) (some x.val)) →
      Completes (.ptpSyncTx i (some x)) s (fun e =>
        s.dev.Sends e i (s.dev.sessPort x) 0 (fun f => f.twoStep.isSome = !s.dev.oneStep i) ∧
        s.dev.Frame e [.fresh, .pe, .ptpx, .ptpg] [R.PTP_SESS x 14])) ∧
    (s.dev.syncReady i = false → Completes (.ptpSyncTx i none) s (fun e => e = s.dev)) ∧
    (∀ st t, (s.dev.txqAt n).find? (fun y => s.dev.ptpg.twoStep.any (fun t => t.tag == y.tag && t.typ == 0)) = some st →
      s.dev.ptpg.twoStep.find? (fun t => t.tag == st.tag) = some t → s.dev.owns = true →
      s.dev.isSet (s.dev.ptpTb t.inst) = true → s.dev.bit (R.PTPi_STAT t.inst) 5 = false → Completes (.ptpFollowupTx n) s (fun e =>
        e.txqAt n = (s.dev.txqAt n).erase st ∧ e.ptpg.twoStep = s.dev.ptpg.twoStep.erase t ∧
        s.dev.Sends e t.inst t.port 8 (fun f => f.slot = true) ∧
        s.dev.Frame e [.fresh, .pe, .txq, .ptpg] [R.TSUn_TXQ_LVL n])) ∧
    (∀ st t, (s.dev.txqAt n).find? (fun y => s.dev.ptpg.twoStep.any (fun t => t.tag == y.tag && t.typ == 3)) = some st →
      s.dev.ptpg.twoStep.find? (fun t => t.tag == st.tag) = some t → s.dev.bit (R.PTPi_STAT t.inst) 5 = false →
      Completes (.ptpPdelayRespFupTx n) s (fun e =>
        e.txqAt n = (s.dev.txqAt n).erase st ∧ e.ptpg.twoStep = s.dev.ptpg.twoStep.erase t ∧
        s.dev.Sends e t.inst t.port 0xA (fun f => f.slot = true) ∧
        s.dev.Frame e [.fresh, .pe, .txq, .ptpg] [R.TSUn_TXQ_LVL n])) ∧
    (∀ m rest, s.dev.pe.ptp = m :: rest → beAt m.msg 0 1 % 16 = 1 → m.inst < 8 → m.port < 8 →
      s.dev.ptpP2p m.inst = false → s.dev.mayMaster m.inst m.port = true → s.dev.isSet (s.dev.ptpTb m.inst) = true →
      s.dev.bit (R.PTPi_STAT m.inst) 5 = false → Completes .ptpDelayReqRx s (fun e => e.pe.ptp = rest ∧
        (s.dev.ptpUnicast m.inst = false → s.dev.Sends e m.inst m.port 9 (fun _ => True) ∧
          e.rd (R.PTPi_RXDREQ m.inst) = s.dev.rd (R.PTPi_RXDREQ m.inst) + 1 ∧
          s.dev.Frame e [.fresh, .pe] [R.PTPi_RXDREQ m.inst]) ∧
        (s.dev.ptpUnicast m.inst = true → s.dev.peerSess false m none = none →
          e.rd (R.PTPi_NOSESS m.inst) = satAdd (s.dev.rd (R.PTPi_NOSESS m.inst)) 1 ∧ e.pe.input = s.dev.pe.input ∧
          s.dev.Frame e [.pe] [R.PEn_RXDROP m.port causeProto, R.PTPi_NOSESS m.inst]) ∧
        (∀ y, s.dev.ptpUnicast m.inst = true → s.dev.peerSess false m none = some y → s.dev.sessGranted y 2 = true →
          s.dev.sessState y = 1 →
          ((s.dev.dreqCount y).1 = false → s.dev.Sends e m.inst m.port 9 (fun _ => True) ∧
            s.dev.Frame e [.fresh, .pe, .ptpx] [R.PTPi_RXDREQ m.inst]) ∧
          ((s.dev.dreqCount y).1 = true → e.pe.input = s.dev.pe.input ∧
            e.rd (R.PTPi_RATEDROP m.inst) = satAdd (s.dev.rd (R.PTPi_RATEDROP m.inst)) 1 ∧
            s.dev.Frame e [.pe, .ptpx] [R.PEn_RXDROP m.port causeProto, R.PTPi_RATEDROP m.inst, R.PTP_SESS y 15])))) ∧
    (∀ m rest, s.dev.pe.ptp = m :: rest → beAt m.msg 0 1 % 16 = 2 → s.dev.ptpP2p m.inst = true →
      s.dev.ptpLive m.inst m.port = true → s.dev.bit (R.PTPi_STAT m.inst) 5 = false → Completes .ptpPdelayReqRx s (fun e =>
        e.pe.ptp = rest ∧ s.dev.Sends e m.inst m.port 3 (fun f => f.twoStep.isSome = !s.dev.oneStep m.inst) ∧
        s.dev.Frame e [.fresh, .pe, .ptpg] [])) ∧
    (s.dev.commands h → Completes (.ptpTxsaWrite h i v) s (fun e => e.fld (R.PTPi_TXSA i) 4 0 = wfld v 4 0 ∧
      e.bit (R.PTPi_STAT i) 5 = (s.dev.ptpEn i && s.dev.ptpAuth i && !s.dev.bit (R.PTP_SAs_STAT (wfld v 4 0)) 0) ∧
      s.dev.OtherBits e (R.PTPi_STAT i) [5] ∧ s.dev.Frame e [.ptpp] ([R.PTPi_TXSA i, R.PTPi_STAT i] ++ ptpStatRegs ++
        (List.range 4096).map (fun y => R.PTP_SESS y 0))))

/-- The BMCA makes the best foreign master the parent and its port leaves for UNCALIBRATED, and without any foreign
master the ports listen or prepare to be masters; an Announce is kept; Sync, Follow_Up and the delay messages are
matched by sequenceId and give the path measurements, and what does not match is counted. (Model choices: log 34,
35, 37, 68.) (On R338, R345, R349, R350, R355.) -/
def Obligations.PtpClients : Prop :=
  ∀ (s : State) (i p : Fin 8),
    (∀ d1, d1 = forRange 8 (foreignTrim i) s.dev → s.dev.ptpEn i = true → s.dev.ptpRole i ≠ 0 →
      Completes (.bmcaRun i) s (fun e =>
        (∀ q f, d1.bmcaBest i = some (q, f) → (e.ptpiAt i).parent = some (q, f.id) ∧
          (e.ptpState i q = 8 ∨ (e.ptpState i q = 9 ∧ (s.dev.ptpiAt i).parent = some (q, f.id))) ∧
          e.nat (R.PTPi_PARENT_HI i) = beAt f.id 0 4) ∧
        (d1.bmcaBest i = none → (e.ptpiAt i).parent = none) ∧
        ((∀ q : Fin 8, (d1.ptppAt (8 * i + q)).foreign = []) → s.dev.ptpLive i p = true →
          s.dev.ptpMasterOnly i p = false → e.ptpState i p = if s.dev.ptpRole i = 1 ∨ s.dev.ptpState i p = 4 then 4
            else if s.dev.ptpState i p = 6 then 6 else 5) ∧
        s.dev.Keeps (touches (.bmcaRun i)) e)) ∧
    (s.dev.ptpLive i p = true → s.dev.ptpMasterOnly i p = false → s.dev.ptpState i p ≠ 5 → s.dev.ptpState i p ≠ 6 →
      s.dev.announceLate i p = true → Completes (.announceReceiptTimeout i p) s (fun e =>
        e.rd (R.PTPi_ANNTMO i) = satAdd (s.dev.rd (R.PTPi_ANNTMO i)) 1 ∧ e.bit (R.PTPi_STAT i) 2 = true ∧
        (∀ id, (s.dev.ptpiAt i).parent = some (p.val, id) → ∀ f ∈ (e.ptppAt (8 * i + p)).foreign, f.id ≠ id) ∧
        s.dev.Keeps (touches (.announceReceiptTimeout i p)) e)) ∧
    Completes (.preMasterTimeout i p) s (fun e =>
      (s.dev.ptpState i p = 5 ∧ (s.dev.ptppAt (8 * i + p)).since + intervalNs (s.dev.logAnn i) ≤ s.dev.nowNs →
        e.ptpState i p = 6 ∧ (e.ptppAt (8 * i + p)).since = s.dev.nowNs ∧
        s.dev.Frame e [.ptpp] [R.PTPi_Pp_STAT i p]) ∧
      (s.dev.ptpState i p ≠ 5 ∨ s.dev.nowNs < (s.dev.ptppAt (8 * i + p)).since + intervalNs (s.dev.logAnn i) →
        e = s.dev)) ∧
    (∀ m rest, s.dev.pe.ptp = m :: rest → beAt m.msg 0 1 % 16 = 0xB → m.inst < 8 → m.port < 8 →
      s.dev.ptpLive m.inst m.port = true → s.dev.ptpMasterOnly m.inst m.port = false →
      (srcId m.msg).take 8 ≠ s.dev.clkId m.inst → (s.dev.ptpiAt m.inst).parent ≠ some (m.port, srcId m.msg) →
      Completes .ptpAnnounceRx s (fun e => e.pe.ptp = rest ∧
        (∀ x, x = s.dev.ptppAt (8 * m.inst + m.port) → (∀ f ∈ x.foreign, f.id ≠ srcId m.msg) →
          (x.foreign.length < 8 → e.ptppAt (8 * m.inst + m.port) = { x with
              foreign := x.foreign ++ [⟨srcId m.msg, m.msg, [s.dev.nowNs], m.srcIp⟩] } ∧
            s.dev.Frame e [.pe, .ptpp] [R.PTPi_Pp_STAT m.inst m.port]) ∧
          (8 ≤ x.foreign.length → e.rd (R.PTPi_FMOVF m.inst) = satAdd (s.dev.rd (R.PTPi_FMOVF m.inst)) 1 ∧
            s.dev.Frame e [.pe] [R.PTPi_Pp_STAT m.inst m.port, R.PTPi_FMOVF m.inst])) ∧
        (∀ j : Nat, j ≠ 8 * m.inst + m.port → e.ptppAt j = s.dev.ptppAt j))) ∧
    (∀ m rest, s.dev.pe.ptp = m :: rest → beAt m.msg 0 1 % 16 = 0 → m.inst < 8 → m.port < 8 →
      s.dev.fromParent m = true → Completes .ptpSyncRx s (fun e => e.pe.ptp = rest ∧
        e.rd (R.PTPi_RXSYNC m.inst) = s.dev.rd (R.PTPi_RXSYNC m.inst) + 1 ∧
        ((beAt m.msg 6 1).testBit 1 = true → e.ptpiAt m.inst = { s.dev.ptpiAt m.inst with
            waits := (s.dev.ptpiAt m.inst).waits ++ [⟨m, seqOf m.msg, s.dev.nowNs⟩] } ∧
          s.dev.Frame e [.pe, .ptpi] [R.PTPi_RXSYNC m.inst]) ∧
        ((beAt m.msg 6 1).testBit 1 = false → e.ptpiAt m.inst = { s.dev.ptpiAt m.inst with
            forward := some ((m.at_ : Nat) - (stampAt m.msg 34 + corrOf m.msg)) } ∧
          (s.dev.meanDelay m.inst m.port = none → s.dev.Frame e [.pe, .ptpi] [R.PTPi_RXSYNC m.inst]) ∧
          (s.dev.meanDelay m.inst m.port ≠ none → e.ptpState m.inst m.port = 9)) ∧
        s.dev.Keeps (touches .ptpSyncRx) e)) ∧
    (∀ f rest, s.dev.pe.ptp = f :: rest → beAt f.msg 0 1 % 16 = 8 → f.inst < 8 → s.dev.fromParent f = true →
      Completes .ptpFollowupRx s (fun e => e.pe.ptp = rest ∧
        ((s.dev.ptpiAt f.inst).waits.find? (fun w => w.seq == seqOf f.msg && w.msg.port == f.port &&
            srcId w.msg.msg == srcId f.msg) = none →
          e.rd (R.PTPi_SEQERR f.inst) = satAdd (s.dev.rd (R.PTPi_SEQERR f.inst)) 1 ∧
          s.dev.Frame e [.pe] [R.PTPi_SEQERR f.inst]) ∧
        (∀ w, (s.dev.ptpiAt f.inst).waits.find? (fun w => w.seq == seqOf f.msg && w.msg.port == f.port &&
            srcId w.msg.msg == srcId f.msg) = some w →
          w.msg.inst = f.inst → e.ptpiAt f.inst = { s.dev.ptpiAt f.inst with
            waits := (s.dev.ptpiAt f.inst).waits.erase w
            forward := some ((w.msg.at_ : Nat) -
              (stampAt f.msg 34 + corrOf w.msg.msg + corrOf f.msg)) }) ∧
        s.dev.Keeps (touches .ptpFollowupRx) e)) ∧
    (∀ w rest, (s.dev.ptpiAt i).waits = w :: rest → w.at_ + 2 * intervalNs (s.dev.logSync i) ≤ s.dev.nowNs → Completes (.syncFollowupTimeout i) s (fun e =>
      e.ptpiAt i = { s.dev.ptpiAt i with waits := rest } ∧ (∀ j : Nat, j ≠ i → e.ptpiAt j = s.dev.ptpiAt j) ∧
      e.rd (R.PTPi_SEQERR i) = satAdd (s.dev.rd (R.PTPi_SEQERR i)) 1 ∧ s.dev.Frame e [.ptpi] [R.PTPi_SEQERR i])) ∧
    (∀ x, x = s.dev.ptppAt (8 * i + p) → s.dev.bit (R.PTPi_STAT i) 5 = false →
      (s.dev.ptpOn i p = true → s.dev.ptpP2p i = false → s.dev.ptpState i p = 8 ∨ s.dev.ptpState i p = 9 →
        s.dev.dreqDest i p ≠ none → Completes (.ptpDelayReqTx i p) s (fun e => s.dev.Sends e i p 1 (fun _ => True) ∧
          e.ptppAt (8 * i + p) = { x with reqSeq := (x.reqSeq + 1) % 65536, reqs := x.reqs.drop (x.reqs.length - 1) ++
            [{ seq := x.reqSeq }] } ∧
          e.rd (R.PTPi_SEQERR i) = satAdd (s.dev.rd (R.PTPi_SEQERR i)) (x.reqs.length - 1) ∧
          s.dev.Frame e [.fresh, .pe, .ptpp] [R.PTPi_SEQERR i])) ∧
      (s.dev.ptpLive i p = true → s.dev.ptpP2p i = true → Completes (.ptpPdelayReqTx i p) s (fun e =>
        s.dev.Sends e i p 2 (fun _ => True) ∧
          e.ptppAt (8 * i + p) = { x with reqSeq := (x.reqSeq + 1) % 65536, reqs := x.reqs.drop (x.reqs.length - 1) ++
            [{ seq := x.reqSeq }] } ∧
          e.rd (R.PTPi_SEQERR i) = satAdd (s.dev.rd (R.PTPi_SEQERR i)) (x.reqs.length - 1) ∧
          s.dev.Frame e [.fresh, .pe, .ptpp] [R.PTPi_SEQERR i]))) ∧
    (∀ m rest x, s.dev.pe.ptp = m :: rest → slice m.msg 44 10 = s.dev.portId m.inst m.port →
      x = s.dev.ptppAt (8 * m.inst + m.port) →
      (beAt m.msg 0 1 % 16 = 9 → s.dev.fromParent m = true → Completes .ptpDelayRespRx s (fun e => e.pe.ptp = rest ∧
        (x.reqs.find? (fun r => r.seq == seqOf m.msg) = none →
          e.rd (R.PTPi_SEQERR m.inst) = satAdd (s.dev.rd (R.PTPi_SEQERR m.inst)) 1 ∧
          s.dev.Frame e [.pe] [R.PTPi_SEQERR m.inst]) ∧
        (∀ r t3 fwd, x.reqs.find? (fun r => r.seq == seqOf m.msg) = some r → r.left = some t3 →
          (s.dev.ptpiAt m.inst).forward = some fwd → e.ptppAt (8 * m.inst + m.port) = { x with
            reqs := x.reqs.erase r
            delays := ((fwd + (stampAt m.msg 34 - (t3 : Nat) - corrOf m.msg)) * 500) :: x.delays.take 62 } ∧
          s.dev.Frame e [.pe, .ptpp] []))) ∧
      (s.dev.ptpP2p m.inst = true → s.dev.ptpLive m.inst m.port = true →
        (beAt m.msg 0 1 % 16 = 3 → Completes .ptpPdelayRespRx s (fun e => e.pe.ptp = rest ∧
          (∀ r, x.reqs.find? (fun r => r.seq == seqOf m.msg) = some r → (beAt m.msg 6 1).testBit 1 = true →
            e.ptppAt (8 * m.inst + m.port) = { x with reqs := { r with resp := some ⟨srcId m.msg,
              m.at_, stampAt m.msg 34, corrOf m.msg⟩ } :: x.reqs.erase r } ∧
            s.dev.Frame e [.pe, .ptpp] []) ∧
          (∀ r t1, x.reqs.find? (fun r => r.seq == seqOf m.msg) = some r → (beAt m.msg 6 1).testBit 1 = false →
            r.left = some t1 → (e.ptppAt (8 * m.inst + m.port)).delays =
              (((m.at_ : Nat) - (t1 : Nat) - corrOf m.msg) * 500) :: x.delays.take 62 ∧
            s.dev.Frame e [.fresh, .pe, .ptpp] [R.PTPi_Pp_MLD m.inst m.port]))) ∧
        (beAt m.msg 0 1 % 16 = 0xA → Completes .ptpPdelayRespFupRx s (fun e => e.pe.ptp = rest ∧
          (x.reqs.find? (fun r => r.seq == seqOf m.msg) = none →
            e.rd (R.PTPi_SEQERR m.inst) = satAdd (s.dev.rd (R.PTPi_SEQERR m.inst)) 1 ∧
            s.dev.Frame e [.pe] [R.PTPi_SEQERR m.inst]) ∧
          (∀ r y t1, x.reqs.find? (fun r => r.seq == seqOf m.msg) = some r → r.resp = some y → r.left = some t1 →
            y.src = srcId m.msg → (e.ptppAt (8 * m.inst + m.port)).delays =
              (((y.t4 : Nat) - (t1 : Nat) - (stampAt m.msg 34 - y.t2) - y.corr - corrOf m.msg) * 500) :: x.delays.take 62 ∧
            s.dev.Frame e [.fresh, .pe, .ptpp] [R.PTPi_Pp_MLD m.inst m.port])))))

/-- A request is denied with a grant of no duration, or gets its entry and a grant; a CANCEL ends its kind and is
acknowledged, an acknowledged or thrice unanswered one frees the entry; grants end at their second; a client takes
grants, renews them and repeats requests. (Model choices: log 34, 36, 68.) (On R352 to R356.) -/
def Obligations.UnicastSessions : Prop :=
  ∀ (s : State) (p : Port) (v : Word) (x : Fin 4096) (i j : Fin 8),
    (∀ m b d k, s.dev.sigTake 4 = some (m, b, d) → m.inst < 8 → m.port < 8 → s.dev.sigForUs m = true →
      s.dev.bit (R.PTPi_STAT m.inst) 5 = false → Completes .unicastRequestRx s (fun e => e.pe.ptp = d.pe.ptp ∧
        (kindOf (beAt b 0 1 / 16) = none ∨ (kindOf (beAt b 0 1 / 16) = some k ∧
            s.dev.grantable m k (signed 8 (beAt b 1 1)) (beAt b 2 4) = false) →
          e.rd (R.PTPi_DENY m.inst) = satAdd (s.dev.rd (R.PTPi_DENY m.inst)) 1 ∧ e.bit (R.PTPi_STAT m.inst) 3 = true ∧
          (s.dev.owns = true → s.dev.Sends e m.inst m.port 0xC (fun _ => True)) ∧
          (s.dev.owns = false → e.pe.input = s.dev.pe.input) ∧
          s.dev.Frame e [.fresh, .pe, .ptpp] [R.PTPi_DENY m.inst, R.PTPi_STAT m.inst]) ∧
        (kindOf (beAt b 0 1 / 16) = some k → s.dev.grantable m k (signed 8 (beAt b 1 1)) (beAt b 2 4) = true →
          (∀ y, s.dev.peerSess false m (some m.srcPort) = some y → s.dev.sessState y = 1 →
            s.dev.ptpProfile m.inst ≠ 3 ∨ k = 0 ∨ s.dev.sessGranted y 0 = true →
            e.sessHolds y k = true ∧ e.sessEnd y k = (s.dev.sec32 + min (beAt b 2 4) (s.dev.fld (R.PTPi_UDUR m.inst) 31 16)) % 2 ^ 32 ∧
            s.dev.Sends e m.inst m.port 0xC (fun _ => True) ∧
            s.dev.Frame e [.fresh, .pe, .ptpp, .ptpx] ((List.range 16).map (R.PTP_SESS y))) ∧
          (∀ y, s.dev.peerSess false m (some m.srcPort) = none → s.dev.ptpProfile m.inst ≠ 3 ∨ k = 0 →
            (s.dev.sessions.filter (fun y => s.dev.sessInst y == m.inst)).length < s.dev.fld (R.PTPi_UQUOTA m.inst) 12 0 →
            (List.range 4096).find? (fun y => s.dev.sessState y == 0) = some y → m.srcIp.length = 16 → m.srcMac.length = 6 →
            44 ≤ m.msg.length → e.sessState y = 1 ∧ e.sessInst y = m.inst ∧ e.sessPort y = m.port ∧ e.sessHolds y k = true ∧
            e.rd R.PTP_SESS_USED = s.dev.rd R.PTP_SESS_USED + 1 ∧ s.dev.Sends e m.inst m.port 0xC (fun _ => True) ∧
            s.dev.Frame e [.fresh, .pe, .ptpp, .ptpx] (R.PTP_SESS_USED :: (List.range 16).map (R.PTP_SESS y)))))) ∧
    (∀ m b d k y, s.dev.sigTake 6 = some (m, b, d) → m.inst < 8 → s.dev.sigForUs m = true →
      kindOf (beAt b 0 1 / 16) = some k → s.dev.bit (R.PTPi_STAT m.inst) 5 = false →
      s.dev.sessions.find? (fun y => s.dev.sessInst y == m.inst && s.dev.sessPort y == m.port &&
        s.dev.sessBytes y 28 10 == srcId m.msg && s.dev.sessBytes y 4 16 == m.srcIp && s.dev.sessHolds y k) = some y →
      Completes .unicastCancelRx s (fun e => e.pe.ptp = d.pe.ptp ∧ e.sessHolds y k = false ∧
        (s.dev.sessClient y = true ∨ s.dev.owns = true → s.dev.Sends e m.inst m.port 0xC (fun _ => True)) ∧
        s.dev.Frame e [.fresh, .pe, .ptpp, .ptpx] (R.PTP_SESS_USED :: (List.range 16).map (R.PTP_SESS y)))) ∧
    (∀ m b d y, s.dev.sigTake 7 = some (m, b, d) → s.dev.sigForUs m = true →
      s.dev.sessions.find? (fun y => s.dev.sessState y == 3 && s.dev.sessInst y == m.inst && s.dev.sessPort y == m.port &&
        s.dev.sessBytes y 28 10 == srcId m.msg && s.dev.sessBytes y 4 16 == m.srcIp) = some y →
      Completes .unicastAckCancelRx s (fun e => e.pe.ptp = d.pe.ptp ∧ e.sessState y = 0 ∧ e.ptpxAt y = {} ∧
        s.dev.Frame e [.pe, .ptpx] (R.PTP_SESS_USED :: (List.range 16).map (R.PTP_SESS y)))) ∧
    (∀ m b d k y, s.dev.sigTake 5 = some (m, b, d) → s.dev.sigForUs m = true → kindOf (beAt b 0 1 / 16) = some k →
      s.dev.clientSess m.inst m.port m.srcIp = some y → s.dev.sessState y ≠ 3 → beAt b 2 4 ≠ 0 → m.srcMac.length = 6 →
      44 ≤ m.msg.length → Completes .unicastGrantRx s (fun e => e.pe.ptp = d.pe.ptp ∧ e.sessState y = 1 ∧
        e.sessHolds y k = true ∧ e.sessEnd y k = (s.dev.sec32 + beAt b 2 4) % 2 ^ 32 ∧
        s.dev.Frame e [.pe, .ptpx] ((List.range 16).map (R.PTP_SESS y)))) ∧
    (s.dev.sessState x ≠ 0 → s.dev.sessState x ≠ 2 → Completes (.unicastGrantEnd x) s (fun e =>
      (∀ k, k < 3 → e.sessHolds x k = (s.dev.sessHolds x k && !s.dev.endReached (s.dev.sessEnd x k))) ∧
      ((∀ k, k < 3 → s.dev.sessHolds x k = true → s.dev.endReached (s.dev.sessEnd x k) = true) → e.sessState x = 0) ∧
      s.dev.Frame e [.ptpx] (R.PTP_SESS_USED :: (List.range 16).map (R.PTP_SESS x)))) ∧
    (∀ y, y = wfld v 11 0 → s.dev.commands p → wbit v 31 = true → s.dev.sessState y ≠ 0 → s.dev.sessState y ≠ 3 →
      s.dev.bit (R.PTPi_STAT (s.dev.sessInst y)) 5 = false → Completes (.sessionCancelCmd p v) s (fun e =>
        e.sessState y = 3 ∧ (e.ptpxAt y).cancels = 1 ∧
        (s.dev.sessClient y = true ∨ s.dev.owns = true →
          s.dev.Sends e (s.dev.sessInst y) (s.dev.sessPort y) 0xC (fun _ => True)) ∧
        s.dev.Frame e [.fresh, .pe, .ptpp, .ptpx] [R.PTP_SESS y 0])) ∧
    (s.dev.sessState x = 3 → (s.dev.ptpxAt x).cancelAt + 1000000000 ≤ s.dev.nowNs → s.dev.bit (R.PTPi_STAT (s.dev.sessInst x)) 5 = false →
      Completes (.sessionCancelResend x) s (fun e =>
        ((s.dev.ptpxAt x).cancels < 2 → e.sessState x = 3 ∧ (e.ptpxAt x).cancels = (s.dev.ptpxAt x).cancels + 1) ∧
        (2 ≤ (s.dev.ptpxAt x).cancels → e.sessState x = 0) ∧
        (s.dev.sessClient x = true ∨ s.dev.owns = true →
          s.dev.Sends e (s.dev.sessInst x) (s.dev.sessPort x) 0xC (fun _ => True)) ∧
        s.dev.Frame e [.fresh, .pe, .ptpp, .ptpx] (R.PTP_SESS_USED :: (List.range 16).map (R.PTP_SESS x)))) ∧
    (∀ k : Fin 3, s.dev.sessState x = 1 → s.dev.sessClient x = true → s.dev.sessHolds x k = true →
      4 * signed 32 (s.dev.sessEnd x k + 2 ^ 32 - s.dev.sec32) ≤ ((s.dev.ptpxAt x).durs.getD k 0 : Nat) →
      s.dev.bit (R.PTPi_STAT (s.dev.sessInst x)) 5 = false → Completes (.unicastRenew x) s (fun e =>
        s.dev.Sends e (s.dev.sessInst x) (s.dev.sessPort x) 0xC (fun _ => True) ∧ (e.ptpxAt x).asked.testBit k = true ∧
        s.dev.Frame e [.fresh, .pe, .ptpp, .ptpx] [])) ∧
    (∀ q, s.dev.ptpRole i ≠ 0 → s.dev.ptpUnicast i = true → s.dev.umPort i j = some q → s.dev.ptpLive i q = true →
      s.dev.ptpMasterOnly i q = false → s.dev.bit (R.PTPi_STAT i) 5 = false →
      Completes (.unicastRequestRetry i j) s (fun e =>
        (∀ y, s.dev.clientSess i q (s.dev.umIp i j) = some y → s.dev.sessState y ≠ 3 → s.dev.sessHolds y 0 = false →
          (s.dev.ptpxAt y).askedAt + 8000000000 ≤ s.dev.nowNs → s.dev.Sends e i q 0xC (fun _ => True) ∧ (e.ptpxAt y).asked.testBit 0 = true ∧
          s.dev.Frame e [.fresh, .pe, .ptpp, .ptpx] []) ∧
        (∀ y, s.dev.clientSess i q (s.dev.umIp i j) = none →
          (List.range 4096).find? (fun y => s.dev.sessState y == 0) = some y →
          e.sessState y = 2 ∧ e.sessClient y = true ∧ e.sessInst y = i ∧ e.sessPort y = q ∧
          s.dev.Sends e i q 0xC (fun _ => True) ∧
          s.dev.Frame e [.fresh, .pe, .ptpp, .ptpx] (R.PTP_SESS_USED :: (List.range 16).map (R.PTP_SESS y)))))

/-! ### The key store -/

/-- A host key command loads, derives, clears or uses the Working Key Register and ends with its STATUS; an update
message that passes every check is stored slot by slot and then counted; a response that verifies makes its port a
Custodian for its duration, one that does not is counted, and the eighth in a row locks the port out. The 60 s are
tested against the model's own clock. (Model choices: log 11, 38 and 68.) (On R373 to R375, R379, R380, R382, R386,
R387.) -/
def Obligations.KeyStoreAndUnlock : Prop :=
  ∀ (s : State) (c : List Byte) (rest : List (List Byte)) (input : List Byte) (p : Port),
    (s.dev.pe.hostCmds = c :: rest → s.dev.cmdsRun = true →
      (leAt c 0 1 = 2 →
        (∀ a k, leAt c 1 1 < 64 → s.dev.slotKey (leAt c 1 1) = some (a, k) → a ≠ 3 → Completes .wkrLoad s (fun e =>
          s.dev.Ends e (ksResult c 0 []) ∧ e.ks = { s.dev.ks with wkr := some ⟨k, a⟩ } ∧
          e.rd R.KS_WKR_STAT = BitVec.ofNat 32 (2 ^ 31 + a * 2 ^ 24 + leAt c 1 1 * 2 ^ 8) ∧
          s.dev.Frame e [.rings, .pe, .ks] (R.KS_WKR_STAT :: R.PE_HOSTOPS :: ringRegs 5))) ∧
        (64 ≤ leAt c 1 1 ∨ s.dev.slotKey (leAt c 1 1) = none → Completes .wkrLoad s (fun e =>
          s.dev.Ends e (ksResult c 6 []) ∧ s.dev.Frame e [.rings, .pe] (R.PE_HOSTOPS :: ringRegs 5)))) ∧
      (leAt c 0 1 = 3 → ∀ k, leAt c 1 1 < 64 → s.dev.slotKey (leAt c 1 1) = some (3, k) → leAt c 2 1 ≤ 2 →
        leAt c 3 1 = 16 ∨ leAt c 3 1 = 32 → Completes .wkrDerive s (fun e => s.dev.Ends e (ksResult c 0 []) ∧
          e.ks = { s.dev.ks with wkr := some ⟨kdf k hostLabel (slice c 32 16) 0 0 (8 * leAt c 3 1), leAt c 2 1⟩ } ∧
          e.bit R.KS_WKR_STAT 31 = true ∧ e.bit R.KS_WKR_STAT 29 = true ∧
          s.dev.Frame e [.rings, .pe, .ks] (R.KS_WKR_STAT :: R.PE_HOSTOPS :: ringRegs 5))) ∧
      (leAt c 0 1 = 7 → Completes .wkrClear s (fun e => s.dev.Ends e (ksResult c 0 []) ∧
          e.ks = { s.dev.ks with wkr := none } ∧ e.rd R.KS_WKR_STAT = 0 ∧
          s.dev.Frame e [.rings, .pe, .ks] (R.KS_WKR_STAT :: R.PE_HOSTOPS :: ringRegs 5))) ∧
      (∀ w n, s.dev.ks.wkr = some w → n = leAt c 16 4 →
        (leAt c 0 1 = 4 → w.attr = 2 → 16 ≤ n → n ≤ 256 → n % 8 = 0 → Completes (.wrap input) s (fun e =>
          s.dev.Ends e (ksResult c 0 (kwWrap w.key (cmdInput c input))) ∧
          s.dev.Frame e [.rings, .pe] (R.PE_HOSTOPS :: ringRegs 5))) ∧
        (leAt c 0 1 = 5 → w.attr = 0 → 1 ≤ n → n ≤ 4096 → Completes (.encrypt input) s (fun e =>
          s.dev.Ends e (ksResult c 0 (gcmCtr w.key (slice c 20 12) (cmdInput c input) ++
            gcmTag w.key (slice c 20 12) [] (gcmCtr w.key (slice c 20 12) (cmdInput c input)))) ∧
          s.dev.Frame e [.rings, .pe] (R.PE_HOSTOPS :: ringRegs 5))) ∧
        (∀ x, leAt c 0 1 = 6 → w.attr = 1 → 17 ≤ n → n ≤ 4112 → x = (cmdInput c input).take (n - 16) →
          Completes (.decrypt input) s (fun e =>
            (gcmTag w.key (slice c 20 12) [] x = (cmdInput c input).drop (n - 16) →
              s.dev.Ends e (ksResult c 0 (gcmCtr w.key (slice c 20 12) x))) ∧
            (gcmTag w.key (slice c 20 12) [] x ≠ (cmdInput c input).drop (n - 16) → s.dev.Ends e (ksResult c 10 [])) ∧
            s.dev.Frame e [.rings, .pe] (R.PE_HOSTOPS :: ringRegs 5)))) ∧
      (s.dev.ks.wkr = none → leAt c 0 1 = 5 → Completes (.encrypt input) s (fun e => s.dev.Ends e (ksResult c 8 []) ∧
        s.dev.Frame e [.rings, .pe] (R.PE_HOSTOPS :: ringRegs 5))) ∧
      (leAt c 0 1 = 8 → 384 ≤ leAt c 16 4 → leAt c 16 4 ≤ 832 →
        (∀ sl a k ops, s.dev.apgorCheck (cmdInput c input) = .inl ((sl, a, k) :: ops) → sl < 64 →
          Completes (.apgor input) s (fun e => e.pe.hostCmds = rest ∧
            e.ks = { s.dev.ks with store := some ⟨(sl, a, k) :: ops, beAt (cmdInput c input) 24 8, slice c 4 4,
              decide (0 < s.dev.pe.lostResults)⟩ } ∧ e.bit R.KS_STAT 4 = true ∧ e.fld (R.KS_SLOTs sl) 31 30 = 3 ∧
            s.dev.OtherBits e R.KS_STAT [4] ∧ s.dev.Frame e [.pe, .ks, .flash] [R.KS_STAT, R.KS_SLOTs sl])) ∧
        (∀ st, s.dev.apgorCheck (cmdInput c input) = .inr st → Completes (.apgor input) s (fun e => e.pe.hostCmds = rest ∧
          s.dev.Keeps (touches (.apgor input)) e)))) ∧
    (∀ st sl a k ops, s.dev.ks.store = some st → st.ops = (sl, a, k) :: ops → sl ≠ s.dev.fld R.NTS_CFG 13 8 →
      (∀ j, j < 32 → s.dev.bit (R.PTP_SAs_CFG j) 31 = false) → Completes .apgorSlotStored s (fun e =>
        e.ks.store = some { st with ops := ops } ∧
        Map.get e.ks.sram (fun _ => []) sl = slotRecord sl a st.counter k ∧
        (∀ j, j ≠ sl → Map.get e.ks.sram (fun _ => []) j = Map.get s.dev.ks.sram (fun _ => []) j) ∧
        (ops = [] → e.flash = (s.dev.flashProgram (slotAddr sl) (slotRecord sl a st.counter k)).flash) ∧
        s.dev.Keeps [.regs, .recd, .rings, .ks, .flash, .ptpp] e)) ∧
    (∀ st, s.dev.ks.store = some st → st.ops = [] → Completes .apgorStoreDone s (fun e =>
      e.ks = { s.dev.ks with store := none } ∧ e.nat64 R.KS_CTR_LO R.KS_CTR_HI = st.counter % 2 ^ 64 ∧
      e.bit R.KS_STAT 4 = false ∧ e.bit R.KS_STAT 3 = false ∧ s.dev.OtherBits e R.KS_STAT [3, 4] ∧
      e.rd R.KS_APGOR_OK = satAdd (s.dev.rd R.KS_APGOR_OK) 1 ∧ e.rd R.PE_HOSTOPS = s.dev.rd R.PE_HOSTOPS + 1 ∧
      s.dev.Frame e [.rings, .ks, .flash]
        ([R.KS_CTR_LO, R.KS_CTR_HI, R.KS_STAT, R.KS_APGOR_OK, R.PE_HOSTOPS] ++ ringRegs 5))) ∧
    (s.dev.reaches p = true → s.dev.sys.applied = true →
      Completes (.ksChallenge p) s (fun e =>
        ((s.dev.portKs p).locked = true → e = s.dev) ∧
        ((s.dev.portKs p).locked = false → e.portKs p = { s.dev.portKs p with chal := true, chalAt := s.dev.nowNs } ∧
          s.dev.Frame e [.fresh, .ks] ((List.range 8).map (fun w => pAddr p (R.KS_CHAL w))))) ∧
      Completes (.ksUnlock p) s (fun e =>
        ((s.dev.portKs p).locked = true → e = s.dev) ∧
        ((s.dev.portKs p).locked = false → s.dev.unlockOk p = true → e.isCust p = true ∧
          e.fld (pAddr p R.KS_ROLE) 16 0 = s.dev.fld (pAddr p R.KS_UNLOCK_DUR) 16 0 ∧ (e.portKs p).chal = false ∧
          s.dev.Frame e [.ks] [pAddr p R.KS_ROLE]) ∧
        ((s.dev.portKs p).locked = false → s.dev.unlockOk p = false →
          e.portKs p = { s.dev.portKs p with chal := false, fails := (s.dev.portKs p).fails + 1
                                             locked := decide (8 ≤ (s.dev.portKs p).fails + 1)
                                             lockAt := s.dev.nowNs } ∧
          e.rd (pAddr p R.KS_UNLOCK_FAIL) = satAdd (s.dev.rd (pAddr p R.KS_UNLOCK_FAIL)) 1 ∧
          s.dev.Frame e [.ks] [pAddr p R.KS_UNLOCK_FAIL])) ∧
      Completes (.ksLock p) s (fun e => e.isCust p = false ∧ e.rd (pAddr p R.KS_ROLE) = 0 ∧
        s.dev.Frame e [.ks] [pAddr p R.KS_ROLE])) ∧
    (s.dev.isCust p = true → (s.dev.portKs p).leftMs = some 0 → Completes (.custodianExpire p) s (fun e =>
      e.isCust p = false ∧ e.bit (pAddr p R.HIF_ISTAT) 12 = true ∧
      s.dev.Frame e [.out, .hif, .ks] [pAddr p R.KS_ROLE, pAddr p R.HIF_ISTAT])) ∧
    Completes (.challengeExpire p) s (fun e =>
      (s.dev.chalValid p = true → e = s.dev) ∧
      (s.dev.chalValid p = false → e.portKs p = { s.dev.portKs p with chal := false } ∧ s.dev.Frame e [.ks] [])) ∧
    ((s.dev.portKs p).locked = true → (s.dev.portKs p).lockAt + 60000000000 ≤ s.dev.nowNs → Completes (.unlockLockoutEnd p) s (fun e =>
      e.portKs p = { s.dev.portKs p with fails := 0, locked := false } ∧ s.dev.Frame e [.ks] []))

/-! ### The redundancy pair -/

/-- What the Strait link sends and what a valid first copy of a frame does; a frame slipped at the ferry, uncorrectable,
on a lane without lock or of another format is discarded, and counted as the spec says. (Model choices: log 39 and
68.) (On R391 to R395, R397, R398, R416, R418.) -/
def Obligations.StraitFrames : Prop :=
  ∀ (s : State) (l : Fin 2) (g : Fin 64) (f : List Byte) (x : StraitRx) (slope : Int) (unc : Nat),
    (s.dev.straitUp = true →
      (s.dev.hbSent = true → Completes .straitHeartbeatTx s (fun e => e = s.dev)) ∧
      (s.dev.hbSent = false → ∀ q t, q = (s.dev.pair.txSeq.getD 0 0 + 1) % 65536 → t = c16 (s.dev.count 0) + Config.straitTx → Completes .straitHeartbeatTx s (fun e =>
        (∃ h, e.out = .strait h :: s.dev.out ∧ h.take 4 = [0x01] ++ be 1 s.dev.ownStatus ++ be 2 q) ∧
        e.pair = { s.dev.pair with txSeq := s.dev.pair.txSeq.set 0 q, sent := (q, t) :: s.dev.pair.sent.take 127 } ∧
        s.dev.Frame e [.out, .pair] pmcRegs)) ∧
      Completes .stateFrameTx s (fun e => (∃ h, e.out = .strait h :: s.dev.out ∧ h.take 2 = [0x02, 0x01] ∧ h.length = 464) ∧
        s.dev.Frame e [.out, .pair] []) ∧
      Completes (.sessionFrameTx g) s (fun e => (∃ h, e.out = .strait h :: s.dev.out ∧ h.take 2 = [0x03, 0x01] ∧
        beAt h 12 1 = g ∧ h.length = 4112) ∧ s.dev.Frame e [.out, .pair] []) ∧
      (s.dev.mateOwns = false → s.dev.mateHeard = true → (∃ n : Nat, n < 8 ∧ s.dev.setWanted n = true) →
        s.dev.pair.mofs.isSome = true → s.dev.pair.setSent = false → s.dev.exchanged100 = true → Completes .setFrameTx s (fun e =>
          (∃ h, e.out = .strait h :: s.dev.out ∧ h.take 2 = [0x04, 0x01]) ∧ e.pair.setSent = true ∧
          s.dev.Frame e [.out, .pair] []))) ∧
    (s.dev.straitUp = true → s.dev.pair.lock.getD l false = true → x.corr = 0 →
      (x.ferry = true → Completes (.straitHeartbeatRx l f x) s (fun e =>
        e.rd (R.PAIR_Ll_FRDROP l) = satAdd (s.dev.rd (R.PAIR_Ll_FRDROP l)) 1 ∧ s.dev.Frame e [] [R.PAIR_Ll_FRDROP l])) ∧
      (x.ferry = false → x.uncorr = true → Completes (.straitHeartbeatRx l f x) s (fun e =>
        e.rd (R.PAIR_Ll_UNCORR l) = satAdd (s.dev.rd (R.PAIR_Ll_UNCORR l)) 1 ∧ s.dev.Frame e [] [R.PAIR_Ll_UNCORR l])) ∧
      (x.ferry = false → x.uncorr = false → 0 < s.dev.silenceNs → s.dev.pair.heardAt.length = 2 →
        (s.dev.pair.rxSeq.getD 0 none = some (beAt f 2 2) → Completes (.straitHeartbeatRx l f x) s (fun e =>
          e.rd (R.PAIR_Ll_STAT l) = 1 ∧ e.pair.status = s.dev.pair.status ∧
          s.dev.Frame e [.pair] (R.PAIR_Ll_STAT l :: pmcRegs))) ∧
        (s.dev.pair.rxSeq.getD 0 none ≠ some (beAt f 2 2) → s.dev.bit R.PAIR_STAT 0 = false →
          s.dev.bit R.PAIR_STAT 2 = false → s.dev.pair.cwFault = false → (beAt f 1 1).testBit 1 = false →
          s.dev.pairState = 1 → s.dev.pair.ho ≠ 2 → s.dev.pair.ho ≠ 3 → Completes (.straitHeartbeatRx l f x) s (fun e =>
            e.pair.status = some (beAt f 1 1) ∧ e.pair.echo = (beAt f 2 2, s.dev.laneArrival l x) ∧
            e.pair.mateHo = beAt f 30 1 % 4 ∧ e.fld R.PAIR_STATE 27 24 = beAt f 1 1 / 16 ∧
            e.bit R.PAIR_STATE 9 = (beAt f 1 1).testBit 2 ∧ e.bit R.PAIR_STAT 10 = (beAt f 1 1).testBit 0 ∧ e.pairState = 1 ∧
            s.dev.Frame e [.pair] ([R.PAIR_Ll_STAT l, R.PAIR_STATE, R.PAIR_STAT] ++ pmcRegs))) ∧
        (s.dev.pair.rxSeq.getD 1 none ≠ some (beAt f 2 2) → Completes (.stateFrameRx l f x) s (fun e =>
          (beAt f 1 1 ≠ 1 → e.rd R.PAIR_FMT_REJ = satAdd (s.dev.rd R.PAIR_FMT_REJ) 1 ∧ e.bit R.PAIR_STAT 5 = true ∧
            e.pair.mate = s.dev.pair.mate ∧ s.dev.Frame e [.pair] [R.PAIR_FMT_REJ, R.PAIR_STAT, R.PAIR_FMT]) ∧
          (beAt f 1 1 = 1 → e.bit R.PAIR_STAT 5 = false ∧
            (beAt f 13 1 % 2 = 0 → e.pair.mate = some (f.drop 16) ∧ e.pair.mateTick = headTick f ∧
              e.nat R.PAIR_MATE_KCV = beAt (f.drop 16) 16 4) ∧
            (beAt f 13 1 % 2 = 1 → e.pair.mate = s.dev.pair.mate ∧ e.refs = s.dev.refs) ∧
            s.dev.Frame e [.pair, .refs] [R.PAIR_STAT, R.PAIR_FMT, R.PAIR_MATE_KCV]))) ∧
        (s.dev.pair.rxSeq.getD 2 none ≠ some (beAt f 2 2) → beAt f 1 1 = 1 → Completes (.sessionFrameRx l f x) s (fun e =>
          (beAt f 13 1 % 2 = 0 → Map.get e.pair.shadow (fun _ => none) (beAt f 12 1 % 64) =
            some (headTick f, (f.drop 16).take 4096)) ∧
          (beAt f 13 1 % 2 = 1 → e.pair.shadow = s.dev.pair.shadow) ∧
          s.dev.Frame e [.pair] [R.PAIR_STAT, R.PAIR_FMT])) ∧
        (s.dev.pair.rxSeq.getD 3 none ≠ some (beAt f 2 2) → beAt f 14 2 = 2 →
          ∀ y n at_, y = slice f 16 32 → n = beAt y 0 1 % 8 → at_ = beAt y 16 4 * 1000000000 + beAt y 20 4 →
          Completes (.setFrameRx l f x slope unc) s (fun e =>
            (s.dev.owns = true ∨ s.dev.bit (R.REFr_CFG 17) (20 + n) = false → s.dev.Frame e [.pair] []) ∧
            (s.dev.isSet n = true → s.dev.owns = false → s.dev.bit (R.REFr_CFG 17) (20 + n) = true →
              (n = 0 → s.dev.bit R.CFG_SETSRC 0 = true) →
              e.rd (R.TBn_SET_REJ n) = satAdd (s.dev.rd (R.TBn_SET_REJ n)) 1 ∧ e.tb = s.dev.tb) ∧
            (s.dev.isSet n = false → s.dev.owns = false → s.dev.bit (R.REFr_CFG 17) (20 + n) = true →
              (n = 0 → s.dev.bit R.CFG_SETSRC 0 = true) → (s.dev.tbAt n).armed = none →
              (400 * 2 ^ 16 ≤ signedDiff (at_ / 1000000000 % 2 ^ 32) (at_ % 1000000000) 0 (s.dev.count n) →
                (e.tbAt n).armed.isSome = true ∧ (e.tbAt n).setMate = true) ∧
              (signedDiff (at_ / 1000000000 % 2 ^ 32) (at_ % 1000000000) 0 (s.dev.count n) < 400 * 2 ^ 16 →
                e.rd (R.TBn_SET_REJ n) = satAdd (s.dev.rd (R.TBn_SET_REJ n)) 1 ∧ e.tb = s.dev.tb)))))) ∧
    (s.dev.flt.pfwStopped = false → Completes (.straitBlockLockGain l) s (fun e =>
      e.pair = { s.dev.pair with
        lock := s.dev.pair.lock.set l true
        listenAt := if s.dev.sys.applied then s.dev.pair.listenAt.or (some s.dev.nowNs) else s.dev.pair.listenAt } ∧
      s.dev.Frame e [.pair] [])) ∧
    Completes (.straitBlockLockLoss l) s (fun e =>
      e.pair = { s.dev.pair with lock := s.dev.pair.lock.set l false } ∧
      e.bit (R.PAIR_Ll_STAT l) 0 = false ∧ s.dev.OtherBits e (R.PAIR_Ll_STAT l) [0] ∧
      s.dev.Frame e [.pair] [R.PAIR_Ll_STAT l])

/-- Silence of one path is an alarm and of both a failure of the mate, as is its fault report; the latch is cleared when
it is not refreshed, yields, overrides and waits for a quiet instant; an isolated unit and one that has listened
take their state; the handover moves ownership. Where a record is lost on the way, its fault source decides what
follows. Lengths of time are tested against the model's own clock. (Model choices: log 39, 40 and 68.) (On R400 to
R410, R413, R415, R417.) -/
def Obligations.OwnershipOfOutputs : Prop :=
  ∀ (s : State) (p : Port) (i : Fin 8) (y : Fin 4096), s.dev.pairOn = true →
    (∀ b o : Nat, (b, o) = (0, 1) ∨ (b, o) = (1, 0) → s.dev.bit R.PAIR_STAT b = false →
      (b = 0 → s.dev.laneHeard 0 = false ∧ s.dev.laneHeard 1 = false) → ∀ c, c = (if b = 0 then Instr.straitSilence else .cwSilence) → Completes c s (fun e =>
        (s.dev.bit R.PAIR_STAT o = false → e.rd R.PAIR_ALARMS = satAdd (s.dev.rd R.PAIR_ALARMS) 1 ∧
          (s.dev.bit (R.FLT_ACTIVE 0) 25 = false → s.dev.Raised e 25) ∧
          s.dev.FaultFrame e [] [R.PAIR_ALARMS, R.PAIR_Ll_STAT 0, R.PAIR_Ll_STAT 1]) ∧
        (s.dev.bit R.PAIR_STAT o = true → s.dev.bit R.PAIR_STATE 11 = false → s.dev.pairState = 1 →
          e.bit (R.FLT_PEND 2) 29 = false → e.pairState = 2 ∧ e.bit R.PAIR_STAT b = true) ∧
        (b = 0 → e.rd (R.PAIR_Ll_STAT 0) = 2 ∧ e.rd (R.PAIR_Ll_STAT 1) = 2) ∧ s.dev.Keeps (touches c) e)) ∧
    (s.dev.bit R.PAIR_STAT 1 = false →
      Completes .cwFaultPattern s (fun e =>
        (s.dev.bit R.PAIR_STAT 2 = true → e.pair = { s.dev.pair with
          cwFault := true, listenAt := s.dev.pair.listenAt.or (some s.dev.nowNs) } ∧ s.dev.Frame e [.pair] []) ∧
        (s.dev.bit R.PAIR_STAT 2 = false → s.dev.bit R.PAIR_STATE 11 = false → s.dev.pairState = 1 →
          e.bit (R.FLT_PEND 2) 29 = false → e.bit R.PAIR_STAT 2 = true ∧ e.pairState = 2 ∧ e.pair.cwFault = true) ∧
        s.dev.Keeps (touches .cwFaultPattern) e) ∧
      ((s.dev.pair.status.getD 0).testBit 1 = false → Completes .cwNormalPattern s (fun e =>
        e.pair = { s.dev.pair with cwFault := false, listenAt := s.dev.pair.listenAt.or (some s.dev.nowNs) } ∧
        e.bit R.PAIR_STAT 2 = false ∧ s.dev.OtherBits e R.PAIR_STAT [2] ∧
        s.dev.Frame e [.pair] [R.PAIR_STAT]))) ∧
    Completes .ownLatchRefresh s (fun e => e.pair = { s.dev.pair with refreshAt := s.dev.nowNs } ∧ s.dev.Frame e [.pair] []) ∧
    (s.dev.nowNs < s.dev.pair.refreshAt + 50000 → Completes .ownLatchExpire s (fun e => e = s.dev)) ∧
    (s.dev.pair.refreshAt + 50000 ≤ s.dev.nowNs → Completes .ownLatchExpire s (fun e => e.bit R.PAIR_STATE 0 = false ∧
      (s.dev.bit R.PAIR_STATE 0 = true → Out.ownOut 0 ∈ e.out ∧ e.bit (R.PTPi_STAT i) 0 = false) ∧
      s.dev.OtherBits e R.PAIR_STATE [0] ∧ s.dev.Keeps [.regs, .out, .eio, .pps, .clkOut] e)) ∧
    Completes .ownSenseAssert s (fun e =>
      (s.dev.bit R.PAIR_STATE 0 = false → e.bit R.PAIR_STATE 10 = true ∧ s.dev.OtherBits e R.PAIR_STATE [10] ∧
        e.pair = { s.dev.pair with senseAt := s.dev.nowNs } ∧ s.dev.Frame e [.pair] [R.PAIR_STATE]) ∧
      (s.dev.bit R.PAIR_STATE 0 = true → s.dev.pairState ≠ 5 → s.dev.preferred = false →
        s.dev.ppsNear 0 2000000 2000000 = false → e.rd R.PAIR_YIELDS = satAdd (s.dev.rd R.PAIR_YIELDS) 1 ∧
        (e.bit (R.FLT_PEND 2) 29 = false → e.bit R.PAIR_STATE 0 = false ∧ e.pairState = s.dev.afterYield)) ∧
      s.dev.Keeps (touches .ownSenseAssert) e) ∧
    Completes .ownSenseDeassert s (fun e => e.bit R.PAIR_STATE 10 = false ∧
      (s.dev.pairState = 5 → e.pairState = 2 ∧ Out.ownOut 1 ∈ e.out) ∧
      e.pair = { s.dev.pair with senseAt := s.dev.nowNs } ∧ (s.dev.pairState ≠ 5 → s.dev.Frame e [.pair] [R.PAIR_STATE]) ∧ s.dev.Keeps (touches .ownSenseDeassert) e) ∧
    (s.dev.bit R.PAIR_STATE 0 = true → Completes .overridePulsesSeen s (fun e => s.dev.Keeps (touches .overridePulsesSeen) e ∧
      (e.bit (R.FLT_PEND 2) 29 = false → e.bit R.PAIR_STATE 0 = false ∧ e.pairState = s.dev.afterYield ∧
        e.bit R.PAIR_STAT 7 = true))) ∧
    (s.dev.pairState = 5 → s.dev.bit R.PAIR_STATE 10 = true → s.dev.pair.overAt + 380000 ≤ s.dev.nowNs →
      Completes .overrideGiveUp s (fun e =>
      e.bit R.PAIR_STATE 0 = false ∧ e.pairState = 6 ∧ e.bit R.PAIR_STAT 8 = true ∧ s.dev.OtherBits e R.PAIR_STAT [8] ∧
      s.dev.Keeps (touches .overrideGiveUp) e)) ∧
    (∀ c, s.dev.pair.deferred = some c → c.state < 8 → c.set = false ∨ s.dev.bit R.PAIR_STATE 10 = false →
      Completes .ownChangeDeferred s (fun e =>
      e.bit R.PAIR_STATE 0 = c.set ∧ e.pairState = c.state ∧ e.pair = { s.dev.pair with deferred := none, refreshAt := s.dev.nowNs } ∧
      e.rd R.PAIR_TAKEOVERS = (if c.takeover then satAdd (s.dev.rd R.PAIR_TAKEOVERS) 1 else s.dev.rd R.PAIR_TAKEOVERS) ∧
      s.dev.Keeps (touches .ownChangeDeferred) e)) ∧
    (s.dev.pairState = 0 → s.dev.listened = true → Completes .pairListenEnd s (fun e =>
      (s.dev.bit R.PAIR_STATE 11 = true → e.pairState = 7) ∧
      (s.dev.bit R.PAIR_STATE 11 = false → s.dev.mateHeard = true → s.dev.mateOwns = true → e.pairState = 3) ∧
      (s.dev.bit R.PAIR_STATE 11 = false → s.dev.mateHeard = false → s.dev.bit R.PAIR_STATE 10 = true → e.pairState = 6) ∧
      (s.dev.bit R.PAIR_STATE 11 = false → s.dev.mateHeard = false → s.dev.bit R.PAIR_STATE 10 = false →
        s.dev.ppsNear 0 2000000 2000000 = false → e.pairState = 2 ∧ e.bit R.PAIR_STATE 0 = true) ∧
      s.dev.Keeps (touches .pairListenEnd) e)) ∧
    (s.dev.pairState = 6 → s.dev.bit R.PAIR_STATE 10 = false → s.dev.bit R.PAIR_STAT 0 = true →
      s.dev.bit R.PAIR_STAT 1 = true → s.dev.pair.senseAt + s.dev.silenceNs ≤ s.dev.nowNs → Completes .isolatedClaim s (fun e =>
        (s.dev.ppsNear 0 2000000 2000000 = false → e.pairState = 2 ∧ e.bit R.PAIR_STATE 0 = true) ∧
        (s.dev.ppsNear 0 2000000 2000000 = true → e.pair.deferred = some ⟨true, false, 2⟩ ∧ e.pairState = 6) ∧
        s.dev.Keeps (touches .isolatedClaim) e)) ∧
    (s.dev.pair.ho = 2 → s.dev.pairState ≠ 4 → s.dev.hoReached 1000000 = true → Completes .handoverCancel s (fun e =>
      e.pair = { s.dev.pair with ho := 0, hoCmd := false } ∧
      e.rd R.PAIR_HO_REJ = satAdd (s.dev.rd R.PAIR_HO_REJ) 1 ∧ s.dev.Frame e [.pair] [R.PAIR_HO_REJ])) ∧
    (s.dev.pairState = 4 → s.dev.pair.ho = 3 → s.dev.hoReached 100000 = true → s.dev.pair.shadow ≠ [] →
      Completes .handoverShadowLoad s (fun e =>
        e.nat R.PTP_SESS_USED = ((List.range 4096).filter (fun x => e.sessState x != 0)).length ∧
        (∀ t bs, Map.get s.dev.pair.shadow (fun _ => none) (y / 64) = some (t, bs) →
          beAt (slice bs (64 * (y % 64)) 64) 0 1 ≠ 0 → beAt (slice bs (64 * (y % 64)) 64) 2 1 < 128 →
          s.dev.sessClient y = false → e.sessState y = beAt (slice bs (64 * (y % 64)) 64) 0 1) ∧
        s.dev.Keeps [.regs, .ptpx] e)) ∧
    (s.dev.pairState = 4 → s.dev.pair.ho = 3 → s.dev.hoReached 1000 = true → Completes .handoverLatchSet s (fun e =>
      (e.bit (R.FLT_PEND 2) 29 = false → e.bit R.PAIR_STATE 0 = true ∧ e.pairState = 1 ∧ e.pair.ho = 0) ∧
      s.dev.Keeps (touches .handoverLatchSet) e)) ∧
    (s.dev.pairState = 4 → s.dev.pair.ho = 2 → s.dev.hoReached 0 = true → Completes .handoverLatchClear s (fun e =>
      (e.bit (R.FLT_PEND 2) 29 = false → e.bit R.PAIR_STATE 0 = false ∧ e.pairState = 3 ∧ e.pair.ho = 0) ∧
      s.dev.Keeps (touches .handoverLatchClear) e)) ∧
    (s.dev.commands p →
      (∀ ok, (ok ↔ s.dev.pairState = 1 ∧ s.dev.bit R.PAIR_STAT 10 = true ∧ s.dev.pair.ho = 0) →
        Completes (.pairHandoverCmd p) s (fun e =>
          (ok → e.pair = { s.dev.pair with hoCmd := true } ∧ s.dev.Frame e [.pair] []) ∧
          (¬ ok → e.rd R.PAIR_HO_REJ = satAdd (s.dev.rd R.PAIR_HO_REJ) 1 ∧ s.dev.Frame e [] [R.PAIR_HO_REJ]))) ∧
      (∀ ok, (ok ↔ s.dev.bit R.PAIR_STAT 9 = true ∧ s.dev.pair.ho = 0) → Completes (.pairTakeCmd p) s (fun e =>
          (ok → e.pair = { s.dev.pair with ho := 1 } ∧ s.dev.Frame e [.pair] []) ∧
          (¬ ok → e.rd R.PAIR_HO_REJ = satAdd (s.dev.rd R.PAIR_HO_REJ) 1 ∧ s.dev.Frame e [] [R.PAIR_HO_REJ])))) ∧
    (s.dev.pair.kcvDiff = true → s.dev.kcvHeld = true → s.dev.bit R.PAIR_STAT 4 = false → Completes .kcvMismatch s (fun e =>
      (s.dev.bit (R.FLT_ACTIVE 0) 26 = false → s.dev.Raised e 26) ∧ s.dev.FaultFrame e [] [])) ∧
    (s.dev.pair.kcvDiff = false → s.dev.kcvHeld = true → s.dev.bit R.PAIR_STAT 4 = true → Completes .kcvMismatchClear s (fun e =>
      e.bit R.PAIR_STAT 4 = false ∧ e.bit (R.FLT_ACTIVE 0) 26 = false ∧ s.dev.OtherBits e R.PAIR_STAT [4] ∧
      s.dev.Keeps [.regs, .recd, .rings] e))

/-! ### Clocks -/

/-- A defect of XO_IN is shown, counted and raised, and takes the tree from LO bypass to RC bypass with every bound
unbounded; a qualified crystal takes it back; a loss of lock leaves the root; the bands are tried in their order,
and with none left the attempt fails; lock and its hold bring the root back. (Model choices: log 41 and 68.) (On
R426, R428, R433 to R436, R467.) -/
def Obligations.ClockSources : Prop :=
  ∀ (s : State) (gap : Int) (edges : Nat) (n : Fin 8) (p : Port),
    (s.dev.clk.rcStopped = false →
      (s.dev.sys.applied = true → s.dev.xoDefect = false →
        (∀ c, (c = .xoEdgeDefect gap ∨ (c = .xoFreqMeasure edges gap ∧
            6 * s.dev.xoNominal < ((edges : Int) - s.dev.xoNominal).natAbs * 100)) → Completes c s (fun e =>
          e.bit R.CLK_STAT 2 = false ∧ e.bit R.CLK_STAT 6 = true ∧ e.rd R.CLK_XODEF = satAdd (s.dev.rd R.CLK_XODEF) 1 ∧
          (s.dev.clkSrc ≠ 1 → e.clkSrc = s.dev.clkSrc ∧ (s.dev.bit (R.FLT_ACTIVE 0) 0 = false → s.dev.Raised e 0)) ∧
          (s.dev.clkSrc = 1 → e.clkSrc = 2 ∧ e.rd R.CLK_RCBYP = satAdd (s.dev.rd R.CLK_RCBYP) 1 ∧
            e.bound n = unboundedPs ∧ e.bit (R.TBn_STAT n) 5 = true) ∧
          s.dev.Keeps (touches c) e)) ∧
        (((edges : Int) - s.dev.xoNominal).natAbs * 100 ≤ 6 * s.dev.xoNominal → Completes (.xoFreqMeasure edges gap) s (fun e =>
          e.fld R.CLK_XOFREQ 15 0 = (xoOffset s.dev.xoNominal edges % (2 ^ 16 : Nat)).toNat ∧
          s.dev.Frame e [.clk] [R.CLK_XOFREQ])) ∧
        (s.dev.bit R.CLK_STAT 2 = false → s.dev.xoQualDone = true → Completes (.xoQualified gap) s (fun e => e.bit R.CLK_STAT 2 = true ∧
          (s.dev.clkSrc ≠ 2 → s.dev.OtherBits e R.CLK_STAT [2] ∧ s.dev.Frame e [] [R.CLK_STAT]) ∧
          (s.dev.clkSrc = 2 → e.clkSrc = 1 ∧ e.rd R.CLK_LOL = satAdd (s.dev.rd R.CLK_LOL) 1 ∧
            e.bit (R.TBn_STAT n) 4 = true ∧ e.bit (R.TBn_STAT n) 5 = false) ∧ s.dev.Keeps (touches (.xoQualified gap)) e))) ∧
      (s.dev.clk.edgesGone = true → s.dev.clk.freqBad = false → Completes .xoEdgesResume s (fun e =>
        e.clk = { s.dev.clk with edgesGone := false, xoGoodAt := s.dev.nowNs } ∧ e.bit (R.FLT_ACTIVE 0) 0 = false ∧
        s.dev.Keeps [.regs, .recd, .rings, .clk] e))) ∧
    (s.dev.bit R.CLK_STAT 3 = true → Completes (.pllLossOfLock gap) s (fun e =>
      e.bit R.CLK_STAT 3 = false ∧ e.bit R.CLK_STAT 5 = true ∧
      (s.dev.clkSrc = 0 → e.clkSrc = if s.dev.bit R.CLK_STAT 2 then 1 else 2) ∧
      (s.dev.clkSrc ≠ 0 → e.clkSrc = s.dev.clkSrc ∧ e.bit R.CLK_STAT 4 = false) ∧
      s.dev.Keeps (touches (.pllLossOfLock gap)) e)) ∧
    (∀ x b cap r, s.dev.clk.attempt = x :: (b, cap) :: r → b < 64 → s.dev.clk.tryAt + 200000 ≤ s.dev.nowNs → Completes .bandTryTimeout s (fun e =>
      e.clk = { s.dev.clk with attempt := (b, cap) :: r, cap := cap, tryAt := s.dev.nowNs } ∧
      e.fld R.CLK_BANDSEL 5 0 = b ∧ e.fld R.CLK_BANDSEL 10 8 = (s.dev.fld R.CLK_BANDSEL 10 8 + 1) % 8 ∧ s.dev.Frame e [.clk] [R.CLK_BANDSEL])) ∧
    (∀ x, s.dev.clk.attempt = [x] → s.dev.clk.tryAt + 200000 ≤ s.dev.nowNs → Completes .bandTryTimeout s (fun e => e.bit R.CLK_STAT 8 = true ∧
      (s.dev.bit (R.FLT_ACTIVE 0) 1 = false → s.dev.Raised e 1) ∧ s.dev.FaultFrame e [] [R.CLK_STAT])) ∧
    (s.dev.clkSrc = 1 → s.dev.clk.attempt ≠ [] → Completes .pllLocked s (fun e =>
      e.clk = { s.dev.clk with attempt := [], lockAt := s.dev.nowNs } ∧ e.bit R.CLK_STAT 8 = false ∧ e.bit R.CLK_STAT 3 = true ∧
      e.bit R.CLK_STAT 4 = true ∧ s.dev.OtherBits e R.CLK_STAT [3, 4, 8] ∧ e.bit (R.FLT_ACTIVE 0) 1 = false ∧
      s.dev.Keeps [.regs, .recd, .rings, .clk] e)) ∧
    (∀ b cap r c, s.dev.rankBands = (b, cap) :: r → b < 64 → s.dev.bit R.CLK_STAT 8 = true → s.dev.clkSrc = 1 →
      (c = .pllRetryTimer ∧ s.dev.clk.attempt = [] ∧ s.dev.clk.tryAt + 1000000000 ≤ s.dev.nowNs) ∨ (c = .clkRetry p ∧ s.dev.commands p) → Completes c s (fun e =>
        e.clk = { s.dev.clk with attempt := (b, cap) :: r, cap := cap, tryAt := s.dev.nowNs } ∧
        e.fld R.CLK_BANDSEL 5 0 = b ∧ e.fld R.CLK_BANDSEL 10 8 = 1 ∧ s.dev.Frame e [.clk] [R.CLK_BANDSEL])) ∧
    (s.dev.clkSrc = 1 → s.dev.bit R.CLK_STAT 4 = true → s.dev.bit R.CLK_STAT 3 = true → s.dev.bit R.CLK_STAT 2 = true →
      s.dev.relockDone = true → Completes .relockHoldComplete s (fun e => e.clkSrc = 0 ∧ e.bit R.CLK_STAT 4 = false ∧
        e.bit (R.TBn_STAT n) 4 = false ∧ e.bit (R.TBn_STAT n) 5 = false ∧ e.fld (R.TSUn_STAT n) 1 0 = 0 ∧
        (s.dev.stage = 2 → e.stage = 3) ∧ s.dev.Keeps (touches .relockHoldComplete) e)) ∧
    (s.dev.stage = 2 → s.dev.clkSrc = 1 → s.dev.bit R.CLK_STAT 3 = false → s.dev.clk.srcAt + 2000000000 ≤ s.dev.nowNs →
      Completes .reducedByTimeout s (fun e =>
      e.stage = 3 ∧ s.dev.Keeps (touches .reducedByTimeout) e)) ∧
    Completes .rcOscillatorStop s (fun e => e.clk = { s.dev.clk with rcStopped := true } ∧
      e.flt = { s.dev.flt with aliveFrozen := true } ∧ s.dev.Frame e [.out, .flt, .clk] [])

/-- The band table is written and surveyed; an idle island is asked to quiesce, closes or defers, and opens; SYNC_IN
restarts its outputs, or is ignored within 1 ms; an aligned output starts, then is moved by no more than its limit;
a synthesizer relocks; an IRIG-B frame of the presented second leaves. (Model choices: log 42, 56 and 64.) (On R32,
R427, R438 to R440, R443 to R445, R538.) -/
def Obligations.ClockOutputsAndGates : Prop :=
  ∀ (s : State) (w : Agent) (b : Fin 64) (v : Word) (mhz : List Nat) (i : Fin 24) (x : Hit) (j : Fin 12) (edge : Int)
    (k : Fin 4) (o : Fin 2) (y : IrigOut),
    ((match w with
      | .device => True
      | .host p => s.dev.commands p) → Completes (.clkBandWrite w b v) s (fun e =>
        e.rd (R.CLK_BAND b) = v &&& 0x80FF3FFF ∧ s.dev.Frame e [] [R.CLK_BAND b])) ∧
    (s.dev.clkSrc = 1 → s.dev.clk.surveyDue = true → mhz.length = 64 → (∀ x ∈ mhz, x < 16384) →
      Completes (.bandSurvey mhz) s (fun e => mhz[b.val]? = some (e.fld (R.CLK_BAND b) 13 0) ∧
        e.fld (R.CLK_BAND b) 31 14 = s.dev.fld (R.CLK_BAND b) 31 14 ∧ e.clk = { s.dev.clk with surveyDue := false } ∧
        s.dev.Frame e [.clk] ((List.range 64).map R.CLK_BAND))) ∧
    (s.dev.bit R.CLK_GATE_EN i = true → s.dev.bit R.CLK_GATE_OPEN i = true → i.val ∉ s.dev.clk.quiesce →
      Completes (.gateQuiesceRequest i) s (fun e => e.clk = { s.dev.clk with quiesce := i.val :: s.dev.clk.quiesce } ∧
        s.dev.Frame e [.clk] [])) ∧
    (i.val ∈ s.dev.clk.quiesce →
      Completes (.gateClose i) s (fun e => e.bit R.CLK_GATE_OPEN i = false ∧ i.val ∉ e.clk.quiesce ∧
        s.dev.OtherBits e R.CLK_GATE_OPEN [i] ∧ s.dev.Frame e [.clk] [R.CLK_GATE_OPEN]) ∧
      Completes (.gateDefer i) s (fun e => e.rd (R.CLK_GATE_DEFER i) = satAdd (s.dev.rd (R.CLK_GATE_DEFER i)) 1 ∧
        i.val ∉ e.clk.quiesce ∧ s.dev.Frame e [.clk] (R.CLK_GATE_DEFER i :: pmcRegs))) ∧
    Completes (.gateOpen i) s (fun e => i.val ∉ e.clk.quiesce ∧
      (i.val < 8 → s.dev.bit (R.MACn_STAT i) 10 = true ∨ s.dev.fld (R.MACn_CFG i) 3 0 = 0 → s.dev.Frame e [.clk] []) ∧
      (8 ≤ i.val ∨ (s.dev.bit (R.MACn_STAT i) 10 = false ∧ s.dev.fld (R.MACn_CFG i) 3 0 ≠ 0) →
        e.bit R.CLK_GATE_OPEN i = true) ∧
      s.dev.OtherBits e R.CLK_GATE_OPEN [i] ∧ s.dev.Frame e [.clk] [R.CLK_GATE_OPEN]) ∧
    (∀ t since, t = s.dev.stampAt 0 61 x → since = s.dev.sinceSet t → s.dev.bit R.OUT_SYNC_CFG 0 = true →
      Completes (.syncInEdge x) s (fun e =>
      (∀ l, s.dev.clk.lastSync = some l → since < l + (1000000 * 2 ^ 16 : Nat) →
        e.rd R.OUT_SYNC_IGN = satAdd (s.dev.rd R.OUT_SYNC_IGN) 1 ∧ s.dev.Frame e [.clk] [R.OUT_SYNC_IGN]) ∧
      ((∀ l, s.dev.clk.lastSync = some l → l + (1000000 * 2 ^ 16 : Nat) ≤ since) →
        e.nat R.OUT_SYNC_TS_SEC = sec16 t % 2 ^ 32 ∧ e.nat R.OUT_SYNC_TS_NS = ns16 t ∧ e.nat R.OUT_SYNC_TS_FRAC = frac16 t ∧
        e.rd R.OUT_SYNC_CNT = s.dev.rd R.OUT_SYNC_CNT + 1 ∧
        (s.dev.bit (R.CLKOj_CFG j) 2 = true → s.dev.bit (R.CLKOj_STAT j) 0 = true →
          e.bit (R.CLKOj_STAT j) 2 = true ∧ Out.clkSync j ∈ e.out) ∧
        s.dev.Frame e [.out, .clk] ([R.OUT_SYNC_TS_SEC, R.OUT_SYNC_TS_NS, R.OUT_SYNC_TS_FRAC, R.OUT_SYNC_CNT] ++
          (List.range 12).map R.CLKOj_STAT)) ∧ e.clk = { s.dev.clk with lastSync := some since })) ∧
    (∀ dly err, dly = signed 16 (s.dev.fld (R.CLKOj_DLY j) 15 0) → err = edge + dly → s.dev.bit (R.CLKOj_CFG j) 3 = true → s.dev.bit (R.CLKOj_CFG j) 0 = true →
      s.dev.bit (R.OSYNk_STAT (s.dev.fld (R.CLKOj_CFG j) 5 4)) 1 = true → Completes (.alignCorrection j edge) s (fun e =>
        ((s.dev.clkOutAt j).started = false → (e.clkOutAt j).started = true ∧ Out.clkMove j (-dly) ∈ e.out ∧
          (s.dev.bit (R.CLKOj_CFG j) 1 = false ∨ s.dev.owns = true → e.bit (R.CLKOj_STAT j) 0 = true)) ∧
        ((s.dev.clkOutAt j).started = true → e.bit (R.CLKOj_ADLL j) 31 = decide (err.natAbs < 100) ∧
          e.out = .clkMove j (max (-(s.dev.fld R.OUT_ADLL_SLEW 16 0 : Int)) (min (s.dev.fld R.OUT_ADLL_SLEW 16 0 : Int) (-err))) ::
            s.dev.out ∧ s.dev.Frame e [.out] [R.CLKOj_ADLL j]) ∧
        (∀ m : Nat, m ≠ j → e.clkOutAt m = s.dev.clkOutAt m) ∧
        s.dev.Frame e [.out, .clkOut] [R.CLKOj_ADLL j, R.CLKOj_STAT j])) ∧
    (s.dev.clkSrc ≠ 2 → s.dev.bit (R.OSYNk_CFG k) 31 = true → Completes (.osynRelock k) s (fun e =>
      e.bit (R.OSYNk_STAT k) 1 = true ∧ e.bit (R.OSYNk_STAT k) 2 = false ∧ Out.osynWord k (s.dev.osynWord k) ∈ e.out ∧
      e.bit (R.FLT_ACTIVE ((66 + k) / 32)) ((66 + k) % 32) = false ∧ s.dev.Keeps (touches (.osynRelock k)) e)) ∧
    Completes (.irigbOutFrame o y) s (fun e => s.dev.Frame e [.out] [] ∧
      (s.dev.isSet y.tb = true → s.dev.sys.applied = true → s.dev.bit (R.TBn_CFG y.tb) 4 = true →
        ∃ pend del, e.out = .irigb o y.tb (s.dev.count y.tb - s.dev.presented y.tb % secUnit)
          (irigElems y.code y.ext (irigTime (cSec (s.dev.presented y.tb)) (s.dev.bit (R.TBn_STAT y.tb) 7)) pend del
            (s.dev.irigQuality y.tb)) :: s.dev.out) ∧
      (s.dev.isSet y.tb = false ∨ s.dev.sys.applied = false ∨ s.dev.bit (R.TBn_CFG y.tb) 4 = false → e = s.dev))

/-! ### Start-up and the flash -/

/-- A reset of any cause puts every register but the fuses and the reset cause to its reset value; RESET_N high loads
the first bank that verifies, or ends in NOIMAGE; applying the image starts the blocks; a flash command starts its
operation or is refused with its result, and ends with it. (Model choices: log 3, 44 to 47 and 68.) (On R453 to
R455, R463 to R467, R471, R472, R528.) -/
def Obligations.ResetLoadAndFlash : Prop :=
  ∀ (s : State) (p : Port) (a : Nat) (i : StartIn) (x : ImgExtras) (failed : Bool),
    (∀ c cause : Nat, ∀ cmd, (cmd, cause) ∈ [(Instr.powerOnReset, 0), (.resetNLow, 1), (.supplyMonitorReset, 4)] →
      c = (if cause = 0 then 0 else min 65535 (s.dev.fld R.SYS_RSTCAUSE 31 16 + 1)) → Completes cmd s (fun e =>
        e.fld R.SYS_RSTCAUSE 31 16 = c ∧ e.fld R.SYS_RSTCAUSE 15 0 = cause ∧
        (a ∈ keptRegs → e.rd a = s.dev.rd a) ∧
        (a ∉ R.SYS_RSTCAUSE :: R.SYS_STAT :: keptRegs → e.rd a = resetWord a) ∧ e.pfw = s.dev.pfw ∧ e.sys.applied = false ∧
        e.sys.resetN = (if cause = 4 then s.dev.sys.resetN else false) ∧ (s.dev.sys.fl = none → e.flash = s.dev.flash) ∧
        State.reset.dev.Keeps [.regs, .fresh, .out, .nts, .sys, .flash] e ∧ e.nts = { seed := s.dev.flTorn.fresh })) ∧
    (s.dev.commands p → s.dev.stage ≠ 15 →
      (s.dev.bit R.REC_STAT 0 = false → Completes (.sysRestart p) s (fun e => e.fld R.SYS_RSTCAUSE 15 0 = 2 ∧
        e.sys.applied = false)) ∧
      (s.dev.bit R.REC_STAT 0 = true → Completes (.sysRestart p) s (fun e => e.bit R.REC_STAT 2 = true ∧
        e.flt = { s.dev.flt with resetAfterFlush := s.dev.flt.resetAfterFlush.or (some 2) }))) ∧
    (s.dev.sys.supplyLow = true → Completes .supplyMonitorRelease s (fun e => e.sys.supplyLow = false ∧
      (s.dev.sys.resetN = false → s.dev.Frame e [.out, .sys] []))) ∧
    (s.dev.sys.resetN = false → s.dev.sys.supplyLow = false → s.dev.bit R.REC_STAT 0 = false → Completes (.resetNRise i) s (fun e =>
      e.sys.resetN = true ∧ e.bit R.SYS_STRAP 1 = i.testMode ∧ e.bit R.SYS_STRAP 0 = i.pairPref ∧
      (i.testMode = true → e.stage = 14) ∧
      (i.testMode = false → i.jedec = none → e.stage = 15 ∧ e.sys.image = s.dev.sys.image) ∧
      (∀ c b img, i.testMode = false → i.jedec.isSome = true → s.dev.dirUsed = some c → b = beAt (s.dev.dirCopy c) 8 1 →
        s.dev.verifyBank b (if b = 0 then i.readA else i.readB) = .inl img →
        e.stage = 1 ∧ e.sys.image = some img ∧ e.bit R.CFG_STAT 1 = decide (b = 1)))) ∧
    (∀ img, s.dev.sys.image = some img → s.dev.stage = 1 → Completes (.imageApply x) s (fun e =>
      e.sys.applied = true ∧ e.sys.image = none ∧ e.stage = 2 ∧ e.nat R.CFG_VERSION = img.version % 2 ^ 32 ∧
      s.dev.Keeps (touches (.imageApply x)) e)) ∧
    (s.dev.commands p → s.dev.stage ≠ 15 → s.dev.bit R.CFG_FL_STAT 31 = false → s.dev.sys.fl = none →
      (∀ op cmd, (op, cmd) ∈ [(1, Instr.flErase p), (2, .flProgram p), (3, .flRead p), (4, .flCheck p), (5, .flActivate p)] →
        (s.dev.pfw = true → Completes cmd s (fun e => e.fld R.CFG_FL_STAT 2 0 = 3 ∧ s.dev.Frame e [] [R.CFG_FL_STAT])) ∧
        (s.dev.pfw = false → ∀ refuse : Nat, refuse = (match op with
            | 1 => if s.dev.flBanks.any (inBank (s.dev.flAddr / 65536 * 65536) 65536) then 0 else 1
            | 2 => if !s.dev.flBanks.any (inBank s.dev.flAddr 1) then 1 else if s.dev.flAddr % 256 ≠ 0 then 2 else 0
            | 3 => if 0x2000 ≤ s.dev.flAddr ∧ inBank s.dev.flAddr 1 0 = false ∧ inBank s.dev.flAddr 1 1 = false then 1
              else if s.dev.flAddr % 256 ≠ 0 then 2 else 0
            | 4 => 0
            | _ => if s.dev.bit R.CFG_STAT 6 then 0 else 6) →
          Completes cmd s (fun e =>
            (refuse ≠ 0 → e.fld R.CFG_FL_STAT 2 0 = refuse ∧ s.dev.Frame e [] [R.CFG_FL_STAT]) ∧
            (refuse = 0 → e.bit R.CFG_FL_STAT 31 = true ∧ (∃ o, e.sys.fl = some o ∧ o.op = op) ∧
              (op = 1 ∨ op = 2 → e.bit R.CFG_STAT 6 = false ∧ e.bit R.CFG_STAT 7 = true) ∧
              s.dev.Frame e [.sys] [R.CFG_FL_STAT, R.CFG_STAT]))))) ∧
    (∀ o, s.dev.sys.fl = some o → Completes (.flOpComplete failed) s (fun e =>
      e.sys.fl = none ∧ e.bit R.CFG_FL_STAT 31 = false ∧ e.fld R.CFG_FL_STAT 2 0 = (if failed then 5 else 0) ∧
      (failed = false → o.op = 1 → e.flash = (s.dev.flashErase (o.addr / 65536 * 65536) 65536).flash) ∧
      (failed = false → o.op = 2 → e.flash = (s.dev.flashProgram o.addr o.data).flash) ∧
      (failed = false → o.op = 3 → ∀ w, w < 64 →
        e.rd (R.CFG_FL_BUF w) = BitVec.ofNat 32 (beAt (s.dev.flashRead o.addr 256) (4 * w) 4)) ∧
      (∀ img, failed = false → o.op = 4 → o.addr = bankAddr 0 → s.dev.verifyBank 0 true = .inl img →
        e.bit R.CFG_STAT 6 = true ∧ e.nat R.CFG_CHK_VER = img.version % 2 ^ 32) ∧
      (failed = true → o.op = 4 → e.bit R.CFG_STAT 6 = false ∧ e.flash = s.dev.flash) ∧
      (3 ≤ o.op → o.op ≤ 4 → e.flash = s.dev.flash)))

/-! ### Faults, the recorder and the counters -/

/-- An occurrence pends and counts, the onset of a level source occurs once and its end clears it; pending bits are
cleared; a block reset discards what its block holds; a watchdog stops ALIVE; a chip reset follows its flush; power
failure is raised, flushes, stops the lanes and is over; corrected errors are counted. (Model choices: log 48, 51
and 68.) (On R401, R453, R477 to R488, R493.) -/
def Obligations.FaultsAndPowerFailure : Prop :=
  ∀ (s : State) (src : Fin 96) (info : Nat) (ended : Bool) (p : Port) (w : Fin 3) (v : Word) (n : Fin 8) (k : Fin 16),
    (reservedSources.contains src.val = true → Completes (.faultOccurrence src info ended) s (fun e => e = s.dev)) ∧
    (reservedSources.contains src.val = false → src.val < 93 → target? src ≠ some .pe →
      (levelSources.contains src.val = false → Completes (.faultOccurrence src info ended) s (fun e =>
        s.dev.Raised e src ∧ s.dev.FaultFrame e [] [])) ∧
      (levelSources.contains src.val = true →
        (s.dev.bit (R.FLT_ACTIVE (src / 32)) (src % 32) = false → Completes (.faultOccurrence src info false) s (fun e =>
          s.dev.Raised e src ∧ s.dev.FaultFrame e [] [])) ∧
        (s.dev.bit (R.FLT_ACTIVE (src / 32)) (src % 32) = true →
          Completes (.faultOccurrence src info false) s (fun e => e = s.dev) ∧
          Completes (.faultOccurrence src info true) s (fun e => e.bit (R.FLT_ACTIVE (src / 32)) (src % 32) = false ∧
            s.dev.OtherBits e (R.FLT_ACTIVE (src / 32)) [src % 32] ∧ s.dev.Keeps [.regs, .recd, .rings] e))) ∧
      (s.dev.stage = 14 → s.dev.reaches p = true → wbit v 31 = true → wfld v 6 0 = src →
        Completes (.faultInject p v) s (fun e => s.dev.Raised e src ∧ s.dev.FaultFrame e [] []))) ∧
    (s.dev.stage ≠ 14 → s.dev.commands p → Completes (.faultInject p v) s (fun e => e = s.dev)) ∧
    Completes .fltWatchdog s (fun e => s.dev.Raised e 29 ∧ e.bit R.FLT_STAT 3 = true ∧
      (s.dev.pairOn = true → s.dev.bit R.PAIR_STATE 11 = false → e.bit R.PAIR_STATE 0 = false) ∧ s.dev.FaultFrame e [] []) ∧
    (s.dev.commands p → Completes (.fltPendClear p w v) s (fun e =>
      e.rd (R.FLT_PEND w) = s.dev.rd (R.FLT_PEND w) &&& ~~~(v &&& ~~~s.dev.rd (R.FLT_ACTIVE w)) ∧
      s.dev.OtherBits e R.FLT_STAT [0] ∧ s.dev.Frame e [.out] [R.FLT_PEND w, R.FLT_STAT])) ∧
    (∀ t fwOk, t ∉ s.dev.flt.running → Completes (.blockResetComplete t fwOk) s (fun e => e = s.dev)) ∧
    (∀ fwOk, s.dev.flt.resetAfterFlush = none →
      (.mac n ∈ s.dev.flt.running → Completes (.blockResetComplete (.mac n) fwOk) s (fun e => Target.mac n ∉ e.flt.running ∧
        (e.portsAt n).rx = [] ∧ (e.portsAt n).fifo = [] ∧ (∀ m : Nat, m ≠ n → e.portsAt m = s.dev.portsAt m) ∧
        s.dev.Keeps [.regs, .ports, .flt] e)) ∧
      (.aes k ∈ s.dev.flt.running → Completes (.blockResetComplete (.aes k) fwOk) s (fun e =>
        Target.aes k ∉ e.flt.running ∧ s.dev.Frame e [.flt] [R.FLT_STAT])) ∧
      (.pe ∈ s.dev.flt.running → Completes (.blockResetComplete .pe fwOk) s (fun e => Target.pe ∉ e.flt.running ∧
        e.pe = { tokAt := s.dev.pe.tokAt } ∧ e.egress = [] ∧ (e.portsAt n).rx = []))) ∧
    Completes .chipReset s (fun e =>
      (s.dev.bit R.FLT_STAT 2 = true → s.dev.bit R.REC_STAT 2 = false → s.dev.flt.resetAfterFlush = some 3 →
        e.fld R.SYS_RSTCAUSE 15 0 = 3 ∧ e.sys.applied = false) ∧
      (s.dev.bit R.FLT_STAT 2 = false ∨ s.dev.bit R.REC_STAT 2 = true → e = s.dev)) ∧
    (s.dev.flt.pfwStopped = false → s.dev.sys.applied = true →
      Completes (.katRun 0 0) s (fun e => e = s.dev) ∧
      Completes (.katRun (BitVec.twoPow 16 k) 0) s (fun e => s.dev.Raised e (72 + k) ∧ s.dev.FaultFrame e [] [])) ∧
    (s.dev.pfw = false → Completes .pfwAssert s (fun e => e.pfw = true ∧
      (s.dev.bit (R.FLT_ACTIVE 0) 28 = false → s.dev.Raised e 28) ∧
      (s.dev.bit R.REC_STAT 0 = true → e.bit R.REC_STAT 2 = true) ∧ s.dev.FaultFrame e [] [R.SYS_STAT])) ∧
    (s.dev.pfw = true →
      (s.dev.flt.pfwStopped = false → s.dev.flt.pfwAt + 100000 ≤ s.dev.nowNs → Completes .pfwBlockStop s (fun e =>
        e.flt = { s.dev.flt with pfwStopped := true } ∧ e.linkUp n = false ∧ (∀ l, l < 2 → e.pair.lock.getD l false = false) ∧
        s.dev.Keeps [.regs, .flt, .ports, .ptpp, .pair] e)) ∧
      Completes .pfwDeassert s (fun e => e.pfw = false ∧ e.bit (R.FLT_ACTIVE 0) 28 = false ∧
        s.dev.Keeps (touches .pfwDeassert) e)) ∧
    (s.dev.pfwOver = true → s.dev.flt.pfwStopped = true → Completes .pfwRestart s (fun e =>
      e.flt = { s.dev.flt with pfwStopped := false } ∧ e.gnss.feRun = [] ∧ e.gnss.feStarted = [] ∧
      e.bit R.GNSS_STAT 0 = false ∧ s.dev.Keeps [.regs, .flt, .ch, .gnss] e)) ∧
    (memorySource src = false → Completes (.sramCorrectedError src) s (fun e => e = s.dev)) ∧
    (∀ c, memorySource src = true →
      c = (if s.dev.flt.ceAt = s.dev.nat R.SYS_UPTIME / 1000 then s.dev.flt.ceSecond + 1 else 1) →
      Completes (.sramCorrectedError src) s (fun e =>
        (c ≠ s.dev.fld R.FLT_CE_THR 15 0 + 1 → e.rd R.FLT_CE_CNT = satAdd (s.dev.rd R.FLT_CE_CNT) 1 ∧
          e.flt = { s.dev.flt with ceSecond := c, ceAt := s.dev.nat R.SYS_UPTIME / 1000 } ∧
          s.dev.Frame e [.flt] (R.FLT_CE_CNT :: pmcRegs)) ∧
        (c = s.dev.fld R.FLT_CE_THR 15 0 + 1 → s.dev.Raised e 30 ∧ s.dev.FaultFrame e [] [])))

/-- A freeze stops and ends; a mark is appended; segments are erased ahead; a flush starts, and ends with everything
flushed; a window is copied; the counters run, stop, are copied, zeroed and wrap; the sampler fills its ring or its
buffer. (Model choices: log 43, 49, 50 and 68.) (On R489 to R498.) -/
def Obligations.RecorderAndCounters : Prop :=
  ∀ (s : State) (p : Port) (us : Nat) (c : Fin 128) (i : SampleIn),
    (s.dev.commands p →
      (s.dev.bit R.REC_STAT 0 = true → Completes (.recFreeze p) s (fun e => e.bit R.REC_STAT 3 = true ∧
        s.dev.OtherBits e R.REC_STAT [3] ∧ (s.dev.bit R.REC_STAT 3 = false → e.recd.freezeAt = s.dev.nowNs) ∧
        s.dev.Frame e [.recd] [R.REC_STAT])) ∧
      (s.dev.bit R.REC_STAT 3 = true → Completes (.recUnfreeze p) s (fun e => e.bit R.REC_STAT 3 = false ∧
        e.recd.staged = [] ∧ (s.dev.recd.staged = [] → e.recd.held = s.dev.recd.held ∧ e.recd.unflushed = s.dev.recd.unflushed) ∧
        s.dev.Frame e [.recd] [R.REC_STAT, R.REC_DROP, R.REC_RING_WR, R.REC_RING_FL, R.REC_RING_OLD, R.REC_STG_LVL])) ∧
      (∀ bytes, bytes = s.dev.recBytes ⟨0x000D, 0x1F, (List.range 4).flatMap (fun w => be 4 (s.dev.nat (R.REC_MARK w)))⟩ false →
        s.dev.bit R.REC_STAT 0 = true → s.dev.bit R.REC_STAT 3 = false → s.dev.recd.lossRing = 0 → s.dev.recd.lossStg = 0 →
        unflushedBytes s.dev.recd + bytes.length ≤ 262144 → Completes (.recMark p) s (fun e =>
          e.recd.held.getLast? = some ⟨s.dev.nat R.REC_RING_WR, bytes⟩ ∧ e.recd.unflushed = s.dev.recd.unflushed + 1 ∧
          e.rd R.REC_SEQ = s.dev.rd R.REC_SEQ + 1 ∧ s.dev.Keeps [.regs, .recd, .rings] e)) ∧
      Completes (.pmcStart p) s (fun e => e.bit R.PMC_STAT 0 = true ∧ s.dev.OtherBits e R.PMC_STAT [0] ∧
        s.dev.Frame e [] [R.PMC_STAT]) ∧
      Completes (.pmcStop p) s (fun e => e.bit R.PMC_STAT 0 = false ∧ s.dev.OtherBits e R.PMC_STAT [0] ∧
        s.dev.Frame e [] [R.PMC_STAT]) ∧
      Completes (.pmcSnap p) s (fun e => e.rd (R.PMCc_SNAP_LO c) = s.dev.rd (R.PMCc_LO c) ∧
        e.rd (R.PMCc_SNAP_HI c) = s.dev.rd (R.PMCc_HI c) ∧
        s.dev.Frame e [] ((List.range 128).map R.PMCc_SNAP_LO ++ (List.range 128).map R.PMCc_SNAP_HI)) ∧
      Completes (.pmcClear p) s (fun e => e.rd (R.PMCc_LO c) = 0 ∧ e.rd (R.PMCc_HI c) = 0 ∧
        s.dev.Frame e [] ((List.range 128).map R.PMCc_LO ++ (List.range 128).map R.PMCc_HI)) ∧
      Completes (.pmcSampReset p) s (fun e => e.rd R.PMC_SAMP_STAT = 0 ∧ s.dev.Frame e [] [R.PMC_SAMP_STAT])) ∧
    (s.dev.bit R.REC_STAT 3 = true →
      s.dev.recd.freezeAt + s.dev.fld R.REC_FREEZE_MAX 9 0 * 1000000000 ≤ s.dev.nowNs → Completes .recFreezeExpire s (fun e => e.bit R.REC_STAT 3 = false ∧
      e.bit R.REC_STAT 5 = true ∧ e.recd.staged = [] ∧
      s.dev.Frame e [.recd] [R.REC_STAT, R.REC_DROP, R.REC_RING_WR, R.REC_RING_FL, R.REC_RING_OLD, R.REC_STG_LVL])) ∧
    (s.dev.bit R.REC_STAT 0 = true → s.dev.recd.nextErased = false → Completes .recSegmentErase s (fun e =>
      e.bit R.REC_STAT 1 = true ∧ s.dev.OtherBits e R.REC_STAT [1] ∧ s.dev.Frame e [] [R.REC_STAT])) ∧
    (s.dev.bit R.REC_STAT 1 = true → Completes .recSegmentEraseDone s (fun e => e.bit R.REC_STAT 1 = false ∧
      e.recd = { s.dev.recd with nextErased := true } ∧
      e.flash = (s.dev.flashErase (segAddr ((s.dev.nat R.REC_SEG + 1) % 512)) 0x10000).flash ∧
      s.dev.Frame e [.recd, .flash] [R.REC_STAT])) ∧
    (s.dev.flushDue = true → s.dev.ks.store = none → s.dev.bit R.CFG_FL_STAT 31 = false → s.dev.bit R.REC_STAT 0 = true →
      s.dev.bit R.REC_STAT 2 = false → Completes .recBackgroundFlush s (fun e => e.bit R.REC_STAT 2 = true ∧
        s.dev.OtherBits e R.REC_STAT [2] ∧ e.recd = { s.dev.recd with flushReason := 0 } ∧
        s.dev.Frame e [.recd] [R.REC_STAT])) ∧
    (s.dev.bit R.REC_STAT 2 = true → s.dev.flt.resetAfterFlush ≠ some 2 → Completes (.recFlushDone us) s (fun e =>
      e.bit R.REC_STAT 2 = false ∧ e.recd.unflushed = 0 ∧ e.recd.held = s.dev.recd.held ∧
      e.rd R.REC_FLUSHES = s.dev.rd R.REC_FLUSHES + 1 ∧ e.nat R.REC_FLUSH_US = us % 2 ^ 32 ∧
      s.dev.Keeps [.regs, .recd, .flash] e)) ∧
    (s.dev.reaches p = true → s.dev.sys.applied = true → Completes (.recWinLoad p) s (fun e =>
      Map.get e.recd.winLoad (fun _ => none) p.num = some (s.dev.rd (pAddr p R.REC_WIN_ADDR)) ∧
      e.rd (pAddr p R.REC_WIN_STAT) = 0x80000000 ∧ s.dev.Frame e [.recd] [pAddr p R.REC_WIN_STAT])) ∧
    (∀ a, Map.get s.dev.recd.winLoad (fun _ => none) p.num = some a → (wbit a 31 = false ∨ s.dev.bit R.REC_STAT 2 = false) →
      Completes (.recWinLoadDone p) s (fun e => Map.get e.recd.winLoad (fun _ => none) p.num = none ∧
        (∀ bs, s.dev.winBytes a = some bs → e.rd (pAddr p R.REC_WIN_STAT) = 0 ∧
          ∀ w, w < 64 → e.rd (pAddr p (R.REC_WIN w)) = BitVec.ofNat 32 (beAt bs (4 * w) 4)) ∧
        (s.dev.winBytes a = none → e.rd (pAddr p R.REC_WIN_STAT) = 1) ∧
        s.dev.Frame e [.recd] (pAddr p R.REC_WIN_STAT :: (List.range 64).map (fun w => pAddr p (R.REC_WIN w))))) ∧
    (s.dev.bit R.PMC_STAT 0 = true → s.dev.bit (R.PMCc_SEL c) 31 = true → Completes (.pmcCounterWrap c) s (fun e =>
      e.rd (R.PMCc_LO c) = 0 ∧ e.rd (R.PMCc_HI c) = 0 ∧ e.bit (R.PMC_WRAP (c / 32)) (c % 32) = true ∧
      s.dev.OtherBits e (R.PMC_WRAP (c / 32)) [c % 32] ∧
      s.dev.Frame e [] [R.PMCc_LO c, R.PMCc_HI c, R.PMC_WRAP (c / 32)])) ∧
    Completes (.pmcSample i) s (fun e => ∀ on k, on = (s.dev.bit R.PMC_SAMP_CFG 31 && s.dev.bit R.PMC_SAMP_CFG (24 + i.core)) →
      k = s.dev.fld R.PMC_SAMP_STAT 10 0 →
      (on = false → e = s.dev) ∧
      (on = true → s.dev.bit R.PMC_SAMP_CFG 30 = true → s.dev.ringRoom 3 16 = true →
        (e.ringsAt 3).staged = (s.dev.ringsAt 3).staged ++ [⟨0x09, (s.dev.ringsAt 3).seq, s.dev.sampleBytes i, none, s.dev.nowNs⟩] ∧
        e.rd R.PMC_SAMP_CNT = s.dev.rd R.PMC_SAMP_CNT + 1 ∧ s.dev.Frame e [.rings] [R.PMC_SAMP_CNT]) ∧
      (on = true → s.dev.bit R.PMC_SAMP_CFG 30 = false → s.dev.bit R.PMC_SAMP_STAT 31 = false → k < 1024 →
        (∀ w, w < 4 → e.rd (R.PMC_SAMPLE k w) = BitVec.ofNat 32 (beAt (s.dev.sampleBytes i) (4 * w) 4)) ∧
        e.fld R.PMC_SAMP_STAT 10 0 = k + 1 ∧ e.bit R.PMC_SAMP_STAT 31 = decide (k + 1 = 1024) ∧
        e.rd R.PMC_SAMP_CNT = s.dev.rd R.PMC_SAMP_CNT + 1 ∧
        s.dev.Frame e [] [R.PMC_SAMP_CNT, R.PMC_SAMP_STAT, R.PMC_SAMPLE k 0, R.PMC_SAMPLE k 1, R.PMC_SAMPLE k 2, R.PMC_SAMPLE k 3]))

/-! ### The host ports -/

/-- A write of a register that has a command of its own is that command; a plain register stores its writable bits and
clears those written 1; a register no host writes, an address with no register, a partial word and a port without
the role change nothing but their counter; a counter that clears on a read clears for a Custodian only. The image
keeps the limit of R431. (Model choices: log 61.) (On R8 to R11, R499, R508 to R510.) -/
def Obligations.RegisterAccess : Prop :=
  ∀ (s : State) (p : Port) (a : BitVec 24) (v : Word) (times : Fin 3) (n k : Fin 8) (b : Fin 64) (j : Fin 32) (w : Fin 3),
    s.dev.mgmtTooSlow = false → s.dev.reaches p = true → s.dev.sys.applied = true →
    ((∀ r c, (r, c) ∈ [(R.TBn_INC_HI n, Instr.tbIncHiWrite (.host p) n v), (R.EIOn_CFG j, .eioCfgWrite p j v),
          (R.PPSm_OFS n, .ppsSettingsWrite p n .ofs v), (R.REF_LOCKOUT, .refLockoutWrite p v),
          (R.PE_RINGk_TAIL k, .ringTailWrite p k v), (R.PTPi_TXSA n, .ptpTxsaWrite p n v),
          (R.PTP_SESS_CMD, .sessionCancelCmd p v), (R.CLK_BAND b, .clkBandWrite (.host p) b v),
          (R.FLT_PEND w, .fltPendClear p w v), (R.FLT_INJ, .faultInject p v), (R.HIF_ISTAT, .hifIstatWrite p v)] →
        exec (.registerWrite p (BitVec.ofNat 24 r) v false times) s = exec c s) ∧
    (∀ r x, r = a.toNat / 4 * 4 →
      Completes (.registerWrite .pcie a v true times) s (fun e => s.dev.reaches .pcie = true →
        e.rd R.HIF_BADACC = satAdd (s.dev.rd R.HIF_BADACC) 1 ∧ s.dev.Frame e [] [R.HIF_BADACC]) ∧
      (regAt r = none →
        (∀ c ∈ [Instr.registerWrite p a v false times, .unmappedAccess p a true], Completes c s (fun e =>
          e.rd (pAddr p R.HIF_UNMAPPED) = satAdd (s.dev.rd (pAddr p R.HIF_UNMAPPED)) 1 ∧
          s.dev.Frame e [] [pAddr p R.HIF_UNMAPPED])) ∧
        (∀ c ∈ [Instr.rcReadClear p a times, .unmappedAccess p a false], Completes c s (fun e =>
          e.rd (pAddr p R.HIF_UNMAPPED) = satAdd (s.dev.rd (pAddr p R.HIF_UNMAPPED)) 1 ∧
          e.out = .readData p 0 :: s.dev.out ∧ s.dev.Frame e [.out] [pAddr p R.HIF_UNMAPPED]))) ∧
      (regAt r = some x →
        Completes (.unmappedAccess p a true) s (fun e => e = s.dev) ∧
        (x.acc.fixed = true → Completes (.registerWrite p a v false times) s (fun e =>
          e.rd (pAddr p R.HIF_WRIGN) = satAdd (s.dev.rd (pAddr p R.HIF_WRIGN)) 1 ∧
          s.dev.Frame e [] [pAddr p R.HIF_WRIGN])) ∧
        (∀ at_, at_ = (if x.perPort then pAddr p r else r) →
          (x.acc.fixed = false → (writeFn? r).isNone = true → Completes (.registerWrite p a v false times) s (fun e =>
            (s.dev.isCust p = true → (∀ i, i < 32 → e.bit at_ i =
                if (BitVec.ofNat 32 x.w1c).getLsbD i && v.getLsbD i then false
                else if (BitVec.ofNat 32 x.rw).getLsbD i then v.getLsbD i else s.dev.bit at_ i) ∧ s.dev.Frame e [] [at_]) ∧
            (s.dev.isCust p = false → e.rd (pAddr p R.HIF_WRIGN) = satAdd (s.dev.rd (pAddr p R.HIF_WRIGN)) 1 ∧
              s.dev.Frame e [] [pAddr p R.HIF_WRIGN]))) ∧
          (x.acc = .rc → s.dev.readHidden p r = false → Completes (.rcReadClear p a times) s (fun e =>
            e.out = .readData p (s.dev.rd at_) :: s.dev.out ∧ (s.dev.isCust p = true → e.rd at_ = 0) ∧
            (s.dev.isCust p = false → e.rd at_ = s.dev.rd at_) ∧ s.dev.Frame e [.out] [at_]))))))

/-- The PCIe link's events take the Custodian role from the port, stop the rings and show the link; configuration and
early memory requests are answered; the SPI slave answers its status, reads, queues its writes and performs them;
interrupt bits clear where 1 is written; an unmasked vector's pending message leaves. (Model choices: log 53 and
54.) (On R506, R507, R512 to R515, R519, R521, R545.) -/
def Obligations.PcieSpiAndInterrupts : Prop :=
  ∀ (s : State) (k : Fin 8) (speed width : Fin 5) (write : Bool) (a : BitVec 24) (n : Fin 64) (words : List Word) (fits : Nat)
    (p : Port) (v : Word) (m : Fin 16),
    ((∀ (j : Nat), j < 8 → ∀ x ∈ (s.dev.ringsAt j).staged, ∀ c, x.ctr = some c → c < 0x120000) →
      (∀ c, c ∈ [Instr.pcieFlr, .pcieHotReset, .pcieLinkDown] → Completes c s (fun e =>
        e.isCust .pcie = false ∧ e.rd R.HIF_IEN = 0 ∧ e.rd R.HIF_LINKEV = satAdd (s.dev.rd R.HIF_LINKEV) 1 ∧
        (c = .pcieFlr → e.rd R.HIF_LINK = s.dev.rd R.HIF_LINK) ∧ (c ≠ .pcieFlr → e.rd R.HIF_LINK = 0) ∧
        (c = .pcieLinkDown → s.dev.Raised e 62) ∧
        (c ≠ .pcieLinkDown → e.ringEn k = false ∧ e.hif = { s.dev.hif with msixMask := 0xFFFF, msixPend := 0, d3hot := false }) ∧
        s.dev.Keeps (touches c) e)) ∧
      Completes .pcieD3hotEntry s (fun e => e.hif = { s.dev.hif with d3hot := true } ∧ e.ringEn k = false ∧
        e.pe.lostResults = s.dev.pe.hostCmds.length ∧ e.isCust .pcie = s.dev.isCust .pcie ∧
        s.dev.Keeps (touches .pcieD3hotEntry) e)) ∧
    Completes .pcieD0Return s (fun e => e.hif = { s.dev.hif with d3hot := false } ∧ s.dev.Frame e [.hif] []) ∧
    Completes (.pcieLinkUp speed width) s (fun e => e.bit R.HIF_LINK 31 = true ∧ e.fld R.HIF_LINK 7 0 = 0x0B ∧
      e.fld R.HIF_LINK 18 16 = speed ∧ e.fld R.HIF_LINK 12 8 = width ∧ s.dev.Frame e [] [R.HIF_LINK]) ∧
    Completes .pcieConfigRequest s (fun e => s.dev.Frame e [.out] [] ∧
      ∀ retry, retry = (!s.dev.sys.applied && s.dev.stage != 15 && s.dev.stage != 14) →
        e.out = .configAnswer retry (if retry then [] else s.dev.pciHeader) :: s.dev.out) ∧
    (s.dev.sys.applied = false → s.dev.stage ≠ 15 → s.dev.stage ≠ 14 → Completes (.pcieEarlyMemoryRequest write) s (fun e =>
      (write = false → e.out = .unsupported :: s.dev.out ∧ s.dev.Frame e [.out] []) ∧ (write = true → e = s.dev))) ∧
    (s.dev.reaches .spi = true →
      (∀ c, c ∈ [Instr.spiStatus, .spiNop] → Completes c s (fun e =>
        e.out = .spiStatus (BitVec.ofNat 8 (0xA0 + 8 * b2n s.dev.hif.wrovf + 4 * b2n (s.dev.isCust .spi) +
          2 * b2n s.dev.sys.applied + b2n s.dev.spiBusy)) :: s.dev.out ∧
        e.hif = { s.dev.hif with wrovf := false } ∧ e.bit R.HIF_SPI_STAT 3 = s.dev.hif.wrovf ∧
        s.dev.OtherBits e R.HIF_SPI_STAT [3] ∧ s.dev.Frame e [.out, .hif] [R.HIF_SPI_STAT])) ∧
      (s.dev.spiBusy = true → ∀ c, c ∈ [Instr.spiRead a n true, .spiRead a n false, .spiWrite a words fits] →
        Completes c s (fun e => e.rd R.HIF_SPI_BUSYREJ = satAdd (s.dev.rd R.HIF_SPI_BUSYREJ) 1 ∧
          e.hif.ferry = s.dev.hif.ferry ∧ s.dev.Frame e [.out, .hif] [R.HIF_SPI_STAT, R.HIF_SPI_BUSYREJ])) ∧
      (s.dev.spiBusy = false → s.dev.mgmtTooSlow = false →
        (∀ d r, d = s.dev.spiStatusOut → r = d.hostRead .spi (a.toNat / 4 * 4) →
          Completes (.spiRead a 0 true) s (fun e => e = r.2.emit (.spiRead 0xA5 [r.1])) ∧
          Completes (.spiRead a 0 false) s (fun e => e.out = .spiRead 0xFF [] :: r.2.out ∧
            e.rd R.HIF_SPI_RDTMO = satAdd (r.2.rd R.HIF_SPI_RDTMO) 1 ∧ r.2.Frame e [.out] [R.HIF_SPI_RDTMO])) ∧
        (words.length ≤ 64 → words ≠ [] → Completes (.spiWrite a words fits) s (fun e =>
          (s.dev.clkSrc = 0 ∨ words.length ≤ max fits 2 →
            e.hif.ferry = words.zipIdx.map (fun w => (burstAddr a.toNat w.2, w.1)) ∧ e.hif.wrovf = false) ∧
          (s.dev.clkSrc ≠ 0 → max fits 2 < words.length → e.hif.ferry.length = max fits 2 ∧ e.hif.wrovf = true) ∧
          e.bit R.HIF_SPI_STAT 0 = true ∧ s.dev.Frame e [.out, .hif] [R.HIF_SPI_STAT])))) ∧
    (∀ at_ x rest, s.dev.hif.ferry = (at_, x) :: rest → Completes .spiWritePerformed s (fun e => ∃ d : Dev,
      d.hif = { s.dev.hif with ferry := rest } ∧ d.bit R.HIF_SPI_STAT 0 = !rest.isEmpty ∧
      s.dev.Frame d [.hif] [R.HIF_SPI_STAT] ∧ e = d.hostWrite .spi at_ x)) ∧
    (s.dev.reaches p = true → s.dev.sys.applied = true → Completes (.hifIstatWrite p v) s (fun e =>
      e.rd (pAddr p R.HIF_ISTAT) = s.dev.rd (pAddr p R.HIF_ISTAT) &&& ~~~v ∧ s.dev.Frame e [] [pAddr p R.HIF_ISTAT])) ∧
    (s.dev.reaches .pcie = true → Completes (.msixUnmask m) s (fun e =>
      e.hif.msixMask.getLsbD m = false ∧ e.hif.msixPend.getLsbD m = false ∧
      (s.dev.hif.msixPend.getLsbD m = true → e.out = .msix m :: s.dev.out) ∧
      (s.dev.hif.msixPend.getLsbD m = false → e.out = s.dev.out) ∧ s.dev.Frame e [.out, .hif] []))
end

