-- ==== Sys2Proof/Laws/Map.lean ====
section
/-! SUPPORT. Laws of sparse maps: read after write, and the canonical form is kept. -/
set_option Elab.async false
namespace Sys2Proof.Laws
open Sys2Proof.Machine

variable {α : Type}

theorem Map.find?_ins_same (m : Map α) (k : Nat) (v : α) : Map.find? (Map.ins m k v) k = some v := by
  induction m with
  | nil => simp [Map.ins, Map.find?]
  | cons p r ih =>
    obtain ⟨j, w⟩ := p
    simp only [Map.ins]
    split
    · simp [Map.find?]
    · split
      · simp [Map.find?]
      · next h _ => simp [Map.find?, h, ih]

theorem Map.find?_ins_ne (m : Map α) (k k' : Nat) (v : α) (h : k' ≠ k) :
    Map.find? (Map.ins m k v) k' = Map.find? m k' := by
  induction m with
  | nil => simp [Map.ins, Map.find?, h]
  | cons p r ih =>
    obtain ⟨j, w⟩ := p
    simp only [Map.ins]
    split
    · next e => subst e; simp [Map.find?, h]
    · split
      · simp [Map.find?, h]
      · simp [Map.find?, ih]

theorem Map.find?_del_same (m : Map α) (k : Nat) : Map.find? (Map.del m k) k = none := by
  induction m with
  | nil => simp [Map.del, Map.find?]
  | cons p r ih =>
    obtain ⟨j, w⟩ := p
    simp only [Map.del, List.filter] at *
    by_cases h : j = k
    · subst h; simpa using ih
    · have : (j != k) = true := by simp [h]
      simp [this, Map.find?, ih, Ne.symm h]

theorem Map.find?_del_ne (m : Map α) (k k' : Nat) (h : k' ≠ k) :
    Map.find? (Map.del m k) k' = Map.find? m k' := by
  induction m with
  | nil => simp [Map.del, Map.find?]
  | cons p r ih =>
    obtain ⟨j, w⟩ := p
    simp only [Map.del, List.filter] at *
    by_cases e : j = k
    · subst e; simp [Map.find?, h, ih]
    · have : (j != k) = true := by simp [e]
      simp [this, Map.find?, ih]

variable [DecidableEq α]

/-- A read after a write to the same key gives the value written. -/
theorem Map.get_put_same (m : Map α) (dflt : Nat → α) (k : Nat) (v : α) :
    Map.get (Map.put m dflt k v) dflt k = v := by
  unfold Map.put Map.get
  split
  · next h => simp [Map.find?_del_same, h]
  · simp [Map.find?_ins_same]

/-- A write leaves every other key alone. -/
theorem Map.get_put_ne (m : Map α) (dflt : Nat → α) (k k' : Nat) (v : α) (h : k' ≠ k) :
    Map.get (Map.put m dflt k v) dflt k' = Map.get m dflt k' := by
  unfold Map.put Map.get
  split
  · simp [Map.find?_del_ne _ _ _ h]
  · simp [Map.find?_ins_ne _ _ _ _ h]

omit [DecidableEq α] in
theorem Map.mem_ins (m : Map α) (k : Nat) (v : α) (p : Nat × α) (h : p ∈ Map.ins m k v) :
    p = (k, v) ∨ p ∈ m := by
  induction m with
  | nil => simpa [Map.ins] using h
  | cons q r ih =>
    obtain ⟨j, w⟩ := q
    simp only [Map.ins] at h
    split at h
    · rcases List.mem_cons.1 h with h | h
      · exact .inl h
      · exact .inr (List.mem_cons_of_mem _ h)
    · split at h
      · rcases List.mem_cons.1 h with h | h
        · exact .inl h
        · exact .inr h
      · rcases List.mem_cons.1 h with h | h
        · exact .inr (h ▸ List.mem_cons_self ..)
        · rcases ih h with h | h
          · exact .inl h
          · exact .inr (List.mem_cons_of_mem _ h)

omit [DecidableEq α] in
theorem Map.ins_sorted (m : Map α) (k : Nat) (v : α) (h : List.Pairwise (fun p q => p.1 < q.1) m) :
    List.Pairwise (fun p q => p.1 < q.1) (Map.ins m k v) := by
  induction m with
  | nil => simp [Map.ins]
  | cons q r ih =>
    obtain ⟨j, w⟩ := q
    rw [List.pairwise_cons] at h
    simp only [Map.ins]
    split
    · next e => subst e; exact List.pairwise_cons.2 ⟨h.1, h.2⟩
    · split
      · next hlt =>
        refine List.pairwise_cons.2 ⟨?_, List.pairwise_cons.2 h⟩
        intro p hp
        rcases List.mem_cons.1 hp with rfl | hp
        · exact hlt
        · exact Nat.lt_trans hlt (h.1 p hp)
      · next hne hge =>
        refine List.pairwise_cons.2 ⟨?_, ih h.2⟩
        intro p hp
        rcases Map.mem_ins r k v p hp with rfl | hp
        · simp only; omega
        · exact h.1 p hp

/-- Every write keeps the canonical form. -/
theorem Map.put_wf (m : Map α) (dflt : Nat → α) (k : Nat) (v : α) (h : Map.wf m dflt) :
    Map.wf (Map.put m dflt k v) dflt := by
  unfold Map.put
  split
  · refine ⟨h.1.sublist (List.filter_sublist), fun p hp => h.2 p (List.mem_filter.1 hp).1⟩
  · next hv =>
    refine ⟨Map.ins_sorted m k v h.1, fun p hp => ?_⟩
    rcases Map.mem_ins m k v p hp with rfl | hp
    · exact hv
    · exact h.2 p hp

theorem Map.nil_wf (dflt : Nat → α) : Map.wf ([] : Map α) dflt := ⟨List.Pairwise.nil, by simp⟩

end Sys2Proof.Laws
end

