-- ==== Sys2Proof/Laws/RegsWf1.lean ====
section
/-! SUPPORT. One lemma per function of the model that answers a device: it keeps the register store in its canonical form
(part 1 of 4, callees first). -/
set_option Elab.async false
namespace Sys2Proof.Laws
open Sys2Proof.Machine

theorem foldl_regsWf {α : Type} (l : List α) (f : Dev → α → Dev) (hf : ∀ d x, d.regsWf → (f d x).regsWf) (d : Dev) (h
    : d.regsWf) : (l.foldl f d).regsWf := by
  induction l generalizing d with
  | nil => exact h
  | cons x r ih => exact ih _ (hf _ _ h)
theorem Dev_setPtpi_regsWf (d0) (x1) (x2) : d0.regsWf → (Dev.setPtpi d0 x1 x2).regsWf := by
  intros; unfold Dev.setPtpi; grind [Dev.regsWf, foldl_regsWf]
theorem Dev_setSel_regsWf (d0) (x1) (x2) : d0.regsWf → (Dev.setSel d0 x1 x2).regsWf := by
  intros; unfold Dev.setSel; grind [Dev.regsWf, foldl_regsWf]
theorem Dev_setLines_regsWf (d0) (x1) (x2) : d0.regsWf → (Dev.setLines d0 x1 x2).regsWf := by
  intros; unfold Dev.setLines; grind [Dev.regsWf, foldl_regsWf]
theorem Dev_setClkOut_regsWf (d0) (x1) (x2) : d0.regsWf → (Dev.setClkOut d0 x1 x2).regsWf := by
  intros; unfold Dev.setClkOut; grind [Dev.regsWf, foldl_regsWf]
theorem Dev_setPorts_regsWf (d0) (x1) (x2) : d0.regsWf → (Dev.setPorts d0 x1 x2).regsWf := by
  intros; unfold Dev.setPorts; grind [Dev.regsWf, foldl_regsWf]
theorem Dev_setCh_regsWf (d0) (x1) (x2) : d0.regsWf → (Dev.setCh d0 x1 x2).regsWf := by
  intros; unfold Dev.setCh; grind [Dev.regsWf, foldl_regsWf]
theorem Dev_setRn_regsWf (d0) (x1) (x2) : d0.regsWf → (Dev.setRn d0 x1 x2).regsWf := by
  intros; unfold Dev.setRn; grind [Dev.regsWf, foldl_regsWf]
theorem Dev_setRings_regsWf (d0) (x1) (x2) : d0.regsWf → (Dev.setRings d0 x1 x2).regsWf := by
  intros; unfold Dev.setRings; grind [Dev.regsWf, foldl_regsWf]
theorem Dev_setPtpx_regsWf (d0) (x1) (x2) : d0.regsWf → (Dev.setPtpx d0 x1 x2).regsWf := by
  intros; unfold Dev.setPtpx; grind [Dev.regsWf, foldl_regsWf]
theorem Dev_setModels_regsWf (d0) (x1) (x2) : d0.regsWf → (Dev.setModels d0 x1 x2).regsWf := by
  intros; unfold Dev.setModels; grind [Dev.regsWf, foldl_regsWf]
theorem Dev_setSols_regsWf (d0) (x1) (x2) : d0.regsWf → (Dev.setSols d0 x1 x2).regsWf := by
  intros; unfold Dev.setSols; grind [Dev.regsWf, foldl_regsWf]
theorem Dev_setSrv_regsWf (d0) (x1) (x2) : d0.regsWf → (Dev.setSrv d0 x1 x2).regsWf := by
  intros; unfold Dev.setSrv; grind [Dev.regsWf, foldl_regsWf]
theorem Dev_setOsyn_regsWf (d0) (x1) (x2) : d0.regsWf → (Dev.setOsyn d0 x1 x2).regsWf := by
  intros; unfold Dev.setOsyn; grind [Dev.regsWf, foldl_regsWf]
theorem Dev_setTxq_regsWf (d0) (x1) (x2) : d0.regsWf → (Dev.setTxq d0 x1 x2).regsWf := by
  intros; unfold Dev.setTxq; grind [Dev.regsWf, foldl_regsWf]
theorem Dev_setPps_regsWf (d0) (x1) (x2) : d0.regsWf → (Dev.setPps d0 x1 x2).regsWf := by
  intros; unfold Dev.setPps; grind [Dev.regsWf, foldl_regsWf]
theorem Dev_setEio_regsWf (d0) (x1) (x2) : d0.regsWf → (Dev.setEio d0 x1 x2).regsWf := by
  intros; unfold Dev.setEio; grind [Dev.regsWf, foldl_regsWf]
theorem Dev_setEgress_regsWf (d0) (x1) (x2) : d0.regsWf → (Dev.setEgress d0 x1 x2).regsWf := by
  intros; unfold Dev.setEgress; grind [Dev.regsWf, foldl_regsWf]
theorem Dev_setRefs_regsWf (d0) (x1) (x2) : d0.regsWf → (Dev.setRefs d0 x1 x2).regsWf := by
  intros; unfold Dev.setRefs; grind [Dev.regsWf, foldl_regsWf]
theorem Dev_setPtpp_regsWf (d0) (x1) (x2) : d0.regsWf → (Dev.setPtpp d0 x1 x2).regsWf := by
  intros; unfold Dev.setPtpp; grind [Dev.regsWf, foldl_regsWf]
theorem Dev_setEb_regsWf (d0) (x1) (x2) : d0.regsWf → (Dev.setEb d0 x1 x2).regsWf := by
  intros; unfold Dev.setEb; grind [Dev.regsWf, foldl_regsWf]
theorem Dev_setTb_regsWf (d0) (x1) (x2) : d0.regsWf → (Dev.setTb d0 x1 x2).regsWf := by
  intros; unfold Dev.setTb; grind [Dev.regsWf, foldl_regsWf]
theorem Dev_wr_regsWf (d0) (x1) (x2) : d0.regsWf → (Dev.wr d0 x1 x2).regsWf := fun h => Map.put_wf _ _ _ _ h
theorem Dev_wrNat_regsWf (d0) (x1) (x2) : d0.regsWf → (Dev.wrNat d0 x1 x2).regsWf := by
  intros; unfold Dev.wrNat; grind [Dev.regsWf, foldl_regsWf, Dev_wr_regsWf]
theorem Dev_maxReg_regsWf (d0) (x1) (x2) : d0.regsWf → (Dev.maxReg d0 x1 x2).regsWf := by
  intros; unfold Dev.maxReg; grind [Dev.regsWf, foldl_regsWf, Dev_wrNat_regsWf]
theorem Dev_wrNat64_regsWf (d0) (x1) (x2) (x3) : d0.regsWf → (Dev.wrNat64 d0 x1 x2 x3).regsWf := by
  intros; unfold Dev.wrNat64; grind [Dev.regsWf, foldl_regsWf, Dev_wrNat_regsWf]
theorem Dev_bump64_regsWf (d0) (x1) (x2) : d0.regsWf → (Dev.bump64 d0 x1 x2).regsWf := by
  intros; unfold Dev.bump64; grind [Dev.regsWf, foldl_regsWf, Dev_wrNat64_regsWf]
theorem Dev_bumpBy_regsWf (d0) (x1) (x2) : d0.regsWf → (Dev.bumpBy d0 x1 x2).regsWf := by
  intros; unfold Dev.bumpBy; grind [Dev.regsWf, foldl_regsWf, Dev_wr_regsWf]
theorem Dev_bump_regsWf (d0) (x1) : d0.regsWf → (Dev.bump d0 x1).regsWf := by
  intros; unfold Dev.bump; grind [Dev.regsWf, foldl_regsWf, Dev_bumpBy_regsWf]
theorem Dev_wrInt_regsWf (d0) (x1) (x2) : d0.regsWf → (Dev.wrInt d0 x1 x2).regsWf := by
  intros; unfold Dev.wrInt; grind [Dev.regsWf, foldl_regsWf, Dev_wr_regsWf]
theorem Dev_latchWord_regsWf (d0) (x1) (x2) (x3) : d0.regsWf → (Dev.latchWord d0 x1 x2 x3).regsWf := by
  intros; unfold Dev.latchWord; grind [Dev.regsWf, foldl_regsWf]
theorem Dev_setFld_regsWf (d0) (x1) (x2) (x3) (x4) : d0.regsWf → (Dev.setFld d0 x1 x2 x3 x4).regsWf := by
  intros; unfold Dev.setFld; grind [Dev.regsWf, foldl_regsWf, Dev_wr_regsWf]
theorem Dev_setBit_regsWf (d0) (x1) (x2) (x3) : d0.regsWf → (Dev.setBit d0 x1 x2 x3).regsWf := by
  intros; unfold Dev.setBit; grind [Dev.regsWf, foldl_regsWf, Dev_wr_regsWf]
theorem Dev_emit_regsWf (d0) (x1) : d0.regsWf → (Dev.emit d0 x1).regsWf := by
  intros; unfold Dev.emit; grind [Dev.regsWf, foldl_regsWf]
theorem Dev_emits_regsWf (d0) (x1) : d0.regsWf → (Dev.emits d0 x1).regsWf := by
  intros; unfold Dev.emits; grind [Dev.regsWf, foldl_regsWf, Dev_emit_regsWf]
theorem forRange_regsWf (x0) (f1) (d2) : (∀ i d, d.regsWf → (f1 i d).regsWf) → d2.regsWf → (forRange x0 f1 d2).regsWf
    := fun hf h => foldl_regsWf _ _ (fun d i h => hf i d h) _ h
theorem Dev_wrInt64_regsWf (d0) (x1) (x2) (x3) : d0.regsWf → (Dev.wrInt64 d0 x1 x2 x3).regsWf := by
  intros; unfold Dev.wrInt64; grind [Dev.regsWf, foldl_regsWf, Dev_wrNat64_regsWf]
theorem Dev_bump64By_regsWf (d0) (x1) (x2) (x3) : d0.regsWf → (Dev.bump64By d0 x1 x2 x3).regsWf := by
  intros; unfold Dev.bump64By; grind [Dev.regsWf, foldl_regsWf, Dev_wrNat64_regsWf]
theorem Dev_latchRegs_regsWf (d0) (x1) (x2) : d0.regsWf → (Dev.latchRegs d0 x1 x2).regsWf := by
  intros; unfold Dev.latchRegs; grind [Dev.regsWf, foldl_regsWf]
theorem Dev_bumpWrap_regsWf (d0) (x1) : d0.regsWf → (Dev.bumpWrap d0 x1).regsWf := by
  intros; unfold Dev.bumpWrap; grind [Dev.regsWf, foldl_regsWf, Dev_wr_regsWf]
theorem Dev_msixSend_regsWf (d0) (x1) : d0.regsWf → (Dev.msixSend d0 x1).regsWf := by
  intros; unfold Dev.msixSend; grind [Dev.regsWf, foldl_regsWf, Dev_emit_regsWf]
theorem Dev_msixRises_regsWf (d0) (d1) : d0.regsWf → d1.regsWf → (Dev.msixRises d0 d1).regsWf := by
  intros; unfold Dev.msixRises; grind [Dev.regsWf, foldl_regsWf, Dev_msixSend_regsWf]
theorem Dev_pmcAdd_regsWf (d0) (x1) (x2) : d0.regsWf → (Dev.pmcAdd d0 x1 x2).regsWf := by
  intro h; unfold Dev.pmcAdd; extract_lets v e
  have he : e.regsWf := Dev_wrNat64_regsWf _ _ _ _ h
  split
  · exact Dev_setBit_regsWf _ _ _ _ he
  · exact he
theorem Dev_pmc_regsWf (d0) (x1) (x2) (x3) : d0.regsWf → (Dev.pmc d0 x1 x2 x3).regsWf := by
  intros; unfold Dev.pmc; grind [Dev.regsWf, foldl_regsWf, forRange_regsWf, Dev_pmcAdd_regsWf]
theorem Dev_ringCount_regsWf (d0) (x1) (x2) : d0.regsWf → (Dev.ringCount d0 x1 x2).regsWf := by
  intros; unfold Dev.ringCount; grind [Dev.regsWf, foldl_regsWf, Dev_pmc_regsWf, Dev_bump_regsWf, Dev_setRings_regsWf]
theorem Dev_ringAccept_regsWf (d0) (x1) (x2) (x3) (x4) : d0.regsWf → (Dev.ringAccept d0 x1 x2 x3 x4).regsWf := by
  intros; unfold Dev.ringAccept; grind [Dev.regsWf, foldl_regsWf, Dev_setRings_regsWf]
theorem Dev_ringDrop_regsWf (d0) (x1) (x2) (x3) : d0.regsWf → (Dev.ringDrop d0 x1 x2 x3).regsWf := by
  intros; unfold Dev.ringDrop; grind [Dev.regsWf, foldl_regsWf, Dev_setBit_regsWf, Dev_ringCount_regsWf]
theorem Dev_ringOffer_regsWf (d0) (x1) (x2) (x3) (x4) : d0.regsWf → (Dev.ringOffer d0 x1 x2 x3 x4).regsWf := by
  intros; unfold Dev.ringOffer; grind [Dev.regsWf, foldl_regsWf, Dev_ringAccept_regsWf, Dev_ringDrop_regsWf,
      Dev_setRings_regsWf]
theorem Dev_resultOffer_regsWf (d0) (x1) (x2) : d0.regsWf → (Dev.resultOffer d0 x1 x2).regsWf := by
  intros; unfold Dev.resultOffer; grind [Dev.regsWf, foldl_regsWf, Dev_ringCount_regsWf, Dev_setRings_regsWf,
      Dev_ringOffer_regsWf]
theorem Dev_interrupt_regsWf (d0) (x1) : d0.regsWf → (Dev.interrupt d0 x1).regsWf := by
  intros; unfold Dev.interrupt; grind [Dev.regsWf, foldl_regsWf, Dev_msixRises_regsWf, Dev_setBit_regsWf]
theorem Dev_setPairState_regsWf (d0) (x1) : d0.regsWf → (Dev.setPairState d0 x1).regsWf := by
  intros; unfold Dev.setPairState; grind [Dev.regsWf, foldl_regsWf, Dev_interrupt_regsWf, Dev_setFld_regsWf]
theorem Dev_ppsPinTo_regsWf (d0) (x1) (x2) : d0.regsWf → (Dev.ppsPinTo d0 x1 x2).regsWf := by
  intros; unfold Dev.ppsPinTo; grind [Dev.regsWf, foldl_regsWf, Dev_emit_regsWf, Dev_setPps_regsWf]
theorem ppsOwn_regsWf (x0) (d1) : d1.regsWf → (ppsOwn x0 d1).regsWf := by
  intros; unfold ppsOwn; grind [Dev.regsWf, foldl_regsWf, Dev_ppsPinTo_regsWf]
theorem Dev_popCmd_regsWf (d0) : d0.regsWf → (Dev.popCmd d0).1.regsWf := by
  intros; unfold Dev.popCmd; grind [Dev.regsWf, foldl_regsWf]
theorem Dev_ringFlushStaging_regsWf (d0) (x1) : d0.regsWf → (Dev.ringFlushStaging d0 x1).regsWf := by
  intros; unfold Dev.ringFlushStaging; grind [Dev.regsWf, foldl_regsWf, Dev_ringCount_regsWf, Dev_setRings_regsWf]
theorem Dev_freeBytes_regsWf (d0) (x1) : d0.regsWf → (Dev.freeBytes d0 x1).2.regsWf := by
  intros; unfold Dev.freeBytes; grind [Dev.regsWf, foldl_regsWf]
theorem Dev_flTorn_regsWf (d0) : d0.regsWf → (Dev.flTorn d0).regsWf := by
  intros; unfold Dev.flTorn; grind [Dev.regsWf, foldl_regsWf, Dev_freeBytes_regsWf]
theorem Dev_flAbandon_regsWf (d0) : d0.regsWf → (Dev.flAbandon d0).regsWf := by
  intros; unfold Dev.flAbandon; grind [Dev.regsWf, foldl_regsWf, Dev_setFld_regsWf, Dev_setBit_regsWf,
      Dev_flTorn_regsWf]
theorem clkShow_regsWf (x0) (d1) : d1.regsWf → (clkShow x0 d1).regsWf := by
  intros; unfold clkShow; grind [Dev.regsWf, foldl_regsWf, Dev_setBit_regsWf, Dev_emit_regsWf, Dev_setClkOut_regsWf]
theorem Dev_eioPinTo_regsWf (d0) (x1) (x2) : d0.regsWf → (Dev.eioPinTo d0 x1 x2).regsWf := by
  intros; unfold Dev.eioPinTo; grind [Dev.regsWf, foldl_regsWf, Dev_emit_regsWf, Dev_setEio_regsWf]
theorem eioOwn_regsWf (x0) (d1) : d1.regsWf → (eioOwn x0 d1).regsWf := by
  intros; unfold eioOwn; grind [Dev.regsWf, foldl_regsWf, Dev_eioPinTo_regsWf]
theorem Dev_setOwn_regsWf (d0) (x1) : d0.regsWf → (Dev.setOwn d0 x1).regsWf := by
  intros; unfold Dev.setOwn; grind [Dev.regsWf, foldl_regsWf, forRange_regsWf, clkShow_regsWf, Dev_emit_regsWf,
      Dev_setBit_regsWf, ppsOwn_regsWf, eioOwn_regsWf]
theorem Dev_freeWord_regsWf (d0) : d0.regsWf → (Dev.freeWord d0).2.regsWf := by
  intros; unfold Dev.freeWord; grind [Dev.regsWf, foldl_regsWf]
theorem Dev_wrFit_regsWf (d0) (x1) (x2) : d0.regsWf → (Dev.wrFit d0 x1 x2).regsWf := by
  intros; unfold Dev.wrFit; grind [Dev.regsWf, foldl_regsWf, Dev_wrInt_regsWf, Dev_freeWord_regsWf, Dev_wr_regsWf]
theorem Dev_recShow_regsWf (d0) : d0.regsWf → (Dev.recShow d0).regsWf := by
  intros; unfold Dev.recShow; grind [Dev.regsWf, foldl_regsWf, Dev_wrNat_regsWf]
theorem Dev_writeIgnored_regsWf (d0) (x1) : d0.regsWf → (Dev.writeIgnored d0 x1).regsWf := by
  intros; unfold Dev.writeIgnored; grind [Dev.regsWf, foldl_regsWf, Dev_bump_regsWf]
theorem Dev_asCust_regsWf (d0) (x1) (f2) : d0.regsWf → (∀ d, d.regsWf → (f2 d).regsWf) → (Dev.asCust d0 x1 f2).regsWf
    := by
  intros; unfold Dev.asCust; grind [Dev.regsWf, foldl_regsWf, Dev_writeIgnored_regsWf]
theorem Dev_noteReset_regsWf (d0) (x1) : d0.regsWf → (Dev.noteReset d0 x1).regsWf := by
  intros; unfold Dev.noteReset; grind [Dev.regsWf, foldl_regsWf]
theorem Dev_faultMark_regsWf (d0) (x1) (x2) : d0.regsWf → (Dev.faultMark d0 x1 x2).regsWf := by
  intros; unfold Dev.faultMark; grind [Dev.regsWf, foldl_regsWf, Dev_setBit_regsWf, Dev_bump_regsWf,
      Dev_wrNat64_regsWf, Dev_setFld_regsWf, Dev_wrNat_regsWf]
theorem Dev_slotAbandon_regsWf (d0) (x1) : d0.regsWf → (Dev.slotAbandon d0 x1).regsWf := by
  intros; unfold Dev.slotAbandon; grind [Dev.regsWf, foldl_regsWf, Dev_setBit_regsWf, Dev_wrNat_regsWf]
theorem Dev_recDma_regsWf (d0) (x1) : d0.regsWf → (Dev.recDma d0 x1).regsWf := by
  intros; unfold Dev.recDma; grind [Dev.regsWf, foldl_regsWf, Dev_ringOffer_regsWf]
theorem Dev_recRing_regsWf (d0) (x1) : d0.regsWf → (Dev.recRing d0 x1).1.regsWf := by
  intros; unfold Dev.recRing; grind [Dev.regsWf, foldl_regsWf, Dev_recShow_regsWf, Dev_wrNat_regsWf]
theorem Dev_recAppend1_regsWf (d0) (x1) : d0.regsWf → (Dev.recAppend1 d0 x1).1.regsWf := by
  intros; unfold Dev.recAppend1; grind [Dev.regsWf, foldl_regsWf, Dev_bumpWrap_regsWf, Dev_pmc_regsWf,
      Dev_recDma_regsWf, Dev_recShow_regsWf, Dev_setBit_regsWf, Dev_bump_regsWf, Dev_recRing_regsWf]
theorem Dev_recAppend_regsWf (d0) (x1) : d0.regsWf → (Dev.recAppend d0 x1).1.regsWf := by
  intros; unfold Dev.recAppend; grind [Dev.regsWf, foldl_regsWf, Dev_recAppend1_regsWf]
theorem Dev_ksAbandon_regsWf (d0) : d0.regsWf → (Dev.ksAbandon d0).regsWf := by
  intros; unfold Dev.ksAbandon; grind [Dev.regsWf, foldl_regsWf, Dev_setBit_regsWf, Dev_slotAbandon_regsWf,
      Dev_recAppend_regsWf, Dev_bump_regsWf, Dev_bumpWrap_regsWf, Dev_resultOffer_regsWf]
theorem Dev_startFlush_regsWf (d0) (x1) : d0.regsWf → (Dev.startFlush d0 x1).regsWf := by
  intros; unfold Dev.startFlush; grind [Dev.regsWf, foldl_regsWf, Dev_flAbandon_regsWf, Dev_ksAbandon_regsWf,
      Dev_setBit_regsWf]
theorem Dev_faultEnter_regsWf (d0) : d0.regsWf → (Dev.faultEnter d0).regsWf := by
  intros; unfold Dev.faultEnter; grind [Dev.regsWf, foldl_regsWf, Dev_setBit_regsWf, Dev_setOwn_regsWf,
      Dev_emit_regsWf, Dev_setPairState_regsWf]
theorem Dev_stopAlive_regsWf (d0) : d0.regsWf → (Dev.stopAlive d0).regsWf := by
  intros; unfold Dev.stopAlive; grind [Dev.regsWf, foldl_regsWf, Dev_emit_regsWf, Dev_setBit_regsWf,
      Dev_startFlush_regsWf, Dev_faultEnter_regsWf]
theorem Dev_gateOpen_regsWf (d0) (x1) : d0.regsWf → (Dev.gateOpen d0 x1).regsWf := by
  intros; unfold Dev.gateOpen; grind [Dev.regsWf, foldl_regsWf, Dev_setBit_regsWf]
theorem Dev_revoke_regsWf (d0) (x1) : d0.regsWf → (Dev.revoke d0 x1).regsWf := by
  intros; unfold Dev.revoke; grind [Dev.regsWf, foldl_regsWf, Dev_ringFlushStaging_regsWf, Dev_ksAbandon_regsWf,
      Dev_setBit_regsWf]
theorem Dev_startBlkRst_regsWf (d0) (x1) : d0.regsWf → (Dev.startBlkRst d0 x1).regsWf := by
  intros; unfold Dev.startBlkRst; grind [Dev.regsWf, foldl_regsWf, Dev_gateOpen_regsWf, Dev_revoke_regsWf,
      Dev_setBit_regsWf]
theorem Dev_nmiTraps_regsWf (d0) : d0.regsWf → (Dev.nmiTraps d0).regsWf := by
  intros; unfold Dev.nmiTraps; grind [Dev.regsWf, foldl_regsWf, Dev_freeBytes_regsWf, Dev_gateOpen_regsWf,
      Dev_recAppend_regsWf]
theorem Dev_chipRst_regsWf (d0) : d0.regsWf → (Dev.chipRst d0).regsWf := by
  intros; unfold Dev.chipRst; grind [Dev.regsWf, foldl_regsWf, Dev_startFlush_regsWf, Dev_faultEnter_regsWf,
      Dev_setBit_regsWf]
theorem Dev_refreshFaultN_regsWf (d0) : d0.regsWf → (Dev.refreshFaultN d0).regsWf := by
  intros; unfold Dev.refreshFaultN; grind [Dev.regsWf, foldl_regsWf, Dev_emit_regsWf, Dev_setBit_regsWf]
theorem Dev_raiseF_regsWf (x0) (x1) (x2) (d3) : d3.regsWf → (Dev.raiseF x0 x1 x2 d3).regsWf := by
  induction x0 generalizing x1 x2 d3 with
  | zero => intro h; exact Dev_faultMark_regsWf _ _ _ h
  | succ n ih =>
    intro h; unfold Dev.raiseF
    grind [Dev_faultMark_regsWf, Dev_recAppend_regsWf, Dev_setBit_regsWf, Dev_interrupt_regsWf, Dev_startFlush_regsWf,
        Dev_nmiTraps_regsWf,
      Dev_noteReset_regsWf, Dev_startBlkRst_regsWf, Dev_chipRst_regsWf, Dev_stopAlive_regsWf,
          Dev_refreshFaultN_regsWf]
theorem Dev_raise_regsWf (d0) (x1) (x2) : d0.regsWf → (Dev.raise d0 x1 x2).regsWf := by
  intros; unfold Dev.raise; grind [Dev.regsWf, foldl_regsWf, Dev_raiseF_regsWf]
theorem Dev_raiseLevel_regsWf (d0) (x1) (x2) : d0.regsWf → (Dev.raiseLevel d0 x1 x2).regsWf := by
  intros; unfold Dev.raiseLevel; grind [Dev.regsWf, foldl_regsWf, Dev_raise_regsWf, Dev_setBit_regsWf]
theorem Dev_record_regsWf (d0) (x1) (x2) (x3) : d0.regsWf → (Dev.record d0 x1 x2 x3).regsWf := by
  intros; unfold Dev.record; grind [Dev.regsWf, foldl_regsWf, Dev_recAppend_regsWf, Dev_raise_regsWf]
theorem Dev_asRead_regsWf (d0) (x1) (f2) : d0.regsWf → (∀ d, d.regsWf → (f2 d).regsWf) → (Dev.asRead d0 x1 f2).regsWf
    := by
  intros; unfold Dev.asRead; grind [Dev.regsWf, foldl_regsWf, Dev_emit_regsWf]
theorem Dev_asAny_regsWf (d0) (x1) (f2) : d0.regsWf → (∀ d, d.regsWf → (f2 d).regsWf) → (Dev.asAny d0 x1 f2).regsWf :=
    by
  intros; unfold Dev.asAny; grind [Dev.regsWf, foldl_regsWf, Dev_writeIgnored_regsWf]
theorem Dev_endLevel_regsWf (d0) (x1) : d0.regsWf → (Dev.endLevel d0 x1).regsWf := by
  intros; unfold Dev.endLevel; grind [Dev.regsWf, foldl_regsWf, Dev_setBit_regsWf, Dev_recAppend_regsWf]
theorem Dev_notWriter_regsWf (d0) (x1) : d0.regsWf → (Dev.notWriter d0 x1).regsWf := by
  intros; unfold Dev.notWriter; grind [Dev.regsWf, foldl_regsWf, Dev_setBit_regsWf, Dev_bump_regsWf]
theorem Dev_asWriter_regsWf (d0) (x1) (x2) (f3) : d0.regsWf → (∀ d, d.regsWf → (f3 d).regsWf) → (Dev.asWriter d0 x1 x2
    f3).regsWf := by
  intros; unfold Dev.asWriter; grind [Dev.regsWf, foldl_regsWf, Dev_notWriter_regsWf, Dev_asCust_regsWf]
theorem Dev_hostIncSeen_regsWf (d0) (x1) (x2) : d0.regsWf → (Dev.hostIncSeen d0 x1 x2).regsWf := by
  intros; unfold Dev.hostIncSeen; grind [Dev.regsWf, foldl_regsWf, Dev_setTb_regsWf]
theorem Dev_cfgErr_regsWf (d0) (x1) : d0.regsWf → (Dev.cfgErr d0 x1).regsWf := by
  intros; unfold Dev.cfgErr; grind [Dev.regsWf, foldl_regsWf, Dev_setBit_regsWf]
theorem Dev_commitInc_regsWf (d0) (x1) (x2) : d0.regsWf → (Dev.commitInc d0 x1 x2).regsWf := by
  intros; unfold Dev.commitInc; grind [Dev.regsWf, foldl_regsWf, Dev_setTb_regsWf, Dev_wr_regsWf, Dev_cfgErr_regsWf,
      Dev_wrNat_regsWf]
theorem effIncCommit_regsWf (x0) (x1) (x2) (d3) : d3.regsWf → (effIncCommit x0 x1 x2 d3).regsWf := by
  intros; unfold effIncCommit; grind [Dev.regsWf, foldl_regsWf, Dev_asWriter_regsWf, Dev_hostIncSeen_regsWf,
      Dev_commitInc_regsWf]
theorem Dev_showPrem_regsWf (d0) (x1) : d0.regsWf → (Dev.showPrem d0 x1).regsWf := by
  intros; unfold Dev.showPrem; grind [Dev.regsWf, foldl_regsWf, Dev_setBit_regsWf, Dev_wrNat_regsWf]
theorem Dev_commitPadj_regsWf (d0) (x1) (x2) (x3) : d0.regsWf → (Dev.commitPadj d0 x1 x2 x3).regsWf := by
  intros; unfold Dev.commitPadj; grind [Dev.regsWf, foldl_regsWf, Dev_showPrem_regsWf, Dev_setTb_regsWf,
      Dev_setBit_regsWf]
theorem Dev_padjDone_regsWf (d0) (x1) : d0.regsWf → (Dev.padjDone d0 x1).regsWf := by
  intros; unfold Dev.padjDone; grind [Dev.regsWf, foldl_regsWf, Dev_setBit_regsWf, Dev_showPrem_regsWf]
theorem Dev_padjShow_regsWf (d0) (x1) : d0.regsWf → (Dev.padjShow d0 x1).regsWf := by
  intros; unfold Dev.padjShow; grind [Dev.regsWf, foldl_regsWf, Dev_padjDone_regsWf, Dev_showPrem_regsWf]
theorem tickTb_regsWf (x0) (d1) : d1.regsWf → (tickTb x0 d1).regsWf := by
  intros; unfold tickTb; grind [Dev.regsWf, foldl_regsWf, Dev_setTb_regsWf, Dev_padjShow_regsWf, Dev_setBit_regsWf]
theorem effPadjCommit_regsWf (x0) (x1) (x2) (d3) : d3.regsWf → (effPadjCommit x0 x1 x2 d3).regsWf := by
  intros; unfold effPadjCommit; grind [Dev.regsWf, foldl_regsWf, Dev_asWriter_regsWf, Dev_wr_regsWf,
      Dev_commitPadj_regsWf]
theorem Dev_asLeapWriter_regsWf (d0) (x1) (x2) (f3) : d0.regsWf → (∀ d, d.regsWf → (f3 d).regsWf) → (Dev.asLeapWriter
    d0 x1 x2 f3).regsWf := by
  intros; unfold Dev.asLeapWriter; grind [Dev.regsWf, foldl_regsWf, Dev_cfgErr_regsWf, Dev_asCust_regsWf]
theorem effLeapHold_regsWf (x0) (x1) (x2) (x3) (d4) : d4.regsWf → (effLeapHold x0 x1 x2 x3 d4).regsWf := by
  intros; unfold effLeapHold; grind [Dev.regsWf, foldl_regsWf, Dev_asLeapWriter_regsWf, Dev_cfgErr_regsWf,
      Dev_wr_regsWf, Dev_wrNat_regsWf]
theorem Dev_commitLeapBits_regsWf (d0) (x1) (x2) : d0.regsWf → (Dev.commitLeapBits d0 x1 x2).regsWf := by
  intro h; unfold Dev.commitLeapBits
  split
  · exact Dev_cfgErr_regsWf _ _ h
  split
  · exact Dev_setTb_regsWf _ _ _ (Dev_wr_regsWf _ _ _ h)
  split
  · exact Dev_cfgErr_regsWf _ _ (Dev_setTb_regsWf _ _ _ (Dev_wr_regsWf _ _ _ h))
  · exact Dev_setBit_regsWf _ _ _ _ (Dev_setTb_regsWf _ _ _ (Dev_wr_regsWf _ _ _ h))
theorem Dev_commitLeap_regsWf (d0) (x1) (x2) : d0.regsWf → (Dev.commitLeap d0 x1 x2).regsWf := by
  intros; unfold Dev.commitLeap; grind [Dev.regsWf, foldl_regsWf, Dev_commitLeapBits_regsWf]
theorem effDelete_regsWf (x0) (d1) : d1.regsWf → (effDelete x0 d1).regsWf := by
  intros; unfold effDelete; grind [Dev.regsWf, foldl_regsWf, Dev_wrInt_regsWf, Dev_setBit_regsWf, Dev_setTb_regsWf]
theorem effPslope_regsWf (x0) (x1) (x2) (d3) : d3.regsWf → (effPslope x0 x1 x2 d3).regsWf := by
  intros; unfold effPslope; grind [Dev.regsWf, foldl_regsWf, Dev_asWriter_regsWf, Dev_wrNat_regsWf, Dev_cfgErr_regsWf]
theorem Dev_leapDone_regsWf (d0) (x1) : d0.regsWf → (Dev.leapDone d0 x1).regsWf := by
  intros; unfold Dev.leapDone; grind [Dev.regsWf, foldl_regsWf, Dev_setTb_regsWf, Dev_setBit_regsWf]
theorem effInsertEnd_regsWf (x0) (d1) : d1.regsWf → (effInsertEnd x0 d1).regsWf := by
  intros; unfold effInsertEnd; grind [Dev.regsWf, foldl_regsWf, Dev_leapDone_regsWf, Dev_wrInt_regsWf,
      Dev_setBit_regsWf]
theorem snapTb_regsWf (x0) (x1) (d2) : d2.regsWf → (snapTb x0 x1 d2).regsWf := by
  intros; unfold snapTb; grind [Dev.regsWf, foldl_regsWf, Dev_wrNat_regsWf]
theorem effSnap_regsWf (x0) (x1) (d2) : d2.regsWf → (effSnap x0 x1 d2).regsWf := by
  intros; unfold effSnap; grind [Dev.regsWf, foldl_regsWf, Dev_asCust_regsWf, Dev_setBit_regsWf, forRange_regsWf,
      snapTb_regsWf]
theorem Dev_armSet_regsWf (d0) (x1) (x2) : d0.regsWf → (Dev.armSet d0 x1 x2).regsWf := by
  intros; unfold Dev.armSet; grind [Dev.regsWf, foldl_regsWf, Dev_setTb_regsWf]
theorem Dev_trySet_regsWf (d0) (x1) (x2) (x3) : d0.regsWf → (Dev.trySet d0 x1 x2 x3).regsWf := by
  intros; unfold Dev.trySet; grind [Dev.regsWf, foldl_regsWf, Dev_armSet_regsWf, Dev_bump_regsWf]
theorem effBincHi_regsWf (x0) (x1) (x2) (d3) : d3.regsWf → (effBincHi x0 x1 x2 d3).regsWf := by
  intros; unfold effBincHi; grind [Dev.regsWf, foldl_regsWf, Dev_asWriter_regsWf, Dev_wr_regsWf]
theorem effSmearEnd_regsWf (x0) (d1) : d1.regsWf → (effSmearEnd x0 d1).regsWf := by
  intros; unfold effSmearEnd; grind [Dev.regsWf, foldl_regsWf, Dev_leapDone_regsWf, Dev_wrInt_regsWf]
theorem Dev_commitBinc_regsWf (d0) (x1) (x2) : d0.regsWf → (Dev.commitBinc d0 x1 x2).regsWf := by
  intro h; unfold Dev.commitBinc; extract_lets v c
  split
  · exact Dev_setTb_regsWf _ _ _ (Dev_wr_regsWf _ _ _ h)
  · exact Dev_cfgErr_regsWf _ _ (Dev_wrNat_regsWf _ _ _ (Dev_wrNat_regsWf _ _ _ h))
theorem effBincCommit_regsWf (x0) (x1) (x2) (d3) : d3.regsWf → (effBincCommit x0 x1 x2 d3).regsWf := by
  intros; unfold effBincCommit; grind [Dev.regsWf, foldl_regsWf, Dev_asWriter_regsWf, Dev_commitBinc_regsWf]
theorem effLeapCtl_regsWf (x0) (x1) (x2) (d3) : d3.regsWf → (effLeapCtl x0 x1 x2 d3).regsWf := by
  intros; unfold effLeapCtl; grind [Dev.regsWf, foldl_regsWf, Dev_asLeapWriter_regsWf, Dev_cfgErr_regsWf,
      Dev_commitLeap_regsWf]
theorem epochTb_regsWf (x0) (d1) : d1.regsWf → (epochTb x0 d1).regsWf := by
  intros; unfold epochTb; grind [Dev.regsWf, foldl_regsWf, Dev_setTb_regsWf, Dev_padjDone_regsWf, Dev_showPrem_regsWf]
theorem effSetArm_regsWf (x0) (x1) (d2) : d2.regsWf → (effSetArm x0 x1 d2).regsWf := by
  intros; unfold effSetArm; grind [Dev.regsWf, foldl_regsWf, Dev_trySet_regsWf, Dev_asCust_regsWf]
theorem effIncHi_regsWf (x0) (x1) (x2) (d3) : d3.regsWf → (effIncHi x0 x1 x2 d3).regsWf := by
  intros; unfold effIncHi; grind [Dev.regsWf, foldl_regsWf, Dev_asWriter_regsWf, Dev_wr_regsWf]
theorem effPabort_regsWf (x0) (x1) (d2) : d2.regsWf → (effPabort x0 x1 d2).regsWf := by
  intros; unfold effPabort; grind [Dev.regsWf, foldl_regsWf, Dev_asWriter_regsWf, Dev_setTb_regsWf]
theorem Dev_takeSet_regsWf (d0) (x1) (x2) : d0.regsWf → (Dev.takeSet d0 x1 x2).regsWf := by
  intros; unfold Dev.takeSet; grind [Dev.regsWf, foldl_regsWf, Dev_setTb_regsWf, Dev_setBit_regsWf,
      Dev_showPrem_regsWf, Dev_wr_regsWf]
theorem effPadjComplete_regsWf (x0) (d1) : d1.regsWf → (effPadjComplete x0 d1).regsWf := by
  intros; unfold effPadjComplete; grind [Dev.regsWf, foldl_regsWf, Dev_padjShow_regsWf, Dev_setTb_regsWf]
theorem effInsertStart_regsWf (x0) (d1) : d1.regsWf → (effInsertStart x0 d1).regsWf := by
  intros; unfold effInsertStart; grind [Dev.regsWf, foldl_regsWf, Dev_setBit_regsWf]
theorem timeClock_regsWf (d0) : d0.regsWf → (timeClock d0).regsWf := by
  intros; unfold timeClock; grind [Dev.regsWf, foldl_regsWf, Dev_pmc_regsWf, forRange_regsWf, tickTb_regsWf]
theorem effNowLatch_regsWf (x0) (x1) (d2) : d2.regsWf → (effNowLatch x0 x1 d2).regsWf := by
  intros; unfold effNowLatch; grind [Dev.regsWf, foldl_regsWf, Dev_latchWord_regsWf, Dev_emit_regsWf]
theorem effSmearStart_regsWf (x0) (d1) : d1.regsWf → (effSmearStart x0 d1).regsWf := by
  intros; unfold effSmearStart; grind [Dev.regsWf, foldl_regsWf, Dev_setBit_regsWf]
theorem Dev_eioReject_regsWf (d0) (x1) (x2) : d0.regsWf → (Dev.eioReject d0 x1 x2).regsWf := by
  intros; unfold Dev.eioReject; grind [Dev.regsWf, foldl_regsWf, Dev_setEio_regsWf, Dev_setBit_regsWf]
theorem Dev_eioCheck_regsWf (d0) (x1) : d0.regsWf → (Dev.eioCheck d0 x1).regsWf := by
  intro h; unfold Dev.eioCheck; extract_lets tb
  repeat' split
  all_goals first
    | exact Dev_eioReject_regsWf _ _ _ h
    | exact Dev_bump_regsWf _ _ (Dev_eioReject_regsWf _ _ _ h)
    | exact Dev_setEio_regsWf _ _ _ h
theorem Dev_eioShow_regsWf (d0) (x1) : d0.regsWf → (Dev.eioShow d0 x1).regsWf := by
  intros; unfold Dev.eioShow; grind [Dev.regsWf, foldl_regsWf, Dev_wrNat_regsWf, Dev_wr_regsWf]
theorem Dev_eioDropHead_regsWf (d0) (x1) : d0.regsWf → (Dev.eioDropHead d0 x1).regsWf := by
  intros; unfold Dev.eioDropHead; grind [Dev.regsWf, foldl_regsWf, Dev_eioShow_regsWf, Dev_setEio_regsWf]
theorem effEioToRing_regsWf (x0) (d1) : d1.regsWf → (effEioToRing x0 d1).regsWf := by
  intros; unfold effEioToRing; grind [Dev.regsWf, foldl_regsWf, Dev_eioDropHead_regsWf, Dev_ringAccept_regsWf]
theorem Dev_eioWrIgn_regsWf (d0) (x1) : d0.regsWf → (Dev.eioWrIgn d0 x1).regsWf := by
  intros; unfold Dev.eioWrIgn; grind [Dev.regsWf, foldl_regsWf, Dev_setBit_regsWf]
theorem effEioCfg_regsWf (x0) (x1) (x2) (d3) : d3.regsWf → (effEioCfg x0 x1 x2 d3).regsWf := by
  intros; unfold effEioCfg; grind [Dev.regsWf, foldl_regsWf, Dev_asCust_regsWf, Dev_eioWrIgn_regsWf,
      Dev_setBit_regsWf, Dev_setEio_regsWf, Dev_wr_regsWf, Dev_eioPinTo_regsWf]
theorem Dev_raiseOnset_regsWf (d0) (x1) (x2) : d0.regsWf → (Dev.raiseOnset d0 x1 x2).regsWf := by
  intros; unfold Dev.raiseOnset; grind [Dev.regsWf, foldl_regsWf, Dev_raise_regsWf, Dev_setBit_regsWf]
theorem effEioStuck_regsWf (x0) (d1) : d1.regsWf → (effEioStuck x0 d1).regsWf := by
  intros; unfold effEioStuck; grind [Dev.regsWf, foldl_regsWf, Dev_raiseOnset_regsWf, Dev_setBit_regsWf]
theorem effEioDisarm_regsWf (x0) (x1) (d2) : d2.regsWf → (effEioDisarm x0 x1 d2).regsWf := by
  intros; unfold effEioDisarm; grind [Dev.regsWf, foldl_regsWf, Dev_asCust_regsWf, Dev_setEio_regsWf]
theorem Dev_eioMove_regsWf (d0) (x1) (x2) : d0.regsWf → (Dev.eioMove d0 x1 x2).regsWf := by
  intros; unfold Dev.eioMove; grind [Dev.regsWf, foldl_regsWf, Dev_setEio_regsWf]
theorem Dev_eioAccept_regsWf (d0) (x1) (x2) (x3) : d0.regsWf → (Dev.eioAccept d0 x1 x2 x3).regsWf := by
  intros; unfold Dev.eioAccept; grind [Dev.regsWf, foldl_regsWf, Dev_eioShow_regsWf, Dev_setEio_regsWf,
      Dev_setBit_regsWf, Dev_bump_regsWf]
theorem effEioCapture_regsWf (x0) (x1) (x2) (d3) : d3.regsWf → (effEioCapture x0 x1 x2 d3).regsWf := by
  intros; unfold effEioCapture; grind [Dev.regsWf, foldl_regsWf, Dev_eioMove_regsWf, Dev_bump_regsWf,
      Dev_eioAccept_regsWf]
theorem effEioArm_regsWf (x0) (x1) (d2) : d2.regsWf → (effEioArm x0 x1 d2).regsWf := by
  intros; unfold effEioArm; grind [Dev.regsWf, foldl_regsWf, Dev_asCust_regsWf, Dev_eioWrIgn_regsWf,
      Dev_setEio_regsWf, Dev_wr_regsWf, Dev_setBit_regsWf]
theorem Dev_eioLead_regsWf (d0) (x1) (x2) : d0.regsWf → (Dev.eioLead d0 x1 x2).regsWf := by
  intros; unfold Dev.eioLead; grind [Dev.regsWf, foldl_regsWf, Dev_setBit_regsWf, Dev_bumpWrap_regsWf,
      Dev_emit_regsWf, Dev_setEio_regsWf]
theorem effEioPosition_regsWf (x0) (d1) : d1.regsWf → (effEioPosition x0 d1).regsWf := by
  intros; unfold effEioPosition; grind [Dev.regsWf, foldl_regsWf, Dev_bump_regsWf, Dev_eioLead_regsWf,
      Dev_setEio_regsWf, Dev_setBit_regsWf]
theorem Dev_eioDisarmNow_regsWf (d0) (x1) : d0.regsWf → (Dev.eioDisarmNow d0 x1).regsWf := by
  intros; unfold Dev.eioDisarmNow; grind [Dev.regsWf, foldl_regsWf, Dev_setEio_regsWf, Dev_setBit_regsWf]
theorem epochEio_regsWf (x0) (d1) : d1.regsWf → (epochEio x0 d1).regsWf := by
  intros; unfold epochEio; grind [Dev.regsWf, foldl_regsWf, Dev_eioCheck_regsWf, Dev_eioDisarmNow_regsWf]
theorem effEioSchedule_regsWf (x0) (x1) (x2) (x3) (d4) : d4.regsWf → (effEioSchedule x0 x1 x2 x3 d4).regsWf := by
  intros; unfold effEioSchedule; grind [Dev.regsWf, foldl_regsWf, Dev_asCust_regsWf, Dev_eioWrIgn_regsWf,
      Dev_wr_regsWf]
theorem effEioPulseEnd_regsWf (x0) (d1) : d1.regsWf → (effEioPulseEnd x0 d1).regsWf := by
  intros; unfold effEioPulseEnd; grind [Dev.regsWf, foldl_regsWf, Dev_emit_regsWf, Dev_setEio_regsWf,
      Dev_setBit_regsWf]
theorem effEioRelease_regsWf (x0) (d1) : d1.regsWf → (effEioRelease x0 d1).regsWf := by
  intros; unfold effEioRelease; grind [Dev.regsWf, foldl_regsWf, Dev_setBit_regsWf, Dev_endLevel_regsWf]
theorem effEioStuckWrite_regsWf (x0) (x1) (x2) (d3) : d3.regsWf → (effEioStuckWrite x0 x1 x2 d3).regsWf := by
  intros; unfold effEioStuckWrite; grind [Dev.regsWf, foldl_regsWf, Dev_asCust_regsWf, Dev_setEio_regsWf,
      Dev_wrNat_regsWf]
theorem effEioPop_regsWf (x0) (x1) (d2) : d2.regsWf → (effEioPop x0 x1 d2).regsWf := by
  intros; unfold effEioPop; grind [Dev.regsWf, foldl_regsWf, Dev_asCust_regsWf, Dev_eioDropHead_regsWf]
theorem effPpsWrite_regsWf (x0) (x1) (x2) (x3) (d4) : d4.regsWf → (effPpsWrite x0 x1 x2 x3 d4).regsWf := by
  intros; unfold effPpsWrite; grind [Dev.regsWf, foldl_regsWf, Dev_asCust_regsWf, Dev_setPps_regsWf, Dev_wr_regsWf]
theorem effCalStart_regsWf (x0) (d1) : d1.regsWf → (effCalStart x0 d1).regsWf := by
  intros; unfold effCalStart; grind [Dev.regsWf, foldl_regsWf, Dev_setLines_regsWf]
theorem Dev_ppsShow_regsWf (d0) (x1) : d0.regsWf → (Dev.ppsShow d0 x1).regsWf := by
  intros; unfold Dev.ppsShow; grind [Dev.regsWf, foldl_regsWf, Dev_setBit_regsWf]
theorem Dev_ppsShowAll_regsWf (d0) : d0.regsWf → (Dev.ppsShowAll d0).regsWf := by
  intros; unfold Dev.ppsShowAll; grind [Dev.regsWf, foldl_regsWf, forRange_regsWf, Dev_ppsShow_regsWf]
theorem ppsIdle_regsWf (x0) (d1) : d1.regsWf → (ppsIdle x0 d1).regsWf := by
  intros; unfold ppsIdle; grind [Dev.regsWf, foldl_regsWf, Dev_ppsPinTo_regsWf]
theorem effPpsApply_regsWf (x0) (d1) : d1.regsWf → (effPpsApply x0 d1).regsWf := by
  intros; unfold effPpsApply; grind [Dev.regsWf, foldl_regsWf, ppsIdle_regsWf, Dev_ppsShow_regsWf, Dev_setPps_regsWf]
theorem Dev_calShow_regsWf (d0) : d0.regsWf → (Dev.calShow d0).regsWf := by
  intros; unfold Dev.calShow; grind [Dev.regsWf, foldl_regsWf, Dev_setBit_regsWf, Dev_wrNat_regsWf, Dev_wr_regsWf]
theorem effCalStale_regsWf (x0) (d1) : d1.regsWf → (effCalStale x0 d1).regsWf := by
  intros; unfold effCalStale; grind [Dev.regsWf, foldl_regsWf, Dev_calShow_regsWf, Dev_setLines_regsWf]
theorem effCalComplete_regsWf (x0) (x1) (d2) : d2.regsWf → (effCalComplete x0 x1 d2).regsWf := by
  intros; unfold effCalComplete; grind [Dev.regsWf, foldl_regsWf, Dev_setLines_regsWf, Dev_pmc_regsWf,
      Dev_calShow_regsWf, Dev_setFld_regsWf, Dev_raise_regsWf, Dev_bump_regsWf]
theorem effPpsEdge_regsWf (x0) (x1) (d2) : d2.regsWf → (effPpsEdge x0 x1 d2).regsWf := by
  intros; unfold effPpsEdge; grind [Dev.regsWf, foldl_regsWf, Dev_ppsShow_regsWf, Dev_bump_regsWf, Dev_setPps_regsWf,
      Dev_emit_regsWf, Dev_setBit_regsWf]
theorem effLineSwap_regsWf (x0) (x1) (d2) : d2.regsWf → (effLineSwap x0 x1 d2).regsWf := by
  intros; unfold effLineSwap; grind [Dev.regsWf, foldl_regsWf, Dev_setLines_regsWf]
theorem effPpsPulseEnd_regsWf (x0) (d1) : d1.regsWf → (effPpsPulseEnd x0 d1).regsWf := by
  intros; unfold effPpsPulseEnd; grind [Dev.regsWf, foldl_regsWf, Dev_emit_regsWf, Dev_setPps_regsWf,
      Dev_setBit_regsWf]
theorem effTsuCfg_regsWf (x0) (x1) (x2) (d3) : d3.regsWf → (effTsuCfg x0 x1 x2 d3).regsWf := by
  intros; unfold effTsuCfg; grind [Dev.regsWf, foldl_regsWf, Dev_asCust_regsWf, Dev_setBit_regsWf, Dev_wr_regsWf]
theorem calStop_regsWf (x0) (d1) : d1.regsWf → (calStop x0 d1).regsWf := by
  intros; unfold calStop; grind [Dev.regsWf, foldl_regsWf, Dev_setLines_regsWf]
theorem Dev_ebRaise_regsWf (d0) (x1) (x2) : d0.regsWf → (Dev.ebRaise d0 x1 x2).regsWf := by
  intros; unfold Dev.ebRaise; grind [Dev.regsWf, foldl_regsWf, Dev_setBit_regsWf, Dev_setEb_regsWf]
theorem Dev_ebRaiseAll_regsWf (d0) (x1) : d0.regsWf → (Dev.ebRaiseAll d0 x1).regsWf := by
  intros; unfold Dev.ebRaiseAll; grind [Dev.regsWf, foldl_regsWf, forRange_regsWf, Dev_ebRaise_regsWf]
theorem ebStamp_regsWf (x0) (d1) : d1.regsWf → (ebStamp x0 d1).regsWf := by
  intros; unfold ebStamp; grind [Dev.regsWf, foldl_regsWf, Dev_setEb_regsWf]
theorem Dev_ebFreqRef_regsWf (d0) (x1) : d0.regsWf → (Dev.ebFreqRef d0 x1).regsWf := by
  intros; unfold Dev.ebFreqRef; grind [Dev.regsWf, foldl_regsWf, Dev_setEb_regsWf]
theorem Dev_ebMiss_regsWf (d0) (x1) : d0.regsWf → (Dev.ebMiss d0 x1).regsWf := by
  intros; unfold Dev.ebMiss; grind [Dev.regsWf, foldl_regsWf, Dev_setBit_regsWf, Dev_bump_regsWf, Dev_setEb_regsWf]
theorem Dev_incorporate_regsWf (d0) (x1) (x2) (x3) : d0.regsWf → (Dev.incorporate d0 x1 x2 x3).regsWf := by
  intros; unfold Dev.incorporate; grind [Dev.regsWf, foldl_regsWf, Dev_setSrv_regsWf, Dev_setEb_regsWf,
      Dev_setBit_regsWf, Dev_bump_regsWf, Dev_raise_regsWf, Dev_setSel_regsWf]
theorem Dev_ebTake_regsWf (d0) (x1) : d0.regsWf → (Dev.ebTake d0 x1).regsWf := by
  intros; unfold Dev.ebTake; grind [Dev.regsWf, foldl_regsWf, Dev_incorporate_regsWf]
theorem Dev_ebPublish_regsWf (d0) (x1) : d0.regsWf → (Dev.ebPublish d0 x1).regsWf := by
  intros; unfold Dev.ebPublish; grind [Dev.regsWf, foldl_regsWf, Dev_wrNat64_regsWf, Dev_wrInt64_regsWf,
      Dev_wrNat_regsWf, Dev_wrFit_regsWf, Dev_setBit_regsWf, Dev_setFld_regsWf]
theorem Dev_ebLimit_regsWf (d0) (x1) : d0.regsWf → (Dev.ebLimit d0 x1).regsWf := by
  intros; unfold Dev.ebLimit; grind [Dev.regsWf, foldl_regsWf, Dev_setEb_regsWf]
theorem ebGrow_regsWf (x0) (d1) : d1.regsWf → (ebGrow x0 d1).regsWf := by
  intros; unfold ebGrow; grind [Dev.regsWf, foldl_regsWf, Dev_setFld_regsWf, Dev_setEb_regsWf]
theorem ebMark_regsWf (x0) (d1) : d1.regsWf → (ebMark x0 d1).regsWf := by
  intros; unfold ebMark; grind [Dev.regsWf, foldl_regsWf, Dev_setEb_regsWf]
theorem Dev_writeLedger_regsWf (d0) (x1) : d0.regsWf → (Dev.writeLedger d0 x1).regsWf := by
  intros; unfold Dev.writeLedger; grind [Dev.regsWf, foldl_regsWf, Dev_ringOffer_regsWf, Dev_record_regsWf,
      Dev_setEb_regsWf]
theorem Dev_ebClose_regsWf (d0) (x1) (x2) : d0.regsWf → (Dev.ebClose d0 x1 x2).regsWf := by
  intros; unfold Dev.ebClose; grind [Dev.regsWf, foldl_regsWf, Dev_setEb_regsWf, Dev_ebPublish_regsWf,
      Dev_ebLimit_regsWf, Dev_writeLedger_regsWf, Dev_setFld_regsWf]
theorem ebIdle_regsWf (x0) (d1) : d1.regsWf → (ebIdle x0 d1).regsWf := by
  intros; unfold ebIdle; grind [Dev.regsWf, foldl_regsWf, Dev_ebClose_regsWf, Dev_ebTake_regsWf]
theorem effEbLatch_regsWf (x0) (x1) (d2) : d2.regsWf → (effEbLatch x0 x1 d2).regsWf := by
  intros; unfold effEbLatch; grind [Dev.regsWf, foldl_regsWf, Dev_emit_regsWf, Dev_latchRegs_regsWf]
theorem ebOpen_regsWf (x0) (d1) : d1.regsWf → (ebOpen x0 d1).regsWf := by
  intros; unfold ebOpen; grind [Dev.regsWf, foldl_regsWf, Dev_ebFreqRef_regsWf, Dev_ebRaise_regsWf, Dev_setEb_regsWf]
theorem Dev_modRef_regsWf (d0) (x1) (x2) : d0.regsWf → (Dev.modRef d0 x1 x2).regsWf := by
  intros; unfold Dev.modRef; grind [Dev.regsWf, foldl_regsWf, Dev_setRefs_regsWf]
theorem effAtomSilence_regsWf (d0) : d0.regsWf → (effAtomSilence d0).regsWf := by
  intros; unfold effAtomSilence; grind [Dev.regsWf, foldl_regsWf, Dev_modRef_regsWf]
theorem effAtomPoll_regsWf (d0) : d0.regsWf → (effAtomPoll d0).regsWf := by
  intros; unfold effAtomPoll; grind [Dev.regsWf, foldl_regsWf, Dev_emit_regsWf]
theorem Dev_modRn_regsWf (d0) (x1) (x2) (x3) : d0.regsWf → (Dev.modRn d0 x1 x2 x3).regsWf := by
  intros; unfold Dev.modRn; grind [Dev.regsWf, foldl_regsWf, Dev_setRn_regsWf]
theorem Dev_deliver_regsWf (d0) (x1) (x2) (x3) : d0.regsWf → (Dev.deliver d0 x1 x2 x3).regsWf := by
  intros; unfold Dev.deliver; grind [Dev.regsWf, foldl_regsWf, Dev_modRn_regsWf]
theorem Dev_deliverEdge_regsWf (d0) (x1) (x2) (x3) (x4) (x5) : d0.regsWf → (Dev.deliverEdge d0 x1 x2 x3 x4 x5).regsWf
    := by
  intros; unfold Dev.deliverEdge; grind [Dev.regsWf, foldl_regsWf, forRange_regsWf, Dev_deliver_regsWf]
theorem effPpsEdgeRx_regsWf (x0) (x1) (d2) : d2.regsWf → (effPpsEdgeRx x0 x1 d2).regsWf := by
  intros; unfold effPpsEdgeRx; grind [Dev.regsWf, foldl_regsWf, Dev_bump_regsWf, Dev_deliverEdge_regsWf,
      Dev_modRef_regsWf]
theorem Dev_showDef_regsWf (d0) (x1) (x2) : d0.regsWf → (Dev.showDef d0 x1 x2).regsWf := by
  intros; unfold Dev.showDef; grind [Dev.regsWf, foldl_regsWf, Dev_wr_regsWf]
theorem Dev_refTo_regsWf (d0) (x1) (x2) : d0.regsWf → (Dev.refTo d0 x1 x2).regsWf := by
  intros; unfold Dev.refTo; grind [Dev.regsWf, foldl_regsWf, Dev_record_regsWf, Dev_setFld_regsWf]
theorem Dev_refFail_regsWf (d0) (x1) : d0.regsWf → (Dev.refFail d0 x1).regsWf := by
  intros; unfold Dev.refFail; grind [Dev.regsWf, foldl_regsWf, Dev_wr_regsWf, Dev_bump_regsWf, Dev_refTo_regsWf,
      forRange_regsWf, Dev_modRn_regsWf, Dev_setBit_regsWf]
theorem Dev_trendFail_regsWf (d0) (x1) (x2) : d0.regsWf → (Dev.trendFail d0 x1 x2).regsWf := by
  intros; unfold Dev.trendFail; grind [Dev.regsWf, foldl_regsWf, Dev_modRn_regsWf, Dev_refFail_regsWf,
      Dev_showDef_regsWf]
theorem tickConflict_regsWf (x0) (d1) : d1.regsWf → (tickConflict x0 d1).regsWf := by
  intros; unfold tickConflict; grind [Dev.regsWf, foldl_regsWf, Dev_setSel_regsWf, Dev_bump_regsWf,
      Dev_trendFail_regsWf]
theorem Dev_trendAges_regsWf (d0) (x1) : d0.regsWf → (Dev.trendAges d0 x1).regsWf := by
  intros; unfold Dev.trendAges; grind [Dev.regsWf, foldl_regsWf, forRange_regsWf, Dev_modRn_regsWf]
theorem Dev_mateMsg_regsWf (d0) (x1) : d0.regsWf → (Dev.mateMsg d0 x1).regsWf := by
  intros; unfold Dev.mateMsg; grind [Dev.regsWf, foldl_regsWf, Dev_wrNat_regsWf]
theorem Dev_refTimer_regsWf (d0) (x1) (x2) (x3) : d0.regsWf → (Dev.refTimer d0 x1 x2 x3).regsWf := by
  intros; unfold Dev.refTimer; grind [Dev.regsWf, foldl_regsWf, Dev_wrNat_regsWf, Dev_modRef_regsWf]
theorem effTrendClear_regsWf (x0) (d1) : d1.regsWf → (effTrendClear x0 d1).regsWf := by
  intros; unfold effTrendClear; grind [Dev.regsWf, foldl_regsWf, forRange_regsWf, Dev_modRn_regsWf, Dev_setBit_regsWf,
      Dev_refTimer_regsWf, Dev_refTo_regsWf]
theorem effAtomTimeout_regsWf (d0) : d0.regsWf → (effAtomTimeout d0).regsWf := by
  intros; unfold effAtomTimeout; grind [Dev.regsWf, foldl_regsWf, Dev_modRef_regsWf]
theorem Dev_pullAbort_regsWf (d0) (x1) : d0.regsWf → (Dev.pullAbort d0 x1).regsWf := by
  intros; unfold Dev.pullAbort; grind [Dev.regsWf, foldl_regsWf, Dev_setSel_regsWf, Dev_setTb_regsWf]
theorem gatherRn_regsWf (x0) (x1) (d2) : d2.regsWf → (gatherRn x0 x1 d2).regsWf := by
  intros; unfold gatherRn; grind [Dev.regsWf, foldl_regsWf, Dev_setRn_regsWf]
theorem tickReturn_regsWf (x0) (x1) (d2) : d2.regsWf → (tickReturn x0 x1 d2).regsWf := by
  intros; unfold tickReturn; grind [Dev.regsWf, foldl_regsWf, Dev_setBit_regsWf, Dev_modRn_regsWf]
theorem freqPoint_regsWf (x0) (x1) (d2) : d2.regsWf → (freqPoint x0 x1 d2).regsWf := by
  intros; unfold freqPoint; grind [Dev.regsWf, foldl_regsWf, Dev_modRn_regsWf]
theorem freqRead_regsWf (x0) (d1) : d1.regsWf → (freqRead x0 d1).regsWf := by
  intros; unfold freqRead; grind [Dev.regsWf, foldl_regsWf, Dev_modRef_regsWf, Dev_wrFit_regsWf, Dev_setPorts_regsWf,
      forRange_regsWf, freqPoint_regsWf]
theorem tickPass_regsWf (x0) (d1) : d1.regsWf → (tickPass x0 d1).regsWf := by
  intros; unfold tickPass; grind [Dev.regsWf, foldl_regsWf, Dev_setSel_regsWf]
theorem Dev_refQualify_regsWf (d0) (x1) : d0.regsWf → (Dev.refQualify d0 x1).regsWf := by
  intros; unfold Dev.refQualify; grind [Dev.regsWf, foldl_regsWf, Dev_wr_regsWf, Dev_setBit_regsWf, Dev_refTo_regsWf,
      Dev_modRef_regsWf, forRange_regsWf, Dev_modRn_regsWf]
theorem tickState_regsWf (x0) (d1) : d1.regsWf → (tickState x0 d1).regsWf := by
  intros; unfold tickState; grind [Dev.regsWf, foldl_regsWf, Dev_modRef_regsWf, Dev_refFail_regsWf,
      Dev_refTimer_regsWf, Dev_refTo_regsWf, Dev_refQualify_regsWf]
theorem tickGather_regsWf (x0) (d1) : d1.regsWf → (tickGather x0 d1).regsWf := by
  intros; unfold tickGather; grind [Dev.regsWf, foldl_regsWf, forRange_regsWf, gatherRn_regsWf, freqRead_regsWf]
theorem Dev_trendFix_regsWf (d0) (x1) (x2) (x3) : d0.regsWf → (Dev.trendFix d0 x1 x2 x3).regsWf := by
  intros; unfold Dev.trendFix; grind [Dev.regsWf, foldl_regsWf, Dev_setSel_regsWf]
theorem Dev_staticMsg_regsWf (d0) (x1) : d0.regsWf → (Dev.staticMsg d0 x1).regsWf := by
  intros; unfold Dev.staticMsg; grind [Dev.regsWf, foldl_regsWf, Dev_freeWord_regsWf, Dev_wrNat_regsWf]
theorem tickDefects_regsWf (x0) (x1) (d2) : d2.regsWf → (tickDefects x0 x1 d2).regsWf := by
  intros; unfold tickDefects; grind [Dev.regsWf, foldl_regsWf, Dev_mateMsg_regsWf, Dev_staticMsg_regsWf,
      Dev_showDef_regsWf, Dev_setFld_regsWf]
theorem Dev_pullTo_regsWf (d0) (x1) : d0.regsWf → (Dev.pullTo d0 x1).regsWf := by
  intros; unfold Dev.pullTo; grind [Dev.regsWf, foldl_regsWf, Dev_bump_regsWf, Dev_setSel_regsWf]
theorem tickSelect_regsWf (x0) (d1) : d1.regsWf → (tickSelect x0 d1).regsWf := by
  intros; unfold tickSelect; grind [Dev.regsWf, foldl_regsWf, Dev_wrNat_regsWf, Dev_setSel_regsWf, Dev_setBit_regsWf,
      Dev_setFld_regsWf, Dev_setEb_regsWf, Dev_bump_regsWf, Dev_pullTo_regsWf, Dev_pullAbort_regsWf]
theorem effWtr_regsWf (x0) (d1) : d1.regsWf → (effWtr x0 d1).regsWf := by
  intros; unfold effWtr; grind [Dev.regsWf, foldl_regsWf, Dev_refQualify_regsWf]
theorem Dev_refMessage_regsWf (d0) (x1) (x2) (x3) (x4) : d0.regsWf → (Dev.refMessage d0 x1 x2 x3 x4).regsWf := by
  intros; unfold Dev.refMessage; grind [Dev.regsWf, foldl_regsWf, Dev_modRef_regsWf, Dev_wrNat_regsWf]
theorem effIrigRx_regsWf (x0) (x1) (x2) (d3) : d3.regsWf → (effIrigRx x0 x1 x2 d3).regsWf := by
  intros; unfold effIrigRx; grind [Dev.regsWf, foldl_regsWf, Dev_bump_regsWf, Dev_refMessage_regsWf,
      Dev_modRef_regsWf, Dev_deliverEdge_regsWf]
theorem effHoldoff_regsWf (x0) (d1) : d1.regsWf → (effHoldoff x0 d1).regsWf := by
  intros; unfold effHoldoff; grind [Dev.regsWf, foldl_regsWf, Dev_refFail_regsWf]
theorem effLockout_regsWf (x0) (x1) (d2) : d2.regsWf → (effLockout x0 x1 d2).regsWf := by
  intros; unfold effLockout; grind [Dev.regsWf, foldl_regsWf, Dev_asCust_regsWf, Dev_wr_regsWf]
theorem Dev_showSteer_regsWf (d0) (x1) : d0.regsWf → (Dev.showSteer d0 x1).regsWf := by
  intros; unfold Dev.showSteer; grind [Dev.regsWf, foldl_regsWf, Dev_wrInt64_regsWf]
theorem effSteerLatch_regsWf (x0) (x1) (d2) : d2.regsWf → (effSteerLatch x0 x1 d2).regsWf := by
  intros; unfold effSteerLatch; grind [Dev.regsWf, foldl_regsWf, Dev_showSteer_regsWf, Dev_emit_regsWf,
      Dev_latchRegs_regsWf]
theorem effForce_regsWf (x0) (x1) (x2) (d3) : d3.regsWf → (effForce x0 x1 x2 d3).regsWf := by
  intros; unfold effForce; grind [Dev.regsWf, foldl_regsWf, Dev_asCust_regsWf, Dev_setSel_regsWf, Dev_wr_regsWf]
theorem effAtomReply_regsWf (x0) (d1) : d1.regsWf → (effAtomReply x0 d1).regsWf := by
  intros; unfold effAtomReply; grind [Dev.regsWf, foldl_regsWf, Dev_bump_regsWf, Dev_refMessage_regsWf,
      Dev_freeWord_regsWf]
theorem Dev_trendJudge_regsWf (d0) (x1) (x2) (x3) (d4) : d0.regsWf → d4.regsWf → (Dev.trendJudge d0 x1 x2 x3
    d4).regsWf := by
  intros; unfold Dev.trendJudge; grind [Dev.regsWf, foldl_regsWf, Dev_modRn_regsWf, Dev_trendFail_regsWf]
theorem tickTrend_regsWf (x0) (d1) : d1.regsWf → (tickTrend x0 d1).regsWf := by
  intros; unfold tickTrend; grind [Dev.regsWf, foldl_regsWf, Dev_trendFix_regsWf, Dev_trendJudge_regsWf,
      Dev_setSel_regsWf, Dev_trendAges_regsWf, Dev_setBit_regsWf, Dev_bump_regsWf]
theorem tickConfirm_regsWf (x0) (d1) : d1.regsWf → (tickConfirm x0 d1).regsWf := by
  intros; unfold tickConfirm; grind [Dev.regsWf, foldl_regsWf, forRange_regsWf, Dev_setBit_regsWf, Dev_setSel_regsWf]
theorem tickTaiUtc_regsWf (d0) : d0.regsWf → (tickTaiUtc d0).regsWf := by
  intros; unfold tickTaiUtc; grind [Dev.regsWf, foldl_regsWf, Dev_wrNat_regsWf]
theorem selectorTick_regsWf (x0) (d1) : d1.regsWf → (selectorTick x0 d1).regsWf := by
  intros; unfold selectorTick; grind [Dev.regsWf, foldl_regsWf, tickGather_regsWf, forRange_regsWf,
      tickDefects_regsWf, tickState_regsWf, tickConflict_regsWf, tickTrend_regsWf, tickReturn_regsWf,
      tickConfirm_regsWf, tickSelect_regsWf, tickTaiUtc_regsWf, tickPass_regsWf]
theorem effAccept_regsWf (x0) (x1) (x2) (d3) : d3.regsWf → (effAccept x0 x1 x2 d3).regsWf := by
  intros; unfold effAccept; grind [Dev.regsWf, foldl_regsWf, Dev_asCust_regsWf, Dev_setSel_regsWf]
theorem effModelLatch_regsWf (x0) (x1) (d2) : d2.regsWf → (effModelLatch x0 x1 d2).regsWf := by
  intros; unfold effModelLatch; grind [Dev.regsWf, foldl_regsWf, Dev_emit_regsWf, Dev_latchRegs_regsWf]
theorem Dev_clamped_regsWf (d0) (x1) (x2) : d0.regsWf → (Dev.clamped d0 x1 x2).regsWf := by
  intros; unfold Dev.clamped; grind [Dev.regsWf, foldl_regsWf, Dev_setBit_regsWf, Dev_bump_regsWf]
theorem Dev_setI_regsWf (d0) (x1) (x2) : d0.regsWf → (Dev.setI d0 x1 x2).regsWf := by
  intros; unfold Dev.setI; grind [Dev.regsWf, foldl_regsWf, Dev_clamped_regsWf, Dev_setSrv_regsWf]
theorem effSrvCtl_regsWf (x0) (x1) (x2) (d3) : d3.regsWf → (effSrvCtl x0 x1 x2 d3).regsWf := by
  intros; unfold effSrvCtl; grind [Dev.regsWf, foldl_regsWf, Dev_asCust_regsWf, Dev_wr_regsWf, Dev_bump_regsWf,
      Dev_setSrv_regsWf]
theorem Dev_incModel_regsWf (d0) : d0.regsWf → (Dev.incModel d0).regsWf := by
  intros; unfold Dev.incModel; grind [Dev.regsWf, foldl_regsWf]
theorem Dev_showK_regsWf (d0) (x1) : d0.regsWf → (Dev.showK d0 x1).regsWf := by
  intros; unfold Dev.showK; grind [Dev.regsWf, foldl_regsWf, Dev_wrNat_regsWf]
theorem Dev_showModel_regsWf (d0) (x1) : d0.regsWf → (Dev.showModel d0 x1).regsWf := by
  intros; unfold Dev.showModel; grind [Dev.regsWf, foldl_regsWf, Dev_wrFit_regsWf, Dev_setFld_regsWf,
      Dev_wrNat_regsWf]
theorem Dev_takeFit_regsWf (d0) (x1) (x2) : d0.regsWf → (Dev.takeFit d0 x1 x2).regsWf := by
  intros; unfold Dev.takeFit; grind [Dev_showK_regsWf, Dev.regsWf, foldl_regsWf, Dev_setModels_regsWf,
      Dev_wrNat_regsWf,
      Dev_setFld_regsWf, Dev_setBit_regsWf, Dev_showModel_regsWf]
theorem effFit_regsWf (x0) (x1) (d2) : d2.regsWf → (effFit x0 x1 d2).regsWf := by
  intros; unfold effFit; grind [Dev.regsWf, foldl_regsWf, Dev_ebRaiseAll_regsWf, Dev_incModel_regsWf,
      Dev_takeFit_regsWf]
theorem effLoopMiss_regsWf (x0) (d1) : d1.regsWf → (effLoopMiss x0 d1).regsWf := by
  intros; unfold effLoopMiss; grind [Dev.regsWf, foldl_regsWf, Dev_pmc_regsWf, Dev_bump_regsWf, Dev_ebClose_regsWf,
      Dev_ebMiss_regsWf, Dev_setSel_regsWf]
theorem tickLate_regsWf (x0) (d1) : d1.regsWf → (tickLate x0 d1).regsWf := by
  intros; unfold tickLate; grind [Dev.regsWf, foldl_regsWf, effLoopMiss_regsWf]
theorem Dev_noteFresh_regsWf (d0) (x1) (x2) : d0.regsWf → (Dev.noteFresh d0 x1 x2).regsWf := by
  intros; unfold Dev.noteFresh; grind [Dev_wrInt_regsWf, Dev.regsWf, foldl_regsWf, Dev_setSrv_regsWf]
theorem Dev_setC_regsWf (d0) (x1) (x2) : d0.regsWf → (Dev.setC d0 x1 x2).regsWf := by
  intros; unfold Dev.setC; grind [Dev.regsWf, foldl_regsWf, Dev_clamped_regsWf, Dev_setSrv_regsWf]
theorem Dev_loopNoPhase_regsWf (d0) (x1) : d0.regsWf → (Dev.loopNoPhase d0 x1).regsWf := by
  intros; unfold Dev.loopNoPhase; grind [Dev.regsWf, foldl_regsWf, Dev_setI_regsWf, Dev_setC_regsWf]
theorem Dev_restartAt_regsWf (d0) (x1) (x2) : d0.regsWf → (Dev.restartAt d0 x1 x2).regsWf := by
  intros; unfold Dev.restartAt; grind [Dev.regsWf, foldl_regsWf, Dev_setSrv_regsWf, Dev_setFld_regsWf]
theorem Dev_sensorBad_regsWf (d0) (x1) (x2) : d0.regsWf → (Dev.sensorBad d0 x1 x2).regsWf := by
  intros; unfold Dev.sensorBad; grind [Dev_showK_regsWf, Dev.regsWf, foldl_regsWf, Dev_setBit_regsWf,
      Dev_raiseLevel_regsWf,
      Dev_endLevel_regsWf]
theorem Dev_sensorRead_regsWf (d0) (x1) (x2) : d0.regsWf → (Dev.sensorRead d0 x1 x2).regsWf := by
  intros; unfold Dev.sensorRead; grind [Dev.regsWf, foldl_regsWf, Dev_sensorBad_regsWf]
theorem effTempRecover_regsWf (x0) (d1) : d1.regsWf → (effTempRecover x0 d1).regsWf := by
  intros; unfold effTempRecover; grind [Dev.regsWf, foldl_regsWf, Dev_sensorBad_regsWf]
theorem Dev_epochEnd_regsWf (d0) (x1) (x2) : d0.regsWf → (Dev.epochEnd d0 x1 x2).regsWf := by
  intros; unfold Dev.epochEnd; grind [Dev.regsWf, foldl_regsWf, Dev_setModels_regsWf]
theorem Dev_writeInc_regsWf (d0) (x1) (x2) : d0.regsWf → (Dev.writeInc d0 x1 x2).regsWf := by
  intros; unfold Dev.writeInc; grind [Dev.regsWf, foldl_regsWf, Dev_commitInc_regsWf, Dev_wrNat_regsWf,
      Dev_commitBinc_regsWf, Dev_clamped_regsWf]

end Sys2Proof.Laws
end

