-- ==== Sys2Proof/Laws/RegsWf2.lean ====
section
/-! SUPPORT. One lemma per function of the model that answers a device: it keeps the register store in its canonical form
(part 2 of 4, callees first). -/
set_option Elab.async false
namespace Sys2Proof.Laws
open Sys2Proof.Machine

theorem Dev_loopUnset_regsWf (d0) (x1) : d0.regsWf → (Dev.loopUnset d0 x1).regsWf := by
  intros; unfold Dev.loopUnset; grind [Dev.regsWf, foldl_regsWf, Dev_setSrv_regsWf, Dev_writeInc_regsWf,
      Dev_setFld_regsWf]
theorem Dev_closeNow_regsWf (d0) (x1) : d0.regsWf → (Dev.closeNow d0 x1).regsWf := by
  intros; unfold Dev.closeNow; grind [Dev.regsWf, foldl_regsWf, Dev_setBit_regsWf, Dev_setSrv_regsWf]
theorem Dev_writePull_regsWf (d0) (x1) : d0.regsWf → (Dev.writePull d0 x1).regsWf := by
  intros; unfold Dev.writePull; grind [Dev.regsWf, foldl_regsWf, Dev_setSel_regsWf, Dev_wrNat_regsWf,
      Dev_setBit_regsWf, Dev_commitPadj_regsWf, Dev_restartAt_regsWf]
theorem Dev_retakeLoop_regsWf (d0) (x1) (x2) : d0.regsWf → (Dev.retakeLoop d0 x1 x2).regsWf := by
  intros; unfold Dev.retakeLoop; grind [Dev.regsWf, foldl_regsWf, Dev_restartAt_regsWf, Dev_noteFresh_regsWf,
      Dev_setSrv_regsWf]
theorem Dev_loopFresh_regsWf (d0) (x1) (x2) : d0.regsWf → (Dev.loopFresh d0 x1 x2).regsWf := by
  intros; unfold Dev.loopFresh; grind [Dev.regsWf, foldl_regsWf, Dev_noteFresh_regsWf, Dev_setI_regsWf,
      Dev_setC_regsWf]
theorem Dev_loopCorrect_regsWf (d0) (x1) : d0.regsWf → (Dev.loopCorrect d0 x1).regsWf := by
  intros; unfold Dev.loopCorrect; grind [Dev.regsWf, foldl_regsWf, Dev_retakeLoop_regsWf, Dev_loopFresh_regsWf,
      Dev_loopNoPhase_regsWf]
theorem Dev_stepAdvance_regsWf (d0) (x1) : d0.regsWf → (Dev.stepAdvance d0 x1).regsWf := by
  intros; unfold Dev.stepAdvance; grind [Dev.regsWf, foldl_regsWf, Dev_restartAt_regsWf]
theorem Dev_loopClosed_regsWf (d0) (x1) : d0.regsWf → (Dev.loopClosed d0 x1).regsWf := by
  intros; unfold Dev.loopClosed; grind [Dev.regsWf, foldl_regsWf, Dev_writePull_regsWf, Dev_restartAt_regsWf,
      Dev_loopCorrect_regsWf, Dev_setBit_regsWf, Dev_writeInc_regsWf, Dev_stepAdvance_regsWf]
theorem Dev_writeLeap_regsWf (d0) (x1) : d0.regsWf → (Dev.writeLeap d0 x1).regsWf := by
  intros; unfold Dev.writeLeap; grind [Dev.regsWf, foldl_regsWf, Dev_wrNat_regsWf, Dev_commitLeap_regsWf]
theorem Dev_showLoop_regsWf (d0) (x1) : d0.regsWf → (Dev.showLoop d0 x1).regsWf := by
  intros; unfold Dev.showLoop; grind [Dev.regsWf, foldl_regsWf, Dev_wrFit_regsWf, Dev_wrNat_regsWf, Dev_pmc_regsWf,
      Dev_bumpWrap_regsWf]
theorem osynSteer_regsWf (x0) (x1) (d2) : d2.regsWf → (osynSteer x0 x1 d2).regsWf := by
  intros; unfold osynSteer; grind [Dev.regsWf, foldl_regsWf, Dev_setOsyn_regsWf]
theorem Dev_loopUpdate_regsWf (d0) (x1) : d0.regsWf → (Dev.loopUpdate d0 x1).regsWf := by
  intros; unfold Dev.loopUpdate; grind [Dev.regsWf, foldl_regsWf, Dev_closeNow_regsWf, Dev_loopUnset_regsWf,
      Dev_loopClosed_regsWf, Dev_setSel_regsWf, Dev_writeLeap_regsWf, Dev_setSrv_regsWf, Dev_showLoop_regsWf,
      forRange_regsWf, osynSteer_regsWf]
theorem Dev_learnSample_regsWf (d0) (x1) : d0.regsWf → (Dev.learnSample d0 x1).regsWf := by
  intros; unfold Dev.learnSample; grind [Dev.regsWf, foldl_regsWf, forRange_regsWf, Dev_setModels_regsWf]
theorem effLoop_regsWf (x0) (x1) (d2) : d2.regsWf → (effLoop x0 x1 d2).regsWf := by
  intros; unfold effLoop; grind [Dev.regsWf, foldl_regsWf, effLoopMiss_regsWf, Dev_ebClose_regsWf,
      Dev_loopUpdate_regsWf, Dev_learnSample_regsWf, Dev_ebTake_regsWf]
theorem effHostWd_regsWf (x0) (d1) : d1.regsWf → (effHostWd x0 d1).regsWf := by
  intros; unfold effHostWd; grind [Dev.regsWf, foldl_regsWf, Dev_raise_regsWf, Dev_setBit_regsWf, Dev_setSrv_regsWf]
theorem tickHostWd_regsWf (x0) (d1) : d1.regsWf → (tickHostWd x0 d1).regsWf := by
  intros; unfold tickHostWd; grind [Dev.regsWf, foldl_regsWf, Dev_setTb_regsWf, effHostWd_regsWf]
theorem Dev_showSeeded_regsWf (d0) : d0.regsWf → (Dev.showSeeded d0).regsWf := by
  intros; unfold Dev.showSeeded; grind [Dev.regsWf, foldl_regsWf, Dev_setBit_regsWf]
theorem tickLearn_regsWf (d0) : d0.regsWf → (tickLearn d0).regsWf := by
  intros; unfold tickLearn; grind [Dev.regsWf, foldl_regsWf, forRange_regsWf, Dev_setModels_regsWf,
      Dev_epochEnd_regsWf]
theorem Dev_hotCheck_regsWf (d0) : d0.regsWf → (Dev.hotCheck d0).regsWf := by
  intros; unfold Dev.hotCheck; grind [Dev.regsWf, foldl_regsWf, Dev_raiseLevel_regsWf, Dev_endLevel_regsWf]
theorem Dev_tempStep_regsWf (d0) (x1) : d0.regsWf → (Dev.tempStep d0 x1).regsWf := by
  intros; unfold Dev.tempStep; grind [Dev.regsWf, foldl_regsWf, forRange_regsWf, Dev_bump_regsWf]
theorem tickTemps_regsWf (x0) (d1) : d1.regsWf → (tickTemps x0 d1).regsWf := by
  intros; unfold tickTemps; grind [Dev_tempStep_regsWf, Dev.regsWf, foldl_regsWf, Dev_setFld_regsWf,
      Dev_sensorRead_regsWf,
      Dev_hotCheck_regsWf]
theorem Dev_atomReturn_regsWf (d0) : d0.regsWf → (Dev.atomReturn d0).regsWf := by
  intros; unfold Dev.atomReturn; grind [Dev.regsWf, foldl_regsWf, Dev_showSeeded_regsWf, Dev_ebRaiseAll_regsWf,
      Dev_setBit_regsWf]
theorem tickAtom_regsWf (x0) (d1) : d1.regsWf → (tickAtom x0 d1).regsWf := by
  intros; unfold tickAtom; grind [Dev.regsWf, foldl_regsWf, Dev_showSeeded_regsWf, Dev_ebRaiseAll_regsWf,
      Dev_incModel_regsWf, Dev_setBit_regsWf, Dev_atomReturn_regsWf]
theorem effStall_regsWf (x0) (d1) : d1.regsWf → (effStall x0 d1).regsWf := by
  intros; unfold effStall; grind [Dev.regsWf, foldl_regsWf, Dev_raise_regsWf, Dev_setBit_regsWf]
theorem tickMisses_regsWf (x0) (d1) : d1.regsWf → (tickMisses x0 d1).regsWf := by
  intros; unfold tickMisses; grind [Dev.regsWf, foldl_regsWf]
theorem Dev_seedModel_regsWf (d0) (x1) (x2) (x3) : d0.regsWf → (Dev.seedModel d0 x1 x2 x3).regsWf := by
  intros; unfold Dev.seedModel; grind [Dev_showK_regsWf, Dev.regsWf, foldl_regsWf, Dev_setModels_regsWf,
      Dev_wr_regsWf,
      Dev_wrNat_regsWf, Dev_setBit_regsWf, Dev_showSeeded_regsWf, Dev_showModel_regsWf]
theorem effAtomReturn_regsWf (d0) : d0.regsWf → (effAtomReturn d0).regsWf := by
  intros; unfold effAtomReturn; grind [Dev.regsWf, foldl_regsWf, Dev_incModel_regsWf, Dev_atomReturn_regsWf]
theorem tickServo_regsWf (d0) : d0.regsWf → (tickServo d0).regsWf := by
  intros; unfold tickServo; grind [Dev.regsWf, foldl_regsWf, forRange_regsWf, tickMisses_regsWf, tickLearn_regsWf,
      Dev_wrNat_regsWf, Dev_setSrv_regsWf, tickHostWd_regsWf, Dev_setBit_regsWf]
theorem effOpenEffect_regsWf (x0) (d1) : d1.regsWf → (effOpenEffect x0 d1).regsWf := by
  intros; unfold effOpenEffect; grind [Dev.regsWf, foldl_regsWf, Dev_setTb_regsWf, Dev_setSrv_regsWf,
      Dev_setBit_regsWf]
theorem tickSeed_regsWf (d0) : d0.regsWf → (tickSeed d0).regsWf := by
  intros; unfold tickSeed; grind [Dev.regsWf, foldl_regsWf, Dev_seedModel_regsWf]
theorem Dev_seedModels_regsWf (d0) (x1) : d0.regsWf → (Dev.seedModels d0 x1).regsWf := by
  intros; unfold Dev.seedModels; grind [Dev.regsWf, foldl_regsWf, Dev_seedModel_regsWf, Dev_setModels_regsWf,
      Dev_incModel_regsWf]
theorem Dev_turnEpochs_regsWf (d0) (x1) (x2) : d0.regsWf → (Dev.turnEpochs d0 x1 x2).regsWf := by
  intros; unfold Dev.turnEpochs; grind [Dev.regsWf, foldl_regsWf, Dev_setModels_regsWf]
theorem effErrLatch_regsWf (x0) (x1) (d2) : d2.regsWf → (effErrLatch x0 x1 d2).regsWf := by
  intros; unfold effErrLatch; grind [Dev.regsWf, foldl_regsWf, Dev_emit_regsWf, Dev_latchRegs_regsWf]
theorem Dev_predCorrect_regsWf (d0) (x1) : d0.regsWf → (Dev.predCorrect d0 x1).regsWf := by
  intros; unfold Dev.predCorrect; grind [Dev.regsWf, foldl_regsWf, Dev_setModels_regsWf, Dev_turnEpochs_regsWf,
      Dev_bump_regsWf, Dev_maxReg_regsWf, Dev_ebRaiseAll_regsWf, Dev_incModel_regsWf, Dev_showModel_regsWf]
theorem Dev_taiUtcFor_regsWf (d0) (x1) (x2) (x3) : d0.regsWf → (Dev.taiUtcFor d0 x1 x2 x3).2.regsWf := by
  intros; unfold Dev.taiUtcFor; grind [Dev.regsWf, foldl_regsWf, Dev_modRn_regsWf]
theorem Dev_armAt_regsWf (d0) (x1) (x2) (x3) (x4) : d0.regsWf → (Dev.armAt d0 x1 x2 x3 x4).regsWf := by
  intros; unfold Dev.armAt; grind [Dev.regsWf, foldl_regsWf, Dev_wrNat_regsWf, Dev_trySet_regsWf]
theorem Dev_armFromOffset_regsWf (d0) (x1) (x2) (x3) : d0.regsWf → (Dev.armFromOffset d0 x1 x2 x3).regsWf := by
  intros; unfold Dev.armFromOffset; grind [Dev.regsWf, foldl_regsWf, Dev_armAt_regsWf]
theorem Dev_startPtp_regsWf (d0) (x1) (x2) (x3) : d0.regsWf → (Dev.startPtp d0 x1 x2 x3).regsWf := by
  intros; unfold Dev.startPtp; grind [Dev.regsWf, foldl_regsWf, Dev_armFromOffset_regsWf]
theorem Dev_offsetFor_regsWf (d0) (x1) (x2) (x3) (x4) : d0.regsWf → (Dev.offsetFor d0 x1 x2 x3 x4).2.regsWf := by
  intros; unfold Dev.offsetFor; grind [Dev.regsWf, foldl_regsWf, Dev_taiUtcFor_regsWf]
theorem Dev_startGnss_regsWf (d0) (x1) (x2) (x3) (x4) : d0.regsWf → (Dev.startGnss d0 x1 x2 x3 x4).regsWf := by
  intros; unfold Dev.startGnss; grind [Dev.regsWf, foldl_regsWf, Dev_armFromOffset_regsWf]
theorem Dev_toFifo_regsWf (d0) (x1) (x2) : d0.regsWf → (Dev.toFifo d0 x1 x2).regsWf := by
  intros; unfold Dev.toFifo; grind [Dev.regsWf, foldl_regsWf, Dev_bump_regsWf, Dev_setPorts_regsWf]
theorem Dev_queueShow_regsWf (d0) (x1) (x2) : d0.regsWf → (Dev.queueShow d0 x1 x2).regsWf := by
  intros; unfold Dev.queueShow; grind [Dev.regsWf, foldl_regsWf, Dev_wrNat_regsWf, Dev_setBit_regsWf]
theorem Dev_setQueue_regsWf (d0) (x1) (x2) (x3) : d0.regsWf → (Dev.setQueue d0 x1 x2 x3).regsWf := by
  intros; unfold Dev.setQueue; grind [Dev.regsWf, foldl_regsWf, Dev_queueShow_regsWf, Dev_setEgress_regsWf]
theorem dropLate_regsWf (x0) (x1) (x2) (d3) : d3.regsWf → (dropLate x0 x1 x2 d3).regsWf := by
  intros; unfold dropLate; grind [Dev.regsWf, foldl_regsWf, Dev_setQueue_regsWf, Dev_setBit_regsWf, Dev_bumpBy_regsWf]
theorem Dev_toWire_regsWf (d0) (x1) (x2) (x3) : d0.regsWf → (Dev.toWire d0 x1 x2 x3).regsWf := by
  intros; unfold Dev.toWire; grind [Dev.regsWf, foldl_regsWf, Dev_pmc_regsWf, Dev_bump64By_regsWf, Dev_bump64_regsWf,
      Dev_setPorts_regsWf, Dev_emit_regsWf]
theorem Dev_enqueue_regsWf (d0) (x1) : d0.regsWf → ∀ y, Dev.enqueue d0 x1 = some y → y.regsWf := by
  intro h0 y hy; unfold Dev.enqueue at hy; grind [Dev.regsWf, foldl_regsWf, Dev_setQueue_regsWf]
theorem Dev_ptpDeparted_regsWf (d0) (x1) (x2) (x3) (x4) : d0.regsWf → (Dev.ptpDeparted d0 x1 x2 x3 x4).regsWf := by
  intros; unfold Dev.ptpDeparted; grind [Dev.regsWf, foldl_regsWf, Dev_setPtpp_regsWf, Dev_wrNat_regsWf]
theorem Dev_takeReplies_regsWf (d0) (x1) : d0.regsWf → (Dev.takeReplies d0 x1).regsWf := by
  intro h; unfold Dev.takeReplies
  refine foldl_regsWf _ _ (fun d f h => ?_) _ h
  split
  · next e he => have := Dev_enqueue_regsWf _ _ h _ he; exact this
  · exact h
theorem effEgress_regsWf (x0) (x1) (d2) : d2.regsWf → (effEgress x0 x1 d2).regsWf := by
  intros; unfold effEgress; grind [Dev.regsWf, foldl_regsWf, Dev_takeReplies_regsWf, forRange_regsWf, dropLate_regsWf,
      Dev_toFifo_regsWf, Dev_setQueue_regsWf]
theorem Dev_fifoLate_regsWf (d0) (x1) : d0.regsWf → (Dev.fifoLate d0 x1).regsWf := by
  intros; unfold Dev.fifoLate; grind [Dev.regsWf, foldl_regsWf, Dev_setBit_regsWf, Dev_bump_regsWf]
theorem Dev_txqShow_regsWf (d0) (x1) : d0.regsWf → (Dev.txqShow d0 x1).regsWf := by
  intros; unfold Dev.txqShow; grind [Dev.regsWf, foldl_regsWf, Dev_setFld_regsWf]
theorem Dev_twoStepStamp_regsWf (d0) (x1) (x2) (x3) (x4) (x5) (x6) : d0.regsWf → (Dev.twoStepStamp d0 x1 x2 x3 x4 x5
    x6).regsWf := by
  intros; unfold Dev.twoStepStamp; grind [Dev.regsWf, foldl_regsWf, Dev_ringOffer_regsWf, Dev_txqShow_regsWf,
      Dev_setTxq_regsWf]
theorem Dev_mispredict_regsWf (d0) (x1) (x2) : d0.regsWf → (Dev.mispredict d0 x1 x2).regsWf := by
  intros; unfold Dev.mispredict; grind [Dev.regsWf, foldl_regsWf, Dev_setBit_regsWf, Dev_maxReg_regsWf,
      Dev_bump_regsWf]
theorem Dev_modStat_regsWf (d0) (x1) : d0.regsWf → (Dev.modStat d0 x1).regsWf := by
  intros; unfold Dev.modStat; grind [Dev.regsWf, foldl_regsWf]
theorem Dev_countSent_regsWf (d0) (x1) (x2) : d0.regsWf → (Dev.countSent d0 x1 x2).regsWf := by
  intros; unfold Dev.countSent; grind [Dev.regsWf, foldl_regsWf, Dev_modStat_regsWf, Dev_bump64_regsWf,
      Dev_bump_regsWf, Dev_pmc_regsWf, Dev_bumpWrap_regsWf]
theorem Dev_stampSent_regsWf (d0) (x1) (x2) (x3) (x4) (x5) : d0.regsWf → (Dev.stampSent d0 x1 x2 x3 x4 x5).regsWf :=
    by
  intros; unfold Dev.stampSent; grind [Dev.regsWf, foldl_regsWf, Dev_pmc_regsWf, Dev_mispredict_regsWf,
      Dev_twoStepStamp_regsWf, Dev_ptpDeparted_regsWf, Dev_countSent_regsWf]
theorem effFrameTx_regsWf (x0) (x1) (x2) (d3) : d3.regsWf → (effFrameTx x0 x1 x2 d3).regsWf := by
  intro h; unfold effFrameTx; extract_lets lead; split
  · exact h
  split
  · exact h
  extract_lets e len
  have h1 : e.regsWf := Dev_setPorts_regsWf _ _ _ h
  clear_value e len
  split
  · exact Dev_setBit_regsWf _ _ _ _ (Dev_bump_regsWf _ _ h1)
  split
  · exact Dev_fifoLate_regsWf _ _ h1
  · exact Dev_toWire_regsWf _ _ _ _ (Dev_stampSent_regsWf _ _ _ _ _ _ h1)
theorem Dev_modPtpp_regsWf (d0) (x1) (x2) (x3) : d0.regsWf → (Dev.modPtpp d0 x1 x2 x3).regsWf := by
  intros; unfold Dev.modPtpp; grind [Dev.regsWf, foldl_regsWf, Dev_setPtpp_regsWf]
theorem Dev_setPtpState_regsWf (d0) (x1) (x2) (x3) : d0.regsWf → (Dev.setPtpState d0 x1 x2 x3).regsWf := by
  intros; unfold Dev.setPtpState; grind [Dev.regsWf, foldl_regsWf, Dev_modPtpp_regsWf, Dev_setFld_regsWf]
theorem ptpPortRefresh_regsWf (x0) (x1) (d2) : d2.regsWf → (ptpPortRefresh x0 x1 d2).regsWf := by
  intros; unfold ptpPortRefresh; grind [Dev.regsWf, foldl_regsWf, Dev_setPtpState_regsWf]
theorem ptpRefresh_regsWf (d0) : d0.regsWf → (ptpRefresh d0).regsWf := by
  intros; unfold ptpRefresh; grind [Dev.regsWf, foldl_regsWf, forRange_regsWf, ptpPortRefresh_regsWf]
theorem Dev_modPort_regsWf (d0) (x1) (x2) : d0.regsWf → (Dev.modPort d0 x1 x2).regsWf := by
  intros; unfold Dev.modPort; grind [Dev.regsWf, foldl_regsWf, Dev_setPorts_regsWf]
theorem Dev_frameSeen_regsWf (d0) (x1) : d0.regsWf → (Dev.frameSeen d0 x1).regsWf := by
  intros; unfold Dev.frameSeen; grind [Dev.regsWf, foldl_regsWf, Dev_modPort_regsWf]
theorem heldUpdate_regsWf (x0) (d1) : d1.regsWf → (heldUpdate x0 d1).regsWf := by
  intros; unfold heldUpdate; grind [Dev.regsWf, foldl_regsWf, Dev_bumpBy_regsWf, Dev_modPort_regsWf]
theorem Dev_setPause_regsWf (d0) (x1) (x2) (x3) : d0.regsWf → (Dev.setPause d0 x1 x2 x3).regsWf := by
  intros; unfold Dev.setPause; grind [Dev.regsWf, foldl_regsWf, heldUpdate_regsWf, Dev_modPort_regsWf,
      Dev_wrNat_regsWf]
theorem Dev_setEnds_regsWf (d0) (x1) (x2) : d0.regsWf → (Dev.setEnds d0 x1 x2).regsWf := by
  intros; unfold Dev.setEnds; grind [Dev.regsWf, foldl_regsWf, Dev_modPort_regsWf]
theorem effPause_regsWf (x0) (x1) (d2) : d2.regsWf → (effPause x0 x1 d2).regsWf := by
  intros; unfold effPause; grind [Dev.regsWf, foldl_regsWf, Dev_frameSeen_regsWf, Dev_setPause_regsWf,
      Dev_bump_regsWf, Dev_setEnds_regsWf]
theorem Dev_localFault_regsWf (d0) (x1) (x2) : d0.regsWf → (Dev.localFault d0 x1 x2).regsWf := by
  intros; unfold Dev.localFault; grind [Dev.regsWf, foldl_regsWf, Dev_setBit_regsWf, Dev_emit_regsWf]
theorem Dev_setVerify_regsWf (d0) (x1) (x2) (x3) : d0.regsWf → (Dev.setVerify d0 x1 x2 x3).regsWf := by
  intros; unfold Dev.setVerify; grind [Dev.regsWf, foldl_regsWf, Dev_setBit_regsWf, Dev_setFld_regsWf]
theorem Dev_verifyStart_regsWf (d0) (x1) : d0.regsWf → (Dev.verifyStart d0 x1).regsWf := by
  intros; unfold Dev.verifyStart; grind [Dev.regsWf, foldl_regsWf, Dev_setVerify_regsWf, Dev_emit_regsWf,
      Dev_modPort_regsWf]
theorem effLinkUp_regsWf (x0) (x1) (x2) (d3) : d3.regsWf → (effLinkUp x0 x1 x2 d3).regsWf := by
  intros; unfold effLinkUp; grind [Dev.regsWf, foldl_regsWf, Dev_setBit_regsWf, Dev_setFld_regsWf,
      Dev_localFault_regsWf, ptpRefresh_regsWf, Dev_verifyStart_regsWf]
theorem effPauseExpire_regsWf (x0) (x1) (d2) : d2.regsWf → (effPauseExpire x0 x1 d2).regsWf := by
  intros; unfold effPauseExpire; grind [Dev.regsWf, foldl_regsWf, Dev_setPause_regsWf]
theorem effVerifyTimeout_regsWf (x0) (d1) : d1.regsWf → (effVerifyTimeout x0 d1).regsWf := by
  intros; unfold effVerifyTimeout; grind [Dev.regsWf, foldl_regsWf, Dev_setVerify_regsWf, Dev_emit_regsWf,
      Dev_modPort_regsWf]
theorem effPreempt_regsWf (x0) (x1) (d2) : d2.regsWf → (effPreempt x0 x1 d2).regsWf := by
  intros; unfold effPreempt; grind [Dev.regsWf, foldl_regsWf, Dev_bump_regsWf, Dev_pmc_regsWf, Dev_emit_regsWf,
      Dev_modPort_regsWf]
theorem Dev_verifyReset_regsWf (d0) (x1) : d0.regsWf → (Dev.verifyReset d0 x1).regsWf := by
  intros; unfold Dev.verifyReset; grind [Dev.regsWf, foldl_regsWf, Dev_modPort_regsWf, Dev_setVerify_regsWf]
theorem Dev_linkLost_regsWf (d0) (x1) : d0.regsWf → (Dev.linkLost d0 x1).regsWf := by
  intros; unfold Dev.linkLost; grind [Dev.regsWf, foldl_regsWf, Dev_bump_regsWf, Dev_setBit_regsWf, Dev_bumpBy_regsWf,
      Dev_setPause_regsWf, Dev_modPort_regsWf, ptpRefresh_regsWf, Dev_verifyReset_regsWf]
theorem Dev_wake_regsWf (d0) (x1) : d0.regsWf → (Dev.wake d0 x1).regsWf := by
  intros; unfold Dev.wake; grind [Dev.regsWf, foldl_regsWf, Dev_interrupt_regsWf, Dev_setBit_regsWf, Dev_bump_regsWf,
      Dev_wr_regsWf, Dev_frameSeen_regsWf, Dev_linkLost_regsWf, Dev_gateOpen_regsWf]
theorem effWakeFrame_regsWf (x0) (x1) (d2) : d2.regsWf → (effWakeFrame x0 x1 d2).regsWf := by
  intros; unfold effWakeFrame; grind [Dev.regsWf, foldl_regsWf, Dev_bump_regsWf, Dev_wake_regsWf]
theorem effEsmcRx_regsWf (x0) (x1) (x2) (d3) : d3.regsWf → (effEsmcRx x0 x1 x2 d3).regsWf := by
  intros; unfold effEsmcRx; grind [Dev.regsWf, foldl_regsWf, Dev_bump_regsWf, Dev_setFld_regsWf, Dev_modRef_regsWf,
      Dev_refMessage_regsWf]
theorem effFrameRx_regsWf (x0) (x1) (x2) (x3) (d4) : d4.regsWf → (effFrameRx x0 x1 x2 x3 d4).regsWf := by
  intros; unfold effFrameRx; grind [Dev.regsWf, foldl_regsWf, effWakeFrame_regsWf, Dev_bump_regsWf, Dev_bumpBy_regsWf,
      Dev_frameSeen_regsWf, effPause_regsWf, effEsmcRx_regsWf, Dev_modPort_regsWf, Dev_pmc_regsWf,
      Dev_bump64By_regsWf, Dev_bump64_regsWf]
theorem Dev_isletEnter_regsWf (d0) (x1) : d0.regsWf → (Dev.isletEnter d0 x1).regsWf := by
  intros; unfold Dev.isletEnter; grind [Dev.regsWf, foldl_regsWf, Dev_setBit_regsWf, ptpRefresh_regsWf]
theorem effIsletIdle_regsWf (x0) (d1) : d1.regsWf → (effIsletIdle x0 d1).regsWf := by
  intros; unfold effIsletIdle; grind [Dev.regsWf, foldl_regsWf, Dev_isletEnter_regsWf]
theorem Dev_sendFrame_regsWf (d0) (x1) (x2) : d0.regsWf → (Dev.sendFrame d0 x1 x2).regsWf := by
  intros; unfold Dev.sendFrame; grind [Dev.regsWf, foldl_regsWf]
theorem Dev_esmcSend_regsWf (d0) (x1) (x2) : d0.regsWf → (Dev.esmcSend d0 x1 x2).regsWf := by
  intros; unfold Dev.esmcSend; grind [Dev.regsWf, foldl_regsWf, Dev_freeBytes_regsWf, Dev_setFld_regsWf,
      Dev_sendFrame_regsWf]
theorem effVerifyRx_regsWf (x0) (d1) : d1.regsWf → (effVerifyRx x0 d1).regsWf := by
  intros; unfold effVerifyRx; grind [Dev.regsWf, foldl_regsWf, Dev_emit_regsWf]
theorem effRespond_regsWf (x0) (d1) : d1.regsWf → (effRespond x0 d1).regsWf := by
  intros; unfold effRespond; grind [Dev.regsWf, foldl_regsWf, Dev_setVerify_regsWf]
theorem effMacLatch_regsWf (x0) (x1) (x2) (d3) : d3.regsWf → (effMacLatch x0 x1 x2 d3).regsWf := by
  intros; unfold effMacLatch; grind [Dev.regsWf, foldl_regsWf, Dev_emit_regsWf, Dev_latchRegs_regsWf]
theorem effIsletCmd_regsWf (x0) (x1) (d2) : d2.regsWf → (effIsletCmd x0 x1 d2).regsWf := by
  intros; unfold effIsletCmd; grind [Dev.regsWf, foldl_regsWf, Dev_asCust_regsWf, Dev_isletEnter_regsWf]
theorem effWakeCmd_regsWf (x0) (x1) (d2) : d2.regsWf → (effWakeCmd x0 x1 d2).regsWf := by
  intros; unfold effWakeCmd; grind [Dev.regsWf, foldl_regsWf, Dev_asCust_regsWf, Dev_wake_regsWf]
theorem tickEsmc_regsWf (x0) (d1) : d1.regsWf → (tickEsmc x0 d1).regsWf := by
  intros; unfold tickEsmc; grind [Dev.regsWf, foldl_regsWf, Dev_esmcSend_regsWf]
theorem effLinkDown_regsWf (x0) (x1) (x2) (x3) (x4) (d5) : d5.regsWf → (effLinkDown x0 x1 x2 x3 x4 d5).regsWf := by
  intros; unfold effLinkDown; grind [Dev.regsWf, foldl_regsWf, Dev_localFault_regsWf, Dev_linkLost_regsWf,
      Dev_setBit_regsWf]
theorem Dev_ringEvent_regsWf (d0) (x1) : d0.regsWf → (Dev.ringEvent d0 x1).regsWf := by
  intros; unfold Dev.ringEvent; grind [Dev.regsWf, foldl_regsWf, Dev_interrupt_regsWf, Dev_setRings_regsWf]
theorem Dev_headAdvance_regsWf (d0) (x1) : d0.regsWf → (Dev.headAdvance d0 x1).regsWf := by
  intros; unfold Dev.headAdvance; grind [Dev.regsWf, foldl_regsWf, Dev_ringEvent_regsWf, Dev_bumpWrap_regsWf,
      Dev_wrNat_regsWf]
theorem Dev_htxEnter_regsWf (d0) (x1) : d0.regsWf → (Dev.htxEnter d0 x1).regsWf := by
  intro h; unfold Dev.htxEnter
  split
  · next e he => have := Dev_enqueue_regsWf _ _ h _ he; exact Dev_headAdvance_regsWf _ _ this
  · exact h
theorem Dev_ringStart_regsWf (d0) (x1) (x2) : d0.regsWf → (Dev.ringStart d0 x1 x2).regsWf := by
  intros; unfold Dev.ringStart; grind [Dev.regsWf, foldl_regsWf, Dev_wr_regsWf, Dev_setBit_regsWf,
      Dev_setRings_regsWf]
theorem effStagingTimeout_regsWf (x0) (d1) : d1.regsWf → (effStagingTimeout x0 d1).regsWf := by
  intros; unfold effStagingTimeout; grind [Dev.regsWf, foldl_regsWf, Dev_ringDrop_regsWf, Dev_setRings_regsWf]
theorem effHtxFetch_regsWf (x0) (x1) (d2) : d2.regsWf → (effHtxFetch x0 x1 d2).regsWf := by
  intros; unfold effHtxFetch; grind [Dev.regsWf, foldl_regsWf, Dev_htxEnter_regsWf, Dev_headAdvance_regsWf,
      Dev_bump_regsWf]
theorem Dev_writeBack_regsWf (d0) (x1) : d0.regsWf → (Dev.writeBack d0 x1).regsWf := by
  intros; unfold Dev.writeBack; grind [Dev.regsWf, foldl_regsWf, Dev_emit_regsWf]
theorem effRingEnable_regsWf (x0) (x1) (x2) (d3) : d3.regsWf → (effRingEnable x0 x1 x2 d3).regsWf := by
  intros; unfold effRingEnable; grind [Dev.regsWf, foldl_regsWf, Dev_asCust_regsWf, Dev_ringStart_regsWf]
theorem effHcmdFetch_regsWf (x0) (d1) : d1.regsWf → (effHcmdFetch x0 d1).regsWf := by
  intros; unfold effHcmdFetch; grind [Dev.regsWf, foldl_regsWf, Dev_headAdvance_regsWf]
theorem effImod_regsWf (x0) (d1) : d1.regsWf → (effImod x0 d1).regsWf := by
  intros; unfold effImod; grind [Dev.regsWf, foldl_regsWf, Dev_interrupt_regsWf, Dev_setRings_regsWf]
theorem effHtxTimeout_regsWf (d0) : d0.regsWf → (effHtxTimeout d0).regsWf := by
  intros; unfold effHtxTimeout; grind [Dev.regsWf, foldl_regsWf, Dev_pmc_regsWf, Dev_headAdvance_regsWf,
      Dev_setBit_regsWf, Dev_bump_regsWf]
theorem Dev_hostBody_regsWf (d0) (x1) : d0.regsWf → (Dev.hostBody d0 x1).2.regsWf := by
  intros; unfold Dev.hostBody; grind [Dev.regsWf, foldl_regsWf, Dev_freeBytes_regsWf]
theorem effRecordWrite_regsWf (x0) (d1) : d1.regsWf → (effRecordWrite x0 d1).regsWf := by
  intros; unfold effRecordWrite; grind [Dev.regsWf, foldl_regsWf, Dev_setRings_regsWf, Dev_emit_regsWf,
      Dev_hostBody_regsWf, Dev_bumpWrap_regsWf, Dev_wrNat_regsWf, Dev_pmc_regsWf, Dev_ringEvent_regsWf,
      Dev_writeBack_regsWf]
theorem Dev_ringStop_regsWf (d0) (x1) : d0.regsWf → (Dev.ringStop d0 x1).regsWf := by
  intros; unfold Dev.ringStop; grind [Dev.regsWf, foldl_regsWf, Dev_ringFlushStaging_regsWf, Dev_setBit_regsWf]
theorem effRingDisable_regsWf (x0) (x1) (x2) (d3) : d3.regsWf → (effRingDisable x0 x1 x2 d3).regsWf := by
  intros; unfold effRingDisable; grind [Dev.regsWf, foldl_regsWf, Dev_asCust_regsWf, Dev_ringStop_regsWf,
      Dev_wr_regsWf]
theorem effTail_regsWf (x0) (x1) (x2) (d3) : d3.regsWf → (effTail x0 x1 x2 d3).regsWf := by
  intros; unfold effTail; grind [Dev.regsWf, foldl_regsWf, Dev_asCust_regsWf, Dev_wr_regsWf, Dev_setBit_regsWf]
theorem effDmaError_regsWf (x0) (x1) (d2) : d2.regsWf → (effDmaError x0 x1 d2).regsWf := by
  intros; unfold effDmaError; grind [Dev.regsWf, foldl_regsWf, Dev_popCmd_regsWf, Dev_raise_regsWf, Dev_setBit_regsWf]
theorem Dev_badAny_regsWf (d0) : d0.regsWf → (Dev.badAny d0).regsWf := by
  intros; unfold Dev.badAny; grind [Dev.regsWf, foldl_regsWf, Dev_setBit_regsWf]
theorem saRefresh_regsWf (x0) (d1) : d1.regsWf → (saRefresh x0 d1).regsWf := by
  intros; unfold saRefresh; grind [Dev.regsWf, foldl_regsWf, Dev_setBit_regsWf, Dev_raiseOnset_regsWf]
theorem Dev_showKeys_regsWf (d0) : d0.regsWf → (Dev.showKeys d0).regsWf := by
  intros; unfold Dev.showKeys; grind [Dev.regsWf, foldl_regsWf, Dev_wrNat_regsWf]
theorem effDayTurn_regsWf (d0) : d0.regsWf → (effDayTurn d0).regsWf := by
  intros; unfold effDayTurn; grind [Dev.regsWf, foldl_regsWf, Dev_showKeys_regsWf]
theorem Dev_rootCheck_regsWf (d0) : d0.regsWf → (Dev.rootCheck d0).regsWf := by
  intros; unfold Dev.rootCheck; grind [Dev.regsWf, foldl_regsWf, Dev_endLevel_regsWf, Dev_setBit_regsWf,
      Dev_raiseLevel_regsWf]
theorem instSaRefresh_regsWf (x0) (d1) : d1.regsWf → (instSaRefresh x0 d1).regsWf := by
  intros; unfold instSaRefresh; grind [Dev.regsWf, foldl_regsWf, Dev_setBit_regsWf]
theorem Dev_saAll_regsWf (d0) : d0.regsWf → (Dev.saAll d0).regsWf := by
  intros; unfold Dev.saAll; grind [Dev.regsWf, foldl_regsWf, forRange_regsWf, saRefresh_regsWf, Dev_endLevel_regsWf,
      ptpRefresh_regsWf, instSaRefresh_regsWf]
theorem Dev_slotChanged_regsWf (d0) (x1) : d0.regsWf → (Dev.slotChanged d0 x1).regsWf := by
  intros; unfold Dev.slotChanged; grind [Dev.regsWf, foldl_regsWf, Dev_rootCheck_regsWf, Dev_setBit_regsWf,
      Dev_saAll_regsWf, Dev_badAny_regsWf]
theorem Dev_flashErase_regsWf (d0) (x1) (x2) : d0.regsWf → (Dev.flashErase d0 x1 x2).regsWf := by
  intros; unfold Dev.flashErase; grind [Dev.regsWf, foldl_regsWf]
theorem Dev_deriveWindow_regsWf (d0) : d0.regsWf → (Dev.deriveWindow d0).regsWf := by
  intros; unfold Dev.deriveWindow; grind [Dev.regsWf, foldl_regsWf]
theorem effRederive_regsWf (d0) : d0.regsWf → (effRederive d0).regsWf := by
  intros; unfold effRederive; grind [Dev.regsWf, foldl_regsWf, Dev_deriveWindow_regsWf, Dev_setBit_regsWf]
theorem effEpochKey_regsWf (d0) : d0.regsWf → (effEpochKey d0).regsWf := by
  intros; unfold effEpochKey; grind [Dev.regsWf, foldl_regsWf]
theorem Dev_slotShow_regsWf (d0) (x1) : d0.regsWf → (Dev.slotShow d0 x1).regsWf := by
  intros; unfold Dev.slotShow; grind [Dev.regsWf, foldl_regsWf, Dev_wrNat_regsWf]
theorem Dev_flashProgram_regsWf (d0) (x1) (x2) : d0.regsWf → (Dev.flashProgram d0 x1 x2).regsWf := by
  intros; unfold Dev.flashProgram; grind [Dev.regsWf, foldl_regsWf]
theorem effKeysDone_regsWf (d0) : d0.regsWf → (effKeysDone d0).regsWf := by
  intros; unfold effKeysDone; grind [Dev.regsWf, foldl_regsWf, Dev_rootCheck_regsWf, Dev_showKeys_regsWf,
      Dev_setBit_regsWf]
theorem Dev_storeRecheck_regsWf (d0) : d0.regsWf → (Dev.storeRecheck d0).regsWf := by
  intros; unfold Dev.storeRecheck; grind [Dev.regsWf, foldl_regsWf, Dev_slotChanged_regsWf, Dev_raise_regsWf]
theorem Dev_udpFrame_regsWf (d0) (x1) (x2) (x3) (x4) (x5) (x6) (x7) (x8) (x9) (x10) : d0.regsWf → (Dev.udpFrame d0 x1
    x2 x3 x4 x5 x6 x7 x8 x9 x10).2.regsWf := by
  intros; unfold Dev.udpFrame; grind [Dev.regsWf, foldl_regsWf, Dev_freeBytes_regsWf]
theorem Dev_reply_regsWf (d0) (x1) : d0.regsWf → (Dev.reply d0 x1).regsWf := by
  intros; unfold Dev.reply; grind [Dev.regsWf, foldl_regsWf, Dev_bump_regsWf]
theorem Dev_nonce_regsWf (d0) (x1) (x2) : d0.regsWf → (Dev.nonce d0 x1 x2).2.regsWf := by
  intros; unfold Dev.nonce; grind [Dev.regsWf, foldl_regsWf]
theorem Dev_sealCookie_regsWf (d0) (x1) (x2) (x3) (x4) : d0.regsWf → (Dev.sealCookie d0 x1 x2 x3 x4).2.regsWf := by
  intros; unfold Dev.sealCookie; grind [Dev.regsWf, foldl_regsWf, Dev_nonce_regsWf]
theorem Dev_sealCookies_regsWf (d0) (x1) (x2) (x3) (x4) (x5) : d0.regsWf → (Dev.sealCookies d0 x1 x2 x3 x4
    x5).2.regsWf := by
  intro h
  induction x5 generalizing d0 with
  | zero => exact h
  | succ n ih => exact ih _ (Dev_sealCookie_regsWf _ x1 x2 x3 x4 h)
theorem Dev_cmdDone_regsWf (d0) (x1) : d0.regsWf → (Dev.cmdDone d0 x1).regsWf := by
  intros; unfold Dev.cmdDone; grind [Dev.regsWf, foldl_regsWf, Dev_popCmd_regsWf, Dev_bumpWrap_regsWf,
      Dev_resultOffer_regsWf]
theorem effCookieIssue_regsWf (x0) (x1) (d2) : d2.regsWf → (effCookieIssue x0 x1 d2).regsWf := by
  intros; unfold effCookieIssue; grind [Dev.regsWf, foldl_regsWf, Dev_emit_regsWf, Dev_sealCookies_regsWf,
      Dev_wrNat_regsWf, Dev_cmdDone_regsWf, Dev_bump_regsWf]
theorem Dev_toInput_regsWf (d0) (x1) : d0.regsWf → (Dev.toInput d0 x1).regsWf := by
  intros; unfold Dev.toInput; grind [Dev.regsWf, foldl_regsWf]
theorem Dev_noteHeavy_regsWf (d0) (x1) (x2) (x3) : d0.regsWf → (Dev.noteHeavy d0 x1 x2 x3).regsWf := by
  intros; unfold Dev.noteHeavy; grind [Dev.regsWf, foldl_regsWf, Dev_modStat_regsWf, Dev_bump_regsWf]
theorem Dev_rxDropped_regsWf (d0) (x1) (x2) : d0.regsWf → (Dev.rxDropped d0 x1 x2).regsWf := by
  intros; unfold Dev.rxDropped; grind [Dev.regsWf, foldl_regsWf, Dev_bump_regsWf]
theorem Dev_rlCount_regsWf (d0) (x1) : d0.regsWf → (Dev.rlCount d0 x1).regsWf := by
  intros; unfold Dev.rlCount; grind [Dev.regsWf, foldl_regsWf]
theorem Dev_rlCheck_regsWf (d0) (x1) : d0.regsWf → (Dev.rlCheck d0 x1).2.regsWf := by
  intros; unfold Dev.rlCheck; grind [Dev.regsWf, foldl_regsWf, Dev_rlCount_regsWf, Dev_noteHeavy_regsWf]
theorem Dev_answer_regsWf (d0) (x1) (x2) : d0.regsWf → (Dev.answer d0 x1 x2).2.regsWf := by
  intros; unfold Dev.answer; grind [Dev.regsWf, foldl_regsWf, Dev_udpFrame_regsWf]
theorem Dev_sendKod_regsWf (d0) (x1) : d0.regsWf → (Dev.sendKod d0 x1).regsWf := by
  intros; unfold Dev.sendKod; grind [Dev.regsWf, foldl_regsWf, Dev_answer_regsWf, Dev_reply_regsWf]
theorem Dev_overPlain_regsWf (d0) (x1) : d0.regsWf → (Dev.overPlain d0 x1).regsWf := by
  intros; unfold Dev.overPlain; grind [Dev.regsWf, foldl_regsWf, Dev_sendKod_regsWf, Dev_modStat_regsWf,
      Dev_bump_regsWf, Dev_rxDropped_regsWf]
theorem Dev_judgeNtp_regsWf (d0) (x1) : d0.regsWf → (Dev.judgeNtp d0 x1).regsWf := by
  intros; unfold Dev.judgeNtp; grind [Dev.regsWf, foldl_regsWf, Dev_rxDropped_regsWf, Dev_rlCheck_regsWf,
      Dev_overPlain_regsWf, Dev_toInput_regsWf]
theorem effWindowSwap_regsWf (d0) : d0.regsWf → (effWindowSwap d0).regsWf := by
  intros; unfold effWindowSwap; grind [Dev.regsWf, foldl_regsWf]
theorem effClientStats_regsWf (d0) : d0.regsWf → (effClientStats d0).regsWf := by
  intros; unfold effClientStats; grind [Dev.regsWf, foldl_regsWf, Dev_modStat_regsWf, Dev_ringOffer_regsWf]
theorem Dev_tokFill_regsWf (d0) : d0.regsWf → (Dev.tokFill d0).regsWf := by
  intros; unfold Dev.tokFill; grind [Dev.regsWf, foldl_regsWf]
theorem Dev_nakFrame_regsWf (d0) (x1) (x2) : d0.regsWf → (Dev.nakFrame d0 x1 x2).2.regsWf := by
  intros; unfold Dev.nakFrame; grind [Dev.regsWf, foldl_regsWf, Dev_answer_regsWf]
theorem Dev_admitNts_regsWf (d0) (x1) (x2) : d0.regsWf → (Dev.admitNts d0 x1 x2).regsWf := by
  intros; unfold Dev.admitNts; grind [Dev.regsWf, foldl_regsWf, Dev_tokFill_regsWf, Dev_modStat_regsWf,
      Dev_rxDropped_regsWf, Dev_nakFrame_regsWf, Dev_toInput_regsWf, Dev_reply_regsWf, Dev_bump_regsWf]
theorem Dev_buildNtp_regsWf (d0) (x1) : d0.regsWf → (Dev.buildNtp d0 x1).2.regsWf := by
  intros; unfold Dev.buildNtp; grind [Dev.regsWf, foldl_regsWf, Dev_answer_regsWf]
theorem effNtsLatch_regsWf (x0) (x1) (d2) : d2.regsWf → (effNtsLatch x0 x1 d2).regsWf := by
  intros; unfold effNtsLatch; grind [Dev.regsWf, foldl_regsWf, Dev_emit_regsWf, Dev_latchRegs_regsWf]
theorem Dev_classifyNtp_regsWf (d0) (x1) : d0.regsWf → (Dev.classifyNtp d0 x1).regsWf := by
  intros; unfold Dev.classifyNtp; grind [Dev.regsWf, foldl_regsWf, Dev_judgeNtp_regsWf, Dev_bump64_regsWf]
theorem Dev_buildNts_regsWf (d0) (x1) (x2) (x3) (x4) (x5) (x6) : d0.regsWf → ∀ y e, Dev.buildNts d0 x1 x2 x3 x4 x5 x6
    = some (y, e) → e.regsWf := by
  intro h0 y e hy; unfold Dev.buildNts at hy; grind [Dev.regsWf, foldl_regsWf, Dev_sealCookies_regsWf,
      Dev_nonce_regsWf, Dev_answer_regsWf]
theorem Dev_classifyNts_regsWf (d0) (x1) : d0.regsWf → (Dev.classifyNts d0 x1).regsWf := by
  intro h; unfold Dev.classifyNts; extract_lets e
  have he : e.regsWf := Dev_bump64_regsWf _ _ _ h
  split
  · exact Dev_rxDropped_regsWf _ _ _ he
  · split
    · exact Dev_rxDropped_regsWf _ _ _ he
    · split
      · exact Dev_rxDropped_regsWf _ _ _ he
      · split
        · exact Dev_rxDropped_regsWf _ _ _ he
        · have hr := Dev_rlCheck_regsWf e x1.srcIp he
          split; next a b hab =>
          rw [hab] at hr
          split
          · exact Dev_modStat_regsWf _ _ (Dev_bump_regsWf _ _ (Dev_rxDropped_regsWf _ _ _ hr))
          · exact Dev_admitNts_regsWf _ _ _ hr
theorem Dev_classifyPtp_regsWf (d0) (x1) (x2) (x3) (x4) (x5) (x6) (x7) : d0.regsWf → (Dev.classifyPtp d0 x1 x2 x3 x4
    x5 x6 x7).regsWf := by
  intros; unfold Dev.classifyPtp; grind [Dev.regsWf, foldl_regsWf, Dev_bump_regsWf, Dev_rxDropped_regsWf,
      Dev_toInput_regsWf]
theorem Dev_toHostRing_regsWf (d0) (x1) (x2) (x3) : d0.regsWf → (Dev.toHostRing d0 x1 x2 x3).regsWf := by
  intros; unfold Dev.toHostRing; grind [Dev.regsWf, foldl_regsWf, Dev_ringOffer_regsWf, Dev_rxDropped_regsWf]
theorem Dev_classifyIp_regsWf (d0) (x1) (x2) (x3) (x4) : d0.regsWf → (Dev.classifyIp d0 x1 x2 x3 x4).regsWf := by
  intros; unfold Dev.classifyIp; grind [Dev.regsWf, foldl_regsWf, Dev_rxDropped_regsWf, Dev_classifyNts_regsWf,
      Dev_classifyNtp_regsWf, Dev_classifyPtp_regsWf, Dev_toHostRing_regsWf]
theorem Dev_classifyL3_regsWf (d0) (x1) (x2) (x3) : d0.regsWf → (Dev.classifyL3 d0 x1 x2 x3).regsWf := by
  intros; unfold Dev.classifyL3; grind [Dev.regsWf, foldl_regsWf, Dev_classifyIp_regsWf, Dev_toHostRing_regsWf,
      Dev_bump_regsWf, Dev_rxDropped_regsWf]
theorem Dev_classify_regsWf (d0) (x1) (x2) : d0.regsWf → (Dev.classify d0 x1 x2).regsWf := by
  intros; unfold Dev.classify; grind [Dev.regsWf, foldl_regsWf, Dev_rxDropped_regsWf, Dev_classifyPtp_regsWf,
      Dev_classifyL3_regsWf, Dev_toHostRing_regsWf]
theorem effClassify_regsWf (d0) : d0.regsWf → (effClassify d0).regsWf := by
  intros; unfold effClassify; grind [Dev.regsWf, foldl_regsWf, Dev_classify_regsWf, Dev_pmc_regsWf,
      Dev_modPort_regsWf]
theorem ptpShow_regsWf (x0) (d1) : d1.regsWf → (ptpShow x0 d1).regsWf := by
  intros; unfold ptpShow; grind [Dev.regsWf, foldl_regsWf, Dev_setBit_regsWf]
theorem Dev_ptpSrcIp_regsWf (d0) (x1) (x2) : d0.regsWf → (Dev.ptpSrcIp d0 x1 x2).2.regsWf := by
  intros; unfold Dev.ptpSrcIp; grind [Dev.regsWf, foldl_regsWf, Dev_freeBytes_regsWf]
theorem ptpShowAll_regsWf (d0) : d0.regsWf → (ptpShowAll d0).regsWf := by
  intros; unfold ptpShowAll; grind [Dev.regsWf, foldl_regsWf, forRange_regsWf, ptpShow_regsWf, ptpRefresh_regsWf]
theorem Dev_ptpFrame_regsWf (d0) (x1) (x2) : d0.regsWf → (Dev.ptpFrame d0 x1 x2).2.regsWf := by
  intros; unfold Dev.ptpFrame; grind [Dev.regsWf, foldl_regsWf, Dev_ptpSrcIp_regsWf, Dev_freeBytes_regsWf,
      Dev_udpFrame_regsWf]
theorem Dev_sendPtp_regsWf (d0) (x1) : d0.regsWf → (Dev.sendPtp d0 x1).regsWf := by
  intros; unfold Dev.sendPtp; grind [Dev.regsWf, foldl_regsWf, Dev_bump_regsWf, Dev_ptpFrame_regsWf,
      Dev_sendFrame_regsWf]
theorem Dev_sendSignaling_regsWf (d0) (x1) (x2) (x3) (x4) (x5) (x6) : d0.regsWf → (Dev.sendSignaling d0 x1 x2 x3 x4 x5
    x6).regsWf := by
  intros; unfold Dev.sendSignaling; grind [Dev.regsWf, foldl_regsWf, Dev_modPtpp_regsWf, Dev_sendPtp_regsWf]
theorem Dev_ptpTake_regsWf (d0) (x1) : d0.regsWf → ∀ y e, Dev.ptpTake d0 x1 = some (y, e) → e.regsWf := by
  intro h0 y e hy; unfold Dev.ptpTake at hy; grind [Dev.regsWf, foldl_regsWf]
theorem Dev_modPtpi_regsWf (d0) (x1) (x2) : d0.regsWf → (Dev.modPtpi d0 x1 x2).regsWf := by
  intros; unfold Dev.modPtpi; grind [Dev.regsWf, foldl_regsWf, Dev_setPtpi_regsWf]
theorem Dev_sendCancel_regsWf (d0) (x1) : d0.regsWf → (Dev.sendCancel d0 x1).regsWf := by
  intros; unfold Dev.sendCancel; grind [Dev.regsWf, foldl_regsWf, Dev_sendSignaling_regsWf]
theorem Dev_modPtpx_regsWf (d0) (x1) (x2) : d0.regsWf → (Dev.modPtpx d0 x1 x2).regsWf := by
  intros; unfold Dev.modPtpx; grind [Dev.regsWf, foldl_regsWf, Dev_setPtpx_regsWf]
theorem Dev_markInstants_regsWf (d0) (x1) (x2) (x3) : d0.regsWf → (Dev.markInstants d0 x1 x2 x3).regsWf := by
  intros; unfold Dev.markInstants; grind [Dev.regsWf, foldl_regsWf, Dev_modPtpx_regsWf]
theorem Dev_setSessByte_regsWf (d0) (x1) (x2) (x3) : d0.regsWf → (Dev.setSessByte d0 x1 x2 x3).regsWf := by
  intros; unfold Dev.setSessByte; grind [Dev.regsWf, foldl_regsWf, Dev_setFld_regsWf]
theorem Dev_setSess_regsWf (d0) (x1) (x2) (x3) : d0.regsWf → (Dev.setSess d0 x1 x2 x3).regsWf := by
  intros; unfold Dev.setSess; grind [Dev.regsWf, foldl_regsWf, Dev_setSessByte_regsWf]
theorem Dev_newSess_regsWf (d0) (x1) (x2) (x3) (x4) (x5) (x6) (x7) (x8) (x9) : d0.regsWf → ∀ y e, Dev.newSess d0 x1 x2
    x3 x4 x5 x6 x7 x8 x9 = some (y, e) → e.regsWf := by
  intro h0 y e hy; unfold Dev.newSess at hy; grind [Dev.regsWf, foldl_regsWf, Dev_setSess_regsWf, Dev_wrNat_regsWf,
      Dev_setPtpx_regsWf]
theorem Dev_freeSess_regsWf (d0) (x1) : d0.regsWf → (Dev.freeSess d0 x1).regsWf := by
  intros; unfold Dev.freeSess; grind [Dev.regsWf, foldl_regsWf, Dev_wrNat_regsWf, Dev_setPtpx_regsWf,
      Dev_setSess_regsWf]
theorem Dev_setKinds_regsWf (d0) (x1) (x2) : d0.regsWf → (Dev.setKinds d0 x1 x2).regsWf := by
  intros; unfold Dev.setKinds; grind [Dev.regsWf, foldl_regsWf, Dev_setSess_regsWf]
theorem Dev_umSession_regsWf (d0) (x1) (x2) (x3) : d0.regsWf → ∀ y e, Dev.umSession d0 x1 x2 x3 = some (y, e) →
    e.regsWf := by
  intro h0 y e hy; unfold Dev.umSession at hy; grind [Dev.regsWf, foldl_regsWf, Dev_freeBytes_regsWf,
      Dev_newSess_regsWf]
theorem Dev_request_regsWf (d0) (x1) (x2) : d0.regsWf → (Dev.request d0 x1 x2).regsWf := by
  intros; unfold Dev.request; grind [Dev.regsWf, foldl_regsWf, Dev_modPtpx_regsWf, Dev_sendSignaling_regsWf]
theorem Dev_umRequest_regsWf (d0) (x1) (x2) (x3) : d0.regsWf → (Dev.umRequest d0 x1 x2 x3).regsWf := by
  intros; unfold Dev.umRequest; grind [Dev.regsWf, foldl_regsWf, Dev_umSession_regsWf, Dev_request_regsWf]
theorem Dev_deny_regsWf (d0) (x1) (x2) (x3) : d0.regsWf → (Dev.deny d0 x1 x2 x3).regsWf := by
  intros; unfold Dev.deny; grind [Dev.regsWf, foldl_regsWf, Dev_setBit_regsWf, Dev_bump_regsWf,
      Dev_sendSignaling_regsWf]
theorem Dev_sigTake_regsWf (d0) (x1) : d0.regsWf → ∀ y z e, Dev.sigTake d0 x1 = some (y, z, e) → e.regsWf := by
  intro h0 y z e hy; unfold Dev.sigTake at hy; grind [Dev.regsWf, foldl_regsWf]
theorem Dev_recordGrant_regsWf (d0) (x1) (x2) (x3) (x4) : d0.regsWf → (Dev.recordGrant d0 x1 x2 x3 x4).regsWf := by
  intros; unfold Dev.recordGrant; grind [Dev.regsWf, foldl_regsWf, Dev_markInstants_regsWf, Dev_setKinds_regsWf,
      Dev_setSess_regsWf]
theorem Dev_clientGrant_regsWf (d0) (x1) (x2) (x3) (x4) (x5) : d0.regsWf → (Dev.clientGrant d0 x1 x2 x3 x4 x5).regsWf
    := by
  intros; unfold Dev.clientGrant; grind [Dev.regsWf, foldl_regsWf, Dev_setSess_regsWf, Dev_modPtpx_regsWf,
      Dev_recordGrant_regsWf]
theorem effUnicastGrant_regsWf (d0) : d0.regsWf → (effUnicastGrant d0).regsWf := by
  intros; unfold effUnicastGrant; grind [Dev.regsWf, foldl_regsWf, Dev_sigTake_regsWf, Dev_clientGrant_regsWf]
theorem umFirst_regsWf (x0) (d1) : d1.regsWf → (umFirst x0 d1).regsWf := by
  intros; unfold umFirst; grind [Dev.regsWf, foldl_regsWf, forRange_regsWf, Dev_umRequest_regsWf]
theorem effRequestRetry_regsWf (x0) (x1) (d2) : d2.regsWf → (effRequestRetry x0 x1 d2).regsWf := by
  intros; unfold effRequestRetry; grind [Dev.regsWf, foldl_regsWf, Dev_umRequest_regsWf]
theorem Dev_freeEmpty_regsWf (d0) (x1) : d0.regsWf → (Dev.freeEmpty d0 x1).regsWf := by
  intros; unfold Dev.freeEmpty; grind [Dev.regsWf, foldl_regsWf, Dev_freeSess_regsWf]
theorem effGrantEnd_regsWf (x0) (d1) : d1.regsWf → (effGrantEnd x0 d1).regsWf := by
  intros; unfold effGrantEnd; grind [Dev.regsWf, foldl_regsWf, Dev_freeEmpty_regsWf, Dev_setKinds_regsWf]
theorem effUnicastRenew_regsWf (x0) (d1) : d1.regsWf → (effUnicastRenew x0 d1).regsWf := by
  intros; unfold effUnicastRenew; grind [Dev.regsWf, foldl_regsWf, Dev_request_regsWf]
theorem Dev_grantEntry_regsWf (d0) (x1) (x2) : d0.regsWf → ∀ y e, Dev.grantEntry d0 x1 x2 = some (y, e) → e.regsWf :=
    by
  intro h0 y e hy; unfold Dev.grantEntry at hy; grind [Dev.regsWf, foldl_regsWf, Dev_newSess_regsWf]
theorem effCancelCmd_regsWf (x0) (x1) (d2) : d2.regsWf → (effCancelCmd x0 x1 d2).regsWf := by
  intros; unfold effCancelCmd; grind [Dev.regsWf, foldl_regsWf, Dev_asCust_regsWf, Dev_modPtpx_regsWf,
      Dev_setSess_regsWf, Dev_sendCancel_regsWf]
theorem effUnicastAck_regsWf (d0) : d0.regsWf → (effUnicastAck d0).regsWf := by
  intros; unfold effUnicastAck; grind [Dev.regsWf, foldl_regsWf, Dev_sigTake_regsWf, Dev_freeSess_regsWf]
theorem effUnicastRequest_regsWf (d0) : d0.regsWf → (effUnicastRequest d0).regsWf := by
  intro h; unfold effUnicastRequest; split
  · exact h
  · next m v e he =>
    have hh := Dev_sigTake_regsWf _ _ h _ _ _ he
    extract_lets typ log dur
    split
    · exact hh
    · split
      · exact Dev_deny_regsWf _ _ _ _ hh
      · split
        · exact Dev_deny_regsWf _ _ _ _ hh
        · split
          · exact Dev_deny_regsWf _ _ _ _ hh
          · next x e2 he2 =>
            exact Dev_sendSignaling_regsWf _ _ _ _ _ _ _ (Dev_recordGrant_regsWf _ _ _ _ _ (Dev_grantEntry_regsWf _ _
                _ hh _ _ he2))
theorem effUnicastCancel_regsWf (d0) : d0.regsWf → (effUnicastCancel d0).regsWf := by
  intros; unfold effUnicastCancel; grind [Dev.regsWf, foldl_regsWf, Dev_sigTake_regsWf, Dev_freeEmpty_regsWf,
      Dev_setKinds_regsWf, Dev_sendSignaling_regsWf]
theorem effCancelResend_regsWf (x0) (d1) : d1.regsWf → (effCancelResend x0 d1).regsWf := by
  intros; unfold effCancelResend; grind [Dev.regsWf, foldl_regsWf, Dev_modPtpx_regsWf, Dev_sendCancel_regsWf,
      Dev_freeSess_regsWf]
theorem Dev_takeStamp_regsWf (d0) (x1) (x2) : d0.regsWf → ∀ y z e, Dev.takeStamp d0 x1 x2 = some (y, z, e) → e.regsWf
    := by
  intro h0 y z e hy; unfold Dev.takeStamp at hy; grind [Dev.regsWf, foldl_regsWf, Dev_txqShow_regsWf,
      Dev_setTxq_regsWf]
theorem effPdelayFupTx_regsWf (x0) (d1) : d1.regsWf → (effPdelayFupTx x0 d1).regsWf := by
  intros; unfold effPdelayFupTx; grind [Dev.regsWf, foldl_regsWf, Dev_takeStamp_regsWf, Dev_sendPtp_regsWf]
theorem Dev_newTwoStep_regsWf (d0) (x1) : d0.regsWf → (Dev.newTwoStep d0 x1).2.regsWf := by
  intros; unfold Dev.newTwoStep; grind [Dev.regsWf, foldl_regsWf]
theorem effFollowupTx_regsWf (x0) (d1) : d1.regsWf → (effFollowupTx x0 d1).regsWf := by
  intros; unfold effFollowupTx; grind [Dev.regsWf, foldl_regsWf, Dev_takeStamp_regsWf, Dev_sendPtp_regsWf]
theorem Dev_delayResp_regsWf (d0) (x1) (x2) (x3) (x4) : d0.regsWf → (Dev.delayResp d0 x1 x2 x3 x4).regsWf := by
  intros; unfold Dev.delayResp; grind [Dev.regsWf, foldl_regsWf, Dev_sendPtp_regsWf, Dev_bumpWrap_regsWf]
theorem Dev_dreqCount_regsWf (d0) (x1) : d0.regsWf → (Dev.dreqCount d0 x1).2.regsWf := by
  intros; unfold Dev.dreqCount; grind [Dev.regsWf, foldl_regsWf, Dev_setPtpx_regsWf]
theorem effDelayReqRx_regsWf (d0) : d0.regsWf → (effDelayReqRx d0).regsWf := by
  intros; unfold effDelayReqRx; grind [Dev.regsWf, foldl_regsWf, Dev_ptpTake_regsWf, Dev_delayResp_regsWf,
      Dev_bump_regsWf, Dev_rxDropped_regsWf, Dev_dreqCount_regsWf, Dev_setSess_regsWf]
theorem effOfsLatch_regsWf (x0) (x1) (d2) : d2.regsWf → (effOfsLatch x0 x1 d2).regsWf := by
  intros; unfold effOfsLatch; grind [Dev.regsWf, foldl_regsWf, Dev_emit_regsWf, Dev_latchRegs_regsWf]
theorem effPdelayReqRx_regsWf (d0) : d0.regsWf → (effPdelayReqRx d0).regsWf := by
  intros; unfold effPdelayReqRx; grind [Dev.regsWf, foldl_regsWf, Dev_ptpTake_regsWf, Dev_sendPtp_regsWf,
      Dev_bump_regsWf, Dev_newTwoStep_regsWf]
theorem Dev_sendAnnounce_regsWf (d0) (x1) (x2) (x3) (x4) (x5) (x6) : d0.regsWf → (Dev.sendAnnounce d0 x1 x2 x3 x4 x5
    x6).regsWf := by
  intros; unfold Dev.sendAnnounce; grind [Dev.regsWf, foldl_regsWf, Dev_sendPtp_regsWf]
theorem Dev_sendSync_regsWf (d0) (x1) (x2) (x3) (x4) (x5) (x6) : d0.regsWf → (Dev.sendSync d0 x1 x2 x3 x4 x5
    x6).regsWf := by
  intros; unfold Dev.sendSync; grind [Dev.regsWf, foldl_regsWf, Dev_sendPtp_regsWf, Dev_bump_regsWf,
      Dev_newTwoStep_regsWf]
theorem Dev_sessSa_regsWf (d0) (x1) : d0.regsWf → (Dev.sessSa d0 x1).regsWf := by
  intros; unfold Dev.sessSa; grind [Dev.regsWf, foldl_regsWf, Dev_setSess_regsWf]
theorem effSyncTx_regsWf (x0) (x1) (d2) : d2.regsWf → (effSyncTx x0 x1 d2).regsWf := by
  intros; unfold effSyncTx; grind [Dev.regsWf, foldl_regsWf, forRange_regsWf, Dev_modPtpp_regsWf, Dev_sendSync_regsWf,
      Dev_modPtpx_regsWf, Dev_setSess_regsWf]
theorem effAnnounceTx_regsWf (x0) (x1) (d2) : d2.regsWf → (effAnnounceTx x0 x1 d2).regsWf := by
  intros; unfold effAnnounceTx; grind [Dev.regsWf, foldl_regsWf, forRange_regsWf, Dev_modPtpp_regsWf,
      Dev_sendAnnounce_regsWf, Dev_modPtpx_regsWf, Dev_setSess_regsWf]
theorem effTxsaWrite_regsWf (x0) (x1) (x2) (d3) : d3.regsWf → (effTxsaWrite x0 x1 x2 d3).regsWf := by
  intros; unfold effTxsaWrite; grind [Dev.regsWf, foldl_regsWf, Dev_asCust_regsWf, ptpRefresh_regsWf,
      instSaRefresh_regsWf, Dev_sessSa_regsWf, Dev_setFld_regsWf]
theorem Dev_takeState_regsWf (d0) (x1) (x2) (x3) (x4) : d0.regsWf → (Dev.takeState d0 x1 x2 x3 x4).regsWf := by
  intros; unfold Dev.takeState; grind [Dev.regsWf, foldl_regsWf, Dev_setPtpState_regsWf]
theorem Dev_takeStates_regsWf (d0) (x1) (x2) (x3) : d0.regsWf → (Dev.takeStates d0 x1 x2 x3).regsWf := by
  intros; unfold Dev.takeStates; grind [Dev.regsWf, foldl_regsWf, forRange_regsWf, Dev_takeState_regsWf]
theorem Dev_slotMessage_regsWf (d0) (x1) (x2) : d0.regsWf → (Dev.slotMessage d0 x1 x2).regsWf := by
  intros; unfold Dev.slotMessage; grind [Dev.regsWf, foldl_regsWf, Dev_modRef_regsWf, Dev_refMessage_regsWf]
theorem Dev_showParent_regsWf (d0) (x1) (x2) (x3) : d0.regsWf → (Dev.showParent d0 x1 x2 x3).regsWf := by
  intros; unfold Dev.showParent; grind [Dev.regsWf, foldl_regsWf, Dev_wrNat_regsWf]
theorem Dev_setParent_regsWf (d0) (x1) (x2) (x3) : d0.regsWf → (Dev.setParent d0 x1 x2 x3).regsWf := by
  intros; unfold Dev.setParent; grind [Dev.regsWf, foldl_regsWf, Dev_modPtpp_regsWf, Dev_modPtpi_regsWf,
      Dev_slotMessage_regsWf, Dev_showParent_regsWf]
theorem Dev_takeRequest_regsWf (d0) (x1) (x2) (x3) : d0.regsWf → ∀ y e, Dev.takeRequest d0 x1 x2 x3 = some (y, e) →
    e.regsWf := by
  intro h y e hy; unfold Dev.takeRequest at hy
  simp only [Option.map_eq_some_iff, Prod.mk.injEq] at hy
  obtain ⟨r, _, _, rfl⟩ := hy
  exact Dev_modPtpp_regsWf _ _ _ _ h
theorem Dev_addDelay_regsWf (d0) (x1) (x2) (x3) : d0.regsWf → (Dev.addDelay d0 x1 x2 x3).regsWf := by
  intros; unfold Dev.addDelay; grind [Dev.regsWf, foldl_regsWf, Dev_modPtpp_regsWf]
theorem Dev_linkDelay_regsWf (d0) (x1) (x2) (x3) : d0.regsWf → (Dev.linkDelay d0 x1 x2 x3).regsWf := by
  intros; unfold Dev.linkDelay; grind [Dev.regsWf, foldl_regsWf, Dev_wrFit_regsWf, Dev_addDelay_regsWf]
theorem effPdelayFupRx_regsWf (d0) : d0.regsWf → (effPdelayFupRx d0).regsWf := by
  intros; unfold effPdelayFupRx; grind [Dev.regsWf, foldl_regsWf, Dev_ptpTake_regsWf, Dev_takeRequest_regsWf,
      Dev_bump_regsWf, Dev_linkDelay_regsWf]
theorem effPreMaster_regsWf (x0) (x1) (d2) : d2.regsWf → (effPreMaster x0 x1 d2).regsWf := by
  intros; unfold effPreMaster; grind [Dev.regsWf, foldl_regsWf, Dev_setPtpState_regsWf]
theorem Dev_ptpSample_regsWf (d0) (x1) (x2) (x3) (x4) (x5) (x6) (x7) : d0.regsWf → (Dev.ptpSample d0 x1 x2 x3 x4 x5 x6
    x7).2.regsWf := by
  intros; unfold Dev.ptpSample; grind [Dev.regsWf, foldl_regsWf, Dev_taiUtcFor_regsWf]
theorem Dev_slotSync_regsWf (d0) (x1) (x2) (x3) (x4) (x5) (x6) (x7) : d0.regsWf → (Dev.slotSync d0 x1 x2 x3 x4 x5 x6
    x7).regsWf := by
  intros; unfold Dev.slotSync; grind [Dev.regsWf, foldl_regsWf, Dev_modRef_regsWf, forRange_regsWf,
      Dev_ptpSample_regsWf, Dev_startPtp_regsWf, Dev_deliver_regsWf]
theorem Dev_showOffset_regsWf (d0) (x1) (x2) (x3) (x4) : d0.regsWf → (Dev.showOffset d0 x1 x2 x3 x4).regsWf := by
  intros; unfold Dev.showOffset; grind [Dev.regsWf, foldl_regsWf, Dev_wrInt_regsWf, Dev_wrInt64_regsWf]
theorem Dev_syncDone_regsWf (d0) (x1) (x2) (x3) : d0.regsWf → (Dev.syncDone d0 x1 x2 x3).regsWf := by
  intros; unfold Dev.syncDone; grind [Dev.regsWf, foldl_regsWf, Dev_modPtpi_regsWf, Dev_setPtpState_regsWf,
      Dev_slotSync_regsWf, Dev_showOffset_regsWf]
theorem effSyncRx_regsWf (d0) : d0.regsWf → (effSyncRx d0).regsWf := by
  intros; unfold effSyncRx; grind [Dev.regsWf, foldl_regsWf, Dev_ptpTake_regsWf, Dev_bumpWrap_regsWf,
      Dev_modPtpi_regsWf, Dev_syncDone_regsWf]
theorem Dev_keepForeign_regsWf (d0) (x1) (x2) (x3) (x4) : d0.regsWf → (Dev.keepForeign d0 x1 x2 x3 x4).regsWf := by
  intros; unfold Dev.keepForeign; grind [Dev.regsWf, foldl_regsWf, Dev_modPtpp_regsWf, Dev_bump_regsWf]
theorem Dev_newRequest_regsWf (d0) (x1) (x2) : d0.regsWf → (Dev.newRequest d0 x1 x2).2.regsWf := by
  intros; unfold Dev.newRequest; grind [Dev.regsWf, foldl_regsWf, Dev_setPtpp_regsWf, Dev_bumpBy_regsWf]
theorem effDelayRespRx_regsWf (d0) : d0.regsWf → (effDelayRespRx d0).regsWf := by
  intro h; unfold effDelayRespRx; split
  · exact h
  · next m e he =>
    have hh := Dev_ptpTake_regsWf _ _ h _ _ he
    extract_lets i
    split
    · exact hh
    · split
      · exact Dev_bump_regsWf _ _ hh
      · next r e2 he2 =>
        have h2 := Dev_takeRequest_regsWf _ _ _ _ hh _ _ he2
        split
        · exact Dev_addDelay_regsWf _ _ _ _ h2
        · exact h2
theorem foreignTrim_regsWf (x0) (x1) (d2) : d2.regsWf → (foreignTrim x0 x1 d2).regsWf := by
  intros; unfold foreignTrim; grind [Dev.regsWf, foldl_regsWf, Dev_modPtpp_regsWf, Dev_setFld_regsWf]
theorem Dev_noParent_regsWf (d0) (x1) : d0.regsWf → (Dev.noParent d0 x1).regsWf := by
  intros; unfold Dev.noParent; grind [Dev.regsWf, foldl_regsWf, Dev_showParent_regsWf, Dev_modPtpi_regsWf]
theorem Dev_takeParent_regsWf (d0) (x1) (x2) : d0.regsWf → (Dev.takeParent d0 x1 x2).regsWf := by
  intros; unfold Dev.takeParent; grind [Dev.regsWf, foldl_regsWf, Dev_setParent_regsWf, Dev_noParent_regsWf]

end Sys2Proof.Laws
end

