-- ==== Sys2Proof/Laws/RegsWf3.lean ====
section
/-! SUPPORT. One lemma per function of the model that answers a device: it keeps the register store in its canonical form
(part 3 of 4, callees first). -/
set_option Elab.async false
namespace Sys2Proof.Laws
open Sys2Proof.Machine

theorem runBmca_regsWf (x0) (x1) (d2) : d2.regsWf → (runBmca x0 x1 d2).regsWf := by
  intros; unfold runBmca; grind [Dev.regsWf, foldl_regsWf, forRange_regsWf, foreignTrim_regsWf, Dev_takeParent_regsWf,
      umFirst_regsWf, Dev_takeStates_regsWf]
theorem effAnnTimeout_regsWf (x0) (x1) (d2) : d2.regsWf → (effAnnTimeout x0 x1 d2).regsWf := by
  intros; unfold effAnnTimeout; grind [Dev.regsWf, foldl_regsWf, Dev_setBit_regsWf, Dev_bump_regsWf,
      Dev_modPtpp_regsWf, Dev_modRef_regsWf, runBmca_regsWf]
theorem effFollowupRx_regsWf (d0) : d0.regsWf → (effFollowupRx d0).regsWf := by
  intros; unfold effFollowupRx; grind [Dev.regsWf, foldl_regsWf, Dev_ptpTake_regsWf, Dev_bump_regsWf,
      Dev_modPtpi_regsWf, Dev_syncDone_regsWf]
theorem effPdelayReqTx_regsWf (x0) (x1) (d2) : d2.regsWf → (effPdelayReqTx x0 x1 d2).regsWf := by
  intros; unfold effPdelayReqTx; grind [Dev.regsWf, foldl_regsWf, Dev_bump_regsWf, Dev_newRequest_regsWf,
      Dev_sendPtp_regsWf]
theorem effAnnounceRx_regsWf (d0) : d0.regsWf → (effAnnounceRx d0).regsWf := by
  intros; unfold effAnnounceRx; grind [Dev.regsWf, foldl_regsWf, Dev_ptpTake_regsWf, Dev_keepForeign_regsWf,
      Dev_setFld_regsWf, Dev_slotMessage_regsWf, Dev_showParent_regsWf]
theorem effDelayReqTx_regsWf (x0) (x1) (d2) : d2.regsWf → (effDelayReqTx x0 x1 d2).regsWf := by
  intros; unfold effDelayReqTx; grind [Dev.regsWf, foldl_regsWf, Dev_bump_regsWf, Dev_newRequest_regsWf,
      Dev_sendPtp_regsWf]
theorem effPdelayRespRx_regsWf (d0) : d0.regsWf → (effPdelayRespRx d0).regsWf := by
  intro h; unfold effPdelayRespRx; split
  · exact h
  · next m e he =>
    have hh := Dev_ptpTake_regsWf _ _ h _ _ he
    dsimp only
    split
    · exact hh
    · split
      · exact Dev_bump_regsWf _ _ hh
      · next r e2 he2 =>
        have h2 := Dev_takeRequest_regsWf _ _ _ _ hh _ _ he2
        split
        · exact Dev_modPtpp_regsWf _ _ _ _ h2
        · split
          · exact Dev_linkDelay_regsWf _ _ _ _ h2
          · exact h2
theorem effRefTimeout_regsWf (x0) (x1) (d2) : d2.regsWf → (effRefTimeout x0 x1 d2).regsWf := by
  intros; unfold effRefTimeout; grind [Dev.regsWf, foldl_regsWf, Dev_modRef_regsWf]
theorem effFollowupTimeout_regsWf (x0) (d1) : d1.regsWf → (effFollowupTimeout x0 d1).regsWf := by
  intros; unfold effFollowupTimeout; grind [Dev.regsWf, foldl_regsWf, Dev_bump_regsWf, Dev_modPtpi_regsWf]
theorem Dev_dropHeld_regsWf (d0) (x1) : d0.regsWf → (Dev.dropHeld d0 x1).regsWf := by
  intros; unfold Dev.dropHeld; grind [Dev.regsWf, foldl_regsWf, Dev_pmc_regsWf, Dev_bump_regsWf, Dev_setQueue_regsWf]
theorem Dev_setBuilder_regsWf (d0) (x1) (x2) : d0.regsWf → (Dev.setBuilder d0 x1 x2).regsWf := by
  intros; unfold Dev.setBuilder; grind [Dev.regsWf, foldl_regsWf]
theorem Dev_offerBuilt_regsWf (d0) (x1) (x2) (x3) : d0.regsWf → (Dev.offerBuilt d0 x1 x2 x3).regsWf := by
  intros; unfold Dev.offerBuilt; grind [Dev.regsWf, foldl_regsWf, Dev_enqueue_regsWf, Dev_setBuilder_regsWf]
theorem Dev_build_regsWf (d0) (x1) : d0.regsWf → (Dev.build d0 x1).2.regsWf := by
  intros; unfold Dev.build; grind [Dev.regsWf, foldl_regsWf, Dev_buildNtp_regsWf, Dev_buildNts_regsWf,
      Dev_bump_regsWf]
theorem effCryptoOutput_regsWf (x0) (d1) : d1.regsWf → (effCryptoOutput x0 d1).regsWf := by
  intros; unfold effCryptoOutput; grind [Dev.regsWf, foldl_regsWf, Dev_offerBuilt_regsWf, Dev_build_regsWf,
      Dev_setBuilder_regsWf]
theorem effEgressTimeout_regsWf (x0) (d1) : d1.regsWf → (effEgressTimeout x0 d1).regsWf := by
  intros; unfold effEgressTimeout; grind [Dev.regsWf, foldl_regsWf, Dev_dropHeld_regsWf, Dev_pmc_regsWf,
      Dev_bump_regsWf, Dev_setBuilder_regsWf]
theorem Dev_toBuilder_regsWf (d0) (x1) : d0.regsWf → (Dev.toBuilder d0 x1).regsWf := by
  intros; unfold Dev.toBuilder; grind [Dev.regsWf, foldl_regsWf]
theorem Dev_ntsInput_regsWf (d0) (x1) (x2) (x3) (x4) (x5) : d0.regsWf → (Dev.ntsInput d0 x1 x2 x3 x4 x5).regsWf := by
  intros; unfold Dev.ntsInput; grind [Dev.regsWf, foldl_regsWf, Dev_reply_regsWf, Dev_bump_regsWf,
      Dev_toBuilder_regsWf]
theorem Dev_ptpArrives_regsWf (d0) (x1) : d0.regsWf → (Dev.ptpArrives d0 x1).regsWf := by
  intros; unfold Dev.ptpArrives; grind [Dev.regsWf, foldl_regsWf, Dev_pmc_regsWf, Dev_rxDropped_regsWf,
      Dev_bump_regsWf, Dev_setBit_regsWf]
theorem effCryptoInput_regsWf (x0) (x1) (d2) : d2.regsWf → (effCryptoInput x0 x1 d2).regsWf := by
  intros; unfold effCryptoInput; grind [Dev.regsWf, foldl_regsWf, Dev_ptpArrives_regsWf, Dev_ntsInput_regsWf,
      Dev_toBuilder_regsWf]
theorem Dev_storeBegin_regsWf (d0) : d0.regsWf → (Dev.storeBegin d0).regsWf := by
  intros; unfold Dev.storeBegin; grind [Dev.regsWf, foldl_regsWf, Dev_flashErase_regsWf, Dev_setFld_regsWf]
theorem effSlotStored_regsWf (d0) : d0.regsWf → (effSlotStored d0).regsWf := by
  intros; unfold effSlotStored; grind [Dev.regsWf, foldl_regsWf, Dev_flashProgram_regsWf, Dev_slotChanged_regsWf,
      Dev_slotShow_regsWf, Dev_storeBegin_regsWf]
theorem effStoreDone_regsWf (d0) : d0.regsWf → (effStoreDone d0).regsWf := by
  intros; unfold effStoreDone; grind [Dev.regsWf, foldl_regsWf, Dev_flashProgram_regsWf, Dev_flashErase_regsWf,
      Dev_bump_regsWf, Dev_setBit_regsWf, Dev_wrNat64_regsWf, Dev_bumpWrap_regsWf, Dev_resultOffer_regsWf]
theorem Dev_setPortKs_regsWf (d0) (x1) (x2) : d0.regsWf → (Dev.setPortKs d0 x1 x2).regsWf := by
  intros; unfold Dev.setPortKs; grind [Dev.regsWf, foldl_regsWf]
theorem effChallenge_regsWf (x0) (d1) : d1.regsWf → (effChallenge x0 d1).regsWf := by
  intros; unfold effChallenge; grind [Dev.regsWf, foldl_regsWf, Dev_freeBytes_regsWf, forRange_regsWf,
      Dev_wrNat_regsWf, Dev_setPortKs_regsWf]
theorem Dev_loadWkr_regsWf (d0) (x1) (x2) (x3) (x4) : d0.regsWf → (Dev.loadWkr d0 x1 x2 x3 x4).regsWf := by
  intros; unfold Dev.loadWkr; grind [Dev.regsWf, foldl_regsWf, Dev_wrNat_regsWf]
theorem effLockoutEnd_regsWf (x0) (d1) : d1.regsWf → (effLockoutEnd x0 d1).regsWf := by
  intros; unfold effLockoutEnd; grind [Dev.regsWf, foldl_regsWf, Dev_setPortKs_regsWf]
theorem Dev_toObserver_regsWf (d0) (x1) : d0.regsWf → (Dev.toObserver d0 x1).regsWf := by
  intros; unfold Dev.toObserver; grind [Dev.regsWf, foldl_regsWf, Dev_setPortKs_regsWf, Dev_wrNat_regsWf]
theorem effLock_regsWf (x0) (d1) : d1.regsWf → (effLock x0 d1).regsWf := by
  intros; unfold effLock; grind [Dev.regsWf, foldl_regsWf, Dev_toObserver_regsWf]
theorem effCustExpire_regsWf (x0) (d1) : d1.regsWf → (effCustExpire x0 d1).regsWf := by
  intros; unfold effCustExpire; grind [Dev.regsWf, foldl_regsWf, Dev_msixRises_regsWf, Dev_setBit_regsWf,
      Dev_toObserver_regsWf]
theorem Dev_ksDone_regsWf (d0) (x1) (x2) (x3) : d0.regsWf → (Dev.ksDone d0 x1 x2 x3).regsWf := by
  intros; unfold Dev.ksDone; grind [Dev.regsWf, foldl_regsWf, Dev_cmdDone_regsWf]
theorem Dev_clearWkr_regsWf (d0) : d0.regsWf → (Dev.clearWkr d0).regsWf := by
  intros; unfold Dev.clearWkr; grind [Dev.regsWf, foldl_regsWf, Dev_wrNat_regsWf]
theorem effWkrClear_regsWf (d0) : d0.regsWf → (effWkrClear d0).regsWf := by
  intros; unfold effWkrClear; grind [Dev.regsWf, foldl_regsWf, Dev_ksDone_regsWf, Dev_clearWkr_regsWf]
theorem Dev_apgorFail_regsWf (d0) (x1) (x2) (x3) : d0.regsWf → (Dev.apgorFail d0 x1 x2 x3).regsWf := by
  intros; unfold Dev.apgorFail; grind [Dev.regsWf, foldl_regsWf, Dev_ksDone_regsWf, Dev_record_regsWf,
      Dev_bump_regsWf]
theorem Dev_unlockFailed_regsWf (d0) (x1) : d0.regsWf → (Dev.unlockFailed d0 x1).regsWf := by
  intros; unfold Dev.unlockFailed; grind [Dev.regsWf, foldl_regsWf, Dev_setPortKs_regsWf, Dev_bump_regsWf]
theorem Dev_wkrOp_regsWf (d0) (x1) (x2) (x3) (x4) (x5) (x6) (x7) : d0.regsWf → (Dev.wkrOp d0 x1 x2 x3 x4 x5 x6
    x7).regsWf := by
  intros; unfold Dev.wkrOp; grind [Dev.regsWf, foldl_regsWf, Dev_ksDone_regsWf]
theorem effWkrDerive_regsWf (d0) : d0.regsWf → (effWkrDerive d0).regsWf := by
  intros; unfold effWkrDerive; grind [Dev.regsWf, foldl_regsWf, Dev_ksDone_regsWf, Dev_loadWkr_regsWf]
theorem effWkrLoad_regsWf (d0) : d0.regsWf → (effWkrLoad d0).regsWf := by
  intros; unfold effWkrLoad; grind [Dev.regsWf, foldl_regsWf, Dev_ksDone_regsWf, Dev_loadWkr_regsWf]
theorem effEncrypt_regsWf (x0) (d1) : d1.regsWf → (effEncrypt x0 d1).regsWf := by
  intros; unfold effEncrypt; grind [Dev.regsWf, foldl_regsWf, Dev_wkrOp_regsWf]
theorem effCtrLatch_regsWf (x0) (d1) : d1.regsWf → (effCtrLatch x0 d1).regsWf := by
  intros; unfold effCtrLatch; grind [Dev.regsWf, foldl_regsWf, Dev_emit_regsWf, Dev_latchRegs_regsWf]
theorem effDecrypt_regsWf (x0) (d1) : d1.regsWf → (effDecrypt x0 d1).regsWf := by
  intros; unfold effDecrypt; grind [Dev.regsWf, foldl_regsWf, Dev_wkrOp_regsWf]
theorem effWrap_regsWf (x0) (d1) : d1.regsWf → (effWrap x0 d1).regsWf := by
  intros; unfold effWrap; grind [Dev.regsWf, foldl_regsWf, Dev_wkrOp_regsWf]
theorem effChalExpire_regsWf (x0) (d1) : d1.regsWf → (effChalExpire x0 d1).regsWf := by
  intros; unfold effChalExpire; grind [Dev.regsWf, foldl_regsWf, Dev_setPortKs_regsWf]
theorem effApgor_regsWf (x0) (d1) : d1.regsWf → (effApgor x0 d1).regsWf := by
  intros; unfold effApgor; grind [Dev.regsWf, foldl_regsWf, Dev_apgorFail_regsWf, Dev_popCmd_regsWf,
      Dev_storeBegin_regsWf, Dev_setBit_regsWf]
theorem effUnlock_regsWf (x0) (d1) : d1.regsWf → (effUnlock x0 d1).regsWf := by
  intros; unfold effUnlock; grind [Dev.regsWf, foldl_regsWf, Dev_setPortKs_regsWf, Dev_wrNat_regsWf,
      Dev_unlockFailed_regsWf]
theorem tickRole_regsWf (d0) : d0.regsWf → (tickRole d0).regsWf := by
  intros; unfold tickRole; grind [Dev.regsWf, foldl_regsWf, Dev_setFld_regsWf, Dev_setPortKs_regsWf]
theorem Dev_pairRecord_regsWf (d0) (x1) : d0.regsWf → (Dev.pairRecord d0 x1).regsWf := by
  intros; unfold Dev.pairRecord; grind [Dev.regsWf, foldl_regsWf, Dev_record_regsWf]
theorem Dev_modPair_regsWf (d0) (x1) : d0.regsWf → (Dev.modPair d0 x1).regsWf := by
  intros; unfold Dev.modPair; grind [Dev.regsWf, foldl_regsWf]
theorem Dev_endHandover_regsWf (d0) : d0.regsWf → (Dev.endHandover d0).regsWf := by
  intros; unfold Dev.endHandover; grind [Dev.regsWf, foldl_regsWf, Dev_modPair_regsWf]
theorem Dev_takeLatch_regsWf (d0) (x1) : d0.regsWf → (Dev.takeLatch d0 x1).regsWf := by
  intros; unfold Dev.takeLatch; grind [Dev.regsWf, foldl_regsWf, Dev_setOwn_regsWf, Dev_modPair_regsWf,
      Dev_interrupt_regsWf, Dev_setBit_regsWf, Dev_bump_regsWf, Dev_setPairState_regsWf]
theorem Dev_loadEntry_regsWf (d0) (x1) (x2) (x3) : d0.regsWf → (Dev.loadEntry d0 x1 x2 x3).regsWf := by
  intros; unfold Dev.loadEntry; grind [Dev.regsWf, foldl_regsWf, Dev_bump_regsWf, Dev_setPtpx_regsWf,
      Dev_setSess_regsWf]
theorem Dev_loadSegment_regsWf (d0) (x1) : d0.regsWf → (Dev.loadSegment d0 x1).regsWf := by
  intros; unfold Dev.loadSegment; grind [Dev.regsWf, foldl_regsWf, forRange_regsWf, Dev_loadEntry_regsWf]
theorem Dev_loadShadow_regsWf (d0) : d0.regsWf → (Dev.loadShadow d0).regsWf := by
  intros; unfold Dev.loadShadow; grind [Dev.regsWf, foldl_regsWf, forRange_regsWf, Dev_loadSegment_regsWf,
      Dev_wrNat_regsWf]
theorem Dev_override_regsWf (d0) (x1) : d0.regsWf → (Dev.override d0 x1).regsWf := by
  intros; unfold Dev.override; grind [Dev.regsWf, foldl_regsWf, Dev_bump_regsWf, Dev_emit_regsWf, Dev_modPair_regsWf,
      Dev_takeLatch_regsWf, Dev_loadShadow_regsWf]
theorem Dev_changeLatch_regsWf (d0) (x1) : d0.regsWf → (Dev.changeLatch d0 x1).regsWf := by
  intros; unfold Dev.changeLatch; grind [Dev.regsWf, foldl_regsWf, Dev_modPair_regsWf, Dev_takeLatch_regsWf]
theorem Dev_claim_regsWf (d0) (x1) (x2) : d0.regsWf → (Dev.claim d0 x1 x2).regsWf := by
  intros; unfold Dev.claim; grind [Dev.regsWf, foldl_regsWf, Dev_changeLatch_regsWf, Dev_loadShadow_regsWf]
theorem Dev_declareFail_regsWf (d0) (x1) : d0.regsWf → (Dev.declareFail d0 x1).regsWf := by
  intros; unfold Dev.declareFail; grind [Dev.regsWf, foldl_regsWf, Dev_endHandover_regsWf, Dev_pairRecord_regsWf,
      Dev_override_regsWf, Dev_claim_regsWf, Dev_setPairState_regsWf]
theorem Dev_mateFault_regsWf (d0) : d0.regsWf → (Dev.mateFault d0).regsWf := by
  intros; unfold Dev.mateFault; grind [Dev.regsWf, foldl_regsWf, Dev_setBit_regsWf, Dev_declareFail_regsWf]
theorem Dev_pathHeard_regsWf (d0) (x1) (x2) : d0.regsWf → (Dev.pathHeard d0 x1 x2).regsWf := by
  intros; unfold Dev.pathHeard; grind [Dev.regsWf, foldl_regsWf, Dev_setBit_regsWf, Dev_endLevel_regsWf]
theorem effCwPattern_regsWf (x0) (d1) : d1.regsWf → (effCwPattern x0 d1).regsWf := by
  intros; unfold effCwPattern; grind [Dev.regsWf, foldl_regsWf, Dev_mateFault_regsWf, Dev_pathHeard_regsWf,
      Dev_modPair_regsWf]
theorem effTakeCmd_regsWf (x0) (d1) : d1.regsWf → (effTakeCmd x0 d1).regsWf := by
  intros; unfold effTakeCmd; grind [Dev.regsWf, foldl_regsWf, Dev_asCust_regsWf, Dev_modPair_regsWf, Dev_bump_regsWf]
theorem Dev_yieldOwn_regsWf (d0) : d0.regsWf → (Dev.yieldOwn d0).regsWf := by
  intros; unfold Dev.yieldOwn; grind [Dev.regsWf, foldl_regsWf, Dev_setBit_regsWf, Dev_changeLatch_regsWf,
      Dev_endHandover_regsWf, Dev_interrupt_regsWf, Dev_pairRecord_regsWf, Dev_bump_regsWf]
theorem Dev_sense_regsWf (d0) (x1) : d0.regsWf → (Dev.sense d0 x1).regsWf := by
  intros; unfold Dev.sense; grind [Dev.regsWf, foldl_regsWf, Dev_modPair_regsWf, Dev_setBit_regsWf]
theorem effSenseAssert_regsWf (d0) : d0.regsWf → (effSenseAssert d0).regsWf := by
  intros; unfold effSenseAssert; grind [Dev.regsWf, foldl_regsWf, Dev_yieldOwn_regsWf, Dev_sense_regsWf]
theorem Dev_resolvePair_regsWf (d0) : d0.regsWf → (Dev.resolvePair d0).regsWf := by
  intros; unfold Dev.resolvePair; grind [Dev.regsWf, foldl_regsWf, Dev_setPairState_regsWf, Dev_claim_regsWf]
theorem Dev_faultLeave_regsWf (d0) : d0.regsWf → (Dev.faultLeave d0).regsWf := by
  intros; unfold Dev.faultLeave; grind [Dev.regsWf, foldl_regsWf, Dev_emit_regsWf, Dev_setBit_regsWf,
      Dev_resolvePair_regsWf]
theorem Dev_faultUpdate_regsWf (d0) : d0.regsWf → (Dev.faultUpdate d0).regsWf := by
  intros; unfold Dev.faultUpdate; grind [Dev.regsWf, foldl_regsWf, Dev_faultLeave_regsWf, Dev_faultEnter_regsWf]
theorem Dev_pathSilent_regsWf (d0) (x1) (x2) : d0.regsWf → (Dev.pathSilent d0 x1 x2).regsWf := by
  intros; unfold Dev.pathSilent; grind [Dev.regsWf, foldl_regsWf, Dev_setBit_regsWf, Dev_declareFail_regsWf,
      Dev_raiseLevel_regsWf, Dev_bump_regsWf]
theorem laneShow_regsWf (x0) (d1) : d1.regsWf → (laneShow x0 d1).regsWf := by
  intros; unfold laneShow; grind [Dev.regsWf, foldl_regsWf, Dev_wrNat_regsWf]
theorem effStraitSilence_regsWf (d0) : d0.regsWf → (effStraitSilence d0).regsWf := by
  intros; unfold effStraitSilence; grind [Dev.regsWf, foldl_regsWf, Dev_pathSilent_regsWf, Dev_modPair_regsWf,
      forRange_regsWf, laneShow_regsWf]
theorem effHoCancel_regsWf (d0) : d0.regsWf → (effHoCancel d0).regsWf := by
  intros; unfold effHoCancel; grind [Dev.regsWf, foldl_regsWf, Dev_bump_regsWf, Dev_endHandover_regsWf]
theorem effIsolatedClaim_regsWf (d0) : d0.regsWf → (effIsolatedClaim d0).regsWf := by
  intros; unfold effIsolatedClaim; grind [Dev.regsWf, foldl_regsWf, Dev_claim_regsWf]
theorem effGiveUp_regsWf (d0) : d0.regsWf → (effGiveUp d0).regsWf := by
  intros; unfold effGiveUp; grind [Dev.regsWf, foldl_regsWf, Dev_takeLatch_regsWf, Dev_setBit_regsWf]
theorem Dev_claimSensed_regsWf (d0) (x1) : d0.regsWf → (Dev.claimSensed d0 x1).regsWf := by
  intros; unfold Dev.claimSensed; grind [Dev.regsWf, foldl_regsWf, Dev_pairRecord_regsWf, Dev_override_regsWf,
      Dev_claim_regsWf]
theorem tickOffer_regsWf (d0) : d0.regsWf → (tickOffer d0).regsWf := by
  intros; unfold tickOffer; grind [Dev.regsWf, foldl_regsWf, Dev_modPair_regsWf]
theorem effCwSilence_regsWf (d0) : d0.regsWf → (effCwSilence d0).regsWf := by
  intros; unfold effCwSilence; grind [Dev.regsWf, foldl_regsWf, Dev_pathSilent_regsWf]
theorem tickKcv_regsWf (d0) : d0.regsWf → (tickKcv d0).regsWf := by
  intros; unfold tickKcv; grind [Dev.regsWf, foldl_regsWf, Dev_modPair_regsWf]
theorem effDeferred_regsWf (d0) : d0.regsWf → (effDeferred d0).regsWf := by
  intros; unfold effDeferred; grind [Dev_yieldOwn_regsWf, Dev.regsWf, foldl_regsWf, Dev_takeLatch_regsWf]
theorem effHoSet_regsWf (d0) : d0.regsWf → (effHoSet d0).regsWf := by
  intros; unfold effHoSet; grind [Dev.regsWf, foldl_regsWf, Dev_takeLatch_regsWf, Dev_pairRecord_regsWf,
      Dev_endHandover_regsWf]
theorem effKcvClear_regsWf (d0) : d0.regsWf → (effKcvClear d0).regsWf := by
  intros; unfold effKcvClear; grind [Dev.regsWf, foldl_regsWf, Dev_endLevel_regsWf, Dev_setBit_regsWf]
theorem effMofsLatch_regsWf (x0) (d1) : d1.regsWf → (effMofsLatch x0 d1).regsWf := by
  intros; unfold effMofsLatch; grind [Dev.regsWf, foldl_regsWf, Dev_emit_regsWf, Dev_latchRegs_regsWf]
theorem effSenseDeassert_regsWf (d0) : d0.regsWf → (effSenseDeassert d0).regsWf := by
  intros; unfold effSenseDeassert; grind [Dev.regsWf, foldl_regsWf, Dev_sense_regsWf, Dev_setPairState_regsWf,
      Dev_emit_regsWf]
theorem effHandoverCmd_regsWf (x0) (d1) : d1.regsWf → (effHandoverCmd x0 d1).regsWf := by
  intros; unfold effHandoverCmd; grind [Dev.regsWf, foldl_regsWf, Dev_asCust_regsWf, Dev_modPair_regsWf,
      Dev_bump_regsWf]
theorem effRefresh_regsWf (d0) : d0.regsWf → (effRefresh d0).regsWf := by
  intros; unfold effRefresh; grind [Dev.regsWf, foldl_regsWf, Dev_modPair_regsWf]
theorem effHoShadow_regsWf (d0) : d0.regsWf → (effHoShadow d0).regsWf := by
  intros; unfold effHoShadow; grind [Dev.regsWf, foldl_regsWf, Dev_loadShadow_regsWf]
theorem effHoClear_regsWf (d0) : d0.regsWf → (effHoClear d0).regsWf := by
  intros; unfold effHoClear; grind [Dev.regsWf, foldl_regsWf, Dev_takeLatch_regsWf, Dev_pairRecord_regsWf,
      Dev_endHandover_regsWf]
theorem effExpire_regsWf (d0) : d0.regsWf → (effExpire d0).regsWf := by
  intros; unfold effExpire; grind [Dev.regsWf, foldl_regsWf, Dev_setOwn_regsWf]
theorem effKcv_regsWf (d0) : d0.regsWf → (effKcv d0).regsWf := by
  intros; unfold effKcv; grind [Dev.regsWf, foldl_regsWf, Dev_raiseLevel_regsWf, Dev_setBit_regsWf]
theorem effOverrideSeen_regsWf (d0) : d0.regsWf → (effOverrideSeen d0).regsWf := by
  intros; unfold effOverrideSeen; grind [Dev.regsWf, foldl_regsWf, Dev_takeLatch_regsWf, Dev_endHandover_regsWf,
      Dev_interrupt_regsWf, Dev_pairRecord_regsWf, Dev_setBit_regsWf]
theorem effListenEnd_regsWf (d0) : d0.regsWf → (effListenEnd d0).regsWf := by
  intros; unfold effListenEnd; grind [Dev.regsWf, foldl_regsWf, Dev_setPairState_regsWf, Dev_resolvePair_regsWf]
theorem tickTakeback_regsWf (d0) : d0.regsWf → (tickTakeback d0).regsWf := by
  intros; unfold tickTakeback; grind [Dev.regsWf, foldl_regsWf, Dev_wrNat_regsWf, Dev_modPair_regsWf]
theorem tickPairOut_regsWf (d0) : d0.regsWf → (tickPairOut d0).regsWf := by
  intros; unfold tickPairOut; grind [Dev.regsWf, foldl_regsWf, Dev_modPair_regsWf, Dev_wrNat_regsWf,
      Dev_setBit_regsWf, tickOffer_regsWf, tickTakeback_regsWf, tickKcv_regsWf]
theorem tickLanes_regsWf (d0) : d0.regsWf → (tickLanes d0).regsWf := by
  intros; unfold tickLanes; grind [Dev.regsWf, foldl_regsWf, forRange_regsWf, laneShow_regsWf]
theorem Dev_fmtOk_regsWf (d0) (x1) : d0.regsWf → (Dev.fmtOk d0 x1).2.regsWf := by
  intros; unfold Dev.fmtOk; grind [Dev.regsWf, foldl_regsWf, Dev_setFld_regsWf, Dev_setBit_regsWf, Dev_bump_regsWf]
theorem Dev_laneFrame_regsWf (d0) (x1) (x2) : d0.regsWf → (Dev.laneFrame d0 x1 x2).2.regsWf := by
  intros; unfold Dev.laneFrame; grind [Dev.regsWf, foldl_regsWf, Dev_pmc_regsWf, Dev_bumpBy_regsWf, Dev_bump_regsWf]
theorem Dev_firstCopy_regsWf (d0) (x1) (x2) : d0.regsWf → ∀ y, Dev.firstCopy d0 x1 x2 = some y → y.regsWf := by
  intro h0 y hy; unfold Dev.firstCopy at hy; grind [Dev.regsWf, foldl_regsWf, Dev_modPair_regsWf]
theorem effStateRx_regsWf (x0) (x1) (x2) (d3) : d3.regsWf → (effStateRx x0 x1 x2 d3).regsWf := by
  intros; unfold effStateRx; grind [Dev.regsWf, foldl_regsWf, Dev_laneFrame_regsWf, Dev_firstCopy_regsWf,
      Dev_fmtOk_regsWf, Dev_modPair_regsWf, Dev_modRef_regsWf, Dev_wrNat_regsWf]
theorem Dev_nextSeq_regsWf (d0) (x1) : d0.regsWf → (Dev.nextSeq d0 x1).2.regsWf := by
  intros; unfold Dev.nextSeq; grind [Dev.regsWf, foldl_regsWf, Dev_modPair_regsWf]
theorem effSessionTx_regsWf (x0) (d1) : d1.regsWf → (effSessionTx x0 d1).regsWf := by
  intros; unfold effSessionTx; grind [Dev.regsWf, foldl_regsWf, Dev_nextSeq_regsWf, Dev_emit_regsWf]
theorem Dev_setFromMate_regsWf (d0) (x1) (x2) (x3) : d0.regsWf → (Dev.setFromMate d0 x1 x2 x3).regsWf := by
  intros; unfold Dev.setFromMate; grind [Dev.regsWf, foldl_regsWf, Dev_armAt_regsWf]
theorem effLockLoss_regsWf (x0) (d1) : d1.regsWf → (effLockLoss x0 d1).regsWf := by
  intros; unfold effLockLoss; grind [Dev.regsWf, foldl_regsWf, Dev_setBit_regsWf, Dev_modPair_regsWf]
theorem tickMateOffset_regsWf (d0) : d0.regsWf → (tickMateOffset d0).regsWf := by
  intros; unfold tickMateOffset; grind [Dev.regsWf, foldl_regsWf, Dev_wrFit_regsWf, Dev_modPair_regsWf,
      forRange_regsWf, Dev_deliver_regsWf, Dev_wrInt64_regsWf]
theorem effLockGain_regsWf (x0) (d1) : d1.regsWf → (effLockGain x0 d1).regsWf := by
  intros; unfold effLockGain; grind [Dev.regsWf, foldl_regsWf, Dev_modPair_regsWf]
theorem effStateTx_regsWf (d0) : d0.regsWf → (effStateTx d0).regsWf := by
  intros; unfold effStateTx; grind [Dev.regsWf, foldl_regsWf, Dev_nextSeq_regsWf, Dev_emit_regsWf]
theorem effHbTx_regsWf (d0) : d0.regsWf → (effHbTx d0).regsWf := by
  intros; unfold effHbTx; grind [Dev.regsWf, foldl_regsWf, Dev_nextSeq_regsWf, Dev_pmc_regsWf, Dev_emit_regsWf,
      Dev_modPair_regsWf]
theorem effSetTx_regsWf (d0) : d0.regsWf → (effSetTx d0).regsWf := by
  intros; unfold effSetTx; grind [Dev.regsWf, foldl_regsWf, Dev_nextSeq_regsWf, Dev_emit_regsWf, Dev_modPair_regsWf]
theorem Dev_answerOffer_regsWf (d0) (x1) : d0.regsWf → (Dev.answerOffer d0 x1).regsWf := by
  intros; unfold Dev.answerOffer; grind [Dev.regsWf, foldl_regsWf, Dev_modPair_regsWf, Dev_setPairState_regsWf,
      Dev_bump_regsWf]
theorem Dev_takeHo_regsWf (d0) (x1) : d0.regsWf → (Dev.takeHo d0 x1).regsWf := by
  intros; unfold Dev.takeHo; grind [Dev_endHandover_regsWf, Dev.regsWf, foldl_regsWf, Dev_modPair_regsWf,
      Dev_answerOffer_regsWf,
      Dev_setPairState_regsWf]
theorem tickPairIn_regsWf (d0) : d0.regsWf → (tickPairIn d0).regsWf := by
  intros; unfold tickPairIn; grind [Dev.regsWf, foldl_regsWf, tickMateOffset_regsWf, tickLanes_regsWf]
theorem Dev_exchange_regsWf (d0) (x1) (x2) (x3) : d0.regsWf → (Dev.exchange d0 x1 x2 x3).regsWf := by
  intros; unfold Dev.exchange; grind [Dev.regsWf, foldl_regsWf, Dev_modPair_regsWf]
theorem Dev_takeStatus_regsWf (d0) (x1) : d0.regsWf → (Dev.takeStatus d0 x1).regsWf := by
  intros; unfold Dev.takeStatus; grind [Dev.regsWf, foldl_regsWf, Dev_modPair_regsWf, Dev_setBit_regsWf,
      Dev_setFld_regsWf, Dev_mateFault_regsWf, Dev_setPairState_regsWf, Dev_claimSensed_regsWf,
      Dev_endHandover_regsWf, Dev_resolvePair_regsWf]
theorem effHbRx_regsWf (x0) (x1) (x2) (d3) : d3.regsWf → (effHbRx x0 x1 x2 d3).regsWf := by
  intros; unfold effHbRx; grind [Dev.regsWf, foldl_regsWf, Dev_laneFrame_regsWf, Dev_pmc_regsWf, Dev_exchange_regsWf,
      laneShow_regsWf, Dev_modPair_regsWf, Dev_firstCopy_regsWf, Dev_takeHo_regsWf, Dev_takeStatus_regsWf,
      Dev_pathHeard_regsWf]
theorem effSetRx_regsWf (x0) (x1) (x2) (x3) (x4) (d5) : d5.regsWf → (effSetRx x0 x1 x2 x3 x4 d5).regsWf := by
  intros; unfold effSetRx; grind [Dev.regsWf, foldl_regsWf, Dev_laneFrame_regsWf, Dev_firstCopy_regsWf,
      Dev_setFromMate_regsWf]
theorem effSessionRx_regsWf (x0) (x1) (x2) (d3) : d3.regsWf → (effSessionRx x0 x1 x2 d3).regsWf := by
  intros; unfold effSessionRx; grind [Dev.regsWf, foldl_regsWf, Dev_laneFrame_regsWf, Dev_firstCopy_regsWf,
      Dev_fmtOk_regsWf, Dev_modPair_regsWf]
theorem Dev_modGnss_regsWf (d0) (x1) : d0.regsWf → (Dev.modGnss d0 x1).regsWf := by
  intros; unfold Dev.modGnss; grind [Dev.regsWf, foldl_regsWf]
theorem effNavRd_regsWf (x0) (x1) (d2) : d2.regsWf → (effNavRd x0 x1 d2).regsWf := by
  intros; unfold effNavRd; grind [Dev.regsWf, foldl_regsWf, Dev_asCust_regsWf, Dev_modGnss_regsWf, Dev_wrNat_regsWf]
theorem Dev_feHostStart_regsWf (d0) : d0.regsWf → (Dev.feHostStart d0).regsWf := by
  intros; unfold Dev.feHostStart; grind [Dev.regsWf, foldl_regsWf, Dev_emit_regsWf, Dev_modGnss_regsWf]
theorem Dev_setOsc_regsWf (d0) (x1) (x2) : d0.regsWf → (Dev.setOsc d0 x1 x2).regsWf := by
  intros; unfold Dev.setOsc; grind [Dev.regsWf, foldl_regsWf, Dev_wrNat_regsWf, Dev_wrInt_regsWf]
theorem effDumpMiss_regsWf (x0) (d1) : d1.regsWf → (effDumpMiss x0 d1).regsWf := by
  intros; unfold effDumpMiss; grind [Dev.regsWf, foldl_regsWf, Dev_pmc_regsWf, Dev_modGnss_regsWf, Dev_bump_regsWf,
      Dev_setCh_regsWf]
theorem Dev_setWords_regsWf (d0) (x1) (x2) (x3) : d0.regsWf → (Dev.setWords d0 x1 x2 x3).regsWf := by
  intros; unfold Dev.setWords; grind [Dev.regsWf, foldl_regsWf, Dev_wrInt_regsWf, Dev_wrNat_regsWf]
theorem Dev_dumpNow_regsWf (d0) (x1) : d0.regsWf → (Dev.dumpNow d0 x1).regsWf := by
  intros; unfold Dev.dumpNow; grind [Dev.regsWf, foldl_regsWf, effDumpMiss_regsWf, forRange_regsWf, Dev_wrInt_regsWf,
      Dev_bumpWrap_regsWf, Dev_setBit_regsWf, Dev_setWords_regsWf, Dev_setCh_regsWf]
theorem chSample_regsWf (x0) (d1) (x2) : d1.regsWf → (chSample x0 d1 x2).regsWf := by
  intro h; unfold chSample; extract_lets sig o w t o' e1 c e2
  have h2 : e2.regsWf := Dev_setCh_regsWf _ _ _ (Dev_setOsc_regsWf _ _ _ h)
  split
  · exact Dev_dumpNow_regsWf _ _ h2
  · exact h2
theorem effDump_regsWf (x0) (x1) (d2) : d2.regsWf → (effDump x0 x1 d2).regsWf := by
  intros; unfold effDump; grind [Dev.regsWf, foldl_regsWf, chSample_regsWf]
theorem Dev_chShow_regsWf (d0) : d0.regsWf → (Dev.chShow d0).regsWf := by
  intros; unfold Dev.chShow; grind [Dev.regsWf, foldl_regsWf, Dev_wrNat_regsWf]
theorem Dev_chSet_regsWf (d0) (x1) (x2) : d0.regsWf → (Dev.chSet d0 x1 x2).regsWf := by
  intros; unfold Dev.chSet; grind [Dev.regsWf, foldl_regsWf, Dev_setFld_regsWf, Dev_setCh_regsWf, Dev_bump_regsWf]
theorem Dev_chAssign_regsWf (d0) (x1) (x2) (x3) (x4) (x5) : d0.regsWf → (Dev.chAssign d0 x1 x2 x3 x4 x5).regsWf := by
  intros; unfold Dev.chAssign; grind [Dev.regsWf, foldl_regsWf, Dev_wrNat_regsWf, Dev_wr_regsWf, Dev_setWords_regsWf,
      Dev_setOsc_regsWf, Dev_setBit_regsWf, Dev_chShow_regsWf, Dev_chSet_regsWf, Dev_setCh_regsWf]
theorem effAidFound_regsWf (x0) (x1) (d2) : d2.regsWf → (effAidFound x0 x1 d2).regsWf := by
  intros; unfold effAidFound; grind [Dev.regsWf, foldl_regsWf, Dev_chAssign_regsWf, Dev_setFld_regsWf]
theorem Dev_setFerry_regsWf (d0) (x1) (x2) : d0.regsWf → (Dev.setFerry d0 x1 x2).regsWf := by
  intros; unfold Dev.setFerry; grind [Dev.regsWf, foldl_regsWf, Dev_modGnss_regsWf]
theorem Dev_streamMinv_regsWf (d0) (x1) (x2) : d0.regsWf → (Dev.streamMinv d0 x1 x2).regsWf := by
  intros; unfold Dev.streamMinv; grind [Dev.regsWf, foldl_regsWf, Dev_setCh_regsWf, Dev_setBit_regsWf]
theorem effSlip_regsWf (x0) (d1) : d1.regsWf → (effSlip x0 d1).regsWf := by
  intros; unfold effSlip; grind [Dev.regsWf, foldl_regsWf, Dev_modGnss_regsWf, Dev_setBit_regsWf, Dev_bump_regsWf,
      Dev_raise_regsWf, Dev_setFerry_regsWf, Dev_streamMinv_regsWf]
theorem Dev_dropFollowers_regsWf (d0) (x1) : d0.regsWf → (Dev.dropFollowers d0 x1).regsWf := by
  intros; unfold Dev.dropFollowers; grind [Dev.regsWf, foldl_regsWf, Dev_chSet_regsWf]
theorem Dev_chTo_regsWf (d0) (x1) (x2) : d0.regsWf → (Dev.chTo d0 x1 x2).regsWf := by
  intros; unfold Dev.chTo; grind [Dev.regsWf, foldl_regsWf, Dev_chSet_regsWf, Dev_chShow_regsWf,
      Dev_dropFollowers_regsWf]
theorem effTrackLoss_regsWf (x0) (d1) : d1.regsWf → (effTrackLoss x0 d1).regsWf := by
  intros; unfold effTrackLoss; grind [Dev.regsWf, foldl_regsWf, Dev_chTo_regsWf]
theorem Dev_noteCell_regsWf (d0) (x1) (x2) (x3) (x4) (x5) : d0.regsWf → (Dev.noteCell d0 x1 x2 x3 x4 x5).regsWf := by
  intros; unfold Dev.noteCell; grind [Dev.regsWf, foldl_regsWf, Dev_modGnss_regsWf]
theorem effFwStall_regsWf (d0) : d0.regsWf → (effFwStall d0).regsWf := by
  intros; unfold effFwStall; grind [Dev.regsWf, foldl_regsWf, Dev_raise_regsWf, Dev_modGnss_regsWf]
theorem effAgc_regsWf (x0) (x1) (x2) (d3) : d3.regsWf → (effAgc x0 x1 x2 d3).regsWf := by
  intros; unfold effAgc; grind [Dev.regsWf, foldl_regsWf, Dev_emit_regsWf, Dev_modGnss_regsWf, Dev_setFld_regsWf]
theorem effJamClear_regsWf (x0) (d1) : d1.regsWf → (effJamClear x0 d1).regsWf := by
  intros; unfold effJamClear; grind [Dev.regsWf, foldl_regsWf, Dev_modGnss_regsWf, Dev_setBit_regsWf,
      Dev_endLevel_regsWf]
theorem Dev_propagate_regsWf (d0) (x1) : d0.regsWf → (Dev.propagate d0 x1).regsWf := by
  intros; unfold Dev.propagate; grind [Dev.regsWf, foldl_regsWf, Dev_setOsc_regsWf, Dev_setWords_regsWf]
theorem Dev_ungate_regsWf (d0) : d0.regsWf → (Dev.ungate d0).regsWf := by
  intros; unfold Dev.ungate; grind [Dev.regsWf, foldl_regsWf, Dev_chTo_regsWf, Dev_propagate_regsWf]
theorem effWindowOpen_regsWf (d0) : d0.regsWf → (effWindowOpen d0).regsWf := by
  intros; unfold effWindowOpen; grind [Dev.regsWf, foldl_regsWf, Dev_ungate_regsWf, Dev_modGnss_regsWf]
theorem effGchCorrLatch_regsWf (x0) (x1) (d2) : d2.regsWf → (effGchCorrLatch x0 x1 d2).regsWf := by
  intros; unfold effGchCorrLatch; grind [Dev.regsWf, foldl_regsWf, Dev_emit_regsWf, Dev_latchRegs_regsWf]
theorem Dev_chRelease_regsWf (d0) (x1) : d0.regsWf → (Dev.chRelease d0 x1).regsWf := by
  intros; unfold Dev.chRelease; grind [Dev.regsWf, foldl_regsWf, Dev_chTo_regsWf, Dev_wr_regsWf, Dev_chShow_regsWf,
      Dev_setCh_regsWf]
theorem lockTick_regsWf (x0) (d1) : d1.regsWf → (lockTick x0 d1).regsWf := by
  intros; unfold lockTick; grind [Dev.regsWf, foldl_regsWf, Dev_bump_regsWf, Dev_wr_regsWf]
theorem Dev_measOne_regsWf (d0) (x1) (x2) : d0.regsWf → (Dev.measOne d0 x1 x2).regsWf := by
  intros; unfold Dev.measOne; grind [Dev.regsWf, foldl_regsWf, Dev_wrNat_regsWf, Dev_wrInt_regsWf, Dev_wrFit_regsWf]
theorem effMeas_regsWf (x0) (d1) : d1.regsWf → (effMeas x0 d1).regsWf := by
  intros; unfold effMeas; grind [Dev.regsWf, foldl_regsWf, Dev_chRelease_regsWf, Dev_measOne_regsWf, lockTick_regsWf]
theorem effDisqEnd_regsWf (x0) (d1) : d1.regsWf → (effDisqEnd x0 d1).regsWf := by
  intros; unfold effDisqEnd; grind [Dev.regsWf, foldl_regsWf, Dev_streamMinv_regsWf, Dev_setBit_regsWf]
theorem effAidRetry_regsWf (x0) (d1) : d1.regsWf → (effAidRetry x0 d1).regsWf := by
  intro h; unfold effAidRetry; split
  · exact Dev_setFld_regsWf _ _ _ _ _ (Dev_setFld_regsWf _ _ _ _ _ h)
  · exact h
theorem effAidStart_regsWf (x0) (x1) (x2) (x3) (x4) (x5) (x6) (x7) (x8) (d9) : d9.regsWf → (effAidStart x0 x1 x2 x3 x4
    x5 x6 x7 x8 d9).regsWf := by
  intros; unfold effAidStart; grind [Dev.regsWf, foldl_regsWf, Dev_wrNat_regsWf]
theorem Dev_sweepStart_regsWf (d0) : d0.regsWf → (Dev.sweepStart d0).regsWf := by
  intros; unfold Dev.sweepStart; grind [Dev.regsWf, foldl_regsWf, Dev_modGnss_regsWf, Dev_setBit_regsWf,
      Dev_setFld_regsWf]
theorem Dev_acquire_regsWf (d0) : d0.regsWf → (Dev.acquire d0).regsWf := by
  intros; unfold Dev.acquire; grind [Dev.regsWf, foldl_regsWf, Dev_sweepStart_regsWf]
theorem effBurstFull_regsWf (d0) : d0.regsWf → (effBurstFull d0).regsWf := by
  intros; unfold effBurstFull; grind [Dev.regsWf, foldl_regsWf, Dev_ungate_regsWf, Dev_modGnss_regsWf]
theorem Dev_feSend_regsWf (d0) (x1) (x2) : d0.regsWf → (Dev.feSend d0 x1 x2).regsWf := by
  intros; unfold Dev.feSend; grind [Dev.regsWf, foldl_regsWf, Dev_emit_regsWf]
theorem effFeDone_regsWf (x0) (d1) : d1.regsWf → (effFeDone x0 d1).regsWf := by
  intros; unfold effFeDone; grind [Dev.regsWf, foldl_regsWf, Dev_modGnss_regsWf, Dev_raise_regsWf, Dev_setBit_regsWf,
      Dev_acquire_regsWf, Dev_feSend_regsWf, Dev_feHostStart_regsWf]
theorem effHandover_regsWf (x0) (x1) (x2) (d3) : d3.regsWf → (effHandover x0 x1 x2 d3).regsWf := by
  intros; unfold effHandover; grind [Dev.regsWf, foldl_regsWf, Dev_chRelease_regsWf, Dev_chAssign_regsWf]
theorem effSweepCmd_regsWf (x0) (x1) (d2) : d2.regsWf → (effSweepCmd x0 x1 d2).regsWf := by
  intros; unfold effSweepCmd; grind [Dev.regsWf, foldl_regsWf, Dev_asCust_regsWf, Dev_sweepStart_regsWf]
theorem effStrobeReturn_regsWf (x0) (d1) : d1.regsWf → (effStrobeReturn x0 d1).regsWf := by
  intros; unfold effStrobeReturn; grind [Dev.regsWf, foldl_regsWf, Dev_setFerry_regsWf, Dev_setBit_regsWf]
theorem Dev_feStart_regsWf (d0) (x1) : d0.regsWf → (Dev.feStart d0 x1).regsWf := by
  intros; unfold Dev.feStart; grind [Dev.regsWf, foldl_regsWf, Dev_modGnss_regsWf, Dev_feSend_regsWf]
theorem effWindowClose_regsWf (x0) (d1) : d1.regsWf → (effWindowClose x0 d1).regsWf := by
  intros; unfold effWindowClose; grind [Dev.regsWf, foldl_regsWf, Dev_modGnss_regsWf, Dev_chTo_regsWf,
      Dev_feStart_regsWf]
theorem effGchMeasLatch_regsWf (x0) (x1) (d2) : d2.regsWf → (effGchMeasLatch x0 x1 d2).regsWf := by
  intros; unfold effGchMeasLatch; grind [Dev.regsWf, foldl_regsWf, Dev_emit_regsWf, Dev_latchRegs_regsWf]
theorem Dev_sweepStop_regsWf (d0) : d0.regsWf → (Dev.sweepStop d0).regsWf := by
  intros; unfold Dev.sweepStop; grind [Dev.regsWf, foldl_regsWf, Dev_setBit_regsWf]
theorem effSearch_regsWf (x0) (x1) (x2) (x3) (x4) (x5) (d6) : d6.regsWf → (effSearch x0 x1 x2 x3 x4 x5 d6).regsWf :=
    by
  intro h; unfold effSearch; split
  · exact h
  extract_lets e1 e2 e3
  have h3 : e3.regsWf := Dev_noteCell_regsWf _ _ _ _ _ _ (Dev_modGnss_regsWf _ _ (Dev_setFld_regsWf _ _ _ _ _
    (Dev_setFld_regsWf _ _ _ _ _ h)))
  split
  · exact h3
  have h4 := Dev_wrNat_regsWf _ R.GACQ_SWEEP_MS (x5.getD (e3.gnss.sweepPts / 1600000)) (Dev_sweepStop_regsWf _ h3)
  split
  · exact h4
  · exact Dev_sweepStart_regsWf _ h4
theorem effStrobeLoss_regsWf (x0) (d1) : d1.regsWf → (effStrobeLoss x0 d1).regsWf := by
  intros; unfold effStrobeLoss; grind [Dev.regsWf, foldl_regsWf, Dev_setFerry_regsWf, Dev_bump_regsWf,
      Dev_setBit_regsWf, Dev_chTo_regsWf, Dev_raise_regsWf]
theorem effBurstMiss_regsWf (d0) : d0.regsWf → (effBurstMiss d0).regsWf := by
  intros; unfold effBurstMiss; grind [Dev.regsWf, foldl_regsWf, Dev_setCh_regsWf, Dev_bump_regsWf, Dev_chTo_regsWf]
theorem effFeStart_regsWf (d0) : d0.regsWf → (effFeStart d0).regsWf := by
  intros; unfold effFeStart; grind [Dev.regsWf, foldl_regsWf, Dev_feStart_regsWf, Dev_setBit_regsWf,
      Dev_modGnss_regsWf]
theorem effFeGo_regsWf (x0) (x1) (d2) : d2.regsWf → (effFeGo x0 x1 d2).regsWf := by
  intros; unfold effFeGo; grind [Dev.regsWf, foldl_regsWf, Dev_asCust_regsWf, Dev_wr_regsWf, Dev_feHostStart_regsWf,
      Dev_modGnss_regsWf]
theorem effFeSpiDone_regsWf (x0) (d1) : d1.regsWf → (effFeSpiDone x0 d1).regsWf := by
  intros; unfold effFeSpiDone; grind [Dev.regsWf, foldl_regsWf, Dev_modGnss_regsWf, Dev_setBit_regsWf, Dev_wr_regsWf,
      Dev_feSend_regsWf]
theorem effVerify_regsWf (x0) (x1) (x2) (d3) : d3.regsWf → (effVerify x0 x1 x2 d3).regsWf := by
  intros; unfold effVerify; grind [Dev.regsWf, foldl_regsWf, Dev_modGnss_regsWf, Dev_setFld_regsWf, Dev_bump_regsWf,
      Dev_wrNat_regsWf, Dev_wrInt_regsWf, Dev_chAssign_regsWf]
theorem Dev_takeEph_regsWf (d0) (x1) (x2) : d0.regsWf → (Dev.takeEph d0 x1 x2).regsWf := by
  intros; unfold Dev.takeEph; grind [Dev.regsWf, foldl_regsWf, Dev_modGnss_regsWf]
theorem effNavUnit_regsWf (x0) (x1) (d2) : d2.regsWf → (effNavUnit x0 x1 d2).regsWf := by
  intros; unfold effNavUnit; grind [Dev.regsWf, foldl_regsWf, Dev_modGnss_regsWf, Dev_setCh_regsWf,
      Dev_takeEph_regsWf, Dev_ringOffer_regsWf, Dev_bump_regsWf, forRange_regsWf, Dev_wrNat_regsWf]
theorem tickBurst_regsWf (d0) : d0.regsWf → (tickBurst d0).regsWf := by
  intros; unfold tickBurst; grind [Dev.regsWf, foldl_regsWf, Dev_sweepStop_regsWf, Dev_setBit_regsWf,
      Dev_ungate_regsWf]
theorem effJamSet_regsWf (x0) (d1) : d1.regsWf → (effJamSet x0 d1).regsWf := by
  intros; unfold effJamSet; grind [Dev.regsWf, foldl_regsWf, Dev_raiseOnset_regsWf, Dev_setBit_regsWf]
theorem effExcl_regsWf (x0) (x1) (x2) (d3) : d3.regsWf → (effExcl x0 x1 x2 d3).regsWf := by
  intros; unfold effExcl; grind [Dev.regsWf, foldl_regsWf, Dev_asCust_regsWf, Dev_wr_regsWf, Dev_setCh_regsWf]
theorem effProcess_regsWf (x0) (x1) (d2) : d2.regsWf → (effProcess x0 x1 d2).regsWf := by
  intros; unfold effProcess; grind [Dev.regsWf, foldl_regsWf, Dev_setBit_regsWf, Dev_pmc_regsWf, Dev_setFld_regsWf,
      Dev_setCh_regsWf, Dev_chTo_regsWf]
theorem effBurstOn_regsWf (d0) : d0.regsWf → (effBurstOn d0).regsWf := by
  intros; unfold effBurstOn; grind [Dev.regsWf, foldl_regsWf, Dev_feStart_regsWf]
theorem effPullinTimeout_regsWf (x0) (d1) : d1.regsWf → (effPullinTimeout x0 d1).regsWf := by
  intros; unfold effPullinTimeout; grind [Dev.regsWf, foldl_regsWf, Dev_chTo_regsWf]
theorem effLostTimeout_regsWf (x0) (d1) : d1.regsWf → (effLostTimeout x0 d1).regsWf := by
  intros; unfold effLostTimeout; grind [Dev.regsWf, foldl_regsWf, Dev_chRelease_regsWf]
theorem effAidExhausted_regsWf (x0) (d1) : d1.regsWf → (effAidExhausted x0 d1).regsWf := by
  intros; unfold effAidExhausted; grind [Dev.regsWf, foldl_regsWf, Dev_setFld_regsWf, Dev_modGnss_regsWf]
theorem Dev_solSample_regsWf (d0) (x1) (x2) (x3) (x4) (x5) (x6) : d0.regsWf → (Dev.solSample d0 x1 x2 x3 x4 x5
    x6).regsWf := by
  intros; unfold Dev.solSample; grind [Dev.regsWf, foldl_regsWf, Dev_offsetFor_regsWf, Dev_deliver_regsWf]
theorem Dev_solRef_regsWf (d0) (x1) (x2) (x3) (x4) (x5) : d0.regsWf → (Dev.solRef d0 x1 x2 x3 x4 x5).regsWf := by
  intros; unfold Dev.solRef; grind [Dev.regsWf, foldl_regsWf, Dev_modRef_regsWf, Dev_refMessage_regsWf,
      forRange_regsWf, Dev_solSample_regsWf]
theorem Dev_solRegs_regsWf (d0) (x1) (x2) (x3) (x4) (x5) (x6) (x7) (x8) : d0.regsWf → (Dev.solRegs d0 x1 x2 x3 x4 x5
    x6 x7 x8).regsWf := by
  intros; unfold Dev.solRegs; grind [Dev.regsWf, foldl_regsWf, Dev_wrNat_regsWf, Dev_wrInt64_regsWf, Dev_wrFit_regsWf]
theorem effSolLatch_regsWf (x0) (x1) (d2) : d2.regsWf → (effSolLatch x0 x1 d2).regsWf := by
  intros; unfold effSolLatch; grind [Dev.regsWf, foldl_regsWf, Dev_emit_regsWf, Dev_latchRegs_regsWf]
theorem Dev_integChange_regsWf (d0) (x1) (x2) (x3) (x4) : d0.regsWf → (Dev.integChange d0 x1 x2 x3 x4).regsWf := by
  intros; unfold Dev.integChange; grind [Dev.regsWf, foldl_regsWf, Dev_bump_regsWf, Dev_record_regsWf,
      Dev_raise_regsWf]
theorem Dev_solPublish_regsWf (d0) (x1) (x2) (x3) (x4) (x5) (x6) (x7) (x8) : d0.regsWf → (Dev.solPublish d0 x1 x2 x3
    x4 x5 x6 x7 x8).regsWf := by
  intros; unfold Dev.solPublish; grind [Dev.regsWf, foldl_regsWf, Dev_solRegs_regsWf, Dev_bump_regsWf,
      Dev_integChange_regsWf, Dev_ringOffer_regsWf, Dev_solRef_regsWf]
theorem Dev_surveyEnd_regsWf (d0) (x1) : d0.regsWf → (Dev.surveyEnd d0 x1).regsWf := by
  intros; unfold Dev.surveyEnd; grind [Dev.regsWf, foldl_regsWf, Dev_wrInt_regsWf, Dev_setFld_regsWf,
      Dev_wrNat_regsWf]
theorem Dev_survey_regsWf (d0) (x1) (x2) : d0.regsWf → (Dev.survey d0 x1 x2).regsWf := by
  intros; unfold Dev.survey; grind [Dev.regsWf, foldl_regsWf, Dev_modGnss_regsWf, Dev_setFld_regsWf,
      Dev_surveyEnd_regsWf]
theorem solEpoch_regsWf (x0) (x1) (d2) : d2.regsWf → (solEpoch x0 x1 d2).regsWf := by
  intros; unfold solEpoch; grind [Dev.regsWf, foldl_regsWf, Dev_setSols_regsWf, Dev_solPublish_regsWf,
      Dev_modGnss_regsWf, Dev_survey_regsWf, Dev_startGnss_regsWf]
theorem integOne_regsWf (x0) (x1) (d2) : d2.regsWf → (integOne x0 x1 d2).regsWf := by
  intros; unfold integOne; grind [Dev.regsWf, foldl_regsWf, Dev_setSols_regsWf]
theorem effInteg_regsWf (x0) (x1) (d2) : d2.regsWf → (effInteg x0 x1 d2).regsWf := by
  intros; unfold effInteg; grind [Dev.regsWf, foldl_regsWf, integOne_regsWf, Dev_modGnss_regsWf]
theorem Dev_takeResurvey_regsWf (d0) : d0.regsWf → (Dev.takeResurvey d0).regsWf := by
  intros; unfold Dev.takeResurvey; grind [Dev.regsWf, foldl_regsWf, Dev_wr_regsWf, Dev_modGnss_regsWf]
theorem effSolEpoch_regsWf (x0) (x1) (d2) : d2.regsWf → (effSolEpoch x0 x1 d2).regsWf := by
  intros; unfold effSolEpoch; grind [Dev.regsWf, foldl_regsWf, solEpoch_regsWf, Dev_takeResurvey_regsWf]
theorem effResurvey_regsWf (x0) (x1) (d2) : d2.regsWf → (effResurvey x0 x1 d2).regsWf := by
  intros; unfold effResurvey; grind [Dev.regsWf, foldl_regsWf, Dev_asCust_regsWf, Dev_modGnss_regsWf]
theorem Dev_modClk_regsWf (d0) (x1) : d0.regsWf → (Dev.modClk d0 x1).regsWf := by
  intros; unfold Dev.modClk; grind [Dev.regsWf, foldl_regsWf]
theorem Dev_tryBand_regsWf (d0) : d0.regsWf → (Dev.tryBand d0).regsWf := by
  intros; unfold Dev.tryBand; grind [Dev.regsWf, foldl_regsWf, Dev_modClk_regsWf, Dev_setFld_regsWf,
      Dev_raiseLevel_regsWf, Dev_setBit_regsWf]
theorem Dev_lockAttempt_regsWf (d0) : d0.regsWf → (Dev.lockAttempt d0).regsWf := by
  intros; unfold Dev.lockAttempt; grind [Dev.regsWf, foldl_regsWf, Dev_tryBand_regsWf, Dev_setFld_regsWf,
      Dev_modClk_regsWf]
theorem effClkRetry_regsWf (x0) (d1) : d1.regsWf → (effClkRetry x0 d1).regsWf := by
  intros; unfold effClkRetry; grind [Dev.regsWf, foldl_regsWf, Dev_asCust_regsWf, Dev_lockAttempt_regsWf]
theorem Dev_stageTime_regsWf (d0) (x1) : d0.regsWf → (Dev.stageTime d0 x1).regsWf := by
  intros; unfold Dev.stageTime; grind [Dev.regsWf, foldl_regsWf, Dev_wr_regsWf]
theorem Dev_setStage_regsWf (d0) (x1) : d0.regsWf → (Dev.setStage d0 x1).regsWf := by
  intros; unfold Dev.setStage; grind [Dev.regsWf, foldl_regsWf, Dev_setFld_regsWf, Dev_stageTime_regsWf,
      Dev_interrupt_regsWf, Dev_record_regsWf]
theorem effReduced_regsWf (d0) : d0.regsWf → (effReduced d0).regsWf := by
  intros; unfold effReduced; grind [Dev.regsWf, foldl_regsWf, Dev_setStage_regsWf]
theorem effSurvey_regsWf (x0) (d1) : d1.regsWf → (effSurvey x0 d1).regsWf := by
  intros; unfold effSurvey; grind [Dev.regsWf, foldl_regsWf, Dev_modClk_regsWf, Dev_setFld_regsWf]
theorem srcTb_regsWf (x0) (x1) (x2) (d3) : d3.regsWf → (srcTb x0 x1 x2 d3).regsWf := by
  intros; unfold srcTb; grind [Dev.regsWf, foldl_regsWf, Dev_setTb_regsWf, Dev_setEb_regsWf, Dev_setBit_regsWf]
theorem auxShow_regsWf (x0) (d1) : d1.regsWf → (auxShow x0 d1).regsWf := by
  intros; unfold auxShow; grind [Dev.regsWf, foldl_regsWf, Dev_emit_regsWf, Dev_modClk_regsWf]
theorem osynWait_regsWf (x0) (d1) : d1.regsWf → (osynWait x0 d1).regsWf := by
  intros; unfold osynWait; grind [Dev.regsWf, foldl_regsWf, Dev_raiseLevel_regsWf]
theorem Dev_enterLo_regsWf (d0) (x1) : d0.regsWf → (Dev.enterLo d0 x1).regsWf := by
  intros; unfold Dev.enterLo; grind [Dev.regsWf, foldl_regsWf, Dev_bump_regsWf, forRange_regsWf, auxShow_regsWf,
      osynWait_regsWf, Dev_endLevel_regsWf, Dev_lockAttempt_regsWf]
theorem rcUnbound_regsWf (x0) (d1) : d1.regsWf → (rcUnbound x0 d1).regsWf := by
  intros; unfold rcUnbound; grind [Dev.regsWf, foldl_regsWf, Dev_wrNat64_regsWf, Dev_setEb_regsWf]
theorem clkUnalign_regsWf (x0) (d1) : d1.regsWf → (clkUnalign x0 d1).regsWf := by
  intros; unfold clkUnalign; grind [Dev.regsWf, foldl_regsWf, clkShow_regsWf, Dev_setClkOut_regsWf]
theorem osynStop_regsWf (x0) (d1) : d1.regsWf → (osynStop x0 d1).regsWf := by
  intros; unfold osynStop; grind [Dev.regsWf, foldl_regsWf, Dev_setBit_regsWf, Dev_endLevel_regsWf]
theorem Dev_enterRc_regsWf (d0) : d0.regsWf → (Dev.enterRc d0).regsWf := by
  intros; unfold Dev.enterRc; grind [Dev.regsWf, foldl_regsWf, Dev_raiseLevel_regsWf, Dev_setBit_regsWf,
      Dev_bump_regsWf, Dev_modClk_regsWf, forRange_regsWf, rcUnbound_regsWf, clkUnalign_regsWf, osynStop_regsWf,
      auxShow_regsWf, effPpsPulseEnd_regsWf, effEioPulseEnd_regsWf, effLockLoss_regsWf, Dev_linkLost_regsWf]
theorem Dev_toSource_regsWf (d0) (x1) (x2) : d0.regsWf → (Dev.toSource d0 x1 x2).regsWf := by
  intros; unfold Dev.toSource; grind [Dev.regsWf, foldl_regsWf, forRange_regsWf, srcTb_regsWf, Dev_setFld_regsWf,
      Dev_modClk_regsWf, calStop_regsWf, Dev_setBit_regsWf, Dev_record_regsWf, Dev_emit_regsWf, Dev_modGnss_regsWf,
      Dev_enterLo_regsWf, Dev_enterRc_regsWf, Dev_faultUpdate_regsWf, Dev_ppsShowAll_regsWf]
theorem Dev_xoOnset_regsWf (d0) (x1) : d0.regsWf → (Dev.xoOnset d0 x1).regsWf := by
  intros; unfold Dev.xoOnset; grind [Dev.regsWf, foldl_regsWf, Dev_bump_regsWf, Dev_setBit_regsWf,
      Dev_raiseLevel_regsWf, Dev_toSource_regsWf]
theorem Dev_xoFound_regsWf (d0) (x1) (x2) (x3) : d0.regsWf → (Dev.xoFound d0 x1 x2 x3).regsWf := by
  intros; unfold Dev.xoFound; grind [Dev.regsWf, foldl_regsWf, Dev_modClk_regsWf, Dev_xoOnset_regsWf,
      Dev_endLevel_regsWf]
theorem effXoResume_regsWf (d0) : d0.regsWf → (effXoResume d0).regsWf := by
  intros; unfold effXoResume; grind [Dev.regsWf, foldl_regsWf, Dev_xoFound_regsWf]
theorem effAlign_regsWf (x0) (x1) (d2) : d2.regsWf → (effAlign x0 x1 d2).regsWf := by
  intros; unfold effAlign; grind [Dev.regsWf, foldl_regsWf, clkShow_regsWf, Dev_setClkOut_regsWf, Dev_setFld_regsWf,
      Dev_setBit_regsWf, Dev_emit_regsWf]
theorem effRetryTimer_regsWf (d0) : d0.regsWf → (effRetryTimer d0).regsWf := by
  intros; unfold effRetryTimer; grind [Dev.regsWf, foldl_regsWf, Dev_lockAttempt_regsWf]
theorem stageTick_regsWf (d0) : d0.regsWf → (stageTick d0).regsWf := by
  intros; unfold stageTick; grind [Dev.regsWf, foldl_regsWf, Dev_setStage_regsWf]
theorem effRcStop_regsWf (d0) : d0.regsWf → (effRcStop d0).regsWf := by
  intros; unfold effRcStop; grind [Dev.regsWf, foldl_regsWf, Dev_modClk_regsWf, Dev_emit_regsWf]
theorem effGateDefer_regsWf (x0) (d1) : d1.regsWf → (effGateDefer x0 d1).regsWf := by
  intros; unfold effGateDefer; grind [Dev.regsWf, foldl_regsWf, Dev_pmc_regsWf, Dev_bump_regsWf, Dev_modClk_regsWf]
theorem effBandTimeout_regsWf (d0) : d0.regsWf → (effBandTimeout d0).regsWf := by
  intros; unfold effBandTimeout; grind [Dev.regsWf, foldl_regsWf, Dev_tryBand_regsWf, Dev_modClk_regsWf]
theorem effRelock_regsWf (d0) : d0.regsWf → (effRelock d0).regsWf := by
  intros; unfold effRelock; grind [Dev.regsWf, foldl_regsWf, Dev_toSource_regsWf, Dev_setStage_regsWf]
theorem effPllLoss_regsWf (x0) (d1) : d1.regsWf → (effPllLoss x0 d1).regsWf := by
  intros; unfold effPllLoss; grind [Dev.regsWf, foldl_regsWf, Dev_setBit_regsWf, Dev_toSource_regsWf,
      Dev_lockAttempt_regsWf]
theorem effBandWrite_regsWf (x0) (x1) (x2) (d3) : d3.regsWf → (effBandWrite x0 x1 x2 d3).regsWf := by
  intros; unfold effBandWrite; grind [Dev.regsWf, foldl_regsWf, Dev_wr_regsWf, Dev_asCust_regsWf]
theorem effClkoCfg_regsWf (x0) (x1) (x2) (d3) : d3.regsWf → (effClkoCfg x0 x1 x2 d3).regsWf := by
  intros; unfold effClkoCfg; grind [Dev.regsWf, foldl_regsWf, Dev_asCust_regsWf, Dev_wr_regsWf, clkShow_regsWf,
      Dev_setClkOut_regsWf]
theorem effQuiesce_regsWf (x0) (d1) : d1.regsWf → (effQuiesce x0 d1).regsWf := by
  intros; unfold effQuiesce; grind [Dev.regsWf, foldl_regsWf, Dev_modClk_regsWf]
theorem effXoEdge_regsWf (x0) (d1) : d1.regsWf → (effXoEdge x0 d1).regsWf := by
  intros; unfold effXoEdge; grind [Dev.regsWf, foldl_regsWf, Dev_xoFound_regsWf]
theorem effPllLocked_regsWf (d0) : d0.regsWf → (effPllLocked d0).regsWf := by
  intros; unfold effPllLocked; grind [Dev.regsWf, foldl_regsWf, Dev_setBit_regsWf, Dev_modClk_regsWf,
      Dev_endLevel_regsWf]
theorem effOsynRelock_regsWf (x0) (d1) : d1.regsWf → (effOsynRelock x0 d1).regsWf := by
  intros; unfold effOsynRelock; grind [Dev.regsWf, foldl_regsWf, Dev_emit_regsWf, Dev_endLevel_regsWf,
      Dev_setBit_regsWf, forRange_regsWf, clkShow_regsWf]
theorem effGateClose_regsWf (x0) (d1) : d1.regsWf → (effGateClose x0 d1).regsWf := by
  intros; unfold effGateClose; grind [Dev.regsWf, foldl_regsWf, Dev_setBit_regsWf, Dev_modClk_regsWf]
theorem effXoFreq_regsWf (x0) (x1) (d2) : d2.regsWf → (effXoFreq x0 x1 d2).regsWf := by
  intros; unfold effXoFreq; grind [Dev.regsWf, foldl_regsWf, Dev_setFld_regsWf, Dev_xoFound_regsWf]
theorem syncOut_regsWf (x0) (d1) : d1.regsWf → (syncOut x0 d1).regsWf := by
  intros; unfold syncOut; grind [Dev.regsWf, foldl_regsWf, Dev_emit_regsWf, Dev_setBit_regsWf]
theorem effOsynLatch_regsWf (x0) (x1) (d2) : d2.regsWf → (effOsynLatch x0 x1 d2).regsWf := by
  intros; unfold effOsynLatch; grind [Dev.regsWf, foldl_regsWf, Dev_emit_regsWf, Dev_latchRegs_regsWf]
theorem effXoQualified_regsWf (x0) (d1) : d1.regsWf → (effXoQualified x0 d1).regsWf := by
  intros; unfold effXoQualified; grind [Dev.regsWf, foldl_regsWf, Dev_setBit_regsWf, Dev_toSource_regsWf]
theorem effAuxEn_regsWf (x0) (x1) (d2) : d2.regsWf → (effAuxEn x0 x1 d2).regsWf := by
  intros; unfold effAuxEn; grind [Dev.regsWf, foldl_regsWf, Dev_asCust_regsWf, forRange_regsWf, auxShow_regsWf,
      Dev_wr_regsWf]
theorem effSyncIn_regsWf (x0) (d1) : d1.regsWf → (effSyncIn x0 d1).regsWf := by
  intros; unfold effSyncIn; grind [Dev.regsWf, foldl_regsWf, Dev_modClk_regsWf, Dev_bump_regsWf, Dev_wrNat_regsWf,
      forRange_regsWf, syncOut_regsWf, Dev_bumpWrap_regsWf]
theorem Dev_modRec_regsWf (d0) (x1) : d0.regsWf → (Dev.modRec d0 x1).regsWf := by
  intros; unfold Dev.modRec; grind [Dev.regsWf, foldl_regsWf]
theorem Dev_unstage_regsWf (d0) (x1) (x2) : d0.regsWf → (Dev.unstage d0 x1 x2).regsWf := by
  intros; unfold Dev.unstage; grind [Dev.regsWf, foldl_regsWf, Dev_recRing_regsWf, Dev_modRec_regsWf,
      Dev_setBit_regsWf, Dev_bump_regsWf]
theorem Dev_unfreeze_regsWf (d0) : d0.regsWf → (Dev.unfreeze d0).regsWf := by
  intros; unfold Dev.unfreeze; grind [Dev.regsWf, foldl_regsWf, Dev_setBit_regsWf, Dev_modRec_regsWf,
      Dev_unstage_regsWf, Dev_recShow_regsWf]
theorem effMark_regsWf (x0) (d1) : d1.regsWf → (effMark x0 d1).regsWf := by
  intros; unfold effMark; grind [Dev.regsWf, foldl_regsWf, Dev_asCust_regsWf, Dev_record_regsWf]
theorem Dev_segOpen_regsWf (d0) (x1) (x2) (x3) : d0.regsWf → (Dev.segOpen d0 x1 x2 x3).regsWf := by
  intros; unfold Dev.segOpen; grind [Dev.regsWf, foldl_regsWf, Dev_flashErase_regsWf, Dev_flashProgram_regsWf,
      Dev_wrNat_regsWf, Dev_modRec_regsWf]
theorem Dev_segNext_regsWf (d0) (x1) : d0.regsWf → (Dev.segNext d0 x1).regsWf := by
  intros; unfold Dev.segNext; grind [Dev.regsWf, foldl_regsWf, Dev_segOpen_regsWf]

end Sys2Proof.Laws
end

