-- ==== Sys2Proof/Laws/RegsWf4.lean ====
section
/-! SUPPORT. One lemma per function of the model that answers a device: it keeps the register store in its canonical form
(part 4 of 4, callees first). -/
set_option Elab.async false
namespace Sys2Proof.Laws
open Sys2Proof.Machine

theorem Dev_recToFlash_regsWf (d0) (x1) : d0.regsWf → (Dev.recToFlash d0 x1).regsWf := by
  intros; unfold Dev.recToFlash; grind [Dev.regsWf, foldl_regsWf, Dev_segNext_regsWf, Dev_flashProgram_regsWf,
      Dev_modRec_regsWf]
theorem effSegErased_regsWf (d0) : d0.regsWf → (effSegErased d0).regsWf := by
  intros; unfold effSegErased; grind [Dev.regsWf, foldl_regsWf, Dev_setBit_regsWf, Dev_modRec_regsWf,
      Dev_flashErase_regsWf]
theorem Dev_recPageEnd_regsWf (d0) : d0.regsWf → (Dev.recPageEnd d0).regsWf := by
  intros; unfold Dev.recPageEnd; grind [Dev.regsWf, foldl_regsWf, Dev_modRec_regsWf]
theorem Dev_flushRecord_regsWf (d0) (x1) : d0.regsWf → (Dev.flushRecord d0 x1).regsWf := by
  intros; unfold Dev.flushRecord; grind [Dev.regsWf, foldl_regsWf, Dev_recToFlash_regsWf, Dev_bumpWrap_regsWf]
theorem effFlushDone_regsWf (x0) (d1) : d1.regsWf → (effFlushDone x0 d1).regsWf := by
  intros; unfold effFlushDone; grind [Dev.regsWf, foldl_regsWf, Dev_recPageEnd_regsWf, Dev_flushRecord_regsWf,
      Dev_recToFlash_regsWf, Dev_modRec_regsWf, Dev_recShow_regsWf, Dev_pmc_regsWf, Dev_wrNat_regsWf,
      Dev_bumpWrap_regsWf, Dev_setBit_regsWf]
theorem Dev_segFirst_regsWf (d0) (x1) : d0.regsWf → (Dev.segFirst d0 x1).regsWf := by
  intros; unfold Dev.segFirst; grind [Dev.regsWf, foldl_regsWf, Dev_segOpen_regsWf, Dev_wrNat_regsWf, Dev_wr_regsWf]
theorem Dev_recOpen_regsWf (d0) : d0.regsWf → (Dev.recOpen d0).regsWf := by
  intros; unfold Dev.recOpen; grind [Dev.regsWf, foldl_regsWf, Dev_setBit_regsWf, Dev_segFirst_regsWf,
      Dev_modRec_regsWf, Dev_wr_regsWf, Dev_record_regsWf]
theorem effWinLoad_regsWf (x0) (d1) : d1.regsWf → (effWinLoad x0 d1).regsWf := by
  intros; unfold effWinLoad; grind [Dev.regsWf, foldl_regsWf, Dev_asAny_regsWf, Dev_modRec_regsWf, Dev_wr_regsWf]
theorem effFreezeExpire_regsWf (d0) : d0.regsWf → (effFreezeExpire d0).regsWf := by
  intros; unfold effFreezeExpire; grind [Dev.regsWf, foldl_regsWf, Dev_setBit_regsWf, Dev_unfreeze_regsWf]
theorem effWinDone_regsWf (x0) (d1) : d1.regsWf → (effWinDone x0 d1).regsWf := by
  intros; unfold effWinDone; grind [Dev.regsWf, foldl_regsWf, Dev_modRec_regsWf, forRange_regsWf, Dev_wrNat_regsWf,
      Dev_wr_regsWf]
theorem effFreeze_regsWf (x0) (d1) : d1.regsWf → (effFreeze x0 d1).regsWf := by
  intros; unfold effFreeze; grind [Dev.regsWf, foldl_regsWf, Dev_asCust_regsWf, Dev_modRec_regsWf, Dev_setBit_regsWf]
theorem effSegErase_regsWf (d0) : d0.regsWf → (effSegErase d0).regsWf := by
  intros; unfold effSegErase; grind [Dev.regsWf, foldl_regsWf, Dev_setBit_regsWf]
theorem effBackFlush_regsWf (d0) : d0.regsWf → (effBackFlush d0).regsWf := by
  intros; unfold effBackFlush; grind [Dev.regsWf, foldl_regsWf, Dev_startFlush_regsWf]
theorem effUnfreeze_regsWf (x0) (d1) : d1.regsWf → (effUnfreeze x0 d1).regsWf := by
  intros; unfold effUnfreeze; grind [Dev.regsWf, foldl_regsWf, Dev_asCust_regsWf, Dev_unfreeze_regsWf]
theorem Dev_imgWrite_regsWf (d0) (x1) (x2) : d0.regsWf → (Dev.imgWrite d0 x1 x2).regsWf := by
  intros; unfold Dev.imgWrite; grind [Dev.regsWf, foldl_regsWf, Dev_wr_regsWf]
theorem Dev_imgRegs_regsWf (d0) (x1) : d0.regsWf → (Dev.imgRegs d0 x1).regsWf := by
  intros; unfold Dev.imgRegs; grind [Dev.regsWf, foldl_regsWf, Dev_imgWrite_regsWf, forRange_regsWf, Dev_wrNat_regsWf]
theorem readSlot_regsWf (x0) (d1) : d1.regsWf → (readSlot x0 d1).regsWf := by
  intros; unfold readSlot; grind [Dev.regsWf, foldl_regsWf, Dev_slotShow_regsWf]
theorem Dev_fuseAuthority_regsWf (d0) (x1) : d0.regsWf → (Dev.fuseAuthority d0 x1).regsWf := by
  intros; unfold Dev.fuseAuthority; grind [Dev.regsWf, foldl_regsWf, Dev_setBit_regsWf, forRange_regsWf,
      Dev_wrNat_regsWf]
theorem Dev_readCounter_regsWf (d0) : d0.regsWf → (Dev.readCounter d0).regsWf := by
  intros; unfold Dev.readCounter; grind [Dev.regsWf, foldl_regsWf, Dev_setBit_regsWf, Dev_wrNat64_regsWf]
theorem Dev_readSlots_regsWf (d0) : d0.regsWf → (Dev.readSlots d0).regsWf := by
  intros; unfold Dev.readSlots; grind [Dev.regsWf, foldl_regsWf, Dev_badAny_regsWf, forRange_regsWf, readSlot_regsWf,
      Dev_raise_regsWf]
theorem Dev_loadKeys_regsWf (d0) (x1) : d0.regsWf → (Dev.loadKeys d0 x1).regsWf := by
  intros; unfold Dev.loadKeys; grind [Dev.regsWf, foldl_regsWf, Dev_fuseAuthority_regsWf, Dev_setBit_regsWf,
      Dev_readCounter_regsWf, Dev_readSlots_regsWf]
theorem Dev_flCommand_regsWf (d0) (x1) (f2) : d0.regsWf → (∀ d, d.regsWf → (f2 d).regsWf) → (Dev.flCommand d0 x1
    f2).regsWf := by
  intros; unfold Dev.flCommand; grind [Dev.regsWf, foldl_regsWf, Dev_asCust_regsWf]
theorem Dev_flWrites_regsWf (d0) : d0.regsWf → (Dev.flWrites d0).regsWf := by
  intros; unfold Dev.flWrites; grind [Dev.regsWf, foldl_regsWf, Dev_setBit_regsWf]
theorem Dev_modSys_regsWf (d0) (x1) : d0.regsWf → (Dev.modSys d0 x1).regsWf := by
  intros; unfold Dev.modSys; grind [Dev.regsWf, foldl_regsWf]
theorem Dev_flStart_regsWf (d0) (x1) (x2) : d0.regsWf → (Dev.flStart d0 x1 x2).regsWf := by
  intros; unfold Dev.flStart; grind [Dev.regsWf, foldl_regsWf, Dev_setFld_regsWf, Dev_setBit_regsWf,
      Dev_modSys_regsWf]
theorem effFlProgram_regsWf (x0) (d1) : d1.regsWf → (effFlProgram x0 d1).regsWf := by
  intros; unfold effFlProgram; grind [Dev.regsWf, foldl_regsWf, Dev_flCommand_regsWf, Dev_flWrites_regsWf,
      Dev_flStart_regsWf]
theorem Dev_deviceReset_regsWf (d0) (x1) : d0.regsWf → (Dev.deviceReset d0 x1).regsWf := by
  intro h; unfold Dev.deviceReset; dsimp only
  refine Dev_emit_regsWf _ _ (Dev_setBit_regsWf _ _ _ _ (Dev_wrNat_regsWf _ _ _ (foldl_regsWf _ _ (fun e a he =>
      Dev_wr_regsWf _ _ _ he) _ ?_)))
  exact Map.nil_wf _
theorem effResetLow_regsWf (d0) : d0.regsWf → (effResetLow d0).regsWf := by
  intros; unfold effResetLow; grind [Dev.regsWf, foldl_regsWf, Dev_deviceReset_regsWf, Dev_modSys_regsWf]
theorem Dev_bankRuns_regsWf (d0) (x1) (x2) : d0.regsWf → (Dev.bankRuns d0 x1 x2).regsWf := by
  intros; unfold Dev.bankRuns; grind [Dev.regsWf, foldl_regsWf, Dev_setBit_regsWf, Dev_modSys_regsWf]
theorem Dev_bankFailed_regsWf (d0) (x1) (x2) : d0.regsWf → (Dev.bankFailed d0 x1 x2).regsWf := by
  intros; unfold Dev.bankFailed; grind [Dev.regsWf, foldl_regsWf, Dev_wrNat_regsWf]
theorem Dev_tryBanks_regsWf (d0) (x1) (x2) (x3) : d0.regsWf → (Dev.tryBanks d0 x1 x2 x3).regsWf := by
  intros; unfold Dev.tryBanks; grind [Dev.regsWf, foldl_regsWf, Dev_bankRuns_regsWf, Dev_bankFailed_regsWf,
      Dev_setBit_regsWf, Dev_setStage_regsWf]
theorem Dev_load_regsWf (d0) (x1) (x2) : d0.regsWf → (Dev.load d0 x1 x2).regsWf := by
  intros; unfold Dev.load; grind [Dev.regsWf, foldl_regsWf, Dev_refreshFaultN_regsWf, Dev_setStage_regsWf,
      Dev_wrNat_regsWf, Dev_setBit_regsWf, Dev_tryBanks_regsWf]
theorem effSupplyBack_regsWf (d0) : d0.regsWf → (effSupplyBack d0).regsWf := by
  intros; unfold effSupplyBack; grind [Dev.regsWf, foldl_regsWf, Dev_emit_regsWf, Dev_modSys_regsWf, Dev_load_regsWf]
theorem Dev_resetAndLoad_regsWf (d0) (x1) : d0.regsWf → (Dev.resetAndLoad d0 x1).regsWf := by
  intros; unfold Dev.resetAndLoad; grind [Dev.regsWf, foldl_regsWf, Dev_deviceReset_regsWf, Dev_load_regsWf]
theorem effRestart_regsWf (x0) (d1) : d1.regsWf → (effRestart x0 d1).regsWf := by
  intros; unfold effRestart; grind [Dev.regsWf, foldl_regsWf, Dev_startFlush_regsWf, Dev_resetAndLoad_regsWf,
      Dev_asCust_regsWf]
theorem Dev_setFlBuffer_regsWf (d0) (x1) : d0.regsWf → (Dev.setFlBuffer d0 x1).regsWf := by
  intros; unfold Dev.setFlBuffer; grind [Dev.regsWf, foldl_regsWf, forRange_regsWf, Dev_wrNat_regsWf]
theorem Dev_flChecked_regsWf (d0) (x1) (x2) : d0.regsWf → (Dev.flChecked d0 x1 x2).regsWf := by
  intros; unfold Dev.flChecked; grind [Dev.regsWf, foldl_regsWf, Dev_wrNat_regsWf, Dev_setBit_regsWf, Dev_wr_regsWf,
      Dev_modSys_regsWf, Dev_bankFailed_regsWf]
theorem Dev_dirNew_regsWf (d0) : d0.regsWf → (Dev.dirNew d0).2.regsWf := by
  intros; unfold Dev.dirNew; grind [Dev.regsWf, foldl_regsWf, Dev_freeBytes_regsWf]
theorem Dev_flPerform_regsWf (d0) (x1) : d0.regsWf → (Dev.flPerform d0 x1).regsWf := by
  intros; unfold Dev.flPerform; grind [Dev.regsWf, foldl_regsWf, Dev_flashErase_regsWf, Dev_flashProgram_regsWf,
      Dev_setFlBuffer_regsWf, Dev_flChecked_regsWf, Dev_dirNew_regsWf, Dev_setBit_regsWf]
theorem Dev_fallbackFault_regsWf (d0) : d0.regsWf → (Dev.fallbackFault d0).regsWf := by
  intros; unfold Dev.fallbackFault; grind [Dev.regsWf, foldl_regsWf, Dev_raise_regsWf]
theorem startTb_regsWf (x0) (d1) : d1.regsWf → (startTb x0 d1).regsWf := by
  intros; unfold startTb; grind [Dev.regsWf, foldl_regsWf, Dev_setTb_regsWf, Dev_setFld_regsWf, Dev_setBit_regsWf]
theorem startGate_regsWf (x0) (d1) : d1.regsWf → (startGate x0 d1).regsWf := by
  intros; unfold startGate; grind [Dev.regsWf, foldl_regsWf, Dev_setBit_regsWf]
theorem startRef_regsWf (x0) (d1) : d1.regsWf → (startRef x0 d1).regsWf := by
  intros; unfold startRef; grind [Dev.regsWf, foldl_regsWf, Dev_refTo_regsWf]
theorem startOsyn_regsWf (x0) (d1) : d1.regsWf → (startOsyn x0 d1).regsWf := by
  intros; unfold startOsyn; grind [Dev.regsWf, foldl_regsWf, Dev_wrNat_regsWf, osynStop_regsWf]
theorem Dev_startOwn_regsWf (d0) : d0.regsWf → (Dev.startOwn d0).regsWf := by
  intros; unfold Dev.startOwn; grind [Dev.regsWf, foldl_regsWf, Dev_setBit_regsWf, Dev_setFld_regsWf]
theorem Dev_startPosition_regsWf (d0) : d0.regsWf → (Dev.startPosition d0).regsWf := by
  intros; unfold Dev.startPosition; grind [Dev.regsWf, foldl_regsWf, Dev_wr_regsWf, Dev_setFld_regsWf]
theorem portFix_regsWf (x0) (d1) : d1.regsWf → (portFix x0 d1).regsWf := by
  intros; unfold portFix; grind [Dev.regsWf, foldl_regsWf, Dev_wr_regsWf]
theorem Dev_startBlocks_regsWf (d0) : d0.regsWf → (Dev.startBlocks d0).regsWf := by
  intros; unfold Dev.startBlocks; grind [Dev.regsWf, foldl_regsWf, Dev_setBit_regsWf, forRange_regsWf, startTb_regsWf,
      Dev_modClk_regsWf, startGate_regsWf, startRef_regsWf, startOsyn_regsWf, Dev_startOwn_regsWf,
      Dev_startPosition_regsWf, ptpShowAll_regsWf, Dev_saAll_regsWf, Dev_rootCheck_regsWf, Dev_faultUpdate_regsWf,
      ppsIdle_regsWf, portFix_regsWf, clkShow_regsWf]
theorem Dev_showImage_regsWf (d0) (x1) : d0.regsWf → (Dev.showImage d0 x1).regsWf := by
  intros; unfold Dev.showImage; grind [Dev.regsWf, foldl_regsWf, Dev_wrNat64_regsWf, Dev_wrNat_regsWf]
theorem Dev_loadImage_regsWf (d0) (x1) (x2) : d0.regsWf → (Dev.loadImage d0 x1 x2).regsWf := by
  intros; unfold Dev.loadImage; grind [Dev.regsWf, foldl_regsWf, Dev_imgRegs_regsWf, Dev_modSys_regsWf,
      Dev_modGnss_regsWf, Dev_wrNat_regsWf, Dev_showImage_regsWf, Dev_setBit_regsWf]
theorem Dev_takeImage_regsWf (d0) (x1) (x2) : d0.regsWf → (Dev.takeImage d0 x1 x2).regsWf := by
  intros; unfold Dev.takeImage; grind [Dev.regsWf, foldl_regsWf, Dev_modSys_regsWf, Dev_loadImage_regsWf]
theorem effApply_regsWf (x0) (d1) : d1.regsWf → (effApply x0 d1).regsWf := by
  intros; unfold effApply; grind [Dev.regsWf, foldl_regsWf, Dev_setStage_regsWf, Dev_refreshFaultN_regsWf,
      Dev_fallbackFault_regsWf, Dev_startBlocks_regsWf, Dev_loadKeys_regsWf, Dev_emit_regsWf, Dev_recOpen_regsWf,
      Dev_takeImage_regsWf]
theorem effFlRead_regsWf (x0) (d1) : d1.regsWf → (effFlRead x0 d1).regsWf := by
  intros; unfold effFlRead; grind [Dev.regsWf, foldl_regsWf, Dev_flCommand_regsWf, Dev_flStart_regsWf]
theorem effPowerOn_regsWf (d0) : d0.regsWf → (effPowerOn d0).regsWf := by
  intros; unfold effPowerOn; grind [Dev.regsWf, foldl_regsWf, Dev_deviceReset_regsWf, Dev_modSys_regsWf]
theorem effSupplyLow_regsWf (d0) : d0.regsWf → (effSupplyLow d0).regsWf := by
  intros; unfold effSupplyLow; grind [Dev.regsWf, foldl_regsWf, Dev_emit_regsWf, Dev_deviceReset_regsWf,
      Dev_modSys_regsWf]
theorem effResetRise_regsWf (x0) (d1) : d1.regsWf → (effResetRise x0 d1).regsWf := by
  intros; unfold effResetRise; grind [Dev.regsWf, foldl_regsWf, Dev_modSys_regsWf, Dev_wrNat_regsWf, Dev_load_regsWf]
theorem Dev_flFailed_regsWf (d0) (x1) : d0.regsWf → (Dev.flFailed d0 x1).regsWf := by
  intros; unfold Dev.flFailed; grind [Dev.regsWf, foldl_regsWf, Dev_freeBytes_regsWf, Dev_setFlBuffer_regsWf,
      Dev_flChecked_regsWf, Dev_flTorn_regsWf]
theorem effFlCheck_regsWf (x0) (d1) : d1.regsWf → (effFlCheck x0 d1).regsWf := by
  intros; unfold effFlCheck; grind [Dev.regsWf, foldl_regsWf, Dev_flCommand_regsWf, Dev_flStart_regsWf]
theorem effFlActivate_regsWf (x0) (d1) : d1.regsWf → (effFlActivate x0 d1).regsWf := by
  intros; unfold effFlActivate; grind [Dev.regsWf, foldl_regsWf, Dev_flCommand_regsWf, Dev_flStart_regsWf]
theorem effFlErase_regsWf (x0) (d1) : d1.regsWf → (effFlErase x0 d1).regsWf := by
  intros; unfold effFlErase; grind [Dev.regsWf, foldl_regsWf, Dev_flCommand_regsWf, Dev_flWrites_regsWf,
      Dev_flStart_regsWf]
theorem effFlDone_regsWf (x0) (d1) : d1.regsWf → (effFlDone x0 d1).regsWf := by
  intros; unfold effFlDone; grind [Dev.regsWf, foldl_regsWf, Dev_modSys_regsWf, Dev_flFailed_regsWf,
      Dev_flPerform_regsWf, Dev_setFld_regsWf, Dev_setBit_regsWf]
theorem Dev_modFlt_regsWf (d0) (x1) : d0.regsWf → (Dev.modFlt d0 x1).regsWf := by
  intros; unfold Dev.modFlt; grind [Dev.regsWf, foldl_regsWf]
theorem effPfwOn_regsWf (d0) : d0.regsWf → (effPfwOn d0).regsWf := by
  intros; unfold effPfwOn; grind [Dev.regsWf, foldl_regsWf, Dev_startFlush_regsWf, Dev_faultUpdate_regsWf,
      Dev_raiseLevel_regsWf, Dev_setBit_regsWf, Dev_modFlt_regsWf]
theorem effPendClear_regsWf (x0) (x1) (x2) (d3) : d3.regsWf → (effPendClear x0 x1 x2 d3).regsWf := by
  intros; unfold effPendClear; grind [Dev.regsWf, foldl_regsWf, Dev_asCust_regsWf, Dev_refreshFaultN_regsWf,
      Dev_wr_regsWf]
theorem Dev_zeroRange_regsWf (d0) (x1) (x2) : d0.regsWf → (Dev.zeroRange d0 x1 x2).regsWf := by
  intro h; exact ⟨h.1.sublist List.filter_sublist, fun p hp => h.2 p (List.mem_filter.1 hp).1⟩
theorem Dev_resetGnss_regsWf (d0) : d0.regsWf → (Dev.resetGnss d0).regsWf := by
  intros; unfold Dev.resetGnss; grind [Dev.regsWf, foldl_regsWf, Dev_chRelease_regsWf, Dev_acquire_regsWf,
      Dev_zeroRange_regsWf, Dev_modGnss_regsWf]
theorem effKat_regsWf (x0) (x1) (d2) : d2.regsWf → (effKat x0 x1 d2).regsWf := by
  intros; unfold effKat; grind [Dev.regsWf, foldl_regsWf, forRange_regsWf, Dev_raise_regsWf]
theorem resetLoop_regsWf (x0) (d1) : d1.regsWf → (resetLoop x0 d1).regsWf := by
  intros; unfold resetLoop; grind [Dev.regsWf, foldl_regsWf, Dev_restartAt_regsWf, Dev_setSrv_regsWf]
theorem Dev_resetPe_regsWf (d0) : d0.regsWf → (Dev.resetPe d0).regsWf := by
  intros; unfold Dev.resetPe; grind [Dev.regsWf, foldl_regsWf, Dev_bump_regsWf, Dev_headAdvance_regsWf,
      forRange_regsWf, Dev_modPort_regsWf, Dev_queueShow_regsWf]
theorem Dev_resetKs_regsWf (d0) : d0.regsWf → (Dev.resetKs d0).regsWf := by
  intros; unfold Dev.resetKs; grind [Dev.regsWf, foldl_regsWf, Dev_deriveWindow_regsWf, Dev_saAll_regsWf,
      Dev_rootCheck_regsWf, Dev_readSlots_regsWf, Dev_clearWkr_regsWf]
theorem Dev_resetPair_regsWf (d0) : d0.regsWf → (Dev.resetPair d0).regsWf := by
  intros; unfold Dev.resetPair; grind [Dev.regsWf, foldl_regsWf, Dev_modPair_regsWf, forRange_regsWf,
      effLockLoss_regsWf]
theorem Dev_resetRec_regsWf (d0) : d0.regsWf → (Dev.resetRec d0).regsWf := by
  intros; unfold Dev.resetRec; grind [Dev.regsWf, foldl_regsWf, Dev_recShow_regsWf, Dev_modRec_regsWf]
theorem Dev_resetTarget_regsWf (d0) (x1) : d0.regsWf → (Dev.resetTarget d0 x1).regsWf := by
  intros; unfold Dev.resetTarget; grind [Dev.regsWf, foldl_regsWf, resetLoop_regsWf, Dev_resetGnss_regsWf,
      Dev_calShow_regsWf, Dev_wr_regsWf, Dev_modGnss_regsWf, Dev_modPort_regsWf, Dev_resetPe_regsWf,
      Dev_resetKs_regsWf, Dev_resetPair_regsWf, Dev_resetRec_regsWf, Dev_zeroRange_regsWf]
theorem Dev_replay_regsWf (d0) (x1) : d0.regsWf → (Dev.replay d0 x1).regsWf := by
  intros; unfold Dev.replay; grind [Dev.regsWf, foldl_regsWf, Dev_imgWrite_regsWf]
theorem Dev_pendingRestart_regsWf (d0) : d0.regsWf → (Dev.pendingRestart d0).regsWf := by
  intros; unfold Dev.pendingRestart; grind [Dev.regsWf, foldl_regsWf, Dev_resetAndLoad_regsWf]
theorem effBlkDone_regsWf (x0) (x1) (d2) : d2.regsWf → (effBlkDone x0 x1 d2).regsWf := by
  intros; unfold effBlkDone; grind [Dev.regsWf, foldl_regsWf, Dev_resetTarget_regsWf, Dev_replay_regsWf,
      Dev_modFlt_regsWf, Dev_setBit_regsWf, Dev_raise_regsWf, Dev_pendingRestart_regsWf]
theorem effCorrected_regsWf (x0) (d1) : d1.regsWf → (effCorrected x0 d1).regsWf := by
  intros; unfold effCorrected; grind [Dev.regsWf, foldl_regsWf, Dev_pmc_regsWf, Dev_modFlt_regsWf, Dev_bump_regsWf,
      Dev_raise_regsWf]
theorem effInfoLatch_regsWf (x0) (x1) (d2) : d2.regsWf → (effInfoLatch x0 x1 d2).regsWf := by
  intros; unfold effInfoLatch; grind [Dev.regsWf, foldl_regsWf, Dev_emit_regsWf, Dev_latchRegs_regsWf]
theorem effInject_regsWf (x0) (x1) (d2) : d2.regsWf → (effInject x0 x1 d2).regsWf := by
  intros; unfold effInject; grind [Dev.regsWf, foldl_regsWf, Dev_raise_regsWf, Dev_asCust_regsWf]
theorem effFlushEnd_regsWf (x0) (d1) : d1.regsWf → (effFlushEnd x0 d1).regsWf := by
  intros; unfold effFlushEnd; grind [Dev.regsWf, foldl_regsWf, Dev_pendingRestart_regsWf, effFlushDone_regsWf]
theorem effFault_regsWf (x0) (x1) (x2) (d3) : d3.regsWf → (effFault x0 x1 x2 d3).regsWf := by
  intros; unfold effFault; grind [Dev.regsWf, foldl_regsWf, Dev_endLevel_regsWf, Dev_raiseLevel_regsWf,
      Dev_raise_regsWf]
theorem effPfwOff_regsWf (d0) : d0.regsWf → (effPfwOff d0).regsWf := by
  intros; unfold effPfwOff; grind [Dev.regsWf, foldl_regsWf, Dev_faultUpdate_regsWf, Dev_endLevel_regsWf,
      Dev_setBit_regsWf, Dev_modFlt_regsWf]
theorem effWatchdog_regsWf (d0) : d0.regsWf → (effWatchdog d0).regsWf := by
  intros; unfold effWatchdog; grind [Dev.regsWf, foldl_regsWf, Dev_raise_regsWf]
theorem effChipReset_regsWf (d0) : d0.regsWf → (effChipReset d0).regsWf := by
  intros; unfold effChipReset; grind [Dev.regsWf, foldl_regsWf, Dev_resetAndLoad_regsWf]
theorem effPfwRestart_regsWf (d0) : d0.regsWf → (effPfwRestart d0).regsWf := by
  intros; unfold effPfwRestart; grind [Dev.regsWf, foldl_regsWf, Dev_chRelease_regsWf, Dev_setBit_regsWf,
      Dev_modGnss_regsWf, Dev_modFlt_regsWf]
theorem effPfwStop_regsWf (d0) : d0.regsWf → (effPfwStop d0).regsWf := by
  intros; unfold effPfwStop; grind [Dev.regsWf, foldl_regsWf, forRange_regsWf, effLockLoss_regsWf,
      Dev_linkLost_regsWf, Dev_modFlt_regsWf]
theorem effPmcRun_regsWf (x0) (x1) (d2) : d2.regsWf → (effPmcRun x0 x1 d2).regsWf := by
  intros; unfold effPmcRun; grind [Dev.regsWf, foldl_regsWf, Dev_asCust_regsWf, Dev_setBit_regsWf]
theorem effPmcWrap_regsWf (x0) (d1) : d1.regsWf → (effPmcWrap x0 d1).regsWf := by
  intros; unfold effPmcWrap; grind [Dev.regsWf, foldl_regsWf, Dev_setBit_regsWf, Dev_wrNat64_regsWf]
theorem effPmcLatch_regsWf (x0) (x1) (d2) : d2.regsWf → (effPmcLatch x0 x1 d2).regsWf := by
  intros; unfold effPmcLatch; grind [Dev.regsWf, foldl_regsWf, Dev_emit_regsWf, Dev_latchWord_regsWf]
theorem effPmcClear_regsWf (x0) (d1) : d1.regsWf → (effPmcClear x0 d1).regsWf := by
  intros; unfold effPmcClear; grind [Dev.regsWf, foldl_regsWf, Dev_asCust_regsWf, forRange_regsWf, Dev_wrNat64_regsWf]
theorem effPmcSnap_regsWf (x0) (d1) : d1.regsWf → (effPmcSnap x0 d1).regsWf := by
  intros; unfold effPmcSnap; grind [Dev.regsWf, foldl_regsWf, Dev_asCust_regsWf, forRange_regsWf, Dev_wr_regsWf]
theorem effSample_regsWf (x0) (d1) : d1.regsWf → (effSample x0 d1).regsWf := by
  intros; unfold effSample; grind [Dev.regsWf, foldl_regsWf, Dev_ringOffer_regsWf, Dev_bumpWrap_regsWf,
      forRange_regsWf, Dev_wrNat_regsWf, Dev_setBit_regsWf, Dev_setFld_regsWf]
theorem effSampReset_regsWf (x0) (d1) : d1.regsWf → (effSampReset x0 d1).regsWf := by
  intros; unfold effSampReset; grind [Dev.regsWf, foldl_regsWf, Dev_asCust_regsWf, Dev_wr_regsWf]
theorem Dev_store_regsWf (d0) (x1) (x2) (x3) : d0.regsWf → (Dev.store d0 x1 x2 x3).regsWf := by
  intros; unfold Dev.store; grind [Dev.regsWf, foldl_regsWf, Dev_wr_regsWf]
theorem effFlCmd_regsWf (x0) (x1) (d2) : d2.regsWf → (effFlCmd x0 x1 d2).regsWf := by
  intros; unfold effFlCmd; grind [Dev.regsWf, foldl_regsWf, effFlErase_regsWf, effFlProgram_regsWf, effFlRead_regsWf,
      effFlCheck_regsWf, effFlActivate_regsWf, Dev_flCommand_regsWf]
theorem effUnlockDur_regsWf (x0) (x1) (d2) : d2.regsWf → (effUnlockDur x0 x1 d2).regsWf := by
  intros; unfold effUnlockDur; grind [Dev.regsWf, foldl_regsWf, Dev_asAny_regsWf, Dev_wrNat_regsWf]
theorem effIstat_regsWf (x0) (x1) (d2) : d2.regsWf → (effIstat x0 x1 d2).regsWf := by
  intros; unfold effIstat; grind [Dev.regsWf, foldl_regsWf, Dev_asAny_regsWf, Dev_wr_regsWf]
theorem effIvec_regsWf (x0) (x1) (x2) (d3) : d3.regsWf → (effIvec x0 x1 x2 d3).regsWf := by
  intros; unfold effIvec; grind [Dev.regsWf, foldl_regsWf, Dev_asCust_regsWf, Dev_msixRises_regsWf, Dev_wr_regsWf]
theorem effIen_regsWf (x0) (x1) (d2) : d2.regsWf → (effIen x0 x1 d2).regsWf := by
  intros; unfold effIen; grind [Dev.regsWf, foldl_regsWf, Dev_asAny_regsWf, Dev_msixRises_regsWf, Dev_wr_regsWf]
theorem keeps_first {β : Type} (l : List (Nat → Option β)) (P : β → Prop) (h : ∀ t ∈ l, ∀ a f, t a = some f → P f) (a
    : Nat) (f : β)
    (hf : firstOf l a = some f) : P f := by
  induction l with
  | nil => simp [firstOf] at hf
  | cons t r ih =>
    simp only [firstOf] at hf
    split at hf
    · next x hx => exact h t (by simp) a f (by rw [hx, hf])
    · exact ih (fun t ht => h t (by simp [ht])) hf
abbrev KeepsWf (f : WriteFn) : Prop := ∀ p v d, d.regsWf → (f p v d).regsWf
abbrev RowKeepsWf (t : Nat → Option WriteFn) : Prop := ∀ a f, t a = some f → KeepsWf f
theorem arr_keeps (r : Nat → Nat) (c : Nat) (f : Nat → WriteFn) (h : ∀ n, KeepsWf (f n)) : RowKeepsWf (arr r c f) :=
    by
  intro a g hg; simp only [arr, Option.map_eq_some_iff] at hg; obtain ⟨n, _, rfl⟩ := hg; exact h n
theorem one_keeps (r : Nat) (f : WriteFn) (h : KeepsWf f) : RowKeepsWf (one r f) := by
  intro a g hg; simp only [one, Option.ite_none_right_eq_some, Option.some.injEq] at hg; obtain ⟨_, rfl⟩ := hg; exact
      h
theorem cmdBits_keeps (fs : List (Nat × (Port → Dev → Dev))) (h : ∀ f ∈ fs, ∀ p d, d.regsWf → (f.2 p d).regsWf) :
    KeepsWf (cmdBits fs) := by
  intro p v d hd; unfold cmdBits
  induction fs generalizing d with
  | nil => exact hd
  | cons f r ih =>
    refine ih (fun g hg => h g (by simp [hg])) _ ?_
    dsimp only; split
    · exact h f (by simp) _ _ hd
    · exact hd
theorem custBits_keeps (fs : List (Nat × (Port → Dev → Dev))) (h : ∀ f ∈ fs, ∀ p d, d.regsWf → (f.2 p d).regsWf) :
    KeepsWf (custBits fs) := by
  intro p v d hd; exact Dev_asCust_regsWf _ _ _ hd (cmdBits_keeps fs h p v)
theorem ringAddr_keeps (r : Nat → Nat) (m : Word) (k : Nat) : KeepsWf (ringAddr r m k) := by
  intro p v d hd
  refine Dev_asCust_regsWf _ _ _ hd (fun d hd => ?_)
  split
  · exact hd
  · exact Dev_wr_regsWf _ _ _ hd
theorem ranged_keeps (a lo hi mask : Nat) : KeepsWf (ranged a lo hi mask) := by
  intro p v d hd
  refine Dev_asCust_regsWf _ _ _ hd (fun d hd => ?_)
  split
  · exact Dev_wrNat_regsWf _ _ _ hd
  · exact hd
theorem tbWrites_keep : ∀ t ∈ tbWrites, RowKeepsWf t := by
  simp only [tbWrites, List.forall_mem_cons]
  refine ⟨arr_keeps _ _ _ fun n => ?_, arr_keeps _ _ _ fun n => ?_, arr_keeps _ _ _ fun n => ?_, arr_keeps _ _ _ fun n
      => ?_, arr_keeps _ _ _ fun n => ?_, arr_keeps _ _ _ fun n => ?_, arr_keeps _ _ _ fun n => ?_, arr_keeps _ _ _
      fun n => ?_, arr_keeps _ _ _ fun n => ?_, arr_keeps _ _ _ fun n => ?_, arr_keeps _ _ _ fun n => ?_, arr_keeps _
      _ _ fun n => ?_, one_keeps _ _ ?_, List.forall_mem_nil _⟩
  all_goals first
    | (refine custBits_keeps _ ?_; simp only [List.forall_mem_cons]; refine ⟨?_, List.forall_mem_nil _⟩; all_goals
        (intro p d hd; grind [Dev_asCust_regsWf, Dev_asWriter_regsWf, Dev_wr_regsWf, Dev_wrNat_regsWf,
        effBincCommit_regsWf, effBincHi_regsWf, effIncCommit_regsWf, effIncHi_regsWf, effLeapCtl_regsWf,
        effLeapHold_regsWf, effPabort_regsWf, effPadjCommit_regsWf, effPslope_regsWf, effSetArm_regsWf,
        effSnap_regsWf]))
    | (refine custBits_keeps _ ?_; simp only [List.forall_mem_cons]; refine ⟨?_, ?_, List.forall_mem_nil _⟩; all_goals
        (intro p d hd; grind [Dev_asCust_regsWf, Dev_asWriter_regsWf, Dev_wr_regsWf, Dev_wrNat_regsWf,
        effBincCommit_regsWf, effBincHi_regsWf, effIncCommit_regsWf, effIncHi_regsWf, effLeapCtl_regsWf,
        effLeapHold_regsWf, effPabort_regsWf, effPadjCommit_regsWf, effPslope_regsWf, effSetArm_regsWf,
        effSnap_regsWf]))
    | (refine custBits_keeps _ ?_; simp only [List.forall_mem_cons]; refine ⟨?_, ?_, ?_, List.forall_mem_nil _⟩;
        all_goals (intro p d hd; grind [Dev_asCust_regsWf, Dev_asWriter_regsWf, Dev_wr_regsWf, Dev_wrNat_regsWf,
        effBincCommit_regsWf, effBincHi_regsWf, effIncCommit_regsWf, effIncHi_regsWf, effLeapCtl_regsWf,
        effLeapHold_regsWf, effPabort_regsWf, effPadjCommit_regsWf, effPslope_regsWf, effSetArm_regsWf,
        effSnap_regsWf]))
    | (refine custBits_keeps _ ?_; simp only [List.forall_mem_cons]; refine ⟨?_, ?_, ?_, ?_, List.forall_mem_nil _⟩;
        all_goals (intro p d hd; grind [Dev_asCust_regsWf, Dev_asWriter_regsWf, Dev_wr_regsWf, Dev_wrNat_regsWf,
        effBincCommit_regsWf, effBincHi_regsWf, effIncCommit_regsWf, effIncHi_regsWf, effLeapCtl_regsWf,
        effLeapHold_regsWf, effPabort_regsWf, effPadjCommit_regsWf, effPslope_regsWf, effSetArm_regsWf,
        effSnap_regsWf]))
    | (refine cmdBits_keeps _ ?_; simp only [List.forall_mem_cons]; refine ⟨?_, ?_, ?_, List.forall_mem_nil _⟩;
        all_goals (intro p d hd; grind [Dev_asCust_regsWf, Dev_asWriter_regsWf, Dev_wr_regsWf, Dev_wrNat_regsWf,
        effBincCommit_regsWf, effBincHi_regsWf, effIncCommit_regsWf, effIncHi_regsWf, effLeapCtl_regsWf,
        effLeapHold_regsWf, effPabort_regsWf, effPadjCommit_regsWf, effPslope_regsWf, effSetArm_regsWf,
        effSnap_regsWf]))
    | (intro p v d hd; grind [Dev_asCust_regsWf, Dev_asWriter_regsWf, Dev_wr_regsWf, Dev_wrNat_regsWf,
        effBincCommit_regsWf, effBincHi_regsWf, effIncCommit_regsWf, effIncHi_regsWf, effLeapCtl_regsWf,
        effLeapHold_regsWf, effPabort_regsWf, effPadjCommit_regsWf, effPslope_regsWf, effSetArm_regsWf,
        effSnap_regsWf])
theorem eioWrites_keep : ∀ t ∈ eioWrites, RowKeepsWf t := by
  simp only [eioWrites, List.forall_mem_cons]
  refine ⟨arr_keeps _ _ _ fun n => ?_, arr_keeps _ _ _ fun n => ?_, arr_keeps _ _ _ fun n => ?_, arr_keeps _ _ _ fun n
      => ?_, arr_keeps _ _ _ fun n => ?_, arr_keeps _ _ _ fun n => ?_, arr_keeps _ _ _ fun n => ?_, arr_keeps _ _ _
      fun n => ?_, arr_keeps _ _ _ fun n => ?_, arr_keeps _ _ _ fun n => ?_, List.forall_mem_nil _⟩
  all_goals first
    | (refine custBits_keeps _ ?_; simp only [List.forall_mem_cons]; refine ⟨?_, List.forall_mem_nil _⟩; all_goals
        (intro p d hd; grind [Dev_asCust_regsWf, Dev_wr_regsWf, Dev_wrNat_regsWf, effEioArm_regsWf, effEioCfg_regsWf,
        effEioDisarm_regsWf, effEioPop_regsWf, effEioSchedule_regsWf, effEioStuckWrite_regsWf]))
    | (refine custBits_keeps _ ?_; simp only [List.forall_mem_cons]; refine ⟨?_, ?_, List.forall_mem_nil _⟩; all_goals
        (intro p d hd; grind [Dev_asCust_regsWf, Dev_wr_regsWf, Dev_wrNat_regsWf, effEioArm_regsWf, effEioCfg_regsWf,
        effEioDisarm_regsWf, effEioPop_regsWf, effEioSchedule_regsWf, effEioStuckWrite_regsWf]))
    | (refine custBits_keeps _ ?_; simp only [List.forall_mem_cons]; refine ⟨?_, ?_, ?_, List.forall_mem_nil _⟩;
        all_goals (intro p d hd; grind [Dev_asCust_regsWf, Dev_wr_regsWf, Dev_wrNat_regsWf, effEioArm_regsWf,
        effEioCfg_regsWf, effEioDisarm_regsWf, effEioPop_regsWf, effEioSchedule_regsWf, effEioStuckWrite_regsWf]))
    | (refine custBits_keeps _ ?_; simp only [List.forall_mem_cons]; refine ⟨?_, ?_, ?_, ?_, List.forall_mem_nil _⟩;
        all_goals (intro p d hd; grind [Dev_asCust_regsWf, Dev_wr_regsWf, Dev_wrNat_regsWf, effEioArm_regsWf,
        effEioCfg_regsWf, effEioDisarm_regsWf, effEioPop_regsWf, effEioSchedule_regsWf, effEioStuckWrite_regsWf]))
    | (refine cmdBits_keeps _ ?_; simp only [List.forall_mem_cons]; refine ⟨?_, ?_, ?_, List.forall_mem_nil _⟩;
        all_goals (intro p d hd; grind [Dev_asCust_regsWf, Dev_wr_regsWf, Dev_wrNat_regsWf, effEioArm_regsWf,
        effEioCfg_regsWf, effEioDisarm_regsWf, effEioPop_regsWf, effEioSchedule_regsWf, effEioStuckWrite_regsWf]))
    | (intro p v d hd; grind [Dev_asCust_regsWf, Dev_wr_regsWf, Dev_wrNat_regsWf, effEioArm_regsWf, effEioCfg_regsWf,
        effEioDisarm_regsWf, effEioPop_regsWf, effEioSchedule_regsWf, effEioStuckWrite_regsWf])
theorem tsuWrites_keep : ∀ t ∈ tsuWrites, RowKeepsWf t := by
  simp only [tsuWrites, List.forall_mem_cons]
  refine ⟨arr_keeps _ _ _ fun n => ?_, arr_keeps _ _ _ fun n => ?_, arr_keeps _ _ _ fun n => ?_, arr_keeps _ _ _ fun n
      => ?_, arr_keeps _ _ _ fun n => ?_, one_keeps _ _ ?_, List.forall_mem_nil _⟩
  all_goals first
    | (refine custBits_keeps _ ?_; simp only [List.forall_mem_cons]; refine ⟨?_, List.forall_mem_nil _⟩; all_goals
        (intro p d hd; grind [Dev_asCust_regsWf, Dev_wr_regsWf, Dev_wrNat_regsWf, effPpsWrite_regsWf,
        effTsuCfg_regsWf]))
    | (refine custBits_keeps _ ?_; simp only [List.forall_mem_cons]; refine ⟨?_, ?_, List.forall_mem_nil _⟩; all_goals
        (intro p d hd; grind [Dev_asCust_regsWf, Dev_wr_regsWf, Dev_wrNat_regsWf, effPpsWrite_regsWf,
        effTsuCfg_regsWf]))
    | (refine custBits_keeps _ ?_; simp only [List.forall_mem_cons]; refine ⟨?_, ?_, ?_, List.forall_mem_nil _⟩;
        all_goals (intro p d hd; grind [Dev_asCust_regsWf, Dev_wr_regsWf, Dev_wrNat_regsWf, effPpsWrite_regsWf,
        effTsuCfg_regsWf]))
    | (refine custBits_keeps _ ?_; simp only [List.forall_mem_cons]; refine ⟨?_, ?_, ?_, ?_, List.forall_mem_nil _⟩;
        all_goals (intro p d hd; grind [Dev_asCust_regsWf, Dev_wr_regsWf, Dev_wrNat_regsWf, effPpsWrite_regsWf,
        effTsuCfg_regsWf]))
    | (refine cmdBits_keeps _ ?_; simp only [List.forall_mem_cons]; refine ⟨?_, ?_, ?_, List.forall_mem_nil _⟩;
        all_goals (intro p d hd; grind [Dev_asCust_regsWf, Dev_wr_regsWf, Dev_wrNat_regsWf, effPpsWrite_regsWf,
        effTsuCfg_regsWf]))
    | (intro p v d hd; grind [Dev_asCust_regsWf, Dev_wr_regsWf, Dev_wrNat_regsWf, effPpsWrite_regsWf,
        effTsuCfg_regsWf, ranged])
theorem timingWrites_keep : ∀ t ∈ timingWrites, RowKeepsWf t := by
  simp only [timingWrites, List.forall_mem_cons]
  refine ⟨one_keeps _ _ ?_, arr_keeps _ _ _ fun n => ?_, arr_keeps _ _ _ fun n => ?_, arr_keeps _ _ _ fun n => ?_,
      one_keeps _ _ ?_, one_keeps _ _ ?_, one_keeps _ _ ?_, one_keeps _ _ ?_, one_keeps _ _ ?_, one_keeps _ _ ?_,
      one_keeps _ _ ?_, one_keeps _ _ ?_, one_keeps _ _ ?_, one_keeps _ _ ?_, List.forall_mem_nil _⟩
  all_goals intro p v d hd
  · exact effLockout_regsWf _ _ _ hd
  · exact effForce_regsWf _ _ _ _ hd
  · exact effAccept_regsWf _ _ _ _ hd
  · exact effSrvCtl_regsWf _ _ _ _ hd
  · exact effExcl_regsWf _ _ _ _ hd
  · exact effExcl_regsWf _ _ _ _ hd
  · exact effExcl_regsWf _ _ _ _ hd
  · exact effExcl_regsWf _ _ _ _ hd
  · exact effExcl_regsWf _ _ _ _ hd
  · exact effExcl_regsWf _ _ _ _ hd
  · exact effFeGo_regsWf _ _ _ hd
  · exact effNavRd_regsWf _ _ _ hd
  · exact effSweepCmd_regsWf _ _ _ hd
  · exact effResurvey_regsWf _ _ _ hd
theorem netWrites_keep : ∀ t ∈ netWrites, RowKeepsWf t := by
  simp only [netWrites, List.forall_mem_cons]
  refine ⟨arr_keeps _ _ _ fun n => ?_, arr_keeps _ _ _ fun n => ?_, arr_keeps _ _ _ fun n => ringAddr_keeps _ _ _,
    arr_keeps _ _ _ fun n => ringAddr_keeps _ _ _, arr_keeps _ _ _ fun n => ringAddr_keeps _ _ _,
    arr_keeps _ _ _ fun n => ringAddr_keeps _ _ _, arr_keeps _ _ _ fun n p v d hd => effTail_regsWf _ _ _ _ hd,
    arr_keeps _ _ _ fun n => ranged_keeps _ _ _ _, arr_keeps _ _ _ fun n p v d hd => effTxsaWrite_regsWf _ _ _ _ hd,
    one_keeps _ _ fun p v d hd => effCancelCmd_regsWf _ _ _ hd, List.forall_mem_nil _⟩
  · refine custBits_keeps _ ?_
    simp only [List.forall_mem_cons]
    exact ⟨fun p d hd => effIsletCmd_regsWf _ _ _ hd, fun p d hd => effWakeCmd_regsWf _ _ _ hd, List.forall_mem_nil _⟩
  · intro p v d hd
    dsimp only; split
    · exact effRingEnable_regsWf _ _ _ _ hd
    · exact effRingDisable_regsWf _ _ _ _ hd
theorem keyWrites_keep : ∀ t ∈ keyWrites, RowKeepsWf t := by
  simp only [keyWrites, List.forall_mem_cons]
  refine ⟨one_keeps _ _ ?_, one_keeps _ _ ?_, arr_keeps _ _ _ fun n => ?_, one_keeps _ _ ?_, List.forall_mem_nil _⟩
  all_goals first
    | (refine custBits_keeps _ ?_; simp only [List.forall_mem_cons]; refine ⟨?_, List.forall_mem_nil _⟩; all_goals
        (intro p d hd; grind [Dev_asAny_regsWf, Dev_asCust_regsWf, Dev_wr_regsWf, Dev_wrNat_regsWf,
        effChallenge_regsWf, effHandoverCmd_regsWf, effLock_regsWf, effTakeCmd_regsWf, effUnlock_regsWf,
        effUnlockDur_regsWf]))
    | (refine custBits_keeps _ ?_; simp only [List.forall_mem_cons]; refine ⟨?_, ?_, List.forall_mem_nil _⟩; all_goals
        (intro p d hd; grind [Dev_asAny_regsWf, Dev_asCust_regsWf, Dev_wr_regsWf, Dev_wrNat_regsWf,
        effChallenge_regsWf, effHandoverCmd_regsWf, effLock_regsWf, effTakeCmd_regsWf, effUnlock_regsWf,
        effUnlockDur_regsWf]))
    | (refine custBits_keeps _ ?_; simp only [List.forall_mem_cons]; refine ⟨?_, ?_, ?_, List.forall_mem_nil _⟩;
        all_goals (intro p d hd; grind [Dev_asAny_regsWf, Dev_asCust_regsWf, Dev_wr_regsWf, Dev_wrNat_regsWf,
        effChallenge_regsWf, effHandoverCmd_regsWf, effLock_regsWf, effTakeCmd_regsWf, effUnlock_regsWf,
        effUnlockDur_regsWf]))
    | (refine custBits_keeps _ ?_; simp only [List.forall_mem_cons]; refine ⟨?_, ?_, ?_, ?_, List.forall_mem_nil _⟩;
        all_goals (intro p d hd; grind [Dev_asAny_regsWf, Dev_asCust_regsWf, Dev_wr_regsWf, Dev_wrNat_regsWf,
        effChallenge_regsWf, effHandoverCmd_regsWf, effLock_regsWf, effTakeCmd_regsWf, effUnlock_regsWf,
        effUnlockDur_regsWf]))
    | (refine cmdBits_keeps _ ?_; simp only [List.forall_mem_cons]; refine ⟨?_, ?_, ?_, List.forall_mem_nil _⟩;
        all_goals (intro p d hd; grind [Dev_asAny_regsWf, Dev_asCust_regsWf, Dev_wr_regsWf, Dev_wrNat_regsWf,
        effChallenge_regsWf, effHandoverCmd_regsWf, effLock_regsWf, effTakeCmd_regsWf, effUnlock_regsWf,
        effUnlockDur_regsWf]))
    | (intro p v d hd; grind [Dev_asAny_regsWf, Dev_asCust_regsWf, Dev_wr_regsWf, Dev_wrNat_regsWf,
        effChallenge_regsWf, effHandoverCmd_regsWf, effLock_regsWf, effTakeCmd_regsWf, effUnlock_regsWf,
        effUnlockDur_regsWf])
theorem sysWrites_keep : ∀ t ∈ sysWrites, RowKeepsWf t := by
  simp only [sysWrites, List.forall_mem_cons]
  refine ⟨one_keeps _ _ ?_, arr_keeps _ _ _ fun n => ?_, arr_keeps _ _ _ fun n => ?_, one_keeps _ _ ?_, one_keeps _ _
      ?_, one_keeps _ _ ?_, one_keeps _ _ ?_, arr_keeps _ _ _ fun n => ?_, one_keeps _ _ ?_, one_keeps _ _ ?_,
      one_keeps _ _ ?_, one_keeps _ _ ?_, one_keeps _ _ ?_, one_keeps _ _ ?_, one_keeps _ _ ?_, arr_keeps _ _ _ fun n
      => ?_, List.forall_mem_nil _⟩
  all_goals first
    | (refine custBits_keeps _ ?_; simp only [List.forall_mem_cons]; refine ⟨?_, List.forall_mem_nil _⟩; all_goals
        (intro p d hd; grind [Dev_asAny_regsWf, Dev_asCust_regsWf, Dev_wr_regsWf, Dev_wrNat_regsWf, effAuxEn_regsWf,
        effBandWrite_regsWf, effClkRetry_regsWf, effClkoCfg_regsWf, effFlCmd_regsWf, effFreeze_regsWf, effIen_regsWf,
        effInject_regsWf, effIstat_regsWf, effIvec_regsWf, effMark_regsWf, effPendClear_regsWf, effPmcClear_regsWf,
        effPmcRun_regsWf, effPmcSnap_regsWf, effRestart_regsWf, effSampReset_regsWf, effUnfreeze_regsWf,
        effWinLoad_regsWf]))
    | (refine custBits_keeps _ ?_; simp only [List.forall_mem_cons]; refine ⟨?_, ?_, List.forall_mem_nil _⟩; all_goals
        (intro p d hd; grind [Dev_asAny_regsWf, Dev_asCust_regsWf, Dev_wr_regsWf, Dev_wrNat_regsWf, effAuxEn_regsWf,
        effBandWrite_regsWf, effClkRetry_regsWf, effClkoCfg_regsWf, effFlCmd_regsWf, effFreeze_regsWf, effIen_regsWf,
        effInject_regsWf, effIstat_regsWf, effIvec_regsWf, effMark_regsWf, effPendClear_regsWf, effPmcClear_regsWf,
        effPmcRun_regsWf, effPmcSnap_regsWf, effRestart_regsWf, effSampReset_regsWf, effUnfreeze_regsWf,
        effWinLoad_regsWf]))
    | (refine custBits_keeps _ ?_; simp only [List.forall_mem_cons]; refine ⟨?_, ?_, ?_, List.forall_mem_nil _⟩;
        all_goals (intro p d hd; grind [Dev_asAny_regsWf, Dev_asCust_regsWf, Dev_wr_regsWf, Dev_wrNat_regsWf,
        effAuxEn_regsWf, effBandWrite_regsWf, effClkRetry_regsWf, effClkoCfg_regsWf, effFlCmd_regsWf,
        effFreeze_regsWf, effIen_regsWf, effInject_regsWf, effIstat_regsWf, effIvec_regsWf, effMark_regsWf,
        effPendClear_regsWf, effPmcClear_regsWf, effPmcRun_regsWf, effPmcSnap_regsWf, effRestart_regsWf,
        effSampReset_regsWf, effUnfreeze_regsWf, effWinLoad_regsWf]))
    | (refine custBits_keeps _ ?_; simp only [List.forall_mem_cons]; refine ⟨?_, ?_, ?_, ?_, List.forall_mem_nil _⟩;
        all_goals (intro p d hd; grind [Dev_asAny_regsWf, Dev_asCust_regsWf, Dev_wr_regsWf, Dev_wrNat_regsWf,
        effAuxEn_regsWf, effBandWrite_regsWf, effClkRetry_regsWf, effClkoCfg_regsWf, effFlCmd_regsWf,
        effFreeze_regsWf, effIen_regsWf, effInject_regsWf, effIstat_regsWf, effIvec_regsWf, effMark_regsWf,
        effPendClear_regsWf, effPmcClear_regsWf, effPmcRun_regsWf, effPmcSnap_regsWf, effRestart_regsWf,
        effSampReset_regsWf, effUnfreeze_regsWf, effWinLoad_regsWf]))
    | (refine cmdBits_keeps _ ?_; simp only [List.forall_mem_cons]; refine ⟨?_, ?_, ?_, List.forall_mem_nil _⟩;
        all_goals (intro p d hd; grind [Dev_asAny_regsWf, Dev_asCust_regsWf, Dev_wr_regsWf, Dev_wrNat_regsWf,
        effAuxEn_regsWf, effBandWrite_regsWf, effClkRetry_regsWf, effClkoCfg_regsWf, effFlCmd_regsWf,
        effFreeze_regsWf, effIen_regsWf, effInject_regsWf, effIstat_regsWf, effIvec_regsWf, effMark_regsWf,
        effPendClear_regsWf, effPmcClear_regsWf, effPmcRun_regsWf, effPmcSnap_regsWf, effRestart_regsWf,
        effSampReset_regsWf, effUnfreeze_regsWf, effWinLoad_regsWf]))
    | (intro p v d hd; grind [Dev_asAny_regsWf, Dev_asCust_regsWf, Dev_wr_regsWf, Dev_wrNat_regsWf, effAuxEn_regsWf,
        effBandWrite_regsWf, effClkRetry_regsWf, effClkoCfg_regsWf, effFlCmd_regsWf, effFreeze_regsWf, effIen_regsWf,
        effInject_regsWf, effIstat_regsWf, effIvec_regsWf, effMark_regsWf, effPendClear_regsWf, effPmcClear_regsWf,
        effPmcRun_regsWf, effPmcSnap_regsWf, effRestart_regsWf, effSampReset_regsWf, effUnfreeze_regsWf,
        effWinLoad_regsWf])
theorem writeFn_keeps (a : Nat) (f : WriteFn) (h : writeFn? a = some f) : KeepsWf f := by
  refine keeps_first _ KeepsWf ?_ a f h
  simp only [List.forall_mem_append]
  exact ⟨⟨⟨⟨⟨⟨tbWrites_keep, eioWrites_keep⟩, tsuWrites_keep⟩, timingWrites_keep⟩, netWrites_keep⟩, keyWrites_keep⟩,
      sysWrites_keep⟩
theorem Dev_hostWrite_regsWf (d0) (x1) (x2) (x3) : d0.regsWf → (Dev.hostWrite d0 x1 x2 x3).regsWf := by
  intro h; unfold Dev.hostWrite
  split
  · exact h
  split
  · exact Dev_bump_regsWf _ _ h
  split
  · exact Dev_writeIgnored_regsWf _ _ h
  split
  · next f hf => exact writeFn_keeps _ _ hf _ _ _ h
  dsimp only
  split
  · exact Dev_asCust_regsWf _ _ _ h (fun d hd => Dev_store_regsWf _ _ _ _ hd)
  · exact Dev_store_regsWf _ _ _ _ h
theorem effRegWrite_regsWf (x0) (x1) (x2) (x3) (x4) (d5) : d5.regsWf → (effRegWrite x0 x1 x2 x3 x4 d5).regsWf := by
  intros; unfold effRegWrite; grind [Dev.regsWf, foldl_regsWf, Dev_bump_regsWf, Dev_hostWrite_regsWf]
theorem Dev_latchedWord_regsWf (d0) (x1) : d0.regsWf → (Dev.latchedWord d0 x1).2.regsWf := by
  intros; unfold Dev.latchedWord; grind [Dev.regsWf, foldl_regsWf]
theorem Dev_ltssmRead_regsWf (d0) : d0.regsWf → (Dev.ltssmRead d0).2.regsWf := by
  intros; unfold Dev.ltssmRead; grind [Dev.regsWf, foldl_regsWf, Dev_freeWord_regsWf]
theorem latchReads_keep : ∀ t ∈ latchReads, ∀ a f, t a = some f → ∀ p d, d.regsWf → (f p d).regsWf := by
  simp only [latchReads, List.forall_mem_cons]
  refine ⟨?_, ?_, ?_, ?_, ?_, ?_, ?_, ?_, ?_, ?_, ?_, ?_, ?_, ?_, ?_, ?_, List.forall_mem_nil _⟩
  all_goals intro a f hf p d hd
  all_goals first
    | (simp only [Option.map_eq_some_iff, Option.ite_none_right_eq_some, Option.some.injEq] at hf
       obtain ⟨n, _, rfl⟩ := hf
       grind [effNowLatch_regsWf, effEbLatch_regsWf, effSteerLatch_regsWf, effErrLatch_regsWf, effModelLatch_regsWf,
           effGchMeasLatch_regsWf, effGchCorrLatch_regsWf, effSolLatch_regsWf, effNtsLatch_regsWf, effOfsLatch_regsWf,
           effOsynLatch_regsWf, effInfoLatch_regsWf, effPmcLatch_regsWf, effCtrLatch_regsWf, effMofsLatch_regsWf])
    | (refine keeps_first _ (fun f : Port → Dev → Dev => ∀ p d, d.regsWf → (f p d).regsWf) ?_ a f hf p d hd
       intro t ht a f hf p d hd
       simp only [List.mem_map] at ht
       obtain ⟨c, _, rfl⟩ := ht
       simp only [Option.map_eq_some_iff] at hf
       obtain ⟨n, _, rfl⟩ := hf
       exact effMacLatch_regsWf _ _ _ _ hd)
theorem Dev_hostRead_regsWf (d0) (x1) (x2) : d0.regsWf → (Dev.hostRead d0 x1 x2).2.regsWf := by
  intro h; unfold Dev.hostRead
  split
  · exact Dev_bump_regsWf _ _ h
  dsimp only
  split
  · exact h
  split
  · show Dev.regsWf (ite _ _ _)
    repeat' split
    all_goals first
      | exact h
      | exact Dev_wr_regsWf _ _ _ h
  split
  · next f hf => exact Dev_latchedWord_regsWf _ _ (keeps_first _ (fun f : Port → Dev → Dev => ∀ p d, d.regsWf → (f p
      d).regsWf) latchReads_keep _ _ hf _ _ h)
  split
  · exact Dev_ltssmRead_regsWf _ h
  · exact h
theorem Dev_readRequest_regsWf (d0) (x1) (x2) (x3) : d0.regsWf → (Dev.readRequest d0 x1 x2 x3).2.regsWf := by
  intros; unfold Dev.readRequest; grind [Dev.regsWf, foldl_regsWf, Dev_freeWord_regsWf, Dev_hostRead_regsWf]
theorem effRegRead_regsWf (x0) (x1) (x2) (d3) : d3.regsWf → (effRegRead x0 x1 x2 d3).regsWf := by
  intros; unfold effRegRead; grind [Dev.regsWf, foldl_regsWf, Dev_emit_regsWf, Dev_readRequest_regsWf]
theorem effD0_regsWf (d0) : d0.regsWf → (effD0 d0).regsWf := by
  intros; unfold effD0; grind [Dev.regsWf, foldl_regsWf]
theorem Dev_dmaStop_regsWf (d0) : d0.regsWf → (Dev.dmaStop d0).regsWf := by
  intros; unfold Dev.dmaStop; grind [Dev.regsWf, foldl_regsWf, Dev_ringStop_regsWf]
theorem Dev_spiStatusOut_regsWf (d0) : d0.regsWf → (Dev.spiStatusOut d0).regsWf := by
  intros; unfold Dev.spiStatusOut; grind [Dev.regsWf, foldl_regsWf, Dev_emit_regsWf, Dev_setBit_regsWf]
theorem Dev_spiTransaction_regsWf (d0) (f1) : d0.regsWf → (∀ d, d.regsWf → (f1 d).regsWf) → (Dev.spiTransaction d0
    f1).regsWf := by
  intros; unfold Dev.spiTransaction; grind [Dev.regsWf, foldl_regsWf, Dev_bump_regsWf, Dev_spiStatusOut_regsWf]
theorem effSpiWrite_regsWf (x0) (x1) (x2) (d3) : d3.regsWf → (effSpiWrite x0 x1 x2 d3).regsWf := by
  intros; unfold effSpiWrite; grind [Dev.regsWf, foldl_regsWf, Dev_spiTransaction_regsWf, Dev_setBit_regsWf]
theorem Dev_hifReset_regsWf (d0) : d0.regsWf → (Dev.hifReset d0).regsWf := by
  intros; unfold Dev.hifReset; grind [Dev.regsWf, foldl_regsWf, Dev_wr_regsWf, Dev_toObserver_regsWf,
      Dev_dmaStop_regsWf, Dev_bump_regsWf]
theorem effPcieLinkDown_regsWf (d0) : d0.regsWf → (effPcieLinkDown d0).regsWf := by
  intros; unfold effPcieLinkDown; grind [Dev.regsWf, foldl_regsWf, Dev_raise_regsWf, Dev_wr_regsWf,
      Dev_hifReset_regsWf]
theorem effEarlyMem_regsWf (x0) (d1) : d1.regsWf → (effEarlyMem x0 d1).regsWf := by
  intros; unfold effEarlyMem; grind [Dev.regsWf, foldl_regsWf, Dev_emit_regsWf]
theorem effSpiStatus_regsWf (d0) : d0.regsWf → (effSpiStatus d0).regsWf := by
  intros; unfold effSpiStatus; grind [Dev.regsWf, foldl_regsWf, Dev_spiStatusOut_regsWf]
theorem effConfigReq_regsWf (d0) : d0.regsWf → (effConfigReq d0).regsWf := by
  intros; unfold effConfigReq; grind [Dev.regsWf, foldl_regsWf, Dev_emit_regsWf]
theorem effHotReset_regsWf (d0) : d0.regsWf → (effHotReset d0).regsWf := by
  intros; unfold effHotReset; grind [Dev.regsWf, foldl_regsWf, Dev_wr_regsWf, Dev_hifReset_regsWf]
theorem effUnmapped_regsWf (x0) (x1) (x2) (d3) : d3.regsWf → (effUnmapped x0 x1 x2 d3).regsWf := by
  intros; unfold effUnmapped; grind [Dev.regsWf, foldl_regsWf, Dev_hostWrite_regsWf, effRegRead_regsWf]
theorem effPcieLinkUp_regsWf (x0) (x1) (d2) : d2.regsWf → (effPcieLinkUp x0 x1 d2).regsWf := by
  intros; unfold effPcieLinkUp; grind [Dev.regsWf, foldl_regsWf, Dev_wrNat_regsWf]
theorem effSpiPerformed_regsWf (d0) : d0.regsWf → (effSpiPerformed d0).regsWf := by
  intros; unfold effSpiPerformed; grind [Dev.regsWf, foldl_regsWf, Dev_hostWrite_regsWf, Dev_setBit_regsWf]
theorem Dev_readBurst_regsWf (x0) (x1) (x2) (d3) : d3.regsWf → (Dev.readBurst x0 x1 x2 d3).2.regsWf := by
  intro h
  induction x1 generalizing x2 d3 with
  | zero => exact h
  | succ k ih => exact ih _ _ (Dev_readRequest_regsWf _ _ _ _ h)
theorem effSpiRead_regsWf (x0) (x1) (x2) (d3) : d3.regsWf → (effSpiRead x0 x1 x2 d3).regsWf := by
  intros; unfold effSpiRead; grind [Dev.regsWf, foldl_regsWf, Dev_spiTransaction_regsWf, Dev_readBurst_regsWf,
      Dev_emit_regsWf, Dev_bump_regsWf]
theorem effUnmask_regsWf (x0) (d1) : d1.regsWf → (effUnmask x0 d1).regsWf := by
  intros; unfold effUnmask; grind [Dev.regsWf, foldl_regsWf, Dev_emit_regsWf]
theorem effD3_regsWf (d0) : d0.regsWf → (effD3 d0).regsWf := by
  intros; unfold effD3; grind [Dev.regsWf, foldl_regsWf, Dev_dmaStop_regsWf]
theorem effIrigOut_regsWf (x0) (x1) (d2) : d2.regsWf → (effIrigOut x0 x1 d2).regsWf := by
  intros; unfold effIrigOut; grind [Dev.regsWf, foldl_regsWf, Dev_emit_regsWf]
theorem Dev_loopStart_regsWf (d0) (x1) : d0.regsWf → (Dev.loopStart d0 x1).regsWf := by
  intros; unfold Dev.loopStart; grind [Dev.regsWf, foldl_regsWf, Dev_restartAt_regsWf, Dev_setSrv_regsWf]
theorem Dev_shiftInstants_regsWf (d0) : d0.regsWf → (Dev.shiftInstants d0).regsWf := by
  intros; unfold Dev.shiftInstants; grind [Dev.regsWf, foldl_regsWf, forRange_regsWf, Dev_setSrv_regsWf,
      Dev_setEb_regsWf, Dev_modRn_regsWf]
theorem Dev_cryptoLoad_regsWf (d0) : d0.regsWf → (Dev.cryptoLoad d0).regsWf := by
  intros; unfold Dev.cryptoLoad; grind [Dev.regsWf, foldl_regsWf, Dev_freeWord_regsWf, Dev_wr_regsWf]
theorem epochOsyn_regsWf (x0) (d1) : d1.regsWf → (epochOsyn x0 d1).regsWf := by
  intros; unfold epochOsyn; grind [Dev.regsWf, foldl_regsWf, Dev_wrNat_regsWf, Dev_emit_regsWf, Dev_setBit_regsWf,
      Dev_setOsyn_regsWf]
theorem effEpoch_regsWf (d0) : d0.regsWf → (effEpoch d0).regsWf := by
  intros; unfold effEpoch; grind [Dev.regsWf, foldl_regsWf, forRange_regsWf, epochOsyn_regsWf, epochEio_regsWf,
      epochTb_regsWf, ebMark_regsWf]
theorem Dev_forgetSamples_regsWf (d0) (x1) : d0.regsWf → (Dev.forgetSamples d0 x1).regsWf := by
  intros; unfold Dev.forgetSamples; grind [Dev.regsWf, foldl_regsWf, forRange_regsWf, Dev_modRn_regsWf,
      Dev_setSel_regsWf]
theorem Dev_firstAnchor_regsWf (d0) (x1) (x2) : d0.regsWf → (Dev.firstAnchor d0 x1 x2).regsWf := by
  intros; unfold Dev.firstAnchor; grind [Dev.regsWf, foldl_regsWf, Dev_setEb_regsWf]
theorem Dev_tb0Set_regsWf (d0) : d0.regsWf → (Dev.tb0Set d0).regsWf := by
  intros; unfold Dev.tb0Set; grind [Dev.regsWf, foldl_regsWf, Dev_showKeys_regsWf, Dev_deriveWindow_regsWf,
      Dev_stageTime_regsWf, Dev_setBit_regsWf]
theorem Dev_applySet_regsWf (d0) (x1) (x2) (x3) (x4) : d0.regsWf → (Dev.applySet d0 x1 x2 x3 x4).regsWf := by
  intros; unfold Dev.applySet; grind [Dev.regsWf, foldl_regsWf, Dev_takeSet_regsWf, Dev_shiftInstants_regsWf,
      Dev_seedModels_regsWf, Dev_loopStart_regsWf, Dev_forgetSamples_regsWf, Dev_firstAnchor_regsWf,
      Dev_setBit_regsWf, Dev_ppsShowAll_regsWf, ptpShowAll_regsWf, Dev_tb0Set_regsWf]
theorem followSet_regsWf (x0) (x1) (x2) (x3) (d4) : d4.regsWf → (followSet x0 x1 x2 x3 d4).regsWf := by
  intros; unfold followSet; grind [Dev.regsWf, foldl_regsWf, Dev_applySet_regsWf]
theorem tickCounters_regsWf (d0) : d0.regsWf → (tickCounters d0).regsWf := by
  intros; unfold tickCounters; grind [Dev.regsWf, foldl_regsWf, Dev_bump_regsWf]
theorem effSetApply_regsWf (x0) (d1) : d1.regsWf → (effSetApply x0 d1).regsWf := by
  intros; unfold effSetApply; grind [Dev.regsWf, foldl_regsWf, Dev_setTb_regsWf, Dev_applySet_regsWf, forRange_regsWf,
      followSet_regsWf]
theorem lateUtcSet_regsWf (x0) (d1) : d1.regsWf → (lateUtcSet x0 d1).regsWf := by
  intros; unfold lateUtcSet; grind [Dev.regsWf, foldl_regsWf, Dev_applySet_regsWf]
theorem tickModel_regsWf (x0) (d1) : d1.regsWf → (tickModel x0 d1).regsWf := by
  intros; unfold tickModel; grind [Dev.regsWf, foldl_regsWf, forRange_regsWf, ebGrow_regsWf, tickTemps_regsWf,
      Dev_predCorrect_regsWf, tickSeed_regsWf, tickAtom_regsWf, ebIdle_regsWf, ebOpen_regsWf, Dev_incModel_regsWf]
theorem tickTiming_regsWf (x0) (d1) : d1.regsWf → (tickTiming x0 d1).regsWf := by
  intros; unfold tickTiming; grind [Dev.regsWf, foldl_regsWf, forRange_regsWf, ebStamp_regsWf, lateUtcSet_regsWf,
      Dev_bumpWrap_regsWf, tickLate_regsWf, stageTick_regsWf, tickServo_regsWf, tickModel_regsWf, selectorTick_regsWf,
      tickPairIn_regsWf]
theorem tickShows_regsWf (d0) : d0.regsWf → (tickShows d0).regsWf := by
  intros; unfold tickShows; grind [Dev_cryptoLoad_regsWf, Dev.regsWf, foldl_regsWf, forRange_regsWf, tickEsmc_regsWf,
      heldUpdate_regsWf,
      Dev_calShow_regsWf, tickBurst_regsWf, tickPairOut_regsWf, tickRole_regsWf, ptpShowAll_regsWf,
      Dev_storeRecheck_regsWf]
theorem effTick_regsWf (x0) (d1) : d1.regsWf → (effTick x0 d1).regsWf := by
  intros; unfold effTick; grind [Dev.regsWf, foldl_regsWf, tickCounters_regsWf, tickShows_regsWf, tickTiming_regsWf]

end Sys2Proof.Laws
end

