-- ==== Sys2Proof/Laws/Keeps1.lean ====
section
/-! SUPPORT. One lemma per function of the model that answers a device: the parts of the device it may change (part 1 of 5,
callees first). A device that differs from b only in the parts T still does after it, when T holds those parts. -/
set_option Elab.async false
namespace Sys2Proof.Laws
open Sys2Proof.Machine

theorem foldl_keeps {α : Type} (b : Dev) (T : List Part) (l : List α) (f : Dev → α → Dev) (hf : ∀ d x, b.Keeps T d →
    b.Keeps T (f d x)) (d : Dev) (h : b.Keeps T d) : b.Keeps T (l.foldl f d) := by
  induction l generalizing d with
  | nil => exact h
  | cons x r ih => exact ih _ (hf _ _ h)
theorem upd_regs_keeps (b : Dev) (T : List Part) (d : Dev) (x) (hT : Part.regs ∈ T) (h : b.Keeps T d) : b.Keeps T { d
    with regs := x } := by
  intro k hk; cases k <;> first | exact h _ hk | exact absurd hT hk
theorem upd_latch_keeps (b : Dev) (T : List Part) (d : Dev) (x) (hT : Part.latch ∈ T) (h : b.Keeps T d) : b.Keeps T {
    d with latch := x } := by
  intro k hk; cases k <;> first | exact h _ hk | exact absurd hT hk
theorem upd_fresh_keeps (b : Dev) (T : List Part) (d : Dev) (x) (hT : Part.fresh ∈ T) (h : b.Keeps T d) : b.Keeps T {
    d with fresh := x } := by
  intro k hk; cases k <;> first | exact h _ hk | exact absurd hT hk
theorem upd_out_keeps (b : Dev) (T : List Part) (d : Dev) (x) (hT : Part.out ∈ T) (h : b.Keeps T d) : b.Keeps T { d
    with out := x } := by
  intro k hk; cases k <;> first | exact h _ hk | exact absurd hT hk
theorem upd_tb_keeps (b : Dev) (T : List Part) (d : Dev) (x) (hT : Part.tb ∈ T) (h : b.Keeps T d) : b.Keeps T { d with
    tb := x } := by
  intro k hk; cases k <;> first | exact h _ hk | exact absurd hT hk
theorem upd_eio_keeps (b : Dev) (T : List Part) (d : Dev) (x) (hT : Part.eio ∈ T) (h : b.Keeps T d) : b.Keeps T { d
    with eio := x } := by
  intro k hk; cases k <;> first | exact h _ hk | exact absurd hT hk
theorem upd_recd_keeps (b : Dev) (T : List Part) (d : Dev) (x) (hT : Part.recd ∈ T) (h : b.Keeps T d) : b.Keeps T { d
    with recd := x } := by
  intro k hk; cases k <;> first | exact h _ hk | exact absurd hT hk
theorem upd_flt_keeps (b : Dev) (T : List Part) (d : Dev) (x) (hT : Part.flt ∈ T) (h : b.Keeps T d) : b.Keeps T { d
    with flt := x } := by
  intro k hk; cases k <;> first | exact h _ hk | exact absurd hT hk
theorem upd_hif_keeps (b : Dev) (T : List Part) (d : Dev) (x) (hT : Part.hif ∈ T) (h : b.Keeps T d) : b.Keeps T { d
    with hif := x } := by
  intro k hk; cases k <;> first | exact h _ hk | exact absurd hT hk
theorem upd_rings_keeps (b : Dev) (T : List Part) (d : Dev) (x) (hT : Part.rings ∈ T) (h : b.Keeps T d) : b.Keeps T {
    d with rings := x } := by
  intro k hk; cases k <;> first | exact h _ hk | exact absurd hT hk
theorem upd_pe_keeps (b : Dev) (T : List Part) (d : Dev) (x) (hT : Part.pe ∈ T) (h : b.Keeps T d) : b.Keeps T { d with
    pe := x } := by
  intro k hk; cases k <;> first | exact h _ hk | exact absurd hT hk
theorem upd_egress_keeps (b : Dev) (T : List Part) (d : Dev) (x) (hT : Part.egress ∈ T) (h : b.Keeps T d) : b.Keeps T
    { d with egress := x } := by
  intro k hk; cases k <;> first | exact h _ hk | exact absurd hT hk
theorem upd_lines_keeps (b : Dev) (T : List Part) (d : Dev) (x) (hT : Part.lines ∈ T) (h : b.Keeps T d) : b.Keeps T {
    d with lines := x } := by
  intro k hk; cases k <;> first | exact h _ hk | exact absurd hT hk
theorem upd_pps_keeps (b : Dev) (T : List Part) (d : Dev) (x) (hT : Part.pps ∈ T) (h : b.Keeps T d) : b.Keeps T { d
    with pps := x } := by
  intro k hk; cases k <;> first | exact h _ hk | exact absurd hT hk
theorem upd_txq_keeps (b : Dev) (T : List Part) (d : Dev) (x) (hT : Part.txq ∈ T) (h : b.Keeps T d) : b.Keeps T { d
    with txq := x } := by
  intro k hk; cases k <;> first | exact h _ hk | exact absurd hT hk
theorem upd_eb_keeps (b : Dev) (T : List Part) (d : Dev) (x) (hT : Part.eb ∈ T) (h : b.Keeps T d) : b.Keeps T { d with
    eb := x } := by
  intro k hk; cases k <;> first | exact h _ hk | exact absurd hT hk
theorem upd_refs_keeps (b : Dev) (T : List Part) (d : Dev) (x) (hT : Part.refs ∈ T) (h : b.Keeps T d) : b.Keeps T { d
    with refs := x } := by
  intro k hk; cases k <;> first | exact h _ hk | exact absurd hT hk
theorem upd_rn_keeps (b : Dev) (T : List Part) (d : Dev) (x) (hT : Part.rn ∈ T) (h : b.Keeps T d) : b.Keeps T { d with
    rn := x } := by
  intro k hk; cases k <;> first | exact h _ hk | exact absurd hT hk
theorem upd_sel_keeps (b : Dev) (T : List Part) (d : Dev) (x) (hT : Part.sel ∈ T) (h : b.Keeps T d) : b.Keeps T { d
    with sel := x } := by
  intro k hk; cases k <;> first | exact h _ hk | exact absurd hT hk
theorem upd_atom_keeps (b : Dev) (T : List Part) (d : Dev) (x) (hT : Part.atom ∈ T) (h : b.Keeps T d) : b.Keeps T { d
    with atom := x } := by
  intro k hk; cases k <;> first | exact h _ hk | exact absurd hT hk
theorem upd_srv_keeps (b : Dev) (T : List Part) (d : Dev) (x) (hT : Part.srv ∈ T) (h : b.Keeps T d) : b.Keeps T { d
    with srv := x } := by
  intro k hk; cases k <;> first | exact h _ hk | exact absurd hT hk
theorem upd_models_keeps (b : Dev) (T : List Part) (d : Dev) (x) (hT : Part.models ∈ T) (h : b.Keeps T d) : b.Keeps T
    { d with models := x } := by
  intro k hk; cases k <;> first | exact h _ hk | exact absurd hT hk
theorem upd_srvg_keeps (b : Dev) (T : List Part) (d : Dev) (x) (hT : Part.srvg ∈ T) (h : b.Keeps T d) : b.Keeps T { d
    with srvg := x } := by
  intro k hk; cases k <;> first | exact h _ hk | exact absurd hT hk
theorem upd_ch_keeps (b : Dev) (T : List Part) (d : Dev) (x) (hT : Part.ch ∈ T) (h : b.Keeps T d) : b.Keeps T { d with
    ch := x } := by
  intro k hk; cases k <;> first | exact h _ hk | exact absurd hT hk
theorem upd_gnss_keeps (b : Dev) (T : List Part) (d : Dev) (x) (hT : Part.gnss ∈ T) (h : b.Keeps T d) : b.Keeps T { d
    with gnss := x } := by
  intro k hk; cases k <;> first | exact h _ hk | exact absurd hT hk
theorem upd_sols_keeps (b : Dev) (T : List Part) (d : Dev) (x) (hT : Part.sols ∈ T) (h : b.Keeps T d) : b.Keeps T { d
    with sols := x } := by
  intro k hk; cases k <;> first | exact h _ hk | exact absurd hT hk
theorem upd_ports_keeps (b : Dev) (T : List Part) (d : Dev) (x) (hT : Part.ports ∈ T) (h : b.Keeps T d) : b.Keeps T {
    d with ports := x } := by
  intro k hk; cases k <;> first | exact h _ hk | exact absurd hT hk
theorem upd_nts_keeps (b : Dev) (T : List Part) (d : Dev) (x) (hT : Part.nts ∈ T) (h : b.Keeps T d) : b.Keeps T { d
    with nts := x } := by
  intro k hk; cases k <;> first | exact h _ hk | exact absurd hT hk
theorem upd_ptpp_keeps (b : Dev) (T : List Part) (d : Dev) (x) (hT : Part.ptpp ∈ T) (h : b.Keeps T d) : b.Keeps T { d
    with ptpp := x } := by
  intro k hk; cases k <;> first | exact h _ hk | exact absurd hT hk
theorem upd_ptpi_keeps (b : Dev) (T : List Part) (d : Dev) (x) (hT : Part.ptpi ∈ T) (h : b.Keeps T d) : b.Keeps T { d
    with ptpi := x } := by
  intro k hk; cases k <;> first | exact h _ hk | exact absurd hT hk
theorem upd_ptpx_keeps (b : Dev) (T : List Part) (d : Dev) (x) (hT : Part.ptpx ∈ T) (h : b.Keeps T d) : b.Keeps T { d
    with ptpx := x } := by
  intro k hk; cases k <;> first | exact h _ hk | exact absurd hT hk
theorem upd_ptpg_keeps (b : Dev) (T : List Part) (d : Dev) (x) (hT : Part.ptpg ∈ T) (h : b.Keeps T d) : b.Keeps T { d
    with ptpg := x } := by
  intro k hk; cases k <;> first | exact h _ hk | exact absurd hT hk
theorem upd_ks_keeps (b : Dev) (T : List Part) (d : Dev) (x) (hT : Part.ks ∈ T) (h : b.Keeps T d) : b.Keeps T { d with
    ks := x } := by
  intro k hk; cases k <;> first | exact h _ hk | exact absurd hT hk
theorem upd_pair_keeps (b : Dev) (T : List Part) (d : Dev) (x) (hT : Part.pair ∈ T) (h : b.Keeps T d) : b.Keeps T { d
    with pair := x } := by
  intro k hk; cases k <;> first | exact h _ hk | exact absurd hT hk
theorem upd_osyn_keeps (b : Dev) (T : List Part) (d : Dev) (x) (hT : Part.osyn ∈ T) (h : b.Keeps T d) : b.Keeps T { d
    with osyn := x } := by
  intro k hk; cases k <;> first | exact h _ hk | exact absurd hT hk
theorem upd_clkOut_keeps (b : Dev) (T : List Part) (d : Dev) (x) (hT : Part.clkOut ∈ T) (h : b.Keeps T d) : b.Keeps T
    { d with clkOut := x } := by
  intro k hk; cases k <;> first | exact h _ hk | exact absurd hT hk
theorem upd_clk_keeps (b : Dev) (T : List Part) (d : Dev) (x) (hT : Part.clk ∈ T) (h : b.Keeps T d) : b.Keeps T { d
    with clk := x } := by
  intro k hk; cases k <;> first | exact h _ hk | exact absurd hT hk
theorem upd_sys_keeps (b : Dev) (T : List Part) (d : Dev) (x) (hT : Part.sys ∈ T) (h : b.Keeps T d) : b.Keeps T { d
    with sys := x } := by
  intro k hk; cases k <;> first | exact h _ hk | exact absurd hT hk
theorem upd_flash_keeps (b : Dev) (T : List Part) (d : Dev) (x) (hT : Part.flash ∈ T) (h : b.Keeps T d) : b.Keeps T {
    d with flash := x } := by
  intro k hk; cases k <;> first | exact h _ hk | exact absurd hT hk
theorem Dev_setPtpi_keeps (b : Dev) (T : List Part) (d0) (x1) (x2) : Part.ptpi ∈ T → b.Keeps T d0 → b.Keeps T
    (Dev.setPtpi d0 x1 x2) := by
  intros; unfold Dev.setPtpi; grind [foldl_keeps, upd_ptpi_keeps]
theorem Dev_setSel_keeps (b : Dev) (T : List Part) (d0) (x1) (x2) : Part.sel ∈ T → b.Keeps T d0 → b.Keeps T
    (Dev.setSel d0 x1 x2) := by
  intros; unfold Dev.setSel; grind [foldl_keeps, upd_sel_keeps]
theorem Dev_setLines_keeps (b : Dev) (T : List Part) (d0) (x1) (x2) : Part.lines ∈ T → b.Keeps T d0 → b.Keeps T
    (Dev.setLines d0 x1 x2) := by
  intros; unfold Dev.setLines; grind [foldl_keeps, upd_lines_keeps]
theorem Dev_setClkOut_keeps (b : Dev) (T : List Part) (d0) (x1) (x2) : Part.clkOut ∈ T → b.Keeps T d0 → b.Keeps T
    (Dev.setClkOut d0 x1 x2) := by
  intros; unfold Dev.setClkOut; grind [foldl_keeps, upd_clkOut_keeps]
theorem Dev_setPorts_keeps (b : Dev) (T : List Part) (d0) (x1) (x2) : Part.ports ∈ T → b.Keeps T d0 → b.Keeps T
    (Dev.setPorts d0 x1 x2) := by
  intros; unfold Dev.setPorts; grind [foldl_keeps, upd_ports_keeps]
theorem Dev_setCh_keeps (b : Dev) (T : List Part) (d0) (x1) (x2) : Part.ch ∈ T → b.Keeps T d0 → b.Keeps T (Dev.setCh
    d0 x1 x2) := by
  intros; unfold Dev.setCh; grind [foldl_keeps, upd_ch_keeps]
theorem Dev_setRn_keeps (b : Dev) (T : List Part) (d0) (x1) (x2) : Part.rn ∈ T → b.Keeps T d0 → b.Keeps T (Dev.setRn
    d0 x1 x2) := by
  intros; unfold Dev.setRn; grind [foldl_keeps, upd_rn_keeps]
theorem Dev_setRings_keeps (b : Dev) (T : List Part) (d0) (x1) (x2) : Part.rings ∈ T → b.Keeps T d0 → b.Keeps T
    (Dev.setRings d0 x1 x2) := by
  intros; unfold Dev.setRings; grind [foldl_keeps, upd_rings_keeps]
theorem Dev_setPtpx_keeps (b : Dev) (T : List Part) (d0) (x1) (x2) : Part.ptpx ∈ T → b.Keeps T d0 → b.Keeps T
    (Dev.setPtpx d0 x1 x2) := by
  intros; unfold Dev.setPtpx; grind [foldl_keeps, upd_ptpx_keeps]
theorem Dev_setModels_keeps (b : Dev) (T : List Part) (d0) (x1) (x2) : Part.models ∈ T → b.Keeps T d0 → b.Keeps T
    (Dev.setModels d0 x1 x2) := by
  intros; unfold Dev.setModels; grind [foldl_keeps, upd_models_keeps]
theorem Dev_setSols_keeps (b : Dev) (T : List Part) (d0) (x1) (x2) : Part.sols ∈ T → b.Keeps T d0 → b.Keeps T
    (Dev.setSols d0 x1 x2) := by
  intros; unfold Dev.setSols; grind [foldl_keeps, upd_sols_keeps]
theorem Dev_setSrv_keeps (b : Dev) (T : List Part) (d0) (x1) (x2) : Part.srv ∈ T → b.Keeps T d0 → b.Keeps T
    (Dev.setSrv d0 x1 x2) := by
  intros; unfold Dev.setSrv; grind [foldl_keeps, upd_srv_keeps]
theorem Dev_setOsyn_keeps (b : Dev) (T : List Part) (d0) (x1) (x2) : Part.osyn ∈ T → b.Keeps T d0 → b.Keeps T
    (Dev.setOsyn d0 x1 x2) := by
  intros; unfold Dev.setOsyn; grind [foldl_keeps, upd_osyn_keeps]
theorem Dev_setTxq_keeps (b : Dev) (T : List Part) (d0) (x1) (x2) : Part.txq ∈ T → b.Keeps T d0 → b.Keeps T
    (Dev.setTxq d0 x1 x2) := by
  intros; unfold Dev.setTxq; grind [foldl_keeps, upd_txq_keeps]
theorem Dev_setPps_keeps (b : Dev) (T : List Part) (d0) (x1) (x2) : Part.pps ∈ T → b.Keeps T d0 → b.Keeps T
    (Dev.setPps d0 x1 x2) := by
  intros; unfold Dev.setPps; grind [foldl_keeps, upd_pps_keeps]
theorem Dev_setEio_keeps (b : Dev) (T : List Part) (d0) (x1) (x2) : Part.eio ∈ T → b.Keeps T d0 → b.Keeps T
    (Dev.setEio d0 x1 x2) := by
  intros; unfold Dev.setEio; grind [foldl_keeps, upd_eio_keeps]
theorem Dev_setEgress_keeps (b : Dev) (T : List Part) (d0) (x1) (x2) : Part.egress ∈ T → b.Keeps T d0 → b.Keeps T
    (Dev.setEgress d0 x1 x2) := by
  intros; unfold Dev.setEgress; grind [foldl_keeps, upd_egress_keeps]
theorem Dev_setRefs_keeps (b : Dev) (T : List Part) (d0) (x1) (x2) : Part.refs ∈ T → b.Keeps T d0 → b.Keeps T
    (Dev.setRefs d0 x1 x2) := by
  intros; unfold Dev.setRefs; grind [foldl_keeps, upd_refs_keeps]
theorem Dev_setPtpp_keeps (b : Dev) (T : List Part) (d0) (x1) (x2) : Part.ptpp ∈ T → b.Keeps T d0 → b.Keeps T
    (Dev.setPtpp d0 x1 x2) := by
  intros; unfold Dev.setPtpp; grind [foldl_keeps, upd_ptpp_keeps]
theorem Dev_setEb_keeps (b : Dev) (T : List Part) (d0) (x1) (x2) : Part.eb ∈ T → b.Keeps T d0 → b.Keeps T (Dev.setEb
    d0 x1 x2) := by
  intros; unfold Dev.setEb; grind [foldl_keeps, upd_eb_keeps]
theorem Dev_setTb_keeps (b : Dev) (T : List Part) (d0) (x1) (x2) : Part.tb ∈ T → b.Keeps T d0 → b.Keeps T (Dev.setTb
    d0 x1 x2) := by
  intros; unfold Dev.setTb; grind [foldl_keeps, upd_tb_keeps]
theorem Dev_wr_keeps (b : Dev) (T : List Part) (d0) (x1) (x2) : Part.regs ∈ T → b.Keeps T d0 → b.Keeps T (Dev.wr d0 x1
    x2) := by
  intros; unfold Dev.wr; grind [foldl_keeps, upd_regs_keeps]
theorem Dev_wrNat_keeps (b : Dev) (T : List Part) (d0) (x1) (x2) : Part.regs ∈ T → b.Keeps T d0 → b.Keeps T (Dev.wrNat
    d0 x1 x2) := by
  intros; unfold Dev.wrNat; grind [foldl_keeps, Dev_wr_keeps]
theorem Dev_maxReg_keeps (b : Dev) (T : List Part) (d0) (x1) (x2) : Part.regs ∈ T → b.Keeps T d0 → b.Keeps T
    (Dev.maxReg d0 x1 x2) := by
  intros; unfold Dev.maxReg; grind [foldl_keeps, Dev_wrNat_keeps]
theorem Dev_wrNat64_keeps (b : Dev) (T : List Part) (d0) (x1) (x2) (x3) : Part.regs ∈ T → b.Keeps T d0 → b.Keeps T
    (Dev.wrNat64 d0 x1 x2 x3) := by
  intros; unfold Dev.wrNat64; grind [foldl_keeps, Dev_wrNat_keeps]
theorem Dev_bump64_keeps (b : Dev) (T : List Part) (d0) (x1) (x2) : Part.regs ∈ T → b.Keeps T d0 → b.Keeps T
    (Dev.bump64 d0 x1 x2) := by
  intros; unfold Dev.bump64; grind [foldl_keeps, Dev_wrNat64_keeps]
theorem Dev_bumpBy_keeps (b : Dev) (T : List Part) (d0) (x1) (x2) : Part.regs ∈ T → b.Keeps T d0 → b.Keeps T
    (Dev.bumpBy d0 x1 x2) := by
  intros; unfold Dev.bumpBy; grind [foldl_keeps, Dev_wr_keeps]
theorem Dev_bump_keeps (b : Dev) (T : List Part) (d0) (x1) : Part.regs ∈ T → b.Keeps T d0 → b.Keeps T (Dev.bump d0 x1)
    := by
  intros; unfold Dev.bump; grind [foldl_keeps, Dev_bumpBy_keeps]
theorem Dev_wrInt_keeps (b : Dev) (T : List Part) (d0) (x1) (x2) : Part.regs ∈ T → b.Keeps T d0 → b.Keeps T (Dev.wrInt
    d0 x1 x2) := by
  intros; unfold Dev.wrInt; grind [foldl_keeps, Dev_wr_keeps]
theorem Dev_latchWord_keeps (b : Dev) (T : List Part) (d0) (x1) (x2) (x3) : Part.latch ∈ T → b.Keeps T d0 → b.Keeps T
    (Dev.latchWord d0 x1 x2 x3) := by
  intros; unfold Dev.latchWord; grind [foldl_keeps, upd_latch_keeps]
theorem Dev_setFld_keeps (b : Dev) (T : List Part) (d0) (x1) (x2) (x3) (x4) : Part.regs ∈ T → b.Keeps T d0 → b.Keeps T
    (Dev.setFld d0 x1 x2 x3 x4) := by
  intros; unfold Dev.setFld; grind [foldl_keeps, Dev_wr_keeps]
theorem Dev_setBit_keeps (b : Dev) (T : List Part) (d0) (x1) (x2) (x3) : Part.regs ∈ T → b.Keeps T d0 → b.Keeps T
    (Dev.setBit d0 x1 x2 x3) := by
  intros; unfold Dev.setBit; grind [foldl_keeps, Dev_wr_keeps]
theorem Dev_emit_keeps (b : Dev) (T : List Part) (d0) (x1) : Part.out ∈ T → b.Keeps T d0 → b.Keeps T (Dev.emit d0 x1)
    := by
  intros; unfold Dev.emit; grind [foldl_keeps, upd_out_keeps]
theorem Dev_emits_keeps (b : Dev) (T : List Part) (d0) (x1) : Part.out ∈ T → b.Keeps T d0 → b.Keeps T (Dev.emits d0
    x1) := by
  intros; unfold Dev.emits; grind [foldl_keeps, Dev_emit_keeps]
theorem forRange_keeps (b : Dev) (T : List Part) (x0) (f1) (d2) : (∀ i d, b.Keeps T d → b.Keeps T (f1 i d)) → b.Keeps
    T d2 → b.Keeps T (forRange x0 f1 d2) := fun hf h => foldl_keeps _ _ _ _ (fun d i h => hf i d h) _ h
theorem Dev_wrInt64_keeps (b : Dev) (T : List Part) (d0) (x1) (x2) (x3) : Part.regs ∈ T → b.Keeps T d0 → b.Keeps T
    (Dev.wrInt64 d0 x1 x2 x3) := by
  intros; unfold Dev.wrInt64; grind [foldl_keeps, Dev_wrNat64_keeps]
theorem Dev_bump64By_keeps (b : Dev) (T : List Part) (d0) (x1) (x2) (x3) : Part.regs ∈ T → b.Keeps T d0 → b.Keeps T
    (Dev.bump64By d0 x1 x2 x3) := by
  intros; unfold Dev.bump64By; grind [foldl_keeps, Dev_wrNat64_keeps]
theorem Dev_latchRegs_keeps (b : Dev) (T : List Part) (d0) (x1) (x2) : Part.latch ∈ T → b.Keeps T d0 → b.Keeps T
    (Dev.latchRegs d0 x1 x2) := by
  intros; unfold Dev.latchRegs; grind [foldl_keeps, upd_latch_keeps]
theorem Dev_bumpWrap_keeps (b : Dev) (T : List Part) (d0) (x1) : Part.regs ∈ T → b.Keeps T d0 → b.Keeps T
    (Dev.bumpWrap d0 x1) := by
  intros; unfold Dev.bumpWrap; grind [foldl_keeps, Dev_wr_keeps]
theorem Dev_msixSend_keeps (b : Dev) (T : List Part) (d0) (x1) : Part.hif ∈ T → Part.out ∈ T → b.Keeps T d0 → b.Keeps
    T (Dev.msixSend d0 x1) := by
  intros; unfold Dev.msixSend; grind [foldl_keeps, upd_hif_keeps, Dev_emit_keeps]
theorem Dev_msixRises_keeps (b : Dev) (T : List Part) (d0) (d1) : Part.hif ∈ T → Part.out ∈ T → b.Keeps T d0 → b.Keeps
    T d1 → b.Keeps T (Dev.msixRises d0 d1) := by
  intros; unfold Dev.msixRises; grind [foldl_keeps, Dev_msixSend_keeps]
theorem Dev_pmcAdd_keeps (b : Dev) (T : List Part) (d0) (x1) (x2) : Part.regs ∈ T → b.Keeps T d0 → b.Keeps T
    (Dev.pmcAdd d0 x1 x2) := by
  intros; unfold Dev.pmcAdd; dsimp only; repeat' split
  all_goals
    repeat' first
      | assumption
      | apply foldl_keeps
      | apply Dev_wrNat64_keeps
      | apply Dev_setBit_keeps
theorem Dev_pmc_keeps (b : Dev) (T : List Part) (d0) (x1) (x2) (x3) : Part.regs ∈ T → b.Keeps T d0 → b.Keeps T
    (Dev.pmc d0 x1 x2 x3) := by
  intros; unfold Dev.pmc; grind [foldl_keeps, forRange_keeps, Dev_pmcAdd_keeps]
theorem Dev_ringCount_keeps (b : Dev) (T : List Part) (d0) (x1) (x2) : Part.regs ∈ T → Part.rings ∈ T → b.Keeps T d0 →
    b.Keeps T (Dev.ringCount d0 x1 x2) := by
  intros; unfold Dev.ringCount; grind [foldl_keeps, Dev_pmc_keeps, Dev_bump_keeps, Dev_setRings_keeps]
theorem Dev_ringAccept_keeps (b : Dev) (T : List Part) (d0) (x1) (x2) (x3) (x4) : Part.rings ∈ T → b.Keeps T d0 →
    b.Keeps T (Dev.ringAccept d0 x1 x2 x3 x4) := by
  intros; unfold Dev.ringAccept; grind [foldl_keeps, Dev_setRings_keeps]
theorem Dev_ringDrop_keeps (b : Dev) (T : List Part) (d0) (x1) (x2) (x3) : Part.regs ∈ T → Part.rings ∈ T → b.Keeps T
    d0 → b.Keeps T (Dev.ringDrop d0 x1 x2 x3) := by
  intros; unfold Dev.ringDrop; grind (gen := 30) (ematch := 30) (splits := 30) [foldl_keeps, Dev_setBit_keeps,
      Dev_ringCount_keeps]
theorem Dev_ringOffer_keeps (b : Dev) (T : List Part) (d0) (x1) (x2) (x3) (x4) : Part.regs ∈ T → Part.rings ∈ T →
    b.Keeps T d0 → b.Keeps T (Dev.ringOffer d0 x1 x2 x3 x4) := by
  intros; unfold Dev.ringOffer; grind [foldl_keeps, Dev_ringAccept_keeps, Dev_ringDrop_keeps, Dev_setRings_keeps]
theorem Dev_resultOffer_keeps (b : Dev) (T : List Part) (d0) (x1) (x2) : Part.regs ∈ T → Part.rings ∈ T → b.Keeps T d0
    → b.Keeps T (Dev.resultOffer d0 x1 x2) := by
  intros; unfold Dev.resultOffer; grind [foldl_keeps, Dev_ringCount_keeps, Dev_setRings_keeps, Dev_ringOffer_keeps]
theorem Dev_interrupt_keeps (b : Dev) (T : List Part) (d0) (x1) : Part.hif ∈ T → Part.out ∈ T → Part.regs ∈ T →
    b.Keeps T d0 → b.Keeps T (Dev.interrupt d0 x1) := by
  intros; unfold Dev.interrupt; grind [foldl_keeps, Dev_msixRises_keeps, Dev_setBit_keeps]
theorem Dev_setPairState_keeps (b : Dev) (T : List Part) (d0) (x1) : Part.hif ∈ T → Part.out ∈ T → Part.regs ∈ T →
    b.Keeps T d0 → b.Keeps T (Dev.setPairState d0 x1) := by
  intros; unfold Dev.setPairState; grind [foldl_keeps, Dev_interrupt_keeps, Dev_setFld_keeps]
theorem Dev_ppsPinTo_keeps (b : Dev) (T : List Part) (d0) (x1) (x2) : Part.out ∈ T → Part.pps ∈ T → b.Keeps T d0 →
    b.Keeps T (Dev.ppsPinTo d0 x1 x2) := by
  intros; unfold Dev.ppsPinTo; grind [foldl_keeps, Dev_emit_keeps, Dev_setPps_keeps]
theorem ppsOwn_keeps (b : Dev) (T : List Part) (x0) (d1) : Part.out ∈ T → Part.pps ∈ T → b.Keeps T d1 → b.Keeps T
    (ppsOwn x0 d1) := by
  intros; unfold ppsOwn; grind [foldl_keeps, Dev_ppsPinTo_keeps]
theorem Dev_popCmd_keeps (b : Dev) (T : List Part) (d0) : Part.pe ∈ T → b.Keeps T d0 → b.Keeps T (Dev.popCmd d0).1 :=
    by
  intros; unfold Dev.popCmd; grind [foldl_keeps, upd_pe_keeps]
theorem Dev_ringFlushStaging_keeps (b : Dev) (T : List Part) (d0) (x1) : Part.regs ∈ T → Part.rings ∈ T → b.Keeps T d0
    → b.Keeps T (Dev.ringFlushStaging d0 x1) := by
  intros; unfold Dev.ringFlushStaging; grind [foldl_keeps, Dev_ringCount_keeps, Dev_setRings_keeps]
theorem Dev_freeBytes_keeps (b : Dev) (T : List Part) (d0) (x1) : Part.fresh ∈ T → b.Keeps T d0 → b.Keeps T
    (Dev.freeBytes d0 x1).2 := by
  intros; unfold Dev.freeBytes; grind [foldl_keeps, upd_fresh_keeps]
theorem Dev_flTorn_keeps (b : Dev) (T : List Part) (d0) : Part.flash ∈ T → Part.fresh ∈ T → Part.sys ∈ T → b.Keeps T
    d0 → b.Keeps T (Dev.flTorn d0) := by
  intro h1 h2 h3 h; unfold Dev.flTorn; split
  · exact h
  · next o ho =>
    have := Dev_freeBytes_keeps b T d0 o.region.2 h2 h
    intro k hk; cases k <;> first | exact this _ hk | contradiction
theorem Dev_flAbandon_keeps (b : Dev) (T : List Part) (d0) : Part.flash ∈ T → Part.fresh ∈ T → Part.regs ∈ T →
    Part.sys ∈ T → b.Keeps T d0 → b.Keeps T (Dev.flAbandon d0) := by
  intros; unfold Dev.flAbandon; grind [foldl_keeps, Dev_setFld_keeps, Dev_setBit_keeps, Dev_flTorn_keeps]
theorem clkShow_keeps (b : Dev) (T : List Part) (x0) (d1) : Part.clkOut ∈ T → Part.out ∈ T → Part.regs ∈ T → b.Keeps T
    d1 → b.Keeps T (clkShow x0 d1) := by
  intros; unfold clkShow; grind [foldl_keeps, Dev_setBit_keeps, Dev_emit_keeps, Dev_setClkOut_keeps]
theorem Dev_eioPinTo_keeps (b : Dev) (T : List Part) (d0) (x1) (x2) : Part.eio ∈ T → Part.out ∈ T → b.Keeps T d0 →
    b.Keeps T (Dev.eioPinTo d0 x1 x2) := by
  intros; unfold Dev.eioPinTo; grind [foldl_keeps, Dev_emit_keeps, Dev_setEio_keeps]
theorem eioOwn_keeps (b : Dev) (T : List Part) (x0) (d1) : Part.eio ∈ T → Part.out ∈ T → b.Keeps T d1 → b.Keeps T
    (eioOwn x0 d1) := by
  intros; unfold eioOwn; grind [foldl_keeps, Dev_eioPinTo_keeps]
theorem Dev_setOwn_keeps (b : Dev) (T : List Part) (d0) (x1) : Part.clkOut ∈ T → Part.eio ∈ T → Part.out ∈ T →
    Part.pps ∈ T → Part.regs ∈ T → b.Keeps T d0 → b.Keeps T (Dev.setOwn d0 x1) := by
  intros; unfold Dev.setOwn; grind [foldl_keeps, forRange_keeps, clkShow_keeps, Dev_emit_keeps, Dev_setBit_keeps,
      ppsOwn_keeps, eioOwn_keeps]
theorem Dev_freeWord_keeps (b : Dev) (T : List Part) (d0) : Part.fresh ∈ T → b.Keeps T d0 → b.Keeps T (Dev.freeWord
    d0).2 := by
  intros; unfold Dev.freeWord; grind [foldl_keeps, upd_fresh_keeps]
theorem Dev_wrFit_keeps (b : Dev) (T : List Part) (d0) (x1) (x2) : Part.fresh ∈ T → Part.regs ∈ T → b.Keeps T d0 →
    b.Keeps T (Dev.wrFit d0 x1 x2) := by
  intros; unfold Dev.wrFit; grind [foldl_keeps, Dev_wrInt_keeps, Dev_freeWord_keeps, Dev_wr_keeps]
theorem Dev_recShow_keeps (b : Dev) (T : List Part) (d0) : Part.regs ∈ T → b.Keeps T d0 → b.Keeps T (Dev.recShow d0)
    := by
  intros; unfold Dev.recShow; grind [foldl_keeps, Dev_wrNat_keeps]
theorem Dev_writeIgnored_keeps (b : Dev) (T : List Part) (d0) (x1) : Part.regs ∈ T → b.Keeps T d0 → b.Keeps T
    (Dev.writeIgnored d0 x1) := by
  intros; unfold Dev.writeIgnored; grind [foldl_keeps, Dev_bump_keeps]
theorem Dev_asCust_keeps (b : Dev) (T : List Part) (d0) (x1) (f2) : Part.regs ∈ T → b.Keeps T d0 → (∀ d, b.Keeps T d →
    b.Keeps T (f2 d)) → b.Keeps T (Dev.asCust d0 x1 f2) := by
  intros; unfold Dev.asCust; grind [foldl_keeps, Dev_writeIgnored_keeps]
theorem Dev_noteReset_keeps (b : Dev) (T : List Part) (d0) (x1) : Part.flt ∈ T → b.Keeps T d0 → b.Keeps T
    (Dev.noteReset d0 x1) := by
  intros; unfold Dev.noteReset; grind [foldl_keeps, upd_flt_keeps]
theorem Dev_faultMark_keeps (b : Dev) (T : List Part) (d0) (x1) (x2) : Part.regs ∈ T → b.Keeps T d0 → b.Keeps T
    (Dev.faultMark d0 x1 x2) := by
  intros; unfold Dev.faultMark; grind (gen := 30) (ematch := 30) (splits := 30) [foldl_keeps, Dev_setBit_keeps,
      Dev_bump_keeps, Dev_wrNat64_keeps, Dev_setFld_keeps, Dev_wrNat_keeps]
theorem Dev_slotAbandon_keeps (b : Dev) (T : List Part) (d0) (x1) : Part.ks ∈ T → Part.nts ∈ T → Part.regs ∈ T →
    b.Keeps T d0 → b.Keeps T (Dev.slotAbandon d0 x1) := by
  intros; unfold Dev.slotAbandon; grind (gen := 30) (ematch := 30) (splits := 30) [foldl_keeps, upd_ks_keeps,
      upd_nts_keeps, Dev_setBit_keeps, Dev_wrNat_keeps]
theorem Dev_recDma_keeps (b : Dev) (T : List Part) (d0) (x1) : Part.regs ∈ T → Part.rings ∈ T → b.Keeps T d0 → b.Keeps
    T (Dev.recDma d0 x1) := by
  intros; unfold Dev.recDma; grind [foldl_keeps, Dev_ringOffer_keeps]
theorem Dev_recRing_keeps (b : Dev) (T : List Part) (d0) (x1) : Part.recd ∈ T → Part.regs ∈ T → b.Keeps T d0 → b.Keeps
    T (Dev.recRing d0 x1).1 := by
  intros; unfold Dev.recRing; grind [foldl_keeps, upd_recd_keeps, Dev_recShow_keeps, Dev_wrNat_keeps]
theorem Dev_recAppend1_keeps (b : Dev) (T : List Part) (d0) (x1) : Part.recd ∈ T → Part.regs ∈ T → Part.rings ∈ T →
    b.Keeps T d0 → b.Keeps T (Dev.recAppend1 d0 x1).1 := by
  intros; unfold Dev.recAppend1; grind (gen := 30) (ematch := 30) (splits := 30) [foldl_keeps, upd_recd_keeps,
      Dev_bumpWrap_keeps, Dev_pmc_keeps, Dev_recDma_keeps, Dev_recShow_keeps, Dev_setBit_keeps, Dev_bump_keeps,
      Dev_recRing_keeps]
theorem Dev_recAppend_keeps (b : Dev) (T : List Part) (d0) (x1) : Part.recd ∈ T → Part.regs ∈ T → Part.rings ∈ T →
    b.Keeps T d0 → b.Keeps T (Dev.recAppend d0 x1).1 := by
  intros; unfold Dev.recAppend; grind [foldl_keeps, upd_recd_keeps, Dev_recAppend1_keeps]
theorem Dev_ksAbandon_keeps (b : Dev) (T : List Part) (d0) : Part.ks ∈ T → Part.nts ∈ T → Part.recd ∈ T → Part.regs ∈
    T → Part.rings ∈ T → b.Keeps T d0 → b.Keeps T (Dev.ksAbandon d0) := by
  intros; unfold Dev.ksAbandon; grind (gen := 30) (ematch := 30) (splits := 30) [foldl_keeps, upd_ks_keeps,
      Dev_setBit_keeps, Dev_slotAbandon_keeps, Dev_recAppend_keeps, Dev_bump_keeps, Dev_bumpWrap_keeps,
      Dev_resultOffer_keeps]
theorem Dev_startFlush_keeps (b : Dev) (T : List Part) (d0) (x1) : Part.flash ∈ T → Part.fresh ∈ T → Part.ks ∈ T →
    Part.nts ∈ T → Part.recd ∈ T → Part.regs ∈ T → Part.rings ∈ T → Part.sys ∈ T → b.Keeps T d0 → b.Keeps T
    (Dev.startFlush d0 x1) := by
  intros; unfold Dev.startFlush; grind [foldl_keeps, upd_recd_keeps, Dev_flAbandon_keeps, Dev_ksAbandon_keeps,
      Dev_setBit_keeps]
theorem Dev_faultEnter_keeps (b : Dev) (T : List Part) (d0) : Part.clkOut ∈ T → Part.eio ∈ T → Part.hif ∈ T → Part.out
    ∈ T → Part.pair ∈ T → Part.pps ∈ T → Part.regs ∈ T → b.Keeps T d0 → b.Keeps T (Dev.faultEnter d0) := by
  intros; unfold Dev.faultEnter; grind (gen := 30) (ematch := 30) (splits := 30) [foldl_keeps, upd_pair_keeps,
      Dev_setBit_keeps, Dev_setOwn_keeps, Dev_emit_keeps, Dev_setPairState_keeps]
theorem Dev_stopAlive_keeps (b : Dev) (T : List Part) (d0) : Part.clkOut ∈ T → Part.eio ∈ T → Part.flash ∈ T →
    Part.flt ∈ T → Part.fresh ∈ T → Part.hif ∈ T → Part.ks ∈ T → Part.nts ∈ T → Part.out ∈ T → Part.pair ∈ T →
    Part.pps ∈ T → Part.recd ∈ T → Part.regs ∈ T → Part.rings ∈ T → Part.sys ∈ T → b.Keeps T d0 → b.Keeps T
    (Dev.stopAlive d0) := by
  intros; unfold Dev.stopAlive; grind [foldl_keeps, upd_flt_keeps, Dev_emit_keeps, Dev_setBit_keeps,
      Dev_startFlush_keeps, Dev_faultEnter_keeps]
theorem Dev_gateOpen_keeps (b : Dev) (T : List Part) (d0) (x1) : Part.clk ∈ T → Part.regs ∈ T → b.Keeps T d0 → b.Keeps
    T (Dev.gateOpen d0 x1) := by
  intros; unfold Dev.gateOpen; grind [foldl_keeps, upd_clk_keeps, Dev_setBit_keeps]
theorem Dev_revoke_keeps (b : Dev) (T : List Part) (d0) (x1) : Part.ks ∈ T → Part.nts ∈ T → Part.recd ∈ T → Part.regs
    ∈ T → Part.rings ∈ T → b.Keeps T d0 → b.Keeps T (Dev.revoke d0 x1) := by
  intros; unfold Dev.revoke; grind [foldl_keeps, Dev_ringFlushStaging_keeps, Dev_ksAbandon_keeps, Dev_setBit_keeps]
theorem Dev_startBlkRst_keeps (b : Dev) (T : List Part) (d0) (x1) : Part.clk ∈ T → Part.flt ∈ T → Part.ks ∈ T →
    Part.nts ∈ T → Part.recd ∈ T → Part.regs ∈ T → Part.rings ∈ T → b.Keeps T d0 → b.Keeps T (Dev.startBlkRst d0 x1)
    := by
  intros; unfold Dev.startBlkRst; grind [foldl_keeps, upd_flt_keeps, Dev_gateOpen_keeps, Dev_revoke_keeps,
      Dev_setBit_keeps]
theorem Dev_nmiTraps_keeps (b : Dev) (T : List Part) (d0) : Part.clk ∈ T → Part.fresh ∈ T → Part.recd ∈ T → Part.regs
    ∈ T → Part.rings ∈ T → b.Keeps T d0 → b.Keeps T (Dev.nmiTraps d0) := by
  intros; unfold Dev.nmiTraps; grind [foldl_keeps, Dev_freeBytes_keeps, Dev_gateOpen_keeps, Dev_recAppend_keeps]
theorem Dev_chipRst_keeps (b : Dev) (T : List Part) (d0) : Part.clkOut ∈ T → Part.eio ∈ T → Part.flash ∈ T → Part.flt
    ∈ T → Part.fresh ∈ T → Part.hif ∈ T → Part.ks ∈ T → Part.nts ∈ T → Part.out ∈ T → Part.pair ∈ T → Part.pps ∈ T →
    Part.recd ∈ T → Part.regs ∈ T → Part.rings ∈ T → Part.sys ∈ T → b.Keeps T d0 → b.Keeps T (Dev.chipRst d0) := by
  intros; unfold Dev.chipRst; grind [foldl_keeps, upd_flt_keeps, Dev_startFlush_keeps, Dev_faultEnter_keeps,
      Dev_setBit_keeps]
theorem Dev_refreshFaultN_keeps (b : Dev) (T : List Part) (d0) : Part.out ∈ T → Part.regs ∈ T → b.Keeps T d0 → b.Keeps
    T (Dev.refreshFaultN d0) := by
  intros; unfold Dev.refreshFaultN; grind [foldl_keeps, Dev_emit_keeps, Dev_setBit_keeps]
theorem Dev_raiseF_keeps (b : Dev) (T : List Part) (x0) (x1) (x2) (d3) : Part.clk ∈ T → Part.clkOut ∈ T → Part.eio ∈ T
    → Part.flash ∈ T → Part.flt ∈ T → Part.fresh ∈ T → Part.hif ∈ T → Part.ks ∈ T → Part.nts ∈ T → Part.out ∈ T →
    Part.pair ∈ T → Part.pps ∈ T → Part.recd ∈ T → Part.regs ∈ T → Part.rings ∈ T → Part.sys ∈ T → b.Keeps T d3 →
    b.Keeps T (Dev.raiseF x0 x1 x2 d3) := by
  induction x0 generalizing x1 x2 d3 with
  | zero => intros; unfold Dev.raiseF; apply Dev_faultMark_keeps <;> assumption
  | succ n ih =>
    intros; unfold Dev.raiseF
    have ih2 : ∀ s i d, b.Keeps T d → b.Keeps T (Dev.raiseF n s i d) := by
      intro s i d hd; apply ih <;> assumption
    clear ih
    grind (gen := 30) (ematch := 30) (splits := 30) [Dev_faultMark_keeps, Dev_recAppend_keeps, Dev_setBit_keeps,
        Dev_interrupt_keeps, Dev_startFlush_keeps, Dev_nmiTraps_keeps, Dev_noteReset_keeps, Dev_startBlkRst_keeps,
        Dev_chipRst_keeps, Dev_stopAlive_keeps, Dev_refreshFaultN_keeps]
theorem Dev_raise_keeps (b : Dev) (T : List Part) (d0) (x1) (x2) : Part.clk ∈ T → Part.clkOut ∈ T → Part.eio ∈ T →
    Part.flash ∈ T → Part.flt ∈ T → Part.fresh ∈ T → Part.hif ∈ T → Part.ks ∈ T → Part.nts ∈ T → Part.out ∈ T →
    Part.pair ∈ T → Part.pps ∈ T → Part.recd ∈ T → Part.regs ∈ T → Part.rings ∈ T → Part.sys ∈ T → b.Keeps T d0 →
    b.Keeps T (Dev.raise d0 x1 x2) :=
    by
  intros; unfold Dev.raise; grind [foldl_keeps, Dev_raiseF_keeps]
theorem Dev_raiseLevel_keeps (b : Dev) (T : List Part) (d0) (x1) (x2) : Part.clk ∈ T → Part.clkOut ∈ T → Part.eio ∈ T
    → Part.flash ∈ T → Part.flt ∈ T → Part.fresh ∈ T → Part.hif ∈ T → Part.ks ∈ T → Part.nts ∈ T → Part.out ∈ T →
    Part.pair ∈ T → Part.pps ∈ T → Part.recd ∈ T → Part.regs ∈ T → Part.rings ∈ T → Part.sys ∈ T → b.Keeps T d0 →
    b.Keeps T (Dev.raiseLevel d0 x1 x2) := by
  intros; unfold Dev.raiseLevel; grind [foldl_keeps, Dev_raise_keeps, Dev_setBit_keeps]
theorem Dev_record_keeps (b : Dev) (T : List Part) (d0) (x1) (x2) (x3) : Part.clk ∈ T → Part.clkOut ∈ T → Part.eio ∈ T
    → Part.flash ∈ T → Part.flt ∈ T → Part.fresh ∈ T → Part.hif ∈ T → Part.ks ∈ T → Part.nts ∈ T → Part.out ∈ T →
    Part.pair ∈ T → Part.pps ∈ T → Part.recd ∈ T → Part.regs ∈ T → Part.rings ∈ T → Part.sys ∈ T → b.Keeps T d0 →
    b.Keeps T (Dev.record d0 x1 x2 x3) := by
  intros; unfold Dev.record; grind [foldl_keeps, Dev_recAppend_keeps, Dev_raise_keeps]
theorem Dev_asRead_keeps (b : Dev) (T : List Part) (d0) (x1) (f2) : Part.out ∈ T → b.Keeps T d0 → (∀ d, b.Keeps T d →
    b.Keeps T (f2 d)) → b.Keeps T (Dev.asRead d0 x1 f2) := by
  intros; unfold Dev.asRead; grind [foldl_keeps, Dev_emit_keeps]
theorem Dev_asAny_keeps (b : Dev) (T : List Part) (d0) (x1) (f2) : Part.regs ∈ T → b.Keeps T d0 → (∀ d, b.Keeps T d →
    b.Keeps T (f2 d)) → b.Keeps T (Dev.asAny d0 x1 f2) := by
  intros; unfold Dev.asAny; grind [foldl_keeps, Dev_writeIgnored_keeps]
theorem Dev_endLevel_keeps (b : Dev) (T : List Part) (d0) (x1) : Part.recd ∈ T → Part.regs ∈ T → Part.rings ∈ T →
    b.Keeps T d0 → b.Keeps T (Dev.endLevel d0 x1) := by
  intros; unfold Dev.endLevel; grind [foldl_keeps, Dev_setBit_keeps, Dev_recAppend_keeps]
theorem Dev_notWriter_keeps (b : Dev) (T : List Part) (d0) (x1) : Part.regs ∈ T → b.Keeps T d0 → b.Keeps T
    (Dev.notWriter d0 x1) := by
  intros; unfold Dev.notWriter; grind [foldl_keeps, Dev_setBit_keeps, Dev_bump_keeps]
theorem Dev_asWriter_keeps (b : Dev) (T : List Part) (d0) (x1) (x2) (f3) : Part.regs ∈ T → b.Keeps T d0 → (∀ d,
    b.Keeps T d → b.Keeps T (f3 d)) → b.Keeps T (Dev.asWriter d0 x1 x2 f3) := by
  intros; unfold Dev.asWriter; grind [foldl_keeps, Dev_notWriter_keeps, Dev_asCust_keeps]
theorem Dev_hostIncSeen_keeps (b : Dev) (T : List Part) (d0) (x1) (x2) : Part.tb ∈ T → b.Keeps T d0 → b.Keeps T
    (Dev.hostIncSeen d0 x1 x2) := by
  intros; unfold Dev.hostIncSeen; grind [foldl_keeps, Dev_setTb_keeps]
theorem Dev_cfgErr_keeps (b : Dev) (T : List Part) (d0) (x1) : Part.regs ∈ T → b.Keeps T d0 → b.Keeps T (Dev.cfgErr d0
    x1) := by
  intros; unfold Dev.cfgErr; grind [foldl_keeps, Dev_setBit_keeps]
theorem Dev_commitInc_keeps (b : Dev) (T : List Part) (d0) (x1) (x2) : Part.regs ∈ T → Part.tb ∈ T → b.Keeps T d0 →
    b.Keeps T (Dev.commitInc d0 x1 x2) := by
  intros; unfold Dev.commitInc; grind [foldl_keeps, Dev_setTb_keeps, Dev_wr_keeps, Dev_cfgErr_keeps, Dev_wrNat_keeps]
theorem effIncCommit_keeps (b : Dev) (T : List Part) (x0) (x1) (x2) (d3) : Part.regs ∈ T → Part.tb ∈ T → b.Keeps T d3
    → b.Keeps T (effIncCommit x0 x1 x2 d3) := by
  intros; unfold effIncCommit; grind [foldl_keeps, Dev_asWriter_keeps, Dev_hostIncSeen_keeps, Dev_commitInc_keeps]
theorem Dev_showPrem_keeps (b : Dev) (T : List Part) (d0) (x1) : Part.regs ∈ T → b.Keeps T d0 → b.Keeps T
    (Dev.showPrem d0 x1) := by
  intros; unfold Dev.showPrem; grind [foldl_keeps, Dev_setBit_keeps, Dev_wrNat_keeps]
theorem Dev_commitPadj_keeps (b : Dev) (T : List Part) (d0) (x1) (x2) (x3) : Part.regs ∈ T → Part.tb ∈ T → b.Keeps T
    d0 → b.Keeps T (Dev.commitPadj d0 x1 x2 x3) := by
  intros; unfold Dev.commitPadj; grind [foldl_keeps, Dev_showPrem_keeps, Dev_setTb_keeps, Dev_setBit_keeps]
theorem Dev_padjDone_keeps (b : Dev) (T : List Part) (d0) (x1) : Part.regs ∈ T → b.Keeps T d0 → b.Keeps T
    (Dev.padjDone d0 x1) := by
  intros; unfold Dev.padjDone; grind [foldl_keeps, Dev_setBit_keeps, Dev_showPrem_keeps]
theorem Dev_padjShow_keeps (b : Dev) (T : List Part) (d0) (x1) : Part.regs ∈ T → b.Keeps T d0 → b.Keeps T
    (Dev.padjShow d0 x1) := by
  intros; unfold Dev.padjShow; grind [foldl_keeps, Dev_padjDone_keeps, Dev_showPrem_keeps]
theorem tickTb_keeps (b : Dev) (T : List Part) (x0) (d1) : Part.regs ∈ T → Part.tb ∈ T → b.Keeps T d1 → b.Keeps T
    (tickTb x0 d1) := by
  intros; unfold tickTb; grind [foldl_keeps, Dev_setTb_keeps, Dev_padjShow_keeps, Dev_setBit_keeps]
theorem effPadjCommit_keeps (b : Dev) (T : List Part) (x0) (x1) (x2) (d3) : Part.regs ∈ T → Part.tb ∈ T → b.Keeps T d3
    → b.Keeps T (effPadjCommit x0 x1 x2 d3) := by
  intros; unfold effPadjCommit; grind [foldl_keeps, Dev_asWriter_keeps, Dev_wr_keeps, Dev_commitPadj_keeps]
theorem Dev_asLeapWriter_keeps (b : Dev) (T : List Part) (d0) (x1) (x2) (f3) : Part.regs ∈ T → b.Keeps T d0 → (∀ d,
    b.Keeps T d → b.Keeps T (f3 d)) → b.Keeps T (Dev.asLeapWriter d0 x1 x2 f3) := by
  intros; unfold Dev.asLeapWriter; grind [foldl_keeps, Dev_cfgErr_keeps, Dev_asCust_keeps]
theorem effLeapHold_keeps (b : Dev) (T : List Part) (x0) (x1) (x2) (x3) (d4) : Part.regs ∈ T → b.Keeps T d4 → b.Keeps
    T (effLeapHold x0 x1 x2 x3 d4) := by
  intros; unfold effLeapHold; grind [foldl_keeps, Dev_asLeapWriter_keeps, Dev_cfgErr_keeps, Dev_wr_keeps,
      Dev_wrNat_keeps]
theorem Dev_commitLeapBits_keeps (b : Dev) (T : List Part) (d0) (x1) (x2) : Part.regs ∈ T → Part.tb ∈ T → b.Keeps T d0
    → b.Keeps T (Dev.commitLeapBits d0 x1 x2) := by
  intros; unfold Dev.commitLeapBits; repeat' split
  all_goals
    repeat' first
      | assumption
      | apply foldl_keeps
      | apply Dev_cfgErr_keeps
      | apply Dev_setTb_keeps
      | apply Dev_wr_keeps
      | apply Dev_setBit_keeps
theorem Dev_commitLeap_keeps (b : Dev) (T : List Part) (d0) (x1) (x2) : Part.regs ∈ T → Part.tb ∈ T → b.Keeps T d0 →
    b.Keeps T (Dev.commitLeap d0 x1 x2) := by
  intros; unfold Dev.commitLeap; grind [foldl_keeps, Dev_commitLeapBits_keeps]
theorem effDelete_keeps (b : Dev) (T : List Part) (x0) (d1) : Part.regs ∈ T → Part.tb ∈ T → b.Keeps T d1 → b.Keeps T
    (effDelete x0 d1) := by
  intros; unfold effDelete; grind [foldl_keeps, Dev_wrInt_keeps, Dev_setBit_keeps, Dev_setTb_keeps]
theorem effPslope_keeps (b : Dev) (T : List Part) (x0) (x1) (x2) (d3) : Part.regs ∈ T → b.Keeps T d3 → b.Keeps T
    (effPslope x0 x1 x2 d3) := by
  intros; unfold effPslope; grind [foldl_keeps, Dev_asWriter_keeps, Dev_wrNat_keeps, Dev_cfgErr_keeps]
theorem Dev_leapDone_keeps (b : Dev) (T : List Part) (d0) (x1) : Part.regs ∈ T → Part.tb ∈ T → b.Keeps T d0 → b.Keeps
    T (Dev.leapDone d0 x1) := by
  intros; unfold Dev.leapDone; grind [foldl_keeps, Dev_setTb_keeps, Dev_setBit_keeps]
theorem effInsertEnd_keeps (b : Dev) (T : List Part) (x0) (d1) : Part.regs ∈ T → Part.tb ∈ T → b.Keeps T d1 → b.Keeps
    T (effInsertEnd x0 d1) := by
  intros; unfold effInsertEnd; grind [foldl_keeps, Dev_leapDone_keeps, Dev_wrInt_keeps, Dev_setBit_keeps]
theorem snapTb_keeps (b : Dev) (T : List Part) (x0) (x1) (d2) : Part.regs ∈ T → b.Keeps T d2 → b.Keeps T (snapTb x0 x1
    d2) := by
  intros; unfold snapTb; grind [foldl_keeps, Dev_wrNat_keeps]
theorem effSnap_keeps (b : Dev) (T : List Part) (x0) (x1) (d2) : Part.regs ∈ T → b.Keeps T d2 → b.Keeps T (effSnap x0
    x1 d2) := by
  intros; unfold effSnap; grind [foldl_keeps, Dev_asCust_keeps, Dev_setBit_keeps, forRange_keeps, snapTb_keeps]
theorem Dev_armSet_keeps (b : Dev) (T : List Part) (d0) (x1) (x2) : Part.tb ∈ T → b.Keeps T d0 → b.Keeps T (Dev.armSet
    d0 x1 x2) := by
  intros; unfold Dev.armSet; grind [foldl_keeps, Dev_setTb_keeps]
theorem Dev_trySet_keeps (b : Dev) (T : List Part) (d0) (x1) (x2) (x3) : Part.regs ∈ T → Part.tb ∈ T → b.Keeps T d0 →
    b.Keeps T (Dev.trySet d0 x1 x2 x3) := by
  intros; unfold Dev.trySet; grind [foldl_keeps, Dev_armSet_keeps, Dev_bump_keeps]
theorem effBincHi_keeps (b : Dev) (T : List Part) (x0) (x1) (x2) (d3) : Part.regs ∈ T → b.Keeps T d3 → b.Keeps T
    (effBincHi x0 x1 x2 d3) := by
  intros; unfold effBincHi; grind [foldl_keeps, Dev_asWriter_keeps, Dev_wr_keeps]
theorem effSmearEnd_keeps (b : Dev) (T : List Part) (x0) (d1) : Part.regs ∈ T → Part.tb ∈ T → b.Keeps T d1 → b.Keeps T
    (effSmearEnd x0 d1) := by
  intros; unfold effSmearEnd; grind [foldl_keeps, Dev_leapDone_keeps, Dev_wrInt_keeps]
theorem Dev_commitBinc_keeps (b : Dev) (T : List Part) (d0) (x1) (x2) : Part.regs ∈ T → Part.tb ∈ T → b.Keeps T d0 →
    b.Keeps T (Dev.commitBinc d0 x1 x2) := by
  intros; unfold Dev.commitBinc; dsimp only; repeat' split
  all_goals
    repeat' first
      | assumption
      | apply foldl_keeps
      | apply Dev_setTb_keeps
      | apply Dev_wr_keeps
      | apply Dev_cfgErr_keeps
      | apply Dev_wrNat_keeps
theorem effBincCommit_keeps (b : Dev) (T : List Part) (x0) (x1) (x2) (d3) : Part.regs ∈ T → Part.tb ∈ T → b.Keeps T d3
    → b.Keeps T (effBincCommit x0 x1 x2 d3) := by
  intros; unfold effBincCommit; grind [foldl_keeps, Dev_asWriter_keeps, Dev_commitBinc_keeps]
theorem effLeapCtl_keeps (b : Dev) (T : List Part) (x0) (x1) (x2) (d3) : Part.regs ∈ T → Part.tb ∈ T → b.Keeps T d3 →
    b.Keeps T (effLeapCtl x0 x1 x2 d3) := by
  intros; unfold effLeapCtl; grind [foldl_keeps, Dev_asLeapWriter_keeps, Dev_cfgErr_keeps, Dev_commitLeap_keeps]
theorem epochTb_keeps (b : Dev) (T : List Part) (x0) (d1) : Part.regs ∈ T → Part.tb ∈ T → b.Keeps T d1 → b.Keeps T
    (epochTb x0 d1) := by
  intros; unfold epochTb; grind [foldl_keeps, Dev_setTb_keeps, Dev_padjDone_keeps, Dev_showPrem_keeps]
theorem effSetArm_keeps (b : Dev) (T : List Part) (x0) (x1) (d2) : Part.regs ∈ T → Part.tb ∈ T → b.Keeps T d2 →
    b.Keeps T (effSetArm x0 x1 d2) := by
  intros; unfold effSetArm; grind [foldl_keeps, Dev_trySet_keeps, Dev_asCust_keeps]
theorem effIncHi_keeps (b : Dev) (T : List Part) (x0) (x1) (x2) (d3) : Part.regs ∈ T → b.Keeps T d3 → b.Keeps T
    (effIncHi x0 x1 x2 d3) := by
  intros; unfold effIncHi; grind [foldl_keeps, Dev_asWriter_keeps, Dev_wr_keeps]
theorem effPabort_keeps (b : Dev) (T : List Part) (x0) (x1) (d2) : Part.regs ∈ T → Part.tb ∈ T → b.Keeps T d2 →
    b.Keeps T (effPabort x0 x1 d2) := by
  intros; unfold effPabort; grind [foldl_keeps, Dev_asWriter_keeps, Dev_setTb_keeps]
theorem Dev_takeSet_keeps (b : Dev) (T : List Part) (d0) (x1) (x2) : Part.regs ∈ T → Part.tb ∈ T → b.Keeps T d0 →
    b.Keeps T (Dev.takeSet d0 x1 x2) := by
  intros; unfold Dev.takeSet; grind [foldl_keeps, Dev_setTb_keeps, Dev_setBit_keeps, Dev_showPrem_keeps, Dev_wr_keeps]
theorem effPadjComplete_keeps (b : Dev) (T : List Part) (x0) (d1) : Part.regs ∈ T → Part.tb ∈ T → b.Keeps T d1 →
    b.Keeps T (effPadjComplete x0 d1) := by
  intros; unfold effPadjComplete; grind [foldl_keeps, Dev_padjShow_keeps, Dev_setTb_keeps]
theorem effInsertStart_keeps (b : Dev) (T : List Part) (x0) (d1) : Part.regs ∈ T → b.Keeps T d1 → b.Keeps T
    (effInsertStart x0 d1) := by
  intros; unfold effInsertStart; grind [foldl_keeps, Dev_setBit_keeps]
theorem timeClock_keeps (b : Dev) (T : List Part) (d0) : Part.clk ∈ T → Part.regs ∈ T → Part.tb ∈ T → b.Keeps T d0 →
    b.Keeps T (timeClock d0) := by
  intros; unfold timeClock; grind [foldl_keeps, upd_clk_keeps, Dev_pmc_keeps, forRange_keeps, tickTb_keeps]
theorem effNowLatch_keeps (b : Dev) (T : List Part) (x0) (x1) (d2) : Part.latch ∈ T → Part.out ∈ T → b.Keeps T d2 →
    b.Keeps T (effNowLatch x0 x1 d2) := by
  intros; unfold effNowLatch; grind (gen := 30) (ematch := 30) (splits := 30) [foldl_keeps, Dev_latchWord_keeps,
      Dev_emit_keeps]
theorem effSmearStart_keeps (b : Dev) (T : List Part) (x0) (d1) : Part.regs ∈ T → b.Keeps T d1 → b.Keeps T
    (effSmearStart x0 d1) := by
  intros; unfold effSmearStart; grind [foldl_keeps, Dev_setBit_keeps]
theorem Dev_eioReject_keeps (b : Dev) (T : List Part) (d0) (x1) (x2) : Part.eio ∈ T → Part.regs ∈ T → b.Keeps T d0 →
    b.Keeps T (Dev.eioReject d0 x1 x2) := by
  intros; unfold Dev.eioReject; grind [foldl_keeps, Dev_setEio_keeps, Dev_setBit_keeps]
theorem Dev_eioCheck_keeps (b : Dev) (T : List Part) (d0) (x1) : Part.eio ∈ T → Part.regs ∈ T → b.Keeps T d0 → b.Keeps
    T (Dev.eioCheck d0 x1) := by
  intros; unfold Dev.eioCheck; dsimp only; repeat' split
  all_goals
    repeat' first
      | assumption
      | apply foldl_keeps
      | apply Dev_eioReject_keeps
      | apply Dev_bump_keeps
      | apply Dev_setEio_keeps
theorem Dev_eioShow_keeps (b : Dev) (T : List Part) (d0) (x1) : Part.regs ∈ T → b.Keeps T d0 → b.Keeps T (Dev.eioShow
    d0 x1) := by
  intros; unfold Dev.eioShow; grind (gen := 30) (ematch := 30) (splits := 30) [foldl_keeps, Dev_wrNat_keeps,
      Dev_wr_keeps]
theorem Dev_eioDropHead_keeps (b : Dev) (T : List Part) (d0) (x1) : Part.eio ∈ T → Part.regs ∈ T → b.Keeps T d0 →
    b.Keeps T (Dev.eioDropHead d0 x1) := by
  intros; unfold Dev.eioDropHead; grind [foldl_keeps, Dev_eioShow_keeps, Dev_setEio_keeps]
theorem effEioToRing_keeps (b : Dev) (T : List Part) (x0) (d1) : Part.eio ∈ T → Part.regs ∈ T → Part.rings ∈ T →
    b.Keeps T d1 → b.Keeps T (effEioToRing x0 d1) := by
  intros; unfold effEioToRing; grind [foldl_keeps, Dev_eioDropHead_keeps, Dev_ringAccept_keeps]
theorem Dev_eioWrIgn_keeps (b : Dev) (T : List Part) (d0) (x1) : Part.regs ∈ T → b.Keeps T d0 → b.Keeps T
    (Dev.eioWrIgn d0 x1) := by
  intros; unfold Dev.eioWrIgn; grind [foldl_keeps, Dev_setBit_keeps]
theorem effEioCfg_keeps (b : Dev) (T : List Part) (x0) (x1) (x2) (d3) : Part.eio ∈ T → Part.out ∈ T → Part.regs ∈ T →
    b.Keeps T d3 → b.Keeps T (effEioCfg x0 x1 x2 d3) := by
  intros; unfold effEioCfg; grind [foldl_keeps, Dev_asCust_keeps, Dev_eioWrIgn_keeps, Dev_setBit_keeps,
      Dev_setEio_keeps, Dev_wr_keeps, Dev_eioPinTo_keeps]
theorem Dev_raiseOnset_keeps (b : Dev) (T : List Part) (d0) (x1) (x2) : Part.clk ∈ T → Part.clkOut ∈ T → Part.eio ∈ T
    → Part.flash ∈ T → Part.flt ∈ T → Part.fresh ∈ T → Part.hif ∈ T → Part.ks ∈ T → Part.nts ∈ T → Part.out ∈ T →
    Part.pair ∈ T → Part.pps ∈ T → Part.recd ∈ T → Part.regs ∈ T → Part.rings ∈ T → Part.sys ∈ T → b.Keeps T d0 →
    b.Keeps T (Dev.raiseOnset d0 x1 x2) := by
  intros; unfold Dev.raiseOnset; grind [foldl_keeps, Dev_raise_keeps, Dev_setBit_keeps]
theorem effEioStuck_keeps (b : Dev) (T : List Part) (x0) (d1) : Part.clk ∈ T → Part.clkOut ∈ T → Part.eio ∈ T →
    Part.flash ∈ T → Part.flt ∈ T → Part.fresh ∈ T → Part.hif ∈ T → Part.ks ∈ T → Part.nts ∈ T → Part.out ∈ T →
    Part.pair ∈ T → Part.pps ∈ T → Part.recd ∈ T → Part.regs ∈ T → Part.rings ∈ T → Part.sys ∈ T → b.Keeps T d1 →
    b.Keeps T (effEioStuck x0 d1) := by
  intros; unfold effEioStuck; grind [foldl_keeps, Dev_raiseOnset_keeps, Dev_setBit_keeps]
theorem effEioDisarm_keeps (b : Dev) (T : List Part) (x0) (x1) (d2) : Part.eio ∈ T → Part.regs ∈ T → b.Keeps T d2 →
    b.Keeps T (effEioDisarm x0 x1 d2) := by
  intros; unfold effEioDisarm; grind [foldl_keeps, Dev_asCust_keeps, Dev_setEio_keeps]
theorem Dev_eioMove_keeps (b : Dev) (T : List Part) (d0) (x1) (x2) : Part.eio ∈ T → b.Keeps T d0 → b.Keeps T
    (Dev.eioMove d0 x1 x2) := by
  intros; unfold Dev.eioMove; grind [foldl_keeps, Dev_setEio_keeps]
theorem Dev_eioAccept_keeps (b : Dev) (T : List Part) (d0) (x1) (x2) (x3) : Part.eio ∈ T → Part.regs ∈ T → b.Keeps T
    d0 → b.Keeps T (Dev.eioAccept d0 x1 x2 x3) := by
  intros; unfold Dev.eioAccept; grind [foldl_keeps, Dev_eioShow_keeps, Dev_setEio_keeps, Dev_setBit_keeps,
      Dev_bump_keeps]
theorem effEioCapture_keeps (b : Dev) (T : List Part) (x0) (x1) (x2) (d3) : Part.eio ∈ T → Part.regs ∈ T → b.Keeps T
    d3 → b.Keeps T (effEioCapture x0 x1 x2 d3) := by
  intros; unfold effEioCapture; grind [foldl_keeps, Dev_eioMove_keeps, Dev_bump_keeps, Dev_eioAccept_keeps]
theorem effEioArm_keeps (b : Dev) (T : List Part) (x0) (x1) (d2) : Part.eio ∈ T → Part.regs ∈ T → b.Keeps T d2 →
    b.Keeps T (effEioArm x0 x1 d2) := by
  intros; unfold effEioArm; grind [foldl_keeps, Dev_asCust_keeps, Dev_eioWrIgn_keeps, Dev_setEio_keeps, Dev_wr_keeps,
      Dev_setBit_keeps]
theorem Dev_eioLead_keeps (b : Dev) (T : List Part) (d0) (x1) (x2) : Part.eio ∈ T → Part.out ∈ T → Part.regs ∈ T →
    b.Keeps T d0 → b.Keeps T (Dev.eioLead d0 x1 x2) := by
  intros; unfold Dev.eioLead; grind [foldl_keeps, Dev_setBit_keeps, Dev_bumpWrap_keeps, Dev_emit_keeps,
      Dev_setEio_keeps]
theorem effEioPosition_keeps (b : Dev) (T : List Part) (x0) (d1) : Part.eio ∈ T → Part.out ∈ T → Part.regs ∈ T →
    b.Keeps T d1 → b.Keeps T (effEioPosition x0 d1) := by
  intros; unfold effEioPosition; grind [foldl_keeps, Dev_bump_keeps, Dev_eioLead_keeps, Dev_setEio_keeps,
      Dev_setBit_keeps]
theorem Dev_eioDisarmNow_keeps (b : Dev) (T : List Part) (d0) (x1) : Part.eio ∈ T → Part.regs ∈ T → b.Keeps T d0 →
    b.Keeps T (Dev.eioDisarmNow d0 x1) := by
  intros; unfold Dev.eioDisarmNow; grind [foldl_keeps, Dev_setEio_keeps, Dev_setBit_keeps]
theorem epochEio_keeps (b : Dev) (T : List Part) (x0) (d1) : Part.eio ∈ T → Part.regs ∈ T → b.Keeps T d1 → b.Keeps T
    (epochEio x0 d1) := by
  intros; unfold epochEio; grind [foldl_keeps, Dev_eioCheck_keeps, Dev_eioDisarmNow_keeps]
theorem effEioSchedule_keeps (b : Dev) (T : List Part) (x0) (x1) (x2) (x3) (d4) : Part.regs ∈ T → b.Keeps T d4 →
    b.Keeps T (effEioSchedule x0 x1 x2 x3 d4) := by
  intros; unfold effEioSchedule; grind [foldl_keeps, Dev_asCust_keeps, Dev_eioWrIgn_keeps, Dev_wr_keeps]
theorem effEioPulseEnd_keeps (b : Dev) (T : List Part) (x0) (d1) : Part.eio ∈ T → Part.out ∈ T → Part.regs ∈ T →
    b.Keeps T d1 → b.Keeps T (effEioPulseEnd x0 d1) := by
  intros; unfold effEioPulseEnd; grind [foldl_keeps, Dev_emit_keeps, Dev_setEio_keeps, Dev_setBit_keeps]
theorem effEioRelease_keeps (b : Dev) (T : List Part) (x0) (d1) : Part.recd ∈ T → Part.regs ∈ T → Part.rings ∈ T →
    b.Keeps T d1 → b.Keeps T (effEioRelease x0 d1) := by
  intros; unfold effEioRelease; grind [foldl_keeps, Dev_setBit_keeps, Dev_endLevel_keeps]
theorem effEioStuckWrite_keeps (b : Dev) (T : List Part) (x0) (x1) (x2) (d3) : Part.eio ∈ T → Part.regs ∈ T → b.Keeps
    T d3 → b.Keeps T (effEioStuckWrite x0 x1 x2 d3) := by
  intros; unfold effEioStuckWrite; grind [foldl_keeps, Dev_asCust_keeps, Dev_setEio_keeps, Dev_wrNat_keeps]
theorem effEioPop_keeps (b : Dev) (T : List Part) (x0) (x1) (d2) : Part.eio ∈ T → Part.regs ∈ T → b.Keeps T d2 →
    b.Keeps T (effEioPop x0 x1 d2) := by
  intros; unfold effEioPop; grind [foldl_keeps, Dev_asCust_keeps, Dev_eioDropHead_keeps]
theorem effPpsWrite_keeps (b : Dev) (T : List Part) (x0) (x1) (x2) (x3) (d4) : Part.pps ∈ T → Part.regs ∈ T → b.Keeps
    T d4 → b.Keeps T (effPpsWrite x0 x1 x2 x3 d4) := by
  intros; unfold effPpsWrite; grind [foldl_keeps, Dev_asCust_keeps, Dev_setPps_keeps, Dev_wr_keeps]
theorem effCalStart_keeps (b : Dev) (T : List Part) (x0) (d1) : Part.lines ∈ T → b.Keeps T d1 → b.Keeps T (effCalStart
    x0 d1) := by
  intros; unfold effCalStart; grind [foldl_keeps, Dev_setLines_keeps]
theorem Dev_ppsShow_keeps (b : Dev) (T : List Part) (d0) (x1) : Part.regs ∈ T → b.Keeps T d0 → b.Keeps T (Dev.ppsShow
    d0 x1) := by
  intros; unfold Dev.ppsShow; grind [foldl_keeps, Dev_setBit_keeps]
theorem Dev_ppsShowAll_keeps (b : Dev) (T : List Part) (d0) : Part.regs ∈ T → b.Keeps T d0 → b.Keeps T (Dev.ppsShowAll
    d0) := by
  intros; unfold Dev.ppsShowAll; grind [foldl_keeps, forRange_keeps, Dev_ppsShow_keeps]
theorem ppsIdle_keeps (b : Dev) (T : List Part) (x0) (d1) : Part.out ∈ T → Part.pps ∈ T → b.Keeps T d1 → b.Keeps T
    (ppsIdle x0 d1) := by
  intros; unfold ppsIdle; grind [foldl_keeps, Dev_ppsPinTo_keeps]
theorem effPpsApply_keeps (b : Dev) (T : List Part) (x0) (d1) : Part.out ∈ T → Part.pps ∈ T → Part.regs ∈ T → b.Keeps
    T d1 → b.Keeps T (effPpsApply x0 d1) := by
  intros; unfold effPpsApply; grind [foldl_keeps, ppsIdle_keeps, Dev_ppsShow_keeps, Dev_setPps_keeps]
theorem Dev_calShow_keeps (b : Dev) (T : List Part) (d0) : Part.regs ∈ T → b.Keeps T d0 → b.Keeps T (Dev.calShow d0)
    := by
  intros; unfold Dev.calShow; grind [foldl_keeps, Dev_setBit_keeps, Dev_wrNat_keeps, Dev_wr_keeps]
theorem effCalStale_keeps (b : Dev) (T : List Part) (x0) (d1) : Part.lines ∈ T → Part.regs ∈ T → b.Keeps T d1 →
    b.Keeps T (effCalStale x0 d1) := by
  intros; unfold effCalStale; grind [foldl_keeps, Dev_calShow_keeps, Dev_setLines_keeps]
theorem effCalComplete_keeps (b : Dev) (T : List Part) (x0) (x1) (d2) : Part.clk ∈ T → Part.clkOut ∈ T → Part.eio ∈ T
    → Part.flash ∈ T → Part.flt ∈ T → Part.fresh ∈ T → Part.hif ∈ T → Part.ks ∈ T → Part.lines ∈ T → Part.nts ∈ T →
    Part.out ∈ T → Part.pair ∈ T → Part.pps ∈ T → Part.recd ∈ T → Part.regs ∈ T → Part.rings ∈ T → Part.sys ∈ T →
    b.Keeps T d2 → b.Keeps T (effCalComplete x0 x1 d2) := by
  intros; unfold effCalComplete; grind [foldl_keeps, Dev_setLines_keeps, Dev_pmc_keeps, Dev_calShow_keeps,
      Dev_setFld_keeps, Dev_raise_keeps, Dev_bump_keeps]
theorem effPpsEdge_keeps (b : Dev) (T : List Part) (x0) (x1) (d2) : Part.out ∈ T → Part.pps ∈ T → Part.regs ∈ T →
    b.Keeps T d2 → b.Keeps T (effPpsEdge x0 x1 d2) := by
  intros; unfold effPpsEdge; grind [foldl_keeps, Dev_ppsShow_keeps, Dev_bump_keeps, Dev_setPps_keeps, Dev_emit_keeps,
      Dev_setBit_keeps]
theorem effLineSwap_keeps (b : Dev) (T : List Part) (x0) (x1) (d2) : Part.lines ∈ T → b.Keeps T d2 → b.Keeps T
    (effLineSwap x0 x1 d2) := by
  intros; unfold effLineSwap; grind [foldl_keeps, Dev_setLines_keeps]
theorem effPpsPulseEnd_keeps (b : Dev) (T : List Part) (x0) (d1) : Part.out ∈ T → Part.pps ∈ T → Part.regs ∈ T →
    b.Keeps T d1 → b.Keeps T (effPpsPulseEnd x0 d1) := by
  intros; unfold effPpsPulseEnd; grind [foldl_keeps, Dev_emit_keeps, Dev_setPps_keeps, Dev_setBit_keeps]
theorem effTsuCfg_keeps (b : Dev) (T : List Part) (x0) (x1) (x2) (d3) : Part.regs ∈ T → b.Keeps T d3 → b.Keeps T
    (effTsuCfg x0 x1 x2 d3) := by
  intros; unfold effTsuCfg; grind [foldl_keeps, Dev_asCust_keeps, Dev_setBit_keeps, Dev_wr_keeps]
theorem calStop_keeps (b : Dev) (T : List Part) (x0) (d1) : Part.lines ∈ T → b.Keeps T d1 → b.Keeps T (calStop x0 d1)
    := by
  intros; unfold calStop; grind [foldl_keeps, Dev_setLines_keeps]
theorem Dev_ebRaise_keeps (b : Dev) (T : List Part) (d0) (x1) (x2) : Part.eb ∈ T → Part.regs ∈ T → b.Keeps T d0 →
    b.Keeps T (Dev.ebRaise d0 x1 x2) := by
  intros; unfold Dev.ebRaise; grind [foldl_keeps, Dev_setBit_keeps, Dev_setEb_keeps]
theorem Dev_ebRaiseAll_keeps (b : Dev) (T : List Part) (d0) (x1) : Part.eb ∈ T → Part.regs ∈ T → b.Keeps T d0 →
    b.Keeps T (Dev.ebRaiseAll d0 x1) := by
  intros; unfold Dev.ebRaiseAll; grind [foldl_keeps, forRange_keeps, Dev_ebRaise_keeps]
theorem ebStamp_keeps (b : Dev) (T : List Part) (x0) (d1) : Part.eb ∈ T → b.Keeps T d1 → b.Keeps T (ebStamp x0 d1) :=
    by
  intros; unfold ebStamp; grind [foldl_keeps, Dev_setEb_keeps]
theorem Dev_ebFreqRef_keeps (b : Dev) (T : List Part) (d0) (x1) : Part.eb ∈ T → b.Keeps T d0 → b.Keeps T
    (Dev.ebFreqRef d0 x1) := by
  intros; unfold Dev.ebFreqRef; grind [foldl_keeps, Dev_setEb_keeps]
theorem Dev_ebMiss_keeps (b : Dev) (T : List Part) (d0) (x1) : Part.eb ∈ T → Part.regs ∈ T → b.Keeps T d0 → b.Keeps T
    (Dev.ebMiss d0 x1) := by
  intros; unfold Dev.ebMiss; grind [foldl_keeps, Dev_setBit_keeps, Dev_bump_keeps, Dev_setEb_keeps]
theorem Dev_incorporate_keeps (b : Dev) (T : List Part) (d0) (x1) (x2) (x3) : Part.clk ∈ T → Part.clkOut ∈ T → Part.eb
    ∈ T → Part.eio ∈ T → Part.flash ∈ T → Part.flt ∈ T → Part.fresh ∈ T → Part.hif ∈ T → Part.ks ∈ T → Part.nts ∈ T →
    Part.out ∈ T → Part.pair ∈ T → Part.pps ∈ T → Part.recd ∈ T → Part.regs ∈ T → Part.rings ∈ T → Part.sel ∈ T →
    Part.srv ∈ T → Part.sys ∈ T → b.Keeps T d0 → b.Keeps T (Dev.incorporate d0 x1 x2 x3) := by
  intros; unfold Dev.incorporate; grind [foldl_keeps, Dev_setSrv_keeps, Dev_setEb_keeps, Dev_setBit_keeps,
      Dev_bump_keeps, Dev_raise_keeps, Dev_setSel_keeps]
theorem Dev_ebTake_keeps (b : Dev) (T : List Part) (d0) (x1) : Part.clk ∈ T → Part.clkOut ∈ T → Part.eb ∈ T → Part.eio
    ∈ T → Part.flash ∈ T → Part.flt ∈ T → Part.fresh ∈ T → Part.hif ∈ T → Part.ks ∈ T → Part.nts ∈ T → Part.out ∈ T →
    Part.pair ∈ T → Part.pps ∈ T → Part.recd ∈ T → Part.regs ∈ T → Part.rings ∈ T → Part.sel ∈ T → Part.srv ∈ T →
    Part.sys ∈ T → b.Keeps T d0 → b.Keeps T (Dev.ebTake d0 x1) := by
  intros; unfold Dev.ebTake; grind [foldl_keeps, Dev_incorporate_keeps]
theorem Dev_ebPublish_keeps (b : Dev) (T : List Part) (d0) (x1) : Part.fresh ∈ T → Part.regs ∈ T → b.Keeps T d0 →
    b.Keeps T (Dev.ebPublish d0 x1) := by
  intros; unfold Dev.ebPublish; grind (gen := 30) (ematch := 30) (splits := 30) [foldl_keeps, Dev_wrNat64_keeps,
      Dev_wrInt64_keeps, Dev_wrNat_keeps, Dev_wrFit_keeps, Dev_setBit_keeps, Dev_setFld_keeps]
theorem Dev_ebLimit_keeps (b : Dev) (T : List Part) (d0) (x1) : Part.eb ∈ T → b.Keeps T d0 → b.Keeps T (Dev.ebLimit
      d0 x1) := by
  intros; unfold Dev.ebLimit; grind [foldl_keeps, Dev_setEb_keeps]
theorem ebGrow_keeps (b : Dev) (T : List Part) (x0) (d1) : Part.eb ∈ T → Part.regs ∈ T → b.Keeps T d1 → b.Keeps T
    (ebGrow x0 d1) := by
  intros; unfold ebGrow; grind [foldl_keeps, Dev_setFld_keeps, Dev_setEb_keeps]
theorem ebMark_keeps (b : Dev) (T : List Part) (x0) (d1) : Part.eb ∈ T → b.Keeps T d1 → b.Keeps T (ebMark x0 d1) := by
  intros; unfold ebMark; grind [foldl_keeps, Dev_setEb_keeps]
theorem Dev_writeLedger_keeps (b : Dev) (T : List Part) (d0) (x1) : Part.clk ∈ T → Part.clkOut ∈ T → Part.eb ∈ T →
    Part.eio ∈ T → Part.flash ∈ T → Part.flt ∈ T → Part.fresh ∈ T → Part.hif ∈ T → Part.ks ∈ T → Part.nts ∈ T →
    Part.out ∈ T → Part.pair ∈ T → Part.pps ∈ T → Part.recd ∈ T → Part.regs ∈ T → Part.rings ∈ T → Part.sys ∈ T →
    b.Keeps T d0 → b.Keeps T (Dev.writeLedger d0 x1) := by
  intros; unfold Dev.writeLedger; grind [foldl_keeps, Dev_ringOffer_keeps, Dev_record_keeps, Dev_setEb_keeps]
theorem Dev_ebClose_keeps (b : Dev) (T : List Part) (d0) (x1) (x2) : Part.clk ∈ T → Part.clkOut ∈ T → Part.eb ∈ T →
    Part.eio ∈ T → Part.flash ∈ T → Part.flt ∈ T → Part.fresh ∈ T → Part.hif ∈ T → Part.ks ∈ T → Part.nts ∈ T →
    Part.out ∈ T → Part.pair ∈ T → Part.pps ∈ T → Part.recd ∈ T → Part.regs ∈ T → Part.rings ∈ T → Part.sys ∈ T →
    b.Keeps T d0 → b.Keeps T (Dev.ebClose d0 x1 x2) := by
  intros; unfold Dev.ebClose; grind [foldl_keeps, Dev_setEb_keeps, Dev_ebPublish_keeps, Dev_ebLimit_keeps,
      Dev_writeLedger_keeps, Dev_setFld_keeps]
theorem ebIdle_keeps (b : Dev) (T : List Part) (x0) (d1) : Part.clk ∈ T → Part.clkOut ∈ T → Part.eb ∈ T → Part.eio ∈ T
    → Part.flash ∈ T → Part.flt ∈ T → Part.fresh ∈ T → Part.hif ∈ T → Part.ks ∈ T → Part.nts ∈ T → Part.out ∈ T →
    Part.pair ∈ T → Part.pps ∈ T → Part.recd ∈ T → Part.regs ∈ T → Part.rings ∈ T → Part.sel ∈ T → Part.srv ∈ T →
    Part.sys ∈ T → b.Keeps T d1 → b.Keeps T (ebIdle x0 d1) := by
  intros; unfold ebIdle; grind [foldl_keeps, Dev_ebClose_keeps, Dev_ebTake_keeps]
theorem effEbLatch_keeps (b : Dev) (T : List Part) (x0) (x1) (d2) : Part.latch ∈ T → Part.out ∈ T → b.Keeps T d2 →
    b.Keeps T (effEbLatch x0 x1 d2) := by
  intros; unfold effEbLatch; grind [foldl_keeps, Dev_emit_keeps, Dev_latchRegs_keeps]

end Sys2Proof.Laws
end

