-- ==== Sys2Proof/Laws/Keeps2.lean ====
section
/-! SUPPORT. One lemma per function of the model that answers a device: the parts of the device it may change (part 2 of 5,
callees first). A device that differs from b only in the parts T still does after it, when T holds those parts. -/
set_option Elab.async false
namespace Sys2Proof.Laws
open Sys2Proof.Machine

theorem ebOpen_keeps (b : Dev) (T : List Part) (x0) (d1) : Part.eb ∈ T → Part.regs ∈ T → b.Keeps T d1 → b.Keeps T
    (ebOpen x0 d1) := by
  intros; unfold ebOpen; grind [foldl_keeps, Dev_ebFreqRef_keeps, Dev_ebRaise_keeps, Dev_setEb_keeps]
theorem Dev_modRef_keeps (b : Dev) (T : List Part) (d0) (x1) (x2) : Part.refs ∈ T → b.Keeps T d0 → b.Keeps T
    (Dev.modRef d0 x1 x2) := by
  intros; unfold Dev.modRef; grind [foldl_keeps, Dev_setRefs_keeps]
theorem effAtomSilence_keeps (b : Dev) (T : List Part) (d0) : Part.refs ∈ T → b.Keeps T d0 → b.Keeps T (effAtomSilence
    d0) := by
  intros; unfold effAtomSilence; grind [foldl_keeps, Dev_modRef_keeps]
theorem effAtomPoll_keeps (b : Dev) (T : List Part) (d0) : Part.atom ∈ T → Part.out ∈ T → b.Keeps T d0 → b.Keeps T
    (effAtomPoll d0) := by
  intros; unfold effAtomPoll; grind [foldl_keeps, upd_atom_keeps, Dev_emit_keeps]
theorem Dev_modRn_keeps (b : Dev) (T : List Part) (d0) (x1) (x2) (x3) : Part.rn ∈ T → b.Keeps T d0 → b.Keeps T
    (Dev.modRn d0 x1 x2 x3) := by
  intros; unfold Dev.modRn; grind [foldl_keeps, Dev_setRn_keeps]
theorem Dev_deliver_keeps (b : Dev) (T : List Part) (d0) (x1) (x2) (x3) : Part.rn ∈ T → b.Keeps T d0 → b.Keeps T
    (Dev.deliver d0 x1 x2 x3) := by
  intros; unfold Dev.deliver; grind [foldl_keeps, Dev_modRn_keeps]
theorem Dev_deliverEdge_keeps (b : Dev) (T : List Part) (d0) (x1) (x2) (x3) (x4) (x5) : Part.rn ∈ T → b.Keeps T d0 →
    b.Keeps T (Dev.deliverEdge d0 x1 x2 x3 x4 x5) := by
  intros; unfold Dev.deliverEdge; grind [foldl_keeps, forRange_keeps, Dev_deliver_keeps]
theorem effPpsEdgeRx_keeps (b : Dev) (T : List Part) (x0) (x1) (d2) : Part.refs ∈ T → Part.regs ∈ T → Part.rn ∈ T →
    b.Keeps T d2 → b.Keeps T (effPpsEdgeRx x0 x1 d2) := by
  intros; unfold effPpsEdgeRx; grind [foldl_keeps, Dev_bump_keeps, Dev_deliverEdge_keeps, Dev_modRef_keeps]
theorem Dev_showDef_keeps (b : Dev) (T : List Part) (d0) (x1) (x2) : Part.regs ∈ T → b.Keeps T d0 → b.Keeps T
    (Dev.showDef d0 x1 x2) := by
  intros; unfold Dev.showDef; grind [foldl_keeps, Dev_wr_keeps]
theorem Dev_refTo_keeps (b : Dev) (T : List Part) (d0) (x1) (x2) : Part.clk ∈ T → Part.clkOut ∈ T → Part.eio ∈ T →
    Part.flash ∈ T → Part.flt ∈ T → Part.fresh ∈ T → Part.hif ∈ T → Part.ks ∈ T → Part.nts ∈ T → Part.out ∈ T →
    Part.pair ∈ T → Part.pps ∈ T → Part.recd ∈ T → Part.regs ∈ T → Part.rings ∈ T → Part.sys ∈ T → b.Keeps T d0 →
    b.Keeps T (Dev.refTo d0 x1 x2) :=
    by
  intros; unfold Dev.refTo; grind [foldl_keeps, Dev_record_keeps, Dev_setFld_keeps]
theorem Dev_refFail_keeps (b : Dev) (T : List Part) (d0) (x1) : Part.clk ∈ T → Part.clkOut ∈ T → Part.eio ∈ T →
    Part.flash ∈ T → Part.flt ∈ T → Part.fresh ∈ T → Part.hif ∈ T → Part.ks ∈ T → Part.nts ∈ T → Part.out ∈ T →
    Part.pair ∈ T → Part.pps ∈ T → Part.recd ∈ T → Part.regs ∈ T → Part.rings ∈ T → Part.rn ∈ T → Part.sys ∈ T →
    b.Keeps T d0 → b.Keeps T (Dev.refFail d0 x1) := by
  intros; unfold Dev.refFail; grind [foldl_keeps, Dev_wr_keeps, Dev_bump_keeps, Dev_refTo_keeps, forRange_keeps,
      Dev_modRn_keeps, Dev_setBit_keeps]
theorem Dev_trendFail_keeps (b : Dev) (T : List Part) (d0) (x1) (x2) : Part.clk ∈ T → Part.clkOut ∈ T → Part.eio ∈ T →
    Part.flash ∈ T → Part.flt ∈ T → Part.fresh ∈ T → Part.hif ∈ T → Part.ks ∈ T → Part.nts ∈ T → Part.out ∈ T →
    Part.pair ∈ T → Part.pps ∈ T → Part.recd ∈ T → Part.regs ∈ T → Part.rings ∈ T → Part.rn ∈ T → Part.sys ∈ T →
    b.Keeps T d0 → b.Keeps T (Dev.trendFail d0 x1 x2) := by
  intros; unfold Dev.trendFail; grind [foldl_keeps, Dev_modRn_keeps, Dev_refFail_keeps, Dev_showDef_keeps]
theorem tickConflict_keeps (b : Dev) (T : List Part) (x0) (d1) : Part.clk ∈ T → Part.clkOut ∈ T → Part.eio ∈ T →
    Part.flash ∈ T → Part.flt ∈ T → Part.fresh ∈ T → Part.hif ∈ T → Part.ks ∈ T → Part.nts ∈ T → Part.out ∈ T →
    Part.pair ∈ T → Part.pps ∈ T → Part.recd ∈ T → Part.regs ∈ T → Part.rings ∈ T → Part.rn ∈ T → Part.sel ∈ T →
    Part.sys ∈ T → b.Keeps T d1 → b.Keeps T (tickConflict x0 d1) := by
  intros; unfold tickConflict; grind [foldl_keeps, Dev_setSel_keeps, Dev_bump_keeps, Dev_trendFail_keeps]
theorem Dev_trendAges_keeps (b : Dev) (T : List Part) (d0) (x1) : Part.rn ∈ T → b.Keeps T d0 → b.Keeps T
    (Dev.trendAges d0 x1) := by
  intros; unfold Dev.trendAges; grind [foldl_keeps, forRange_keeps, Dev_modRn_keeps]
theorem Dev_mateMsg_keeps (b : Dev) (T : List Part) (d0) (x1) : Part.regs ∈ T → b.Keeps T d0 → b.Keeps T (Dev.mateMsg
    d0 x1) := by
  intros; unfold Dev.mateMsg; grind [foldl_keeps, Dev_wrNat_keeps]
theorem Dev_refTimer_keeps (b : Dev) (T : List Part) (d0) (x1) (x2) (x3) : Part.refs ∈ T → Part.regs ∈ T → b.Keeps T
    d0 → b.Keeps T (Dev.refTimer d0 x1 x2 x3) := by
  intros; unfold Dev.refTimer; grind [foldl_keeps, Dev_wrNat_keeps, Dev_modRef_keeps]
theorem effTrendClear_keeps (b : Dev) (T : List Part) (x0) (d1) : Part.clk ∈ T → Part.clkOut ∈ T → Part.eio ∈ T →
    Part.flash ∈ T → Part.flt ∈ T → Part.fresh ∈ T → Part.hif ∈ T → Part.ks ∈ T → Part.nts ∈ T → Part.out ∈ T →
    Part.pair ∈ T → Part.pps ∈ T → Part.recd ∈ T → Part.refs ∈ T → Part.regs ∈ T → Part.rings ∈ T → Part.rn ∈ T →
    Part.sys ∈ T → b.Keeps T d1 → b.Keeps T (effTrendClear x0 d1) := by
  intros; unfold effTrendClear; grind [foldl_keeps, forRange_keeps, Dev_modRn_keeps, Dev_setBit_keeps,
      Dev_refTimer_keeps, Dev_refTo_keeps]
theorem effAtomTimeout_keeps (b : Dev) (T : List Part) (d0) : Part.atom ∈ T → Part.refs ∈ T → b.Keeps T d0 → b.Keeps T
    (effAtomTimeout d0) := by
  intros; unfold effAtomTimeout; grind [foldl_keeps, upd_atom_keeps, Dev_modRef_keeps]
theorem Dev_pullAbort_keeps (b : Dev) (T : List Part) (d0) (x1) : Part.sel ∈ T → Part.tb ∈ T → b.Keeps T d0 → b.Keeps
    T (Dev.pullAbort d0 x1) := by
  intros; unfold Dev.pullAbort; grind [foldl_keeps, Dev_setSel_keeps, Dev_setTb_keeps]
theorem gatherRn_keeps (b : Dev) (T : List Part) (x0) (x1) (d2) : Part.rn ∈ T → b.Keeps T d2 → b.Keeps T (gatherRn x0
    x1 d2) := by
  intros; unfold gatherRn; grind [foldl_keeps, Dev_setRn_keeps]
theorem tickReturn_keeps (b : Dev) (T : List Part) (x0) (x1) (d2) : Part.regs ∈ T → Part.rn ∈ T → b.Keeps T d2 →
    b.Keeps T (tickReturn x0 x1 d2) := by
  intros; unfold tickReturn; grind [foldl_keeps, Dev_setBit_keeps, Dev_modRn_keeps]
theorem freqPoint_keeps (b : Dev) (T : List Part) (x0) (x1) (d2) : Part.rn ∈ T → b.Keeps T d2 → b.Keeps T (freqPoint
    x0 x1 d2) := by
  intros; unfold freqPoint; grind [foldl_keeps, Dev_modRn_keeps]
theorem freqRead_keeps (b : Dev) (T : List Part) (x0) (d1) : Part.fresh ∈ T → Part.ports ∈ T → Part.refs ∈ T →
    Part.regs ∈ T → Part.rn ∈ T → b.Keeps T d1 → b.Keeps T (freqRead x0 d1) := by
  intros; unfold freqRead; grind [foldl_keeps, Dev_modRef_keeps, Dev_wrFit_keeps, Dev_setPorts_keeps, forRange_keeps,
      freqPoint_keeps]
theorem tickPass_keeps (b : Dev) (T : List Part) (x0) (d1) : Part.sel ∈ T → b.Keeps T d1 → b.Keeps T (tickPass x0 d1)
    := by
  intros; unfold tickPass; grind [foldl_keeps, Dev_setSel_keeps]
theorem Dev_refQualify_keeps (b : Dev) (T : List Part) (d0) (x1) : Part.clk ∈ T → Part.clkOut ∈ T → Part.eio ∈ T →
    Part.flash ∈ T → Part.flt ∈ T → Part.fresh ∈ T → Part.hif ∈ T → Part.ks ∈ T → Part.nts ∈ T → Part.out ∈ T →
    Part.pair ∈ T → Part.pps ∈ T → Part.recd ∈ T → Part.refs ∈ T → Part.regs ∈ T → Part.rings ∈ T → Part.rn ∈ T →
    Part.sys ∈ T → b.Keeps T d0 → b.Keeps T (Dev.refQualify d0 x1) := by
  intros; unfold Dev.refQualify; grind [foldl_keeps, Dev_wr_keeps, Dev_setBit_keeps, Dev_refTo_keeps,
      Dev_modRef_keeps, forRange_keeps, Dev_modRn_keeps]
theorem tickState_keeps (b : Dev) (T : List Part) (x0) (d1) : Part.clk ∈ T → Part.clkOut ∈ T → Part.eio ∈ T →
    Part.flash ∈ T → Part.flt ∈ T → Part.fresh ∈ T → Part.hif ∈ T → Part.ks ∈ T → Part.nts ∈ T → Part.out ∈ T →
    Part.pair ∈ T → Part.pps ∈ T → Part.recd ∈ T → Part.refs ∈ T → Part.regs ∈ T → Part.rings ∈ T → Part.rn ∈ T →
    Part.sys ∈ T → b.Keeps T d1 → b.Keeps T (tickState x0 d1) := by
  intros; unfold tickState; grind [foldl_keeps, Dev_modRef_keeps, Dev_refFail_keeps, Dev_refTimer_keeps,
      Dev_refTo_keeps, Dev_refQualify_keeps]
theorem tickGather_keeps (b : Dev) (T : List Part) (x0) (d1) : Part.fresh ∈ T → Part.ports ∈ T → Part.refs ∈ T →
    Part.regs ∈ T → Part.rn ∈ T → b.Keeps T d1 → b.Keeps T (tickGather x0 d1) := by
  intros; unfold tickGather; grind [foldl_keeps, forRange_keeps, gatherRn_keeps, freqRead_keeps]
theorem Dev_trendFix_keeps (b : Dev) (T : List Part) (d0) (x1) (x2) (x3) : Part.sel ∈ T → b.Keeps T d0 → b.Keeps T
    (Dev.trendFix d0 x1 x2 x3) := by
  intros; unfold Dev.trendFix; grind [foldl_keeps, Dev_setSel_keeps]
theorem Dev_staticMsg_keeps (b : Dev) (T : List Part) (d0) (x1) : Part.fresh ∈ T → Part.regs ∈ T → b.Keeps T d0 →
    b.Keeps T (Dev.staticMsg d0 x1) := by
  intros; unfold Dev.staticMsg; grind [foldl_keeps, Dev_freeWord_keeps, Dev_wrNat_keeps]
theorem tickDefects_keeps (b : Dev) (T : List Part) (x0) (x1) (d2) : Part.fresh ∈ T → Part.regs ∈ T → b.Keeps T d2 →
    b.Keeps T (tickDefects x0 x1 d2) := by
  intros; unfold tickDefects; grind [foldl_keeps, Dev_mateMsg_keeps, Dev_staticMsg_keeps, Dev_showDef_keeps,
      Dev_setFld_keeps]
theorem Dev_pullTo_keeps (b : Dev) (T : List Part) (d0) (x1) : Part.regs ∈ T → Part.sel ∈ T → b.Keeps T d0 → b.Keeps T
    (Dev.pullTo d0 x1) := by
  intros; unfold Dev.pullTo; grind [foldl_keeps, Dev_bump_keeps, Dev_setSel_keeps]
theorem tickSelect_keeps (b : Dev) (T : List Part) (x0) (d1) : Part.eb ∈ T → Part.regs ∈ T → Part.sel ∈ T → Part.tb ∈
    T → b.Keeps T d1 → b.Keeps T (tickSelect x0 d1) := by
  intros; unfold tickSelect; grind (gen := 30) (ematch := 30) (splits := 30) [foldl_keeps, Dev_wrNat_keeps,
      Dev_setSel_keeps, Dev_setBit_keeps, Dev_setFld_keeps, Dev_setEb_keeps, Dev_bump_keeps, Dev_pullTo_keeps,
      Dev_pullAbort_keeps]
theorem effWtr_keeps (b : Dev) (T : List Part) (x0) (d1) : Part.clk ∈ T → Part.clkOut ∈ T → Part.eio ∈ T → Part.flash
    ∈ T → Part.flt ∈ T → Part.fresh ∈ T → Part.hif ∈ T → Part.ks ∈ T → Part.nts ∈ T → Part.out ∈ T → Part.pair ∈ T →
    Part.pps ∈ T → Part.recd ∈ T → Part.refs ∈ T → Part.regs ∈ T → Part.rings ∈ T → Part.rn ∈ T → Part.sys ∈ T →
    b.Keeps T d1 → b.Keeps T (effWtr x0 d1) := by
  intros; unfold effWtr; grind [foldl_keeps, Dev_refQualify_keeps]
theorem Dev_refMessage_keeps (b : Dev) (T : List Part) (d0) (x1) (x2) (x3) (x4) : Part.refs ∈ T → Part.regs ∈ T →
    b.Keeps T d0 → b.Keeps T (Dev.refMessage d0 x1 x2 x3 x4) := by
  intros; unfold Dev.refMessage; grind [foldl_keeps, Dev_modRef_keeps, Dev_wrNat_keeps]
theorem effIrigRx_keeps (b : Dev) (T : List Part) (x0) (x1) (x2) (d3) : Part.refs ∈ T → Part.regs ∈ T → Part.rn ∈ T →
    b.Keeps T d3 → b.Keeps T (effIrigRx x0 x1 x2 d3) := by
  intros; unfold effIrigRx; grind [foldl_keeps, Dev_bump_keeps, Dev_refMessage_keeps, Dev_modRef_keeps,
      Dev_deliverEdge_keeps]
theorem effHoldoff_keeps (b : Dev) (T : List Part) (x0) (d1) : Part.clk ∈ T → Part.clkOut ∈ T → Part.eio ∈ T →
    Part.flash ∈ T → Part.flt ∈ T → Part.fresh ∈ T → Part.hif ∈ T → Part.ks ∈ T → Part.nts ∈ T → Part.out ∈ T →
    Part.pair ∈ T → Part.pps ∈ T → Part.recd ∈ T → Part.regs ∈ T → Part.rings ∈ T → Part.rn ∈ T → Part.sys ∈ T →
    b.Keeps T d1 → b.Keeps T (effHoldoff x0 d1) := by
  intros; unfold effHoldoff; grind [foldl_keeps, Dev_refFail_keeps]
theorem effLockout_keeps (b : Dev) (T : List Part) (x0) (x1) (d2) : Part.regs ∈ T → b.Keeps T d2 → b.Keeps T
    (effLockout x0 x1 d2) := by
  intros; unfold effLockout; grind [foldl_keeps, Dev_asCust_keeps, Dev_wr_keeps]
theorem Dev_showSteer_keeps (b : Dev) (T : List Part) (d0) (x1) : Part.regs ∈ T → b.Keeps T d0 → b.Keeps T
    (Dev.showSteer d0 x1) := by
  intros; unfold Dev.showSteer; grind [foldl_keeps, Dev_wrInt64_keeps]
theorem effSteerLatch_keeps (b : Dev) (T : List Part) (x0) (x1) (d2) : Part.latch ∈ T → Part.out ∈ T → Part.regs ∈ T →
    b.Keeps T d2 → b.Keeps T (effSteerLatch x0 x1 d2) := by
  intros; unfold effSteerLatch; grind [foldl_keeps, Dev_showSteer_keeps, Dev_emit_keeps, Dev_latchRegs_keeps]
theorem effForce_keeps (b : Dev) (T : List Part) (x0) (x1) (x2) (d3) : Part.regs ∈ T → Part.sel ∈ T → b.Keeps T d3 →
    b.Keeps T (effForce x0 x1 x2 d3) := by
  intros; unfold effForce; grind [foldl_keeps, Dev_asCust_keeps, Dev_setSel_keeps, Dev_wr_keeps]
theorem effAtomReply_keeps (b : Dev) (T : List Part) (x0) (d1) : Part.atom ∈ T → Part.fresh ∈ T → Part.refs ∈ T →
    Part.regs ∈ T → b.Keeps T d1 → b.Keeps T (effAtomReply x0 d1) := by
  intros; unfold effAtomReply; grind [foldl_keeps, upd_atom_keeps, Dev_bump_keeps, Dev_refMessage_keeps,
      Dev_freeWord_keeps]
theorem Dev_trendJudge_keeps (b : Dev) (T : List Part) (d0) (x1) (x2) (x3) (d4) : Part.clk ∈ T → Part.clkOut ∈ T →
    Part.eio ∈ T → Part.flash ∈ T → Part.flt ∈ T → Part.fresh ∈ T → Part.hif ∈ T → Part.ks ∈ T → Part.nts ∈ T →
    Part.out ∈ T → Part.pair ∈ T → Part.pps ∈ T → Part.recd ∈ T → Part.regs ∈ T → Part.rings ∈ T → Part.rn ∈ T →
    Part.sys ∈ T → b.Keeps T d0 → b.Keeps T d4 → b.Keeps T (Dev.trendJudge d0 x1 x2 x3 d4) := by
  intros; unfold Dev.trendJudge; grind [foldl_keeps, Dev_modRn_keeps, Dev_trendFail_keeps]
theorem tickTrend_keeps (b : Dev) (T : List Part) (x0) (d1) : Part.clk ∈ T → Part.clkOut ∈ T → Part.eio ∈ T →
    Part.flash ∈ T → Part.flt ∈ T → Part.fresh ∈ T → Part.hif ∈ T → Part.ks ∈ T → Part.nts ∈ T → Part.out ∈ T →
    Part.pair ∈ T → Part.pps ∈ T → Part.recd ∈ T → Part.regs ∈ T → Part.rings ∈ T → Part.rn ∈ T → Part.sel ∈ T →
    Part.sys ∈ T → b.Keeps T d1 → b.Keeps T (tickTrend x0 d1) := by
  intros; unfold tickTrend; grind [foldl_keeps, Dev_trendFix_keeps, Dev_trendJudge_keeps, Dev_setSel_keeps,
      Dev_trendAges_keeps, Dev_setBit_keeps, Dev_bump_keeps]
theorem tickConfirm_keeps (b : Dev) (T : List Part) (x0) (d1) : Part.regs ∈ T → Part.sel ∈ T → b.Keeps T d1 → b.Keeps
    T (tickConfirm x0 d1) := by
  intros; unfold tickConfirm; grind [foldl_keeps, forRange_keeps, Dev_setBit_keeps, Dev_setSel_keeps]
theorem tickTaiUtc_keeps (b : Dev) (T : List Part) (d0) : Part.regs ∈ T → b.Keeps T d0 → b.Keeps T (tickTaiUtc d0) :=
    by
  intros; unfold tickTaiUtc; grind [foldl_keeps, Dev_wrNat_keeps]
theorem selectorTick_keeps (b : Dev) (T : List Part) (x0) (d1) : Part.clk ∈ T → Part.clkOut ∈ T → Part.eb ∈ T →
    Part.eio ∈ T → Part.flash ∈ T → Part.flt ∈ T → Part.fresh ∈ T → Part.hif ∈ T → Part.ks ∈ T → Part.nts ∈ T →
    Part.out ∈ T → Part.pair ∈ T → Part.ports ∈ T → Part.pps ∈ T → Part.recd ∈ T → Part.refs ∈ T → Part.regs ∈ T →
    Part.rings ∈ T → Part.rn ∈ T → Part.sel ∈ T → Part.sys ∈ T → Part.tb ∈ T → b.Keeps T d1 → b.Keeps T (selectorTick
    x0 d1) := by
  intros; unfold selectorTick; grind (gen := 30) (ematch := 30) (splits := 30) [foldl_keeps, tickGather_keeps,
      forRange_keeps, tickDefects_keeps, tickState_keeps, tickConflict_keeps, tickTrend_keeps, tickReturn_keeps,
      tickConfirm_keeps, tickSelect_keeps, tickTaiUtc_keeps, tickPass_keeps]
theorem effAccept_keeps (b : Dev) (T : List Part) (x0) (x1) (x2) (d3) : Part.regs ∈ T → Part.sel ∈ T → b.Keeps T d3 →
    b.Keeps T (effAccept x0 x1 x2 d3) := by
  intros; unfold effAccept; grind [foldl_keeps, Dev_asCust_keeps, Dev_setSel_keeps]
theorem effModelLatch_keeps (b : Dev) (T : List Part) (x0) (x1) (d2) : Part.latch ∈ T → Part.out ∈ T → b.Keeps T d2 →
    b.Keeps T (effModelLatch x0 x1 d2) := by
  intros; unfold effModelLatch; grind [foldl_keeps, Dev_emit_keeps, Dev_latchRegs_keeps]
theorem Dev_clamped_keeps (b : Dev) (T : List Part) (d0) (x1) (x2) : Part.regs ∈ T → b.Keeps T d0 → b.Keeps T
    (Dev.clamped d0 x1 x2) := by
  intros; unfold Dev.clamped; grind [foldl_keeps, Dev_setBit_keeps, Dev_bump_keeps]
theorem Dev_setI_keeps (b : Dev) (T : List Part) (d0) (x1) (x2) : Part.regs ∈ T → Part.srv ∈ T → b.Keeps T d0 →
    b.Keeps T (Dev.setI d0 x1 x2) := by
  intros; unfold Dev.setI; grind [foldl_keeps, Dev_clamped_keeps, Dev_setSrv_keeps]
theorem effSrvCtl_keeps (b : Dev) (T : List Part) (x0) (x1) (x2) (d3) : Part.regs ∈ T → Part.srv ∈ T → b.Keeps T d3 →
    b.Keeps T (effSrvCtl x0 x1 x2 d3) := by
  intros; unfold effSrvCtl; grind [foldl_keeps, Dev_asCust_keeps, Dev_wr_keeps, Dev_bump_keeps, Dev_setSrv_keeps]
theorem Dev_incModel_keeps (b : Dev) (T : List Part) (d0) : Part.srvg ∈ T → b.Keeps T d0 → b.Keeps T (Dev.incModel d0)
    := by
  intros; unfold Dev.incModel; grind [foldl_keeps, upd_srvg_keeps]
theorem Dev_showK_keeps (b : Dev) (T : List Part) (d0) (x1) : Part.regs ∈ T → b.Keeps T d0 → b.Keeps T (Dev.showK d0
      x1) := by
  intros; unfold Dev.showK; grind [foldl_keeps, Dev_wrNat_keeps]
theorem Dev_showModel_keeps (b : Dev) (T : List Part) (d0) (x1) : Part.fresh ∈ T → Part.regs ∈ T → b.Keeps T d0 →
    b.Keeps T (Dev.showModel d0 x1) := by
  intros; unfold Dev.showModel; grind [foldl_keeps, Dev_wrFit_keeps, Dev_setFld_keeps, Dev_wrNat_keeps]
theorem Dev_takeFit_keeps (b : Dev) (T : List Part) (d0) (x1) (x2) : Part.fresh ∈ T → Part.models ∈ T → Part.regs ∈ T
    → b.Keeps T d0 → b.Keeps T (Dev.takeFit d0 x1 x2) := by
  intros; unfold Dev.takeFit; grind [Dev_showK_keeps, foldl_keeps, Dev_setModels_keeps, Dev_wrNat_keeps,
      Dev_setFld_keeps,
      Dev_setBit_keeps, Dev_showModel_keeps]
theorem effFit_keeps (b : Dev) (T : List Part) (x0) (x1) (d2) : Part.eb ∈ T → Part.fresh ∈ T → Part.models ∈ T →
    Part.regs ∈ T → Part.srvg ∈ T → b.Keeps T d2 → b.Keeps T (effFit x0 x1 d2) := by
  intros; unfold effFit; grind [foldl_keeps, Dev_ebRaiseAll_keeps, Dev_incModel_keeps, Dev_takeFit_keeps]
theorem effLoopMiss_keeps (b : Dev) (T : List Part) (x0) (d1) : Part.clk ∈ T → Part.clkOut ∈ T → Part.eb ∈ T →
    Part.eio ∈ T → Part.flash ∈ T → Part.flt ∈ T → Part.fresh ∈ T → Part.hif ∈ T → Part.ks ∈ T → Part.nts ∈ T →
    Part.out ∈ T → Part.pair ∈ T → Part.pps ∈ T → Part.recd ∈ T → Part.regs ∈ T → Part.rings ∈ T → Part.sel ∈ T →
    Part.srvg ∈ T → Part.sys ∈ T → b.Keeps T d1 → b.Keeps T (effLoopMiss x0 d1) := by
  intros; unfold effLoopMiss; grind [foldl_keeps, upd_srvg_keeps, Dev_pmc_keeps, Dev_bump_keeps, Dev_ebClose_keeps,
      Dev_ebMiss_keeps, Dev_setSel_keeps]
theorem tickLate_keeps (b : Dev) (T : List Part) (x0) (d1) : Part.clk ∈ T → Part.clkOut ∈ T → Part.eb ∈ T → Part.eio ∈
    T → Part.flash ∈ T → Part.flt ∈ T → Part.fresh ∈ T → Part.hif ∈ T → Part.ks ∈ T → Part.nts ∈ T → Part.out ∈ T →
    Part.pair ∈ T → Part.pps ∈ T → Part.recd ∈ T → Part.regs ∈ T → Part.rings ∈ T → Part.sel ∈ T → Part.srvg ∈ T →
    Part.sys ∈ T → b.Keeps T d1 → b.Keeps T (tickLate x0 d1) := by
  intros; unfold tickLate; grind [foldl_keeps, effLoopMiss_keeps]
theorem Dev_noteFresh_keeps (b : Dev) (T : List Part) (d0) (x1) (x2) : Part.regs ∈ T → Part.srv ∈ T → b.Keeps T d0 →
    b.Keeps T
    (Dev.noteFresh d0 x1 x2) := by
  intros; unfold Dev.noteFresh; grind [Dev_wrInt_keeps, foldl_keeps, Dev_setSrv_keeps]
theorem Dev_setC_keeps (b : Dev) (T : List Part) (d0) (x1) (x2) : Part.regs ∈ T → Part.srv ∈ T → b.Keeps T d0 →
    b.Keeps T (Dev.setC d0 x1 x2) := by
  intros; unfold Dev.setC; grind [foldl_keeps, Dev_clamped_keeps, Dev_setSrv_keeps]
theorem Dev_loopNoPhase_keeps (b : Dev) (T : List Part) (d0) (x1) : Part.regs ∈ T → Part.srv ∈ T → b.Keeps T d0 →
    b.Keeps T (Dev.loopNoPhase d0 x1) := by
  intros; unfold Dev.loopNoPhase; grind [foldl_keeps, Dev_setI_keeps, Dev_setC_keeps]
theorem Dev_restartAt_keeps (b : Dev) (T : List Part) (d0) (x1) (x2) : Part.regs ∈ T → Part.srv ∈ T → b.Keeps T d0 →
    b.Keeps T (Dev.restartAt d0 x1 x2) := by
  intros; unfold Dev.restartAt; grind [foldl_keeps, Dev_setSrv_keeps, Dev_setFld_keeps]
theorem Dev_sensorBad_keeps (b : Dev) (T : List Part) (d0) (x1) (x2) : Part.clk ∈ T → Part.clkOut ∈ T → Part.eio ∈ T →
    Part.flash ∈ T → Part.flt ∈ T → Part.fresh ∈ T → Part.hif ∈ T → Part.ks ∈ T → Part.nts ∈ T → Part.out ∈ T →
    Part.pair ∈ T → Part.pps ∈ T → Part.recd ∈ T → Part.regs ∈ T → Part.rings ∈ T → Part.sys ∈ T → b.Keeps T d0 →
    b.Keeps T (Dev.sensorBad d0 x1 x2) := by
  intros; unfold Dev.sensorBad; grind [foldl_keeps, Dev_showK_keeps, Dev_setBit_keeps, Dev_raiseLevel_keeps,
      Dev_endLevel_keeps]
theorem Dev_sensorRead_keeps (b : Dev) (T : List Part) (d0) (x1) (x2) : Part.clk ∈ T → Part.clkOut ∈ T → Part.eio ∈ T
    → Part.flash ∈ T → Part.flt ∈ T → Part.fresh ∈ T → Part.hif ∈ T → Part.ks ∈ T → Part.nts ∈ T → Part.out ∈ T →
    Part.pair ∈ T → Part.pps ∈ T → Part.recd ∈ T → Part.regs ∈ T → Part.rings ∈ T → Part.srvg ∈ T → Part.sys ∈ T →
    b.Keeps T d0 → b.Keeps T (Dev.sensorRead d0 x1 x2) := by
  intros; unfold Dev.sensorRead; grind [foldl_keeps, upd_srvg_keeps, Dev_sensorBad_keeps]
theorem effTempRecover_keeps (b : Dev) (T : List Part) (x0) (d1) : Part.clk ∈ T → Part.clkOut ∈ T → Part.eio ∈ T →
    Part.flash ∈ T → Part.flt ∈ T → Part.fresh ∈ T → Part.hif ∈ T → Part.ks ∈ T → Part.nts ∈ T → Part.out ∈ T →
    Part.pair ∈ T → Part.pps ∈ T → Part.recd ∈ T → Part.regs ∈ T → Part.rings ∈ T → Part.sys ∈ T → b.Keeps T d1 →
    b.Keeps T (effTempRecover x0 d1) :=
    by
  intros; unfold effTempRecover; grind [foldl_keeps, Dev_sensorBad_keeps]
theorem Dev_epochEnd_keeps (b : Dev) (T : List Part) (d0) (x1) (x2) : Part.models ∈ T → b.Keeps T d0 → b.Keeps T
    (Dev.epochEnd d0 x1 x2) := by
  intros; unfold Dev.epochEnd; grind [foldl_keeps, Dev_setModels_keeps]
theorem Dev_writeInc_keeps (b : Dev) (T : List Part) (d0) (x1) (x2) : Part.regs ∈ T → Part.tb ∈ T → b.Keeps T d0 →
    b.Keeps T (Dev.writeInc d0 x1 x2) := by
  intros; unfold Dev.writeInc; grind [foldl_keeps, Dev_commitInc_keeps, Dev_wrNat_keeps, Dev_commitBinc_keeps,
      Dev_clamped_keeps]
theorem Dev_loopUnset_keeps (b : Dev) (T : List Part) (d0) (x1) : Part.regs ∈ T → Part.srv ∈ T → Part.tb ∈ T → b.Keeps
    T d0 → b.Keeps T (Dev.loopUnset d0 x1) := by
  intros; unfold Dev.loopUnset; grind [foldl_keeps, Dev_setSrv_keeps, Dev_writeInc_keeps, Dev_setFld_keeps]
theorem Dev_closeNow_keeps (b : Dev) (T : List Part) (d0) (x1) : Part.regs ∈ T → Part.srv ∈ T → b.Keeps T d0 → b.Keeps
    T (Dev.closeNow d0 x1) := by
  intros; unfold Dev.closeNow; grind [foldl_keeps, Dev_setBit_keeps,
      Dev_setSrv_keeps]
theorem Dev_writePull_keeps (b : Dev) (T : List Part) (d0) (x1) : Part.regs ∈ T → Part.sel ∈ T → Part.srv ∈ T →
    Part.tb ∈ T → b.Keeps T d0 → b.Keeps T (Dev.writePull d0 x1) := by
  intros; unfold Dev.writePull; grind (gen := 30) (ematch := 30) (splits := 30) [foldl_keeps, Dev_setSel_keeps,
      Dev_wrNat_keeps, Dev_setBit_keeps, Dev_commitPadj_keeps, Dev_restartAt_keeps]
theorem Dev_retakeLoop_keeps (b : Dev) (T : List Part) (d0) (x1) (x2) : Part.regs ∈ T → Part.srv ∈ T → b.Keeps T d0 →
      b.Keeps T (Dev.retakeLoop d0 x1 x2) := by
  intros; unfold Dev.retakeLoop; grind [foldl_keeps, Dev_restartAt_keeps, Dev_noteFresh_keeps, Dev_setSrv_keeps]
theorem Dev_loopFresh_keeps (b : Dev) (T : List Part) (d0) (x1) (x2) : Part.regs ∈ T → Part.srv ∈ T → b.Keeps T d0 →
    b.Keeps T (Dev.loopFresh d0 x1 x2) := by
  intros; unfold Dev.loopFresh; grind [foldl_keeps, Dev_noteFresh_keeps, Dev_setI_keeps, Dev_setC_keeps]
theorem Dev_loopCorrect_keeps (b : Dev) (T : List Part) (d0) (x1) : Part.regs ∈ T → Part.srv ∈ T → b.Keeps T d0 →
      b.Keeps T (Dev.loopCorrect d0 x1) := by
  intros; unfold Dev.loopCorrect; grind [foldl_keeps, Dev_retakeLoop_keeps, Dev_loopFresh_keeps,
      Dev_loopNoPhase_keeps]
theorem Dev_stepAdvance_keeps (b : Dev) (T : List Part) (d0) (x1) : Part.regs ∈ T → Part.srv ∈ T → b.Keeps T d0 →
    b.Keeps T (Dev.stepAdvance d0 x1) := by
  intros; unfold Dev.stepAdvance; grind [foldl_keeps, Dev_restartAt_keeps]
theorem Dev_loopClosed_keeps (b : Dev) (T : List Part) (d0) (x1) : Part.regs ∈ T → Part.sel ∈ T → Part.srv ∈ T →
    Part.tb ∈ T → b.Keeps T d0 → b.Keeps T (Dev.loopClosed d0 x1) := by
  intros; unfold Dev.loopClosed; grind [foldl_keeps, Dev_writePull_keeps, Dev_restartAt_keeps, Dev_loopCorrect_keeps,
      Dev_setBit_keeps, Dev_writeInc_keeps, Dev_stepAdvance_keeps]
theorem Dev_writeLeap_keeps (b : Dev) (T : List Part) (d0) (x1) : Part.regs ∈ T → Part.tb ∈ T → b.Keeps T d0 → b.Keeps
    T (Dev.writeLeap d0 x1) := by
  intros; unfold Dev.writeLeap; grind [foldl_keeps, Dev_wrNat_keeps, Dev_commitLeap_keeps]
theorem Dev_showLoop_keeps (b : Dev) (T : List Part) (d0) (x1) : Part.fresh ∈ T → Part.regs ∈ T → b.Keeps T d0 →
    b.Keeps T (Dev.showLoop d0 x1) := by
  intros; unfold Dev.showLoop; grind [foldl_keeps, Dev_wrFit_keeps, Dev_wrNat_keeps, Dev_pmc_keeps,
      Dev_bumpWrap_keeps]
theorem osynSteer_keeps (b : Dev) (T : List Part) (x0) (x1) (d2) : Part.osyn ∈ T → b.Keeps T d2 → b.Keeps T (osynSteer
    x0 x1 d2) := by
  intros; unfold osynSteer; grind [foldl_keeps, Dev_setOsyn_keeps]
theorem Dev_loopUpdate_keeps (b : Dev) (T : List Part) (d0) (x1) : Part.fresh ∈ T → Part.osyn ∈ T → Part.regs ∈ T →
    Part.sel ∈ T → Part.srv ∈ T → Part.tb ∈ T → b.Keeps T d0 → b.Keeps T (Dev.loopUpdate d0 x1) := by
  intros; unfold Dev.loopUpdate; grind [foldl_keeps, Dev_closeNow_keeps, Dev_loopUnset_keeps, Dev_loopClosed_keeps,
      Dev_setSel_keeps, Dev_writeLeap_keeps, Dev_setSrv_keeps, Dev_showLoop_keeps, forRange_keeps, osynSteer_keeps]
theorem Dev_learnSample_keeps (b : Dev) (T : List Part) (d0) (x1) : Part.models ∈ T → b.Keeps T d0 → b.Keeps T
    (Dev.learnSample d0 x1) := by
  intros; unfold Dev.learnSample; grind [foldl_keeps, forRange_keeps, Dev_setModels_keeps]
theorem effLoop_keeps (b : Dev) (T : List Part) (x0) (x1) (d2) : Part.clk ∈ T → Part.clkOut ∈ T → Part.eb ∈ T →
    Part.eio ∈ T → Part.flash ∈ T → Part.flt ∈ T → Part.fresh ∈ T → Part.hif ∈ T → Part.ks ∈ T → Part.models ∈ T →
    Part.nts ∈ T → Part.osyn ∈ T → Part.out ∈ T → Part.pair ∈ T → Part.pps ∈ T → Part.recd ∈ T → Part.regs ∈ T →
    Part.rings ∈ T → Part.sel ∈ T → Part.srv ∈ T → Part.srvg ∈ T → Part.sys ∈ T → Part.tb ∈ T → b.Keeps T d2 → b.Keeps
    T (effLoop x0 x1 d2) := by
  intros; unfold effLoop; grind [foldl_keeps, upd_srvg_keeps, effLoopMiss_keeps, Dev_ebClose_keeps,
      Dev_loopUpdate_keeps, Dev_learnSample_keeps, Dev_ebTake_keeps]
theorem effHostWd_keeps (b : Dev) (T : List Part) (x0) (d1) : Part.clk ∈ T → Part.clkOut ∈ T → Part.eio ∈ T →
    Part.flash ∈ T → Part.flt ∈ T → Part.fresh ∈ T → Part.hif ∈ T → Part.ks ∈ T → Part.nts ∈ T → Part.out ∈ T →
    Part.pair ∈ T → Part.pps ∈ T → Part.recd ∈ T → Part.regs ∈ T → Part.rings ∈ T → Part.srv ∈ T → Part.sys ∈ T →
    b.Keeps T d1 → b.Keeps T (effHostWd x0 d1) := by
  intros; unfold effHostWd; grind [foldl_keeps, Dev_raise_keeps, Dev_setBit_keeps, Dev_setSrv_keeps]
theorem tickHostWd_keeps (b : Dev) (T : List Part) (x0) (d1) : Part.clk ∈ T → Part.clkOut ∈ T → Part.eio ∈ T →
    Part.flash ∈ T → Part.flt ∈ T → Part.fresh ∈ T → Part.hif ∈ T → Part.ks ∈ T → Part.nts ∈ T → Part.out ∈ T →
    Part.pair ∈ T → Part.pps ∈ T → Part.recd ∈ T → Part.regs ∈ T → Part.rings ∈ T → Part.srv ∈ T → Part.sys ∈ T →
    Part.tb ∈ T → b.Keeps T d1 → b.Keeps T (tickHostWd x0 d1) := by
  intros; unfold tickHostWd; grind [foldl_keeps, Dev_setTb_keeps, effHostWd_keeps]
theorem Dev_showSeeded_keeps (b : Dev) (T : List Part) (d0) : Part.regs ∈ T → b.Keeps T d0 → b.Keeps T (Dev.showSeeded
    d0) := by
  intros; unfold Dev.showSeeded; grind [foldl_keeps, Dev_setBit_keeps]
theorem tickLearn_keeps (b : Dev) (T : List Part) (d0) : Part.models ∈ T → Part.srvg ∈ T → b.Keeps T d0 → b.Keeps T
    (tickLearn d0) := by
  intros; unfold tickLearn; grind [foldl_keeps, upd_srvg_keeps, forRange_keeps, Dev_setModels_keeps,
      Dev_epochEnd_keeps]
theorem Dev_hotCheck_keeps (b : Dev) (T : List Part) (d0) : Part.clk ∈ T → Part.clkOut ∈ T → Part.eio ∈ T → Part.flash
    ∈ T → Part.flt ∈ T → Part.fresh ∈ T → Part.hif ∈ T → Part.ks ∈ T → Part.nts ∈ T → Part.out ∈ T → Part.pair ∈ T →
    Part.pps ∈ T → Part.recd ∈ T → Part.regs ∈ T → Part.rings ∈ T → Part.srvg ∈ T → Part.sys ∈ T → b.Keeps T d0 →
    b.Keeps T (Dev.hotCheck d0) := by
  intros; unfold Dev.hotCheck; grind [foldl_keeps, upd_srvg_keeps, Dev_raiseLevel_keeps, Dev_endLevel_keeps]
theorem Dev_tempStep_keeps (b : Dev) (T : List Part) (d0) (x1) : Part.regs ∈ T → b.Keeps T d0 → b.Keeps T
      (Dev.tempStep d0 x1) := by
  intros; unfold Dev.tempStep; grind [foldl_keeps, forRange_keeps, Dev_bump_keeps]
theorem tickTemps_keeps (b : Dev) (T : List Part) (x0) (d1) : Part.clk ∈ T → Part.clkOut ∈ T → Part.eio ∈ T →
    Part.flash ∈ T → Part.flt ∈ T → Part.fresh ∈ T → Part.hif ∈ T → Part.ks ∈ T → Part.nts ∈ T → Part.out ∈ T →
    Part.pair ∈ T → Part.pps ∈ T → Part.recd ∈ T → Part.regs ∈ T → Part.rings ∈ T → Part.srvg ∈ T → Part.sys ∈ T →
    b.Keeps T d1 → b.Keeps T (tickTemps x0 d1) := by
  intros; unfold tickTemps; grind (gen := 30) (ematch := 30) (splits := 30) [foldl_keeps, upd_srvg_keeps,
      Dev_setFld_keeps, Dev_sensorRead_keeps, Dev_tempStep_keeps, Dev_hotCheck_keeps]
theorem Dev_atomReturn_keeps (b : Dev) (T : List Part) (d0) : Part.eb ∈ T → Part.regs ∈ T → b.Keeps T d0 → b.Keeps T
    (Dev.atomReturn d0) := by
  intros; unfold Dev.atomReturn; grind [foldl_keeps, Dev_showSeeded_keeps, Dev_ebRaiseAll_keeps, Dev_setBit_keeps]
theorem tickAtom_keeps (b : Dev) (T : List Part) (x0) (d1) : Part.eb ∈ T → Part.regs ∈ T → Part.srvg ∈ T → b.Keeps T
    d1 → b.Keeps T (tickAtom x0 d1) := by
  intros; unfold tickAtom; grind (gen := 30) (ematch := 30) (splits := 30) [foldl_keeps, upd_srvg_keeps,
      Dev_showSeeded_keeps, Dev_ebRaiseAll_keeps, Dev_incModel_keeps, Dev_setBit_keeps, Dev_atomReturn_keeps]
theorem effStall_keeps (b : Dev) (T : List Part) (x0) (d1) : Part.clk ∈ T → Part.clkOut ∈ T → Part.eio ∈ T →
    Part.flash ∈ T → Part.flt ∈ T → Part.fresh ∈ T → Part.hif ∈ T → Part.ks ∈ T → Part.nts ∈ T → Part.out ∈ T →
    Part.pair ∈ T → Part.pps ∈ T → Part.recd ∈ T → Part.regs ∈ T → Part.rings ∈ T → Part.sys ∈ T → b.Keeps T d1 →
    b.Keeps T (effStall x0 d1) := by
  intros; unfold effStall; grind [foldl_keeps, Dev_raise_keeps, Dev_setBit_keeps]
theorem tickMisses_keeps (b : Dev) (T : List Part) (x0) (d1) : Part.srvg ∈ T → b.Keeps T d1 → b.Keeps T (tickMisses x0
    d1) := by
  intros; unfold tickMisses; grind [foldl_keeps, upd_srvg_keeps]
theorem Dev_seedModel_keeps (b : Dev) (T : List Part) (d0) (x1) (x2) (x3) : Part.fresh ∈ T → Part.models ∈ T →
    Part.regs ∈ T → b.Keeps T d0 → b.Keeps T (Dev.seedModel d0 x1 x2 x3) := by
  intros; unfold Dev.seedModel; grind (gen := 30) (ematch := 30) (splits := 30) [Dev_showK_keeps, foldl_keeps,
      Dev_setModels_keeps,
      Dev_wr_keeps, Dev_wrNat_keeps, Dev_setBit_keeps, Dev_showSeeded_keeps, Dev_showModel_keeps]
theorem effAtomReturn_keeps (b : Dev) (T : List Part) (d0) : Part.eb ∈ T → Part.regs ∈ T → Part.srvg ∈ T → b.Keeps T
    d0 → b.Keeps T (effAtomReturn d0) := by
  intros; unfold effAtomReturn; grind [foldl_keeps, Dev_incModel_keeps, Dev_atomReturn_keeps]
theorem tickServo_keeps (b : Dev) (T : List Part) (d0) : Part.clk ∈ T → Part.clkOut ∈ T → Part.eio ∈ T → Part.flash ∈
    T → Part.flt ∈ T → Part.fresh ∈ T → Part.hif ∈ T → Part.ks ∈ T → Part.models ∈ T → Part.nts ∈ T → Part.out ∈ T →
    Part.pair ∈ T → Part.pps ∈ T → Part.recd ∈ T → Part.regs ∈ T → Part.rings ∈ T → Part.srv ∈ T → Part.srvg ∈ T →
    Part.sys ∈ T → Part.tb ∈ T → b.Keeps T d0 → b.Keeps T (tickServo d0) := by
  intros; unfold tickServo; extract_lets e1 e2 g ends e3 e4 e5 e6 e7
  have h1 : b.Keeps T e1 := by apply forRange_keeps <;> first | assumption | (intro n d hd; apply tickMisses_keeps <;>
      assumption)
  have h2 : b.Keeps T e2 := by apply tickLearn_keeps <;> assumption
  have h3 : b.Keeps T e3 := by apply upd_srvg_keeps <;> assumption
  have h4 : b.Keeps T e4 := by apply Dev_wrNat_keeps <;> assumption
  have h5 : b.Keeps T e5 := by apply forRange_keeps <;> first | assumption | (intro n d hd; apply Dev_setSrv_keeps <;>
      assumption)
  have h6 : b.Keeps T e6 := by apply forRange_keeps <;> first | assumption | (intro n d hd; apply tickHostWd_keeps <;>
      assumption)
  clear_value e6
  have h7 : b.Keeps T e7 := by
    apply forRange_keeps <;> first | assumption | skip
    intro n d hd; apply Dev_wrNat_keeps <;> first | assumption | skip
    apply Dev_wrNat_keeps <;> assumption
  clear_value e7
  apply forRange_keeps <;> first | assumption | skip
  intro n d hd; apply Dev_setBit_keeps <;> assumption
theorem effOpenEffect_keeps (b : Dev) (T : List Part) (x0) (d1) : Part.regs ∈ T → Part.srv ∈ T → Part.tb ∈ T → b.Keeps
    T d1 → b.Keeps T (effOpenEffect x0 d1) := by
  intros; unfold effOpenEffect; grind [foldl_keeps, Dev_setTb_keeps, Dev_setSrv_keeps, Dev_setBit_keeps]
theorem tickSeed_keeps (b : Dev) (T : List Part) (d0) : Part.fresh ∈ T → Part.models ∈ T → Part.regs ∈ T → b.Keeps T
    d0 → b.Keeps T (tickSeed d0) := by
  intros; unfold tickSeed; grind [foldl_keeps, Dev_seedModel_keeps]
theorem Dev_seedModels_keeps (b : Dev) (T : List Part) (d0) (x1) : Part.fresh ∈ T → Part.models ∈ T → Part.regs ∈ T →
    Part.srvg ∈ T → b.Keeps T d0 → b.Keeps T (Dev.seedModels d0 x1) := by
  intros; unfold Dev.seedModels; grind [foldl_keeps, Dev_seedModel_keeps, Dev_setModels_keeps, Dev_incModel_keeps]
theorem Dev_turnEpochs_keeps (b : Dev) (T : List Part) (d0) (x1) (x2) : Part.models ∈ T → b.Keeps T d0 → b.Keeps T
    (Dev.turnEpochs d0 x1 x2) := by
  intros; unfold Dev.turnEpochs; grind [foldl_keeps, Dev_setModels_keeps]
theorem effErrLatch_keeps (b : Dev) (T : List Part) (x0) (x1) (d2) : Part.latch ∈ T → Part.out ∈ T → b.Keeps T d2 →
    b.Keeps T (effErrLatch x0 x1 d2) := by
  intros; unfold effErrLatch; grind [foldl_keeps, Dev_emit_keeps, Dev_latchRegs_keeps]
theorem Dev_predCorrect_keeps (b : Dev) (T : List Part) (d0) (x1) : Part.eb ∈ T → Part.fresh ∈ T → Part.models ∈ T →
    Part.regs ∈ T → Part.srvg ∈ T → b.Keeps T d0 → b.Keeps T (Dev.predCorrect d0 x1) := by
  intros; unfold Dev.predCorrect; grind (gen := 30) (ematch := 30) (splits := 30) [foldl_keeps, upd_srvg_keeps,
      Dev_setModels_keeps, Dev_turnEpochs_keeps, Dev_bump_keeps, Dev_maxReg_keeps, Dev_ebRaiseAll_keeps,
      Dev_incModel_keeps, Dev_showModel_keeps]
theorem Dev_taiUtcFor_keeps (b : Dev) (T : List Part) (d0) (x1) (x2) (x3) : Part.rn ∈ T → b.Keeps T d0 → b.Keeps T
    (Dev.taiUtcFor d0 x1 x2 x3).2 := by
  intros; unfold Dev.taiUtcFor; grind [foldl_keeps, Dev_modRn_keeps]
theorem Dev_armAt_keeps (b : Dev) (T : List Part) (d0) (x1) (x2) (x3) (x4) : Part.regs ∈ T → Part.tb ∈ T → b.Keeps T
    d0 → b.Keeps T (Dev.armAt d0 x1 x2 x3 x4) := by
  intros; unfold Dev.armAt; grind [foldl_keeps, Dev_wrNat_keeps, Dev_trySet_keeps]
theorem Dev_armFromOffset_keeps (b : Dev) (T : List Part) (d0) (x1) (x2) (x3) : Part.regs ∈ T → Part.tb ∈ T → b.Keeps
    T d0 → b.Keeps T (Dev.armFromOffset d0 x1 x2 x3) := by
  intros; unfold Dev.armFromOffset; grind [foldl_keeps, Dev_armAt_keeps]
theorem Dev_startPtp_keeps (b : Dev) (T : List Part) (d0) (x1) (x2) (x3) : Part.regs ∈ T → Part.tb ∈ T → b.Keeps T d0
    → b.Keeps T (Dev.startPtp d0 x1 x2 x3) := by
  intros; unfold Dev.startPtp; grind [foldl_keeps, Dev_armFromOffset_keeps]
theorem Dev_offsetFor_keeps (b : Dev) (T : List Part) (d0) (x1) (x2) (x3) (x4) : Part.rn ∈ T → b.Keeps T d0 → b.Keeps
    T (Dev.offsetFor d0 x1 x2 x3 x4).2 := by
  intros; unfold Dev.offsetFor; grind [foldl_keeps, Dev_taiUtcFor_keeps]
theorem Dev_startGnss_keeps (b : Dev) (T : List Part) (d0) (x1) (x2) (x3) (x4) : Part.regs ∈ T → Part.tb ∈ T → b.Keeps
    T d0 → b.Keeps T (Dev.startGnss d0 x1 x2 x3 x4) := by
  intros; unfold Dev.startGnss; grind [foldl_keeps, Dev_armFromOffset_keeps]
theorem Dev_toFifo_keeps (b : Dev) (T : List Part) (d0) (x1) (x2) : Part.ports ∈ T → Part.regs ∈ T → b.Keeps T d0 →
    b.Keeps T (Dev.toFifo d0 x1 x2) := by
  intros; unfold Dev.toFifo; grind [foldl_keeps, Dev_bump_keeps, Dev_setPorts_keeps]
theorem Dev_queueShow_keeps (b : Dev) (T : List Part) (d0) (x1) (x2) : Part.regs ∈ T → b.Keeps T d0 → b.Keeps T
    (Dev.queueShow d0 x1 x2) := by
  intros; unfold Dev.queueShow; grind [foldl_keeps, Dev_wrNat_keeps, Dev_setBit_keeps]
theorem Dev_setQueue_keeps (b : Dev) (T : List Part) (d0) (x1) (x2) (x3) : Part.egress ∈ T → Part.regs ∈ T → b.Keeps T
    d0 → b.Keeps T (Dev.setQueue d0 x1 x2 x3) := by
  intros; unfold Dev.setQueue; grind [foldl_keeps, Dev_queueShow_keeps, Dev_setEgress_keeps]
theorem dropLate_keeps (b : Dev) (T : List Part) (x0) (x1) (x2) (d3) : Part.egress ∈ T → Part.regs ∈ T → b.Keeps T d3
    → b.Keeps T (dropLate x0 x1 x2 d3) := by
  intros; unfold dropLate; grind [foldl_keeps, Dev_setQueue_keeps, Dev_setBit_keeps, Dev_bumpBy_keeps]
theorem Dev_toWire_keeps (b : Dev) (T : List Part) (d0) (x1) (x2) (x3) : Part.out ∈ T → Part.ports ∈ T → Part.regs ∈ T
    → b.Keeps T d0 → b.Keeps T (Dev.toWire d0 x1 x2 x3) := by
  intros; unfold Dev.toWire; grind [foldl_keeps, Dev_pmc_keeps, Dev_bump64By_keeps, Dev_bump64_keeps,
      Dev_setPorts_keeps, Dev_emit_keeps]
theorem Dev_enqueue_keeps (b : Dev) (T : List Part) (d0) (x1) : Part.egress ∈ T → Part.regs ∈ T → b.Keeps T d0 → ∀ y,
    Dev.enqueue d0 x1 = some y → b.Keeps T y := by
  intro h0 h1 h2 y hy; unfold Dev.enqueue at hy; grind [foldl_keeps, Dev_setQueue_keeps]
theorem Dev_ptpDeparted_keeps (b : Dev) (T : List Part) (d0) (x1) (x2) (x3) (x4) : Part.ptpp ∈ T → Part.regs ∈ T →
    b.Keeps T d0 → b.Keeps T (Dev.ptpDeparted d0 x1 x2 x3 x4) := by
  intros; unfold Dev.ptpDeparted; grind [foldl_keeps, Dev_setPtpp_keeps, Dev_wrNat_keeps]
theorem Dev_takeReplies_keeps (b : Dev) (T : List Part) (d0) (x1) : Part.egress ∈ T → Part.pe ∈ T → Part.regs ∈ T →
    b.Keeps T d0 → b.Keeps T (Dev.takeReplies d0 x1) := by
  intros; unfold Dev.takeReplies; grind [foldl_keeps, upd_pe_keeps, Dev_enqueue_keeps]
theorem effEgress_keeps (b : Dev) (T : List Part) (x0) (x1) (d2) : Part.egress ∈ T → Part.pe ∈ T → Part.ports ∈ T →
    Part.regs ∈ T → b.Keeps T d2 → b.Keeps T (effEgress x0 x1 d2) := by
  intros; unfold effEgress; grind [foldl_keeps, Dev_takeReplies_keeps, forRange_keeps, dropLate_keeps,
      Dev_toFifo_keeps, Dev_setQueue_keeps]
theorem Dev_fifoLate_keeps (b : Dev) (T : List Part) (d0) (x1) : Part.regs ∈ T → b.Keeps T d0 → b.Keeps T
    (Dev.fifoLate d0 x1) := by
  intros; unfold Dev.fifoLate; grind [foldl_keeps, Dev_setBit_keeps, Dev_bump_keeps]
theorem Dev_txqShow_keeps (b : Dev) (T : List Part) (d0) (x1) : Part.regs ∈ T → b.Keeps T d0 → b.Keeps T (Dev.txqShow
    d0 x1) := by
  intros; unfold Dev.txqShow; grind [foldl_keeps, Dev_setFld_keeps]
theorem Dev_twoStepStamp_keeps (b : Dev) (T : List Part) (d0) (x1) (x2) (x3) (x4) (x5) (x6) : Part.regs ∈ T →
    Part.rings ∈ T → Part.txq ∈ T → b.Keeps T d0 → b.Keeps T (Dev.twoStepStamp d0 x1 x2 x3 x4 x5 x6) := by
  intros; unfold Dev.twoStepStamp; grind [foldl_keeps, Dev_ringOffer_keeps, Dev_txqShow_keeps, Dev_setTxq_keeps]
theorem Dev_mispredict_keeps (b : Dev) (T : List Part) (d0) (x1) (x2) : Part.regs ∈ T → b.Keeps T d0 → b.Keeps T
    (Dev.mispredict d0 x1 x2) := by
  intros; unfold Dev.mispredict; grind [foldl_keeps, Dev_setBit_keeps, Dev_maxReg_keeps, Dev_bump_keeps]
theorem Dev_modStat_keeps (b : Dev) (T : List Part) (d0) (x1) : Part.nts ∈ T → b.Keeps T d0 → b.Keeps T (Dev.modStat
    d0 x1) := by
  intros; unfold Dev.modStat; grind [foldl_keeps, upd_nts_keeps]
theorem Dev_countSent_keeps (b : Dev) (T : List Part) (d0) (x1) (x2) : Part.nts ∈ T → Part.regs ∈ T → b.Keeps T d0 →
    b.Keeps T (Dev.countSent d0 x1 x2) := by
  intros; unfold Dev.countSent; grind [foldl_keeps, Dev_modStat_keeps, Dev_bump64_keeps, Dev_bump_keeps,
      Dev_pmc_keeps, Dev_bumpWrap_keeps]
theorem Dev_stampSent_keeps (b : Dev) (T : List Part) (d0) (x1) (x2) (x3) (x4) (x5) : Part.nts ∈ T → Part.ptpp ∈ T →
    Part.regs ∈ T → Part.rings ∈ T → Part.txq ∈ T → b.Keeps T d0 → b.Keeps T (Dev.stampSent d0 x1 x2 x3 x4 x5) := by
  intros; unfold Dev.stampSent; grind [foldl_keeps, Dev_pmc_keeps, Dev_mispredict_keeps, Dev_twoStepStamp_keeps,
      Dev_ptpDeparted_keeps, Dev_countSent_keeps]
theorem effFrameTx_keeps (b : Dev) (T : List Part) (x0) (x1) (x2) (d3) : Part.nts ∈ T → Part.out ∈ T → Part.ports ∈ T
    → Part.ptpp ∈ T → Part.regs ∈ T → Part.rings ∈ T → Part.txq ∈ T → b.Keeps T d3 → b.Keeps T (effFrameTx x0 x1 x2
    d3) := by
  intros; unfold effFrameTx; extract_lets lead; split
  · assumption
  split
  · assumption
  extract_lets e len
  have h1 : b.Keeps T e := by apply Dev_setPorts_keeps <;> assumption
  clear_value e len
  split
  · apply Dev_setBit_keeps <;> first | assumption | skip
    apply Dev_bump_keeps <;> assumption
  split
  · apply Dev_fifoLate_keeps <;> assumption
  apply Dev_toWire_keeps <;> first | assumption | skip
  apply Dev_stampSent_keeps <;> assumption
theorem Dev_modPtpp_keeps (b : Dev) (T : List Part) (d0) (x1) (x2) (x3) : Part.ptpp ∈ T → b.Keeps T d0 → b.Keeps T
    (Dev.modPtpp d0 x1 x2 x3) := by
  intros; unfold Dev.modPtpp; grind [foldl_keeps, Dev_setPtpp_keeps]
theorem Dev_setPtpState_keeps (b : Dev) (T : List Part) (d0) (x1) (x2) (x3) : Part.ptpp ∈ T → Part.regs ∈ T → b.Keeps
    T d0 → b.Keeps T (Dev.setPtpState d0 x1 x2 x3) := by
  intros; unfold Dev.setPtpState; grind [foldl_keeps, Dev_modPtpp_keeps, Dev_setFld_keeps]
theorem ptpPortRefresh_keeps (b : Dev) (T : List Part) (x0) (x1) (d2) : Part.ptpp ∈ T → Part.regs ∈ T → b.Keeps T d2 →
    b.Keeps T (ptpPortRefresh x0 x1 d2) := by
  intros; unfold ptpPortRefresh; grind [foldl_keeps, Dev_setPtpState_keeps]
theorem ptpRefresh_keeps (b : Dev) (T : List Part) (d0) : Part.ptpp ∈ T → Part.regs ∈ T → b.Keeps T d0 → b.Keeps T
    (ptpRefresh d0) :=
    by
  intros; unfold ptpRefresh; grind [foldl_keeps, forRange_keeps, ptpPortRefresh_keeps]
theorem Dev_modPort_keeps (b : Dev) (T : List Part) (d0) (x1) (x2) : Part.ports ∈ T → b.Keeps T d0 → b.Keeps T
    (Dev.modPort d0 x1 x2) := by
  intros; unfold Dev.modPort; grind [foldl_keeps, Dev_setPorts_keeps]
theorem Dev_frameSeen_keeps (b : Dev) (T : List Part) (d0) (x1) : Part.ports ∈ T → b.Keeps T d0 → b.Keeps T
    (Dev.frameSeen d0 x1) := by
  intros; unfold Dev.frameSeen; grind [foldl_keeps, Dev_modPort_keeps]
theorem heldUpdate_keeps (b : Dev) (T : List Part) (x0) (d1) : Part.ports ∈ T → Part.regs ∈ T → b.Keeps T d1 → b.Keeps
    T (heldUpdate x0 d1) := by
  intros; unfold heldUpdate; grind [foldl_keeps, Dev_bumpBy_keeps, Dev_modPort_keeps]
theorem Dev_setPause_keeps (b : Dev) (T : List Part) (d0) (x1) (x2) (x3) : Part.ports ∈ T → Part.regs ∈ T → b.Keeps T
    d0 → b.Keeps T (Dev.setPause d0 x1 x2 x3) := by
  intros; unfold Dev.setPause; grind [foldl_keeps, heldUpdate_keeps, Dev_modPort_keeps, Dev_wrNat_keeps]
theorem Dev_setEnds_keeps (b : Dev) (T : List Part) (d0) (x1) (x2) : Part.ports ∈ T → b.Keeps T d0 → b.Keeps T
    (Dev.setEnds d0 x1 x2) := by
  intros; unfold Dev.setEnds; grind [foldl_keeps, Dev_modPort_keeps]
theorem effPause_keeps (b : Dev) (T : List Part) (x0) (x1) (d2) : Part.ports ∈ T → Part.regs ∈ T → b.Keeps T d2 →
    b.Keeps T (effPause x0 x1 d2) := by
  intros; unfold effPause; grind [foldl_keeps, Dev_frameSeen_keeps, Dev_setPause_keeps, Dev_bump_keeps,
      Dev_setEnds_keeps]
theorem Dev_localFault_keeps (b : Dev) (T : List Part) (d0) (x1) (x2) : Part.out ∈ T → Part.regs ∈ T → b.Keeps T d0 →
    b.Keeps T (Dev.localFault d0 x1 x2) := by
  intros; unfold Dev.localFault; grind [foldl_keeps, Dev_setBit_keeps, Dev_emit_keeps]
theorem Dev_setVerify_keeps (b : Dev) (T : List Part) (d0) (x1) (x2) (x3) : Part.regs ∈ T → b.Keeps T d0 → b.Keeps T
    (Dev.setVerify d0 x1 x2 x3) := by
  intros; unfold Dev.setVerify; grind [foldl_keeps, Dev_setBit_keeps, Dev_setFld_keeps]
theorem Dev_verifyStart_keeps (b : Dev) (T : List Part) (d0) (x1) : Part.out ∈ T → Part.ports ∈ T → Part.regs ∈ T →
    b.Keeps T d0 → b.Keeps T (Dev.verifyStart d0 x1) := by
  intros; unfold Dev.verifyStart; grind [foldl_keeps, Dev_setVerify_keeps, Dev_emit_keeps, Dev_modPort_keeps]
theorem effLinkUp_keeps (b : Dev) (T : List Part) (x0) (x1) (x2) (d3) : Part.out ∈ T → Part.ports ∈ T → Part.ptpp ∈ T
    → Part.regs ∈ T → b.Keeps T d3 → b.Keeps T (effLinkUp x0 x1 x2 d3) := by
  intros; unfold effLinkUp; grind (gen := 30) (ematch := 30) (splits := 30) [foldl_keeps, Dev_setBit_keeps,
      Dev_setFld_keeps, Dev_localFault_keeps, ptpRefresh_keeps, Dev_verifyStart_keeps]
theorem effPauseExpire_keeps (b : Dev) (T : List Part) (x0) (x1) (d2) : Part.ports ∈ T → Part.regs ∈ T → b.Keeps T d2
    → b.Keeps T (effPauseExpire x0 x1 d2) := by
  intros; unfold effPauseExpire; grind [foldl_keeps, Dev_setPause_keeps]
theorem effVerifyTimeout_keeps (b : Dev) (T : List Part) (x0) (d1) : Part.out ∈ T → Part.ports ∈ T → Part.regs ∈ T →
    b.Keeps T d1 → b.Keeps T (effVerifyTimeout x0 d1) := by
  intros; unfold effVerifyTimeout; grind [foldl_keeps, Dev_setVerify_keeps, Dev_emit_keeps, Dev_modPort_keeps]
theorem effPreempt_keeps (b : Dev) (T : List Part) (x0) (x1) (d2) : Part.out ∈ T → Part.ports ∈ T → Part.regs ∈ T →
    b.Keeps T d2 → b.Keeps T (effPreempt x0 x1 d2) := by
  intros; unfold effPreempt; grind [foldl_keeps, Dev_bump_keeps, Dev_pmc_keeps, Dev_emit_keeps, Dev_modPort_keeps]
theorem Dev_verifyReset_keeps (b : Dev) (T : List Part) (d0) (x1) : Part.ports ∈ T → Part.regs ∈ T → b.Keeps T d0 →
    b.Keeps T (Dev.verifyReset d0 x1) := by
  intros; unfold Dev.verifyReset; grind [foldl_keeps, Dev_modPort_keeps, Dev_setVerify_keeps]
theorem Dev_linkLost_keeps (b : Dev) (T : List Part) (d0) (x1) : Part.ports ∈ T → Part.ptpp ∈ T → Part.regs ∈ T →
    b.Keeps T d0 → b.Keeps T (Dev.linkLost d0 x1) := by
  intros; unfold Dev.linkLost; grind (gen := 30) (ematch := 30) (splits := 30) [foldl_keeps, Dev_bump_keeps,
      Dev_setBit_keeps, Dev_bumpBy_keeps, Dev_setPause_keeps, Dev_modPort_keeps, ptpRefresh_keeps,
      Dev_verifyReset_keeps]
theorem Dev_wake_keeps (b : Dev) (T : List Part) (d0) (x1) : Part.clk ∈ T → Part.hif ∈ T → Part.out ∈ T → Part.ports ∈
    T → Part.ptpp ∈ T → Part.regs ∈ T → b.Keeps T d0 → b.Keeps T (Dev.wake d0 x1) := by
  intros; unfold Dev.wake; grind (gen := 30) (ematch := 30) (splits := 30) [foldl_keeps, Dev_interrupt_keeps,
      Dev_setBit_keeps, Dev_bump_keeps, Dev_wr_keeps, Dev_frameSeen_keeps, Dev_linkLost_keeps, Dev_gateOpen_keeps]
theorem effWakeFrame_keeps (b : Dev) (T : List Part) (x0) (x1) (d2) : Part.clk ∈ T → Part.hif ∈ T → Part.out ∈ T →
    Part.ports ∈ T → Part.ptpp ∈ T → Part.regs ∈ T → b.Keeps T d2 → b.Keeps T (effWakeFrame x0 x1 d2) := by
  intros; unfold effWakeFrame; grind [foldl_keeps, Dev_bump_keeps, Dev_wake_keeps]
theorem effEsmcRx_keeps (b : Dev) (T : List Part) (x0) (x1) (x2) (d3) : Part.refs ∈ T → Part.regs ∈ T → b.Keeps T d3 →
    b.Keeps T (effEsmcRx x0 x1 x2 d3) := by
  intros; unfold effEsmcRx; grind [foldl_keeps, Dev_bump_keeps, Dev_setFld_keeps, Dev_modRef_keeps,
      Dev_refMessage_keeps]
theorem effFrameRx_keeps (b : Dev) (T : List Part) (x0) (x1) (x2) (x3) (d4) : Part.clk ∈ T → Part.hif ∈ T → Part.out ∈
    T → Part.ports ∈ T → Part.ptpp ∈ T → Part.refs ∈ T → Part.regs ∈ T → b.Keeps T d4 → b.Keeps T (effFrameRx x0 x1 x2
    x3 d4) := by
  intros; unfold effFrameRx; grind (gen := 30) (ematch := 30) (splits := 30) [foldl_keeps, effWakeFrame_keeps,
      Dev_bump_keeps, Dev_bumpBy_keeps, Dev_frameSeen_keeps, effPause_keeps, effEsmcRx_keeps, Dev_modPort_keeps,
      Dev_pmc_keeps, Dev_bump64By_keeps, Dev_bump64_keeps]
theorem Dev_isletEnter_keeps (b : Dev) (T : List Part) (d0) (x1) : Part.ptpp ∈ T → Part.regs ∈ T → b.Keeps T d0 →
    b.Keeps T (Dev.isletEnter d0 x1) := by
  intros; unfold Dev.isletEnter; grind [foldl_keeps, Dev_setBit_keeps, ptpRefresh_keeps]
theorem effIsletIdle_keeps (b : Dev) (T : List Part) (x0) (d1) : Part.ptpp ∈ T → Part.regs ∈ T → b.Keeps T d1 →
    b.Keeps T (effIsletIdle x0 d1) := by
  intros; unfold effIsletIdle; grind [foldl_keeps, Dev_isletEnter_keeps]
theorem Dev_sendFrame_keeps (b : Dev) (T : List Part) (d0) (x1) (x2) : Part.pe ∈ T → b.Keeps T d0 → b.Keeps T
    (Dev.sendFrame d0 x1 x2) := by
  intros; unfold Dev.sendFrame; grind [foldl_keeps, upd_pe_keeps]
theorem Dev_esmcSend_keeps (b : Dev) (T : List Part) (d0) (x1) (x2) : Part.fresh ∈ T → Part.pe ∈ T → Part.regs ∈ T →
    b.Keeps T d0 → b.Keeps T (Dev.esmcSend d0 x1 x2) := by
  intros; unfold Dev.esmcSend; grind [foldl_keeps, Dev_freeBytes_keeps, Dev_setFld_keeps, Dev_sendFrame_keeps]
theorem effVerifyRx_keeps (b : Dev) (T : List Part) (x0) (d1) : Part.out ∈ T → b.Keeps T d1 → b.Keeps T (effVerifyRx
    x0 d1) := by
  intros; unfold effVerifyRx; grind [foldl_keeps, Dev_emit_keeps]
theorem effRespond_keeps (b : Dev) (T : List Part) (x0) (d1) : Part.regs ∈ T → b.Keeps T d1 → b.Keeps T (effRespond x0
    d1) := by
  intros; unfold effRespond; grind [foldl_keeps, Dev_setVerify_keeps]
theorem effMacLatch_keeps (b : Dev) (T : List Part) (x0) (x1) (x2) (d3) : Part.latch ∈ T → Part.out ∈ T → b.Keeps T d3
    → b.Keeps T (effMacLatch x0 x1 x2 d3) := by
  intros; unfold effMacLatch; grind [foldl_keeps, Dev_emit_keeps, Dev_latchRegs_keeps]
theorem effIsletCmd_keeps (b : Dev) (T : List Part) (x0) (x1) (d2) : Part.ptpp ∈ T → Part.regs ∈ T → b.Keeps T d2 →
    b.Keeps T (effIsletCmd x0 x1 d2) := by
  intros; unfold effIsletCmd; grind [foldl_keeps, Dev_asCust_keeps, Dev_isletEnter_keeps]
theorem effWakeCmd_keeps (b : Dev) (T : List Part) (x0) (x1) (d2) : Part.clk ∈ T → Part.hif ∈ T → Part.out ∈ T →
    Part.ports ∈ T → Part.ptpp ∈ T → Part.regs ∈ T → b.Keeps T d2 → b.Keeps T (effWakeCmd x0 x1 d2) := by
  intros; unfold effWakeCmd; grind [foldl_keeps, Dev_asCust_keeps, Dev_wake_keeps]
theorem tickEsmc_keeps (b : Dev) (T : List Part) (x0) (d1) : Part.fresh ∈ T → Part.pe ∈ T → Part.regs ∈ T → b.Keeps T
    d1 → b.Keeps T (tickEsmc x0 d1) := by
  intros; unfold tickEsmc; grind [foldl_keeps, Dev_esmcSend_keeps]
theorem effLinkDown_keeps (b : Dev) (T : List Part) (x0) (x1) (x2) (x3) (x4) (d5) : Part.out ∈ T → Part.ports ∈ T →
    Part.ptpp ∈ T → Part.regs ∈ T → b.Keeps T d5 → b.Keeps T (effLinkDown x0 x1 x2 x3 x4 d5) := by
  intros; unfold effLinkDown; grind (gen := 30) (ematch := 30) (splits := 30) [foldl_keeps, Dev_localFault_keeps,
      Dev_linkLost_keeps, Dev_setBit_keeps]
theorem Dev_ringEvent_keeps (b : Dev) (T : List Part) (d0) (x1) : Part.hif ∈ T → Part.out ∈ T → Part.regs ∈ T →
    Part.rings ∈ T → b.Keeps T d0 → b.Keeps T (Dev.ringEvent d0 x1) := by
  intros; unfold Dev.ringEvent; grind [foldl_keeps, Dev_interrupt_keeps, Dev_setRings_keeps]
theorem Dev_headAdvance_keeps (b : Dev) (T : List Part) (d0) (x1) : Part.hif ∈ T → Part.out ∈ T → Part.regs ∈ T →
    Part.rings ∈ T → b.Keeps T d0 → b.Keeps T (Dev.headAdvance d0 x1) := by
  intros; unfold Dev.headAdvance; grind [foldl_keeps, Dev_ringEvent_keeps, Dev_bumpWrap_keeps, Dev_wrNat_keeps]
theorem Dev_htxEnter_keeps (b : Dev) (T : List Part) (d0) (x1) : Part.egress ∈ T → Part.hif ∈ T → Part.out ∈ T →
    Part.pe ∈ T → Part.regs ∈ T → Part.rings ∈ T → b.Keeps T d0 → b.Keeps T (Dev.htxEnter d0 x1) := by
  intros; unfold Dev.htxEnter; grind [foldl_keeps, upd_pe_keeps, Dev_enqueue_keeps, Dev_headAdvance_keeps]
theorem Dev_ringStart_keeps (b : Dev) (T : List Part) (d0) (x1) (x2) : Part.regs ∈ T → Part.rings ∈ T → b.Keeps T d0 →
    b.Keeps T (Dev.ringStart d0 x1 x2) := by
  intros; unfold Dev.ringStart; grind (gen := 30) (ematch := 30) (splits := 30) [foldl_keeps, Dev_wr_keeps,
      Dev_setBit_keeps, Dev_setRings_keeps]
theorem effStagingTimeout_keeps (b : Dev) (T : List Part) (x0) (d1) : Part.regs ∈ T → Part.rings ∈ T → b.Keeps T d1 →
    b.Keeps T (effStagingTimeout x0 d1) := by
  intros; unfold effStagingTimeout; grind [foldl_keeps, Dev_ringDrop_keeps, Dev_setRings_keeps]
theorem effHtxFetch_keeps (b : Dev) (T : List Part) (x0) (x1) (d2) : Part.egress ∈ T → Part.hif ∈ T → Part.out ∈ T →
    Part.pe ∈ T → Part.regs ∈ T → Part.rings ∈ T → b.Keeps T d2 → b.Keeps T (effHtxFetch x0 x1 d2) := by
  intros; unfold effHtxFetch; grind [foldl_keeps, Dev_htxEnter_keeps, Dev_headAdvance_keeps, Dev_bump_keeps]
theorem Dev_writeBack_keeps (b : Dev) (T : List Part) (d0) (x1) : Part.out ∈ T → b.Keeps T d0 → b.Keeps T
    (Dev.writeBack d0 x1) := by
  intros; unfold Dev.writeBack; grind [foldl_keeps, Dev_emit_keeps]
theorem effRingEnable_keeps (b : Dev) (T : List Part) (x0) (x1) (x2) (d3) : Part.regs ∈ T → Part.rings ∈ T → b.Keeps T
    d3 → b.Keeps T (effRingEnable x0 x1 x2 d3) := by
  intros; unfold effRingEnable; grind [foldl_keeps, Dev_asCust_keeps, Dev_ringStart_keeps]
theorem effHcmdFetch_keeps (b : Dev) (T : List Part) (x0) (d1) : Part.hif ∈ T → Part.out ∈ T → Part.pe ∈ T → Part.regs
    ∈ T → Part.rings ∈ T → b.Keeps T d1 → b.Keeps T (effHcmdFetch x0 d1) := by
  intros; unfold effHcmdFetch; grind [foldl_keeps, upd_pe_keeps, Dev_headAdvance_keeps]
theorem effImod_keeps (b : Dev) (T : List Part) (x0) (d1) : Part.hif ∈ T → Part.out ∈ T → Part.regs ∈ T → Part.rings ∈
    T → b.Keeps T d1 → b.Keeps T (effImod x0 d1) := by
  intros; unfold effImod; grind [foldl_keeps, Dev_interrupt_keeps, Dev_setRings_keeps]
theorem effHtxTimeout_keeps (b : Dev) (T : List Part) (d0) : Part.hif ∈ T → Part.out ∈ T → Part.pe ∈ T → Part.regs ∈ T
    → Part.rings ∈ T → b.Keeps T d0 → b.Keeps T (effHtxTimeout d0) := by
  intros; unfold effHtxTimeout; grind [foldl_keeps, upd_pe_keeps, Dev_pmc_keeps, Dev_headAdvance_keeps,
      Dev_setBit_keeps, Dev_bump_keeps]
theorem Dev_hostBody_keeps (b : Dev) (T : List Part) (d0) (x1) : Part.fresh ∈ T → b.Keeps T d0 → b.Keeps T
    (Dev.hostBody d0 x1).2 := by
  intros; unfold Dev.hostBody; grind [foldl_keeps, Dev_freeBytes_keeps]
theorem effRecordWrite_keeps (b : Dev) (T : List Part) (x0) (d1) : Part.fresh ∈ T → Part.hif ∈ T → Part.out ∈ T →
    Part.regs ∈ T → Part.rings ∈ T → b.Keeps T d1 → b.Keeps T (effRecordWrite x0 d1) := by
  intros; unfold effRecordWrite; grind (gen := 30) (ematch := 30) (splits := 30) [foldl_keeps, Dev_setRings_keeps,
      Dev_emit_keeps, Dev_hostBody_keeps, Dev_bumpWrap_keeps, Dev_wrNat_keeps, Dev_pmc_keeps, Dev_ringEvent_keeps,
      Dev_writeBack_keeps]
theorem Dev_ringStop_keeps (b : Dev) (T : List Part) (d0) (x1) : Part.pe ∈ T → Part.regs ∈ T → Part.rings ∈ T →
    b.Keeps T d0 → b.Keeps T (Dev.ringStop d0 x1) := by
  intros; unfold Dev.ringStop; grind [foldl_keeps, upd_pe_keeps, Dev_ringFlushStaging_keeps, Dev_setBit_keeps]
theorem effRingDisable_keeps (b : Dev) (T : List Part) (x0) (x1) (x2) (d3) : Part.pe ∈ T → Part.regs ∈ T → Part.rings
    ∈ T → b.Keeps T d3 → b.Keeps T (effRingDisable x0 x1 x2 d3) := by
  intros; unfold effRingDisable; grind [foldl_keeps, Dev_asCust_keeps, Dev_ringStop_keeps, Dev_wr_keeps]
theorem effTail_keeps (b : Dev) (T : List Part) (x0) (x1) (x2) (d3) : Part.regs ∈ T → b.Keeps T d3 → b.Keeps T
    (effTail x0 x1 x2 d3) := by
  intros; unfold effTail; grind [foldl_keeps, Dev_asCust_keeps, Dev_wr_keeps, Dev_setBit_keeps]
theorem effDmaError_keeps (b : Dev) (T : List Part) (x0) (x1) (d2) : Part.clk ∈ T → Part.clkOut ∈ T → Part.eio ∈ T →
    Part.flash ∈ T → Part.flt ∈ T → Part.fresh ∈ T → Part.hif ∈ T → Part.ks ∈ T → Part.nts ∈ T → Part.out ∈ T →
    Part.pair ∈ T → Part.pe ∈ T → Part.pps ∈ T → Part.recd ∈ T → Part.regs ∈ T → Part.rings ∈ T → Part.sys ∈ T →
    b.Keeps T d2 → b.Keeps T (effDmaError x0 x1 d2) := by
  intros; unfold effDmaError; grind [foldl_keeps, upd_pe_keeps, Dev_popCmd_keeps, Dev_raise_keeps, Dev_setBit_keeps]
theorem Dev_badAny_keeps (b : Dev) (T : List Part) (d0) : Part.regs ∈ T → b.Keeps T d0 → b.Keeps T (Dev.badAny d0) :=
    by
  intros; unfold Dev.badAny; grind [foldl_keeps, Dev_setBit_keeps]
theorem saRefresh_keeps (b : Dev) (T : List Part) (x0) (d1) : Part.clk ∈ T → Part.clkOut ∈ T → Part.eio ∈ T →
    Part.flash ∈ T → Part.flt ∈ T → Part.fresh ∈ T → Part.hif ∈ T → Part.ks ∈ T → Part.nts ∈ T → Part.out ∈ T →
    Part.pair ∈ T → Part.pps ∈ T → Part.recd ∈ T → Part.regs ∈ T → Part.rings ∈ T → Part.sys ∈ T → b.Keeps T d1 →
    b.Keeps T (saRefresh x0 d1) := by
  intros; unfold saRefresh; grind [foldl_keeps, Dev_setBit_keeps, Dev_raiseOnset_keeps]
theorem Dev_showKeys_keeps (b : Dev) (T : List Part) (d0) : Part.regs ∈ T → b.Keeps T d0 → b.Keeps T (Dev.showKeys d0)
    := by
  intros; unfold Dev.showKeys; grind [foldl_keeps, Dev_wrNat_keeps]
theorem effDayTurn_keeps (b : Dev) (T : List Part) (d0) : Part.nts ∈ T → Part.regs ∈ T → b.Keeps T d0 → b.Keeps T
    (effDayTurn d0) := by
  intros; unfold effDayTurn; grind [foldl_keeps, upd_nts_keeps, Dev_showKeys_keeps]
theorem Dev_rootCheck_keeps (b : Dev) (T : List Part) (d0) : Part.clk ∈ T → Part.clkOut ∈ T → Part.eio ∈ T →
    Part.flash ∈ T → Part.flt ∈ T → Part.fresh ∈ T → Part.hif ∈ T → Part.ks ∈ T → Part.nts ∈ T → Part.out ∈ T →
    Part.pair ∈ T → Part.pps ∈ T → Part.recd ∈ T → Part.regs ∈ T → Part.rings ∈ T → Part.sys ∈ T → b.Keeps T d0 →
    b.Keeps T (Dev.rootCheck d0) := by
  intros; unfold Dev.rootCheck; grind [foldl_keeps, upd_nts_keeps, Dev_endLevel_keeps, Dev_setBit_keeps,
      Dev_raiseLevel_keeps]
theorem instSaRefresh_keeps (b : Dev) (T : List Part) (x0) (d1) : Part.regs ∈ T → b.Keeps T d1 → b.Keeps T
    (instSaRefresh x0 d1) := by
  intros; unfold instSaRefresh; grind [foldl_keeps, Dev_setBit_keeps]
theorem Dev_saAll_keeps (b : Dev) (T : List Part) (d0) : Part.clk ∈ T → Part.clkOut ∈ T → Part.eio ∈ T → Part.flash ∈
    T → Part.flt ∈ T → Part.fresh ∈ T → Part.hif ∈ T → Part.ks ∈ T → Part.nts ∈ T → Part.out ∈ T → Part.pair ∈ T →
    Part.pps ∈ T → Part.ptpp ∈ T → Part.recd ∈ T → Part.regs ∈ T → Part.rings ∈ T → Part.sys ∈ T → b.Keeps T d0 →
    b.Keeps T (Dev.saAll d0) := by
  intros; unfold Dev.saAll; grind [foldl_keeps, forRange_keeps, saRefresh_keeps, Dev_endLevel_keeps, ptpRefresh_keeps,
      instSaRefresh_keeps]
theorem Dev_slotChanged_keeps (b : Dev) (T : List Part) (d0) (x1) : Part.clk ∈ T → Part.clkOut ∈ T → Part.eio ∈ T →
    Part.flash ∈ T → Part.flt ∈ T → Part.fresh ∈ T → Part.hif ∈ T → Part.ks ∈ T → Part.nts ∈ T → Part.out ∈ T →
    Part.pair ∈ T → Part.pps ∈ T → Part.ptpp ∈ T → Part.recd ∈ T → Part.regs ∈ T → Part.rings ∈ T → Part.sys ∈ T →
    b.Keeps T d0 → b.Keeps T (Dev.slotChanged d0 x1) := by
  intros; unfold Dev.slotChanged; grind [foldl_keeps, Dev_rootCheck_keeps, Dev_setBit_keeps, Dev_saAll_keeps,
      Dev_badAny_keeps]

end Sys2Proof.Laws
end

