-- ==== Sys2Proof/Laws/Keeps3.lean ====
section
/-! SUPPORT. One lemma per function of the model that answers a device: the parts of the device it may change (part 3 of 5,
callees first). A device that differs from b only in the parts T still does after it, when T holds those parts. -/
set_option Elab.async false
namespace Sys2Proof.Laws
open Sys2Proof.Machine

theorem Dev_flashErase_keeps (b : Dev) (T : List Part) (d0) (x1) (x2) : Part.flash ∈ T → b.Keeps T d0 → b.Keeps T
    (Dev.flashErase d0 x1 x2) := by
  intros; unfold Dev.flashErase; grind [foldl_keeps, upd_flash_keeps]
theorem Dev_deriveWindow_keeps (b : Dev) (T : List Part) (d0) : Part.nts ∈ T → b.Keeps T d0 → b.Keeps T
    (Dev.deriveWindow d0) := by
  intros; unfold Dev.deriveWindow; grind [foldl_keeps, upd_nts_keeps]
theorem effRederive_keeps (b : Dev) (T : List Part) (d0) : Part.nts ∈ T → Part.regs ∈ T → b.Keeps T d0 → b.Keeps T
    (effRederive d0) := by
  intros; unfold effRederive; grind [foldl_keeps, upd_nts_keeps, Dev_deriveWindow_keeps, Dev_setBit_keeps]
theorem effEpochKey_keeps (b : Dev) (T : List Part) (d0) : Part.nts ∈ T → b.Keeps T d0 → b.Keeps T (effEpochKey d0) :=
    by
  intros; unfold effEpochKey; grind [foldl_keeps, upd_nts_keeps]
theorem Dev_slotShow_keeps (b : Dev) (T : List Part) (d0) (x1) : Part.regs ∈ T → b.Keeps T d0 → b.Keeps T
    (Dev.slotShow d0 x1) := by
  intros; unfold Dev.slotShow; grind [foldl_keeps, Dev_wrNat_keeps]
theorem Dev_flashProgram_keeps (b : Dev) (T : List Part) (d0) (x1) (x2) : Part.flash ∈ T → b.Keeps T d0 → b.Keeps T
    (Dev.flashProgram d0 x1 x2) := by
  intros; unfold Dev.flashProgram; grind [foldl_keeps, upd_flash_keeps]
theorem effKeysDone_keeps (b : Dev) (T : List Part) (d0) : Part.clk ∈ T → Part.clkOut ∈ T → Part.eio ∈ T → Part.flash
    ∈ T → Part.flt ∈ T → Part.fresh ∈ T → Part.hif ∈ T → Part.ks ∈ T → Part.nts ∈ T → Part.out ∈ T → Part.pair ∈ T →
    Part.pps ∈ T → Part.recd ∈ T → Part.regs ∈ T → Part.rings ∈ T → Part.sys ∈ T → b.Keeps T d0 → b.Keeps T
    (effKeysDone d0) := by
  intros; unfold effKeysDone; grind [foldl_keeps, upd_nts_keeps, Dev_rootCheck_keeps, Dev_showKeys_keeps,
      Dev_setBit_keeps]
theorem Dev_storeRecheck_keeps (b : Dev) (T : List Part) (d0) : Part.clk ∈ T → Part.clkOut ∈ T → Part.eio ∈ T →
    Part.flash ∈ T → Part.flt ∈ T → Part.fresh ∈ T → Part.hif ∈ T → Part.ks ∈ T → Part.nts ∈ T → Part.out ∈ T →
    Part.pair ∈ T → Part.pps ∈ T → Part.ptpp ∈ T → Part.recd ∈ T → Part.regs ∈ T → Part.rings ∈ T → Part.sys ∈ T →
    b.Keeps T d0 → b.Keeps T (Dev.storeRecheck d0) := by
  intros; unfold Dev.storeRecheck
  apply foldl_keeps <;> first | skip
  · intro d x hd
    apply Dev_slotChanged_keeps <;> first | assumption | skip
    apply Dev_raise_keeps <;> assumption
  · apply upd_ks_keeps <;> assumption
theorem Dev_udpFrame_keeps (b : Dev) (T : List Part) (d0) (x1) (x2) (x3) (x4) (x5) (x6) (x7) (x8) (x9) (x10) :
    Part.fresh ∈ T → b.Keeps T d0 → b.Keeps T (Dev.udpFrame d0 x1 x2 x3 x4 x5 x6 x7 x8 x9 x10).2 := by
  intros; unfold Dev.udpFrame; grind [foldl_keeps, Dev_freeBytes_keeps]
theorem Dev_reply_keeps (b : Dev) (T : List Part) (d0) (x1) : Part.pe ∈ T → Part.regs ∈ T → b.Keeps T d0 → b.Keeps T
    (Dev.reply d0 x1) := by
  intros; unfold Dev.reply; grind [foldl_keeps, upd_pe_keeps, Dev_bump_keeps]
theorem Dev_nonce_keeps (b : Dev) (T : List Part) (d0) (x1) (x2) : Part.nts ∈ T → b.Keeps T d0 → b.Keeps T (Dev.nonce
    d0 x1 x2).2 := by
  intros; unfold Dev.nonce; grind [foldl_keeps, upd_nts_keeps]
theorem Dev_sealCookie_keeps (b : Dev) (T : List Part) (d0) (x1) (x2) (x3) (x4) : Part.nts ∈ T → b.Keeps T d0 →
    b.Keeps T (Dev.sealCookie d0 x1 x2 x3 x4).2 := by
  intros; unfold Dev.sealCookie; grind [foldl_keeps, Dev_nonce_keeps]
theorem Dev_sealCookies_keeps (b : Dev) (T : List Part) (d0) (x1) (x2) (x3) (x4) (x5) : Part.nts ∈ T → b.Keeps T d0 →
    b.Keeps T (Dev.sealCookies d0 x1 x2 x3 x4 x5).2 := by
  intro hn h
  induction x5 generalizing d0 with
  | zero => exact h
  | succ n ih => exact ih _ (Dev_sealCookie_keeps b T _ x1 x2 x3 x4 hn h)
theorem Dev_cmdDone_keeps (b : Dev) (T : List Part) (d0) (x1) : Part.pe ∈ T → Part.regs ∈ T → Part.rings ∈ T → b.Keeps
    T d0 → b.Keeps T (Dev.cmdDone d0 x1) := by
  intros; unfold Dev.cmdDone; grind [foldl_keeps, Dev_popCmd_keeps, Dev_bumpWrap_keeps, Dev_resultOffer_keeps]
theorem effCookieIssue_keeps (b : Dev) (T : List Part) (x0) (x1) (d2) : Part.nts ∈ T → Part.out ∈ T → Part.pe ∈ T →
    Part.regs ∈ T → Part.rings ∈ T → b.Keeps T d2 → b.Keeps T (effCookieIssue x0 x1 d2) := by
  intros; unfold effCookieIssue; grind [foldl_keeps, Dev_emit_keeps, Dev_sealCookies_keeps, Dev_wrNat_keeps,
      Dev_cmdDone_keeps, Dev_bump_keeps]
theorem Dev_toInput_keeps (b : Dev) (T : List Part) (d0) (x1) : Part.pe ∈ T → b.Keeps T d0 → b.Keeps T (Dev.toInput d0
    x1) := by
  intros; unfold Dev.toInput; grind [foldl_keeps, upd_pe_keeps]
theorem Dev_noteHeavy_keeps (b : Dev) (T : List Part) (d0) (x1) (x2) (x3) : Part.nts ∈ T → Part.regs ∈ T → b.Keeps T
    d0 → b.Keeps T (Dev.noteHeavy d0 x1 x2 x3) := by
  intros; unfold Dev.noteHeavy; grind [foldl_keeps, Dev_modStat_keeps, Dev_bump_keeps]
theorem Dev_rxDropped_keeps (b : Dev) (T : List Part) (d0) (x1) (x2) : Part.regs ∈ T → b.Keeps T d0 → b.Keeps T
    (Dev.rxDropped d0 x1 x2) := by
  intros; unfold Dev.rxDropped; grind [foldl_keeps, Dev_bump_keeps]
theorem Dev_rlCount_keeps (b : Dev) (T : List Part) (d0) (x1) : Part.nts ∈ T → b.Keeps T d0 → b.Keeps T (Dev.rlCount
    d0 x1) := by
  intros; unfold Dev.rlCount; grind [foldl_keeps, upd_nts_keeps]
theorem Dev_rlCheck_keeps (b : Dev) (T : List Part) (d0) (x1) : Part.nts ∈ T → Part.regs ∈ T → b.Keeps T d0 → b.Keeps
    T (Dev.rlCheck d0 x1).2 := by
  intros; unfold Dev.rlCheck; grind [foldl_keeps, Dev_rlCount_keeps, Dev_noteHeavy_keeps]
theorem Dev_answer_keeps (b : Dev) (T : List Part) (d0) (x1) (x2) : Part.fresh ∈ T → b.Keeps T d0 → b.Keeps T
    (Dev.answer d0 x1 x2).2 := by
  intros; unfold Dev.answer; grind [foldl_keeps, Dev_udpFrame_keeps]
theorem Dev_sendKod_keeps (b : Dev) (T : List Part) (d0) (x1) : Part.fresh ∈ T → Part.pe ∈ T → Part.regs ∈ T → b.Keeps
    T d0 → b.Keeps T (Dev.sendKod d0 x1) := by
  intros; unfold Dev.sendKod; grind [foldl_keeps, Dev_answer_keeps, Dev_reply_keeps]
theorem Dev_overPlain_keeps (b : Dev) (T : List Part) (d0) (x1) : Part.fresh ∈ T → Part.nts ∈ T → Part.pe ∈ T →
    Part.regs ∈ T → b.Keeps T d0 → b.Keeps T (Dev.overPlain d0 x1) := by
  intros; unfold Dev.overPlain; grind [foldl_keeps, upd_nts_keeps, Dev_sendKod_keeps, Dev_modStat_keeps,
      Dev_bump_keeps, Dev_rxDropped_keeps]
theorem Dev_judgeNtp_keeps (b : Dev) (T : List Part) (d0) (x1) : Part.fresh ∈ T → Part.nts ∈ T → Part.pe ∈ T →
    Part.regs ∈ T → b.Keeps T d0 → b.Keeps T (Dev.judgeNtp d0 x1) := by
  intros; unfold Dev.judgeNtp; grind [foldl_keeps, Dev_rxDropped_keeps, Dev_rlCheck_keeps, Dev_overPlain_keeps,
      Dev_toInput_keeps]
theorem effWindowSwap_keeps (b : Dev) (T : List Part) (d0) : Part.nts ∈ T → b.Keeps T d0 → b.Keeps T (effWindowSwap
    d0) := by
  intros; unfold effWindowSwap; grind [foldl_keeps, upd_nts_keeps]
theorem effClientStats_keeps (b : Dev) (T : List Part) (d0) : Part.nts ∈ T → Part.regs ∈ T → Part.rings ∈ T → b.Keeps
    T d0 → b.Keeps T (effClientStats d0) := by
  intros; unfold effClientStats; grind [foldl_keeps, Dev_modStat_keeps, Dev_ringOffer_keeps]
theorem Dev_tokFill_keeps (b : Dev) (T : List Part) (d0) : Part.pe ∈ T → b.Keeps T d0 → b.Keeps T (Dev.tokFill d0) :=
    by
  intros; unfold Dev.tokFill; grind [foldl_keeps, upd_pe_keeps]
theorem Dev_nakFrame_keeps (b : Dev) (T : List Part) (d0) (x1) (x2) : Part.fresh ∈ T → b.Keeps T d0 → b.Keeps T
    (Dev.nakFrame d0 x1 x2).2 := by
  intros; unfold Dev.nakFrame; grind [foldl_keeps, Dev_answer_keeps]
theorem Dev_admitNts_keeps (b : Dev) (T : List Part) (d0) (x1) (x2) : Part.fresh ∈ T → Part.nts ∈ T → Part.pe ∈ T →
    Part.regs ∈ T → b.Keeps T d0 → b.Keeps T (Dev.admitNts d0 x1 x2) := by
  intros; unfold Dev.admitNts; grind [foldl_keeps, upd_pe_keeps, Dev_tokFill_keeps, Dev_modStat_keeps,
      Dev_rxDropped_keeps, Dev_nakFrame_keeps, Dev_toInput_keeps, Dev_reply_keeps, Dev_bump_keeps]
theorem Dev_buildNtp_keeps (b : Dev) (T : List Part) (d0) (x1) : Part.fresh ∈ T → b.Keeps T d0 → b.Keeps T
    (Dev.buildNtp d0 x1).2 := by
  intros; unfold Dev.buildNtp; grind [foldl_keeps, Dev_answer_keeps]
theorem effNtsLatch_keeps (b : Dev) (T : List Part) (x0) (x1) (d2) : Part.latch ∈ T → Part.out ∈ T → b.Keeps T d2 →
    b.Keeps T (effNtsLatch x0 x1 d2) := by
  intros; unfold effNtsLatch; grind [foldl_keeps, Dev_emit_keeps, Dev_latchRegs_keeps]
theorem Dev_classifyNtp_keeps (b : Dev) (T : List Part) (d0) (x1) : Part.fresh ∈ T → Part.nts ∈ T → Part.pe ∈ T →
    Part.regs ∈ T → b.Keeps T d0 → b.Keeps T (Dev.classifyNtp d0 x1) := by
  intros; unfold Dev.classifyNtp; grind [foldl_keeps, Dev_judgeNtp_keeps, Dev_bump64_keeps]
theorem Dev_buildNts_keeps (b : Dev) (T : List Part) (d0) (x1) (x2) (x3) (x4) (x5) (x6) : Part.fresh ∈ T → Part.nts ∈
    T → b.Keeps T d0 → ∀ y e, Dev.buildNts d0 x1 x2 x3 x4 x5 x6 = some (y, e) → b.Keeps T e := by
  intro h0 h1 h2 y e hy; unfold Dev.buildNts at hy; grind [foldl_keeps, Dev_sealCookies_keeps, Dev_nonce_keeps,
      Dev_answer_keeps]
theorem Dev_classifyNts_keeps (b : Dev) (T : List Part) (d0) (x1) : Part.fresh ∈ T → Part.nts ∈ T → Part.pe ∈ T →
    Part.regs ∈ T → b.Keeps T d0 → b.Keeps T (Dev.classifyNts d0 x1) := by
  intros; unfold Dev.classifyNts; extract_lets e
  have he : b.Keeps T e := by apply Dev_bump64_keeps <;> assumption
  clear_value e
  split
  · apply Dev_rxDropped_keeps <;> assumption
  split
  · apply Dev_rxDropped_keeps <;> assumption
  split
  · apply Dev_rxDropped_keeps <;> assumption
  split
  · apply Dev_rxDropped_keeps <;> assumption
  have hr : b.Keeps T (e.rlCheck x1.srcIp).2 := by apply Dev_rlCheck_keeps <;> assumption
  split; next o f hf =>
  rw [hf] at hr
  split
  · apply Dev_modStat_keeps <;> first | assumption | skip
    apply Dev_bump_keeps <;> first | assumption | skip
    apply Dev_rxDropped_keeps <;> assumption
  · apply Dev_admitNts_keeps <;> assumption
theorem Dev_classifyPtp_keeps (b : Dev) (T : List Part) (d0) (x1) (x2) (x3) (x4) (x5) (x6) (x7) : Part.pe ∈ T →
    Part.regs ∈ T → b.Keeps T d0 → b.Keeps T (Dev.classifyPtp d0 x1 x2 x3 x4 x5 x6 x7) := by
  intros; unfold Dev.classifyPtp; grind [foldl_keeps, Dev_bump_keeps, Dev_rxDropped_keeps, Dev_toInput_keeps]
theorem Dev_toHostRing_keeps (b : Dev) (T : List Part) (d0) (x1) (x2) (x3) : Part.regs ∈ T → Part.rings ∈ T → b.Keeps
    T d0 → b.Keeps T (Dev.toHostRing d0 x1 x2 x3) := by
  intros; unfold Dev.toHostRing; grind [foldl_keeps, Dev_ringOffer_keeps, Dev_rxDropped_keeps]
theorem Dev_classifyIp_keeps (b : Dev) (T : List Part) (d0) (x1) (x2) (x3) (x4) : Part.fresh ∈ T → Part.nts ∈ T →
    Part.pe ∈ T → Part.regs ∈ T → Part.rings ∈ T → b.Keeps T d0 → b.Keeps T (Dev.classifyIp d0 x1 x2 x3 x4) := by
  intros; unfold Dev.classifyIp; grind [foldl_keeps, Dev_rxDropped_keeps, Dev_classifyNts_keeps,
      Dev_classifyNtp_keeps, Dev_classifyPtp_keeps, Dev_toHostRing_keeps]
theorem Dev_classifyL3_keeps (b : Dev) (T : List Part) (d0) (x1) (x2) (x3) : Part.fresh ∈ T → Part.nts ∈ T → Part.pe ∈
    T → Part.regs ∈ T → Part.rings ∈ T → b.Keeps T d0 → b.Keeps T (Dev.classifyL3 d0 x1 x2 x3) := by
  intros; unfold Dev.classifyL3; grind [foldl_keeps, Dev_classifyIp_keeps, Dev_toHostRing_keeps, Dev_bump_keeps,
      Dev_rxDropped_keeps]
theorem Dev_classify_keeps (b : Dev) (T : List Part) (d0) (x1) (x2) : Part.fresh ∈ T → Part.nts ∈ T → Part.pe ∈ T →
    Part.regs ∈ T → Part.rings ∈ T → b.Keeps T d0 → b.Keeps T (Dev.classify d0 x1 x2) := by
  intros; unfold Dev.classify; grind [foldl_keeps, Dev_rxDropped_keeps, Dev_classifyPtp_keeps, Dev_classifyL3_keeps,
      Dev_toHostRing_keeps]
theorem effClassify_keeps (b : Dev) (T : List Part) (d0) : Part.fresh ∈ T → Part.nts ∈ T → Part.pe ∈ T → Part.ports ∈
    T → Part.regs ∈ T → Part.rings ∈ T → b.Keeps T d0 → b.Keeps T (effClassify d0) := by
  intros; unfold effClassify; grind [foldl_keeps, upd_pe_keeps, Dev_classify_keeps, Dev_pmc_keeps, Dev_modPort_keeps]
theorem ptpShow_keeps (b : Dev) (T : List Part) (x0) (d1) : Part.regs ∈ T → b.Keeps T d1 → b.Keeps T (ptpShow x0 d1)
    := by
  intros; unfold ptpShow; grind [foldl_keeps, Dev_setBit_keeps]
theorem Dev_ptpSrcIp_keeps (b : Dev) (T : List Part) (d0) (x1) (x2) : Part.fresh ∈ T → b.Keeps T d0 → b.Keeps T
    (Dev.ptpSrcIp d0 x1 x2).2 := by
  intros; unfold Dev.ptpSrcIp; grind [foldl_keeps, Dev_freeBytes_keeps]
theorem ptpShowAll_keeps (b : Dev) (T : List Part) (d0) : Part.ptpp ∈ T → Part.regs ∈ T → b.Keeps T d0 → b.Keeps T
    (ptpShowAll d0) :=
    by
  intros; unfold ptpShowAll; grind [foldl_keeps, forRange_keeps, ptpShow_keeps, ptpRefresh_keeps]
theorem Dev_ptpFrame_keeps (b : Dev) (T : List Part) (d0) (x1) (x2) : Part.fresh ∈ T → b.Keeps T d0 → b.Keeps T
    (Dev.ptpFrame d0 x1 x2).2 := by
  intros; unfold Dev.ptpFrame; grind [foldl_keeps, Dev_ptpSrcIp_keeps, Dev_freeBytes_keeps, Dev_udpFrame_keeps]
theorem Dev_sendPtp_keeps (b : Dev) (T : List Part) (d0) (x1) : Part.fresh ∈ T → Part.pe ∈ T → Part.regs ∈ T → b.Keeps
    T d0 → b.Keeps T (Dev.sendPtp d0 x1) := by
  intros; unfold Dev.sendPtp; grind [foldl_keeps, Dev_bump_keeps, Dev_ptpFrame_keeps, Dev_sendFrame_keeps]
theorem Dev_sendSignaling_keeps (b : Dev) (T : List Part) (d0) (x1) (x2) (x3) (x4) (x5) (x6) : Part.fresh ∈ T →
    Part.pe ∈ T → Part.ptpp ∈ T → Part.regs ∈ T → b.Keeps T d0 → b.Keeps T (Dev.sendSignaling d0 x1 x2 x3 x4 x5 x6) :=
    by
  intros; unfold Dev.sendSignaling; grind [foldl_keeps, Dev_modPtpp_keeps, Dev_sendPtp_keeps]
theorem Dev_ptpTake_keeps (b : Dev) (T : List Part) (d0) (x1) : Part.pe ∈ T → b.Keeps T d0 → ∀ y e, Dev.ptpTake d0 x1
    = some (y, e) → b.Keeps T e := by
  intro h0 h1 y e hy; unfold Dev.ptpTake at hy; grind [foldl_keeps, upd_pe_keeps]
theorem Dev_modPtpi_keeps (b : Dev) (T : List Part) (d0) (x1) (x2) : Part.ptpi ∈ T → b.Keeps T d0 → b.Keeps T
    (Dev.modPtpi d0 x1 x2) := by
  intros; unfold Dev.modPtpi; grind [foldl_keeps, Dev_setPtpi_keeps]
theorem Dev_sendCancel_keeps (b : Dev) (T : List Part) (d0) (x1) : Part.fresh ∈ T → Part.pe ∈ T → Part.ptpp ∈ T →
    Part.regs ∈ T → b.Keeps T d0 → b.Keeps T (Dev.sendCancel d0 x1) := by
  intros; unfold Dev.sendCancel; grind [foldl_keeps, Dev_sendSignaling_keeps]
theorem Dev_modPtpx_keeps (b : Dev) (T : List Part) (d0) (x1) (x2) : Part.ptpx ∈ T → b.Keeps T d0 → b.Keeps T
    (Dev.modPtpx d0 x1 x2) := by
  intros; unfold Dev.modPtpx; grind [foldl_keeps, Dev_setPtpx_keeps]
theorem Dev_markInstants_keeps (b : Dev) (T : List Part) (d0) (x1) (x2) (x3) : Part.ptpx ∈ T → b.Keeps T d0 → b.Keeps
    T (Dev.markInstants d0 x1 x2 x3) := by
  intros; unfold Dev.markInstants; grind [foldl_keeps, Dev_modPtpx_keeps]
theorem Dev_setSessByte_keeps (b : Dev) (T : List Part) (d0) (x1) (x2) (x3) : Part.regs ∈ T → b.Keeps T d0 → b.Keeps T
    (Dev.setSessByte d0 x1 x2 x3) := by
  intros; unfold Dev.setSessByte; grind [foldl_keeps, Dev_setFld_keeps]
theorem Dev_setSess_keeps (b : Dev) (T : List Part) (d0) (x1) (x2) (x3) : Part.regs ∈ T → b.Keeps T d0 → b.Keeps T
    (Dev.setSess d0 x1 x2 x3) := by
  intros; unfold Dev.setSess; grind [foldl_keeps, Dev_setSessByte_keeps]
theorem Dev_newSess_keeps (b : Dev) (T : List Part) (d0) (x1) (x2) (x3) (x4) (x5) (x6) (x7) (x8) (x9) : Part.ptpx ∈ T
    → Part.regs ∈ T → b.Keeps T d0 → ∀ y e, Dev.newSess d0 x1 x2 x3 x4 x5 x6 x7 x8 x9 = some (y, e) → b.Keeps T e :=
    by
  intro h0 h1 h2 y e hy; unfold Dev.newSess at hy; grind [foldl_keeps, Dev_setSess_keeps, Dev_wrNat_keeps,
      Dev_setPtpx_keeps]
theorem Dev_freeSess_keeps (b : Dev) (T : List Part) (d0) (x1) : Part.ptpx ∈ T → Part.regs ∈ T → b.Keeps T d0 →
    b.Keeps T (Dev.freeSess d0 x1) := by
  intros; unfold Dev.freeSess; grind [foldl_keeps, Dev_wrNat_keeps, Dev_setPtpx_keeps, Dev_setSess_keeps]
theorem Dev_setKinds_keeps (b : Dev) (T : List Part) (d0) (x1) (x2) : Part.regs ∈ T → b.Keeps T d0 → b.Keeps T
    (Dev.setKinds d0 x1 x2) := by
  intros; unfold Dev.setKinds; grind [foldl_keeps, Dev_setSess_keeps]
theorem Dev_umSession_keeps (b : Dev) (T : List Part) (d0) (x1) (x2) (x3) : Part.fresh ∈ T → Part.ptpx ∈ T → Part.regs
    ∈ T → b.Keeps T d0 → ∀ y e, Dev.umSession d0 x1 x2 x3 = some (y, e) → b.Keeps T e := by
  intro h0 h1 h2 h3 y e hy; unfold Dev.umSession at hy
  split at hy
  · simp only [Option.some.injEq, Prod.mk.injEq] at hy; obtain ⟨_, rfl⟩ := hy; exact h3
  · exact Dev_newSess_keeps b T _ _ _ _ _ _ _ _ _ _ h1 h2 (Dev_freeBytes_keeps b T d0 6 h0 h3) _ _ hy
theorem Dev_request_keeps (b : Dev) (T : List Part) (d0) (x1) (x2) : Part.fresh ∈ T → Part.pe ∈ T → Part.ptpp ∈ T →
    Part.ptpx ∈ T → Part.regs ∈ T → b.Keeps T d0 → b.Keeps T (Dev.request d0 x1 x2) := by
  intros; unfold Dev.request; grind [foldl_keeps, Dev_modPtpx_keeps, Dev_sendSignaling_keeps]
theorem Dev_umRequest_keeps (b : Dev) (T : List Part) (d0) (x1) (x2) (x3) : Part.fresh ∈ T → Part.pe ∈ T → Part.ptpp ∈
    T → Part.ptpx ∈ T → Part.regs ∈ T → b.Keeps T d0 → b.Keeps T (Dev.umRequest d0 x1 x2 x3) := by
  intros; unfold Dev.umRequest; grind [foldl_keeps, Dev_umSession_keeps, Dev_request_keeps]
theorem Dev_deny_keeps (b : Dev) (T : List Part) (d0) (x1) (x2) (x3) : Part.fresh ∈ T → Part.pe ∈ T → Part.ptpp ∈ T →
    Part.regs ∈ T → b.Keeps T d0 → b.Keeps T (Dev.deny d0 x1 x2 x3) := by
  intros; unfold Dev.deny; grind [foldl_keeps, Dev_setBit_keeps, Dev_bump_keeps, Dev_sendSignaling_keeps]
theorem Dev_sigTake_keeps (b : Dev) (T : List Part) (d0) (x1) : Part.pe ∈ T → b.Keeps T d0 → ∀ y z e, Dev.sigTake d0
    x1 = some (y, z, e) → b.Keeps T e := by
  intro h0 h1 y z e hy; unfold Dev.sigTake at hy; grind [foldl_keeps, upd_pe_keeps]
theorem Dev_recordGrant_keeps (b : Dev) (T : List Part) (d0) (x1) (x2) (x3) (x4) : Part.ptpx ∈ T → Part.regs ∈ T →
    b.Keeps T d0 → b.Keeps T (Dev.recordGrant d0 x1 x2 x3 x4) := by
  intros; unfold Dev.recordGrant; grind [foldl_keeps, Dev_markInstants_keeps, Dev_setKinds_keeps, Dev_setSess_keeps]
theorem Dev_clientGrant_keeps (b : Dev) (T : List Part) (d0) (x1) (x2) (x3) (x4) (x5) : Part.ptpx ∈ T → Part.regs ∈ T
    → b.Keeps T d0 → b.Keeps T (Dev.clientGrant d0 x1 x2 x3 x4 x5) := by
  intros; unfold Dev.clientGrant; grind (gen := 30) (ematch := 30) (splits := 30) [foldl_keeps, Dev_setSess_keeps,
      Dev_modPtpx_keeps, Dev_recordGrant_keeps]
theorem effUnicastGrant_keeps (b : Dev) (T : List Part) (d0) : Part.pe ∈ T → Part.ptpx ∈ T → Part.regs ∈ T → b.Keeps T
    d0 → b.Keeps T (effUnicastGrant d0) := by
  intros; unfold effUnicastGrant; grind [foldl_keeps, Dev_sigTake_keeps, Dev_clientGrant_keeps]
theorem umFirst_keeps (b : Dev) (T : List Part) (x0) (d1) : Part.fresh ∈ T → Part.pe ∈ T → Part.ptpp ∈ T → Part.ptpx ∈
    T → Part.regs ∈ T → b.Keeps T d1 → b.Keeps T (umFirst x0 d1) := by
  intros; unfold umFirst; grind [foldl_keeps, forRange_keeps, Dev_umRequest_keeps]
theorem effRequestRetry_keeps (b : Dev) (T : List Part) (x0) (x1) (d2) : Part.fresh ∈ T → Part.pe ∈ T → Part.ptpp ∈ T
    → Part.ptpx ∈ T → Part.regs ∈ T → b.Keeps T d2 → b.Keeps T (effRequestRetry x0 x1 d2) := by
  intros; unfold effRequestRetry; grind [foldl_keeps, Dev_umRequest_keeps]
theorem Dev_freeEmpty_keeps (b : Dev) (T : List Part) (d0) (x1) : Part.ptpx ∈ T → Part.regs ∈ T → b.Keeps T d0 →
    b.Keeps T (Dev.freeEmpty d0 x1) := by
  intros; unfold Dev.freeEmpty; grind [foldl_keeps, Dev_freeSess_keeps]
theorem effGrantEnd_keeps (b : Dev) (T : List Part) (x0) (d1) : Part.ptpx ∈ T → Part.regs ∈ T → b.Keeps T d1 → b.Keeps
    T (effGrantEnd x0 d1) := by
  intros; unfold effGrantEnd; grind [foldl_keeps, Dev_freeEmpty_keeps, Dev_setKinds_keeps]
theorem effUnicastRenew_keeps (b : Dev) (T : List Part) (x0) (d1) : Part.fresh ∈ T → Part.pe ∈ T → Part.ptpp ∈ T →
    Part.ptpx ∈ T → Part.regs ∈ T → b.Keeps T d1 → b.Keeps T (effUnicastRenew x0 d1) := by
  intros; unfold effUnicastRenew; grind [foldl_keeps, Dev_request_keeps]
theorem Dev_grantEntry_keeps (b : Dev) (T : List Part) (d0) (x1) (x2) : Part.ptpx ∈ T → Part.regs ∈ T → b.Keeps T d0 →
    ∀ y e, Dev.grantEntry d0 x1 x2 = some (y, e) → b.Keeps T e := by
  intro h0 h1 h2 y e hy; unfold Dev.grantEntry at hy; grind [foldl_keeps, Dev_newSess_keeps]
theorem effCancelCmd_keeps (b : Dev) (T : List Part) (x0) (x1) (d2) : Part.fresh ∈ T → Part.pe ∈ T → Part.ptpp ∈ T →
    Part.ptpx ∈ T → Part.regs ∈ T → b.Keeps T d2 → b.Keeps T (effCancelCmd x0 x1 d2) := by
  intros; unfold effCancelCmd; grind [foldl_keeps, Dev_asCust_keeps, Dev_modPtpx_keeps, Dev_setSess_keeps,
      Dev_sendCancel_keeps]
theorem effUnicastAck_keeps (b : Dev) (T : List Part) (d0) : Part.pe ∈ T → Part.ptpx ∈ T → Part.regs ∈ T → b.Keeps T
    d0 → b.Keeps T (effUnicastAck d0) := by
  intros; unfold effUnicastAck; grind [foldl_keeps, Dev_sigTake_keeps, Dev_freeSess_keeps]
theorem effUnicastRequest_keeps (b : Dev) (T : List Part) (d0) : Part.fresh ∈ T → Part.pe ∈ T → Part.ptpp ∈ T →
    Part.ptpx ∈ T → Part.regs ∈ T → b.Keeps T d0 → b.Keeps T (effUnicastRequest d0) := by
  intros; unfold effUnicastRequest; split
  · assumption
  next m v e he =>
  have h1 := Dev_sigTake_keeps b T d0 _ ‹_› ‹_› _ _ _ he
  dsimp only; split
  · exact h1
  split
  · apply Dev_deny_keeps <;> assumption
  split
  · apply Dev_deny_keeps <;> assumption
  split
  · apply Dev_deny_keeps <;> assumption
  next x e2 he2 =>
  have h2 := Dev_grantEntry_keeps b T e _ _ ‹_› ‹_› h1 _ _ he2
  apply Dev_sendSignaling_keeps <;> first | assumption | skip
  apply Dev_recordGrant_keeps <;> assumption
theorem effUnicastCancel_keeps (b : Dev) (T : List Part) (d0) : Part.fresh ∈ T → Part.pe ∈ T → Part.ptpp ∈ T →
    Part.ptpx ∈ T → Part.regs ∈ T → b.Keeps T d0 → b.Keeps T (effUnicastCancel d0) := by
  intros; unfold effUnicastCancel; grind [foldl_keeps, Dev_sigTake_keeps, Dev_freeEmpty_keeps, Dev_setKinds_keeps,
      Dev_sendSignaling_keeps]
theorem effCancelResend_keeps (b : Dev) (T : List Part) (x0) (d1) : Part.fresh ∈ T → Part.pe ∈ T → Part.ptpp ∈ T →
    Part.ptpx ∈ T → Part.regs ∈ T → b.Keeps T d1 → b.Keeps T (effCancelResend x0 d1) := by
  intros; unfold effCancelResend; grind [foldl_keeps, Dev_modPtpx_keeps, Dev_sendCancel_keeps, Dev_freeSess_keeps]
theorem Dev_takeStamp_keeps (b : Dev) (T : List Part) (d0) (x1) (x2) : Part.ptpg ∈ T → Part.regs ∈ T → Part.txq ∈ T →
    b.Keeps T d0 → ∀ y z e, Dev.takeStamp d0 x1 x2 = some (y, z, e) → b.Keeps T e := by
  intro h0 h1 h2 h3 y z e hy; unfold Dev.takeStamp at hy; grind [foldl_keeps, upd_ptpg_keeps, Dev_txqShow_keeps,
      Dev_setTxq_keeps]
theorem effPdelayFupTx_keeps (b : Dev) (T : List Part) (x0) (d1) : Part.fresh ∈ T → Part.pe ∈ T → Part.ptpg ∈ T →
    Part.regs ∈ T → Part.txq ∈ T → b.Keeps T d1 → b.Keeps T (effPdelayFupTx x0 d1) := by
  intros; unfold effPdelayFupTx; grind [foldl_keeps, Dev_takeStamp_keeps, Dev_sendPtp_keeps]
theorem Dev_newTwoStep_keeps (b : Dev) (T : List Part) (d0) (x1) : Part.ptpg ∈ T → b.Keeps T d0 → b.Keeps T
    (Dev.newTwoStep d0 x1).2 := by
  intros; unfold Dev.newTwoStep; grind [foldl_keeps, upd_ptpg_keeps]
theorem effFollowupTx_keeps (b : Dev) (T : List Part) (x0) (d1) : Part.fresh ∈ T → Part.pe ∈ T → Part.ptpg ∈ T →
    Part.regs ∈ T → Part.txq ∈ T → b.Keeps T d1 → b.Keeps T (effFollowupTx x0 d1) := by
  intros; unfold effFollowupTx; grind [foldl_keeps, Dev_takeStamp_keeps, Dev_sendPtp_keeps]
theorem Dev_delayResp_keeps (b : Dev) (T : List Part) (d0) (x1) (x2) (x3) (x4) : Part.fresh ∈ T → Part.pe ∈ T →
    Part.regs ∈ T → b.Keeps T d0 → b.Keeps T (Dev.delayResp d0 x1 x2 x3 x4) := by
  intros; unfold Dev.delayResp; grind [foldl_keeps, Dev_sendPtp_keeps, Dev_bumpWrap_keeps]
theorem Dev_dreqCount_keeps (b : Dev) (T : List Part) (d0) (x1) : Part.ptpx ∈ T → b.Keeps T d0 → b.Keeps T
    (Dev.dreqCount d0 x1).2 := by
  intros; unfold Dev.dreqCount; grind [foldl_keeps, Dev_setPtpx_keeps]
theorem effDelayReqRx_keeps (b : Dev) (T : List Part) (d0) : Part.fresh ∈ T → Part.pe ∈ T → Part.ptpx ∈ T → Part.regs
    ∈ T → b.Keeps T d0 → b.Keeps T (effDelayReqRx d0) := by
  intros; unfold effDelayReqRx; grind (gen := 30) (ematch := 30) (splits := 30) [foldl_keeps, Dev_ptpTake_keeps,
      Dev_delayResp_keeps, Dev_bump_keeps, Dev_rxDropped_keeps, Dev_dreqCount_keeps, Dev_setSess_keeps]
theorem effOfsLatch_keeps (b : Dev) (T : List Part) (x0) (x1) (d2) : Part.latch ∈ T → Part.out ∈ T → b.Keeps T d2 →
    b.Keeps T (effOfsLatch x0 x1 d2) := by
  intros; unfold effOfsLatch; grind [foldl_keeps, Dev_emit_keeps, Dev_latchRegs_keeps]
theorem effPdelayReqRx_keeps (b : Dev) (T : List Part) (d0) : Part.fresh ∈ T → Part.pe ∈ T → Part.ptpg ∈ T → Part.regs
    ∈ T → b.Keeps T d0 → b.Keeps T (effPdelayReqRx d0) := by
  intros; unfold effPdelayReqRx; grind [foldl_keeps, Dev_ptpTake_keeps, Dev_sendPtp_keeps, Dev_bump_keeps,
      Dev_newTwoStep_keeps]
theorem Dev_sendAnnounce_keeps (b : Dev) (T : List Part) (d0) (x1) (x2) (x3) (x4) (x5) (x6) : Part.fresh ∈ T → Part.pe
    ∈ T → Part.regs ∈ T → b.Keeps T d0 → b.Keeps T (Dev.sendAnnounce d0 x1 x2 x3 x4 x5 x6) := by
  intros; unfold Dev.sendAnnounce; grind [foldl_keeps, Dev_sendPtp_keeps]
theorem Dev_sendSync_keeps (b : Dev) (T : List Part) (d0) (x1) (x2) (x3) (x4) (x5) (x6) : Part.fresh ∈ T → Part.pe ∈ T
    → Part.ptpg ∈ T → Part.regs ∈ T → b.Keeps T d0 → b.Keeps T (Dev.sendSync d0 x1 x2 x3 x4 x5 x6) := by
  intros; unfold Dev.sendSync; grind [foldl_keeps, Dev_sendPtp_keeps, Dev_bump_keeps, Dev_newTwoStep_keeps]
theorem Dev_sessSa_keeps (b : Dev) (T : List Part) (d0) (x1) : Part.regs ∈ T → b.Keeps T d0 → b.Keeps T (Dev.sessSa d0
    x1) := by
  intros; unfold Dev.sessSa; grind [foldl_keeps, Dev_setSess_keeps]
theorem effSyncTx_keeps (b : Dev) (T : List Part) (x0) (x1) (d2) : Part.fresh ∈ T → Part.pe ∈ T → Part.ptpg ∈ T →
    Part.ptpp ∈ T → Part.ptpx ∈ T → Part.regs ∈ T → b.Keeps T d2 → b.Keeps T (effSyncTx x0 x1 d2) := by
  intros; unfold effSyncTx; grind [foldl_keeps, forRange_keeps, Dev_modPtpp_keeps, Dev_sendSync_keeps,
      Dev_modPtpx_keeps, Dev_setSess_keeps]
theorem effAnnounceTx_keeps (b : Dev) (T : List Part) (x0) (x1) (d2) : Part.fresh ∈ T → Part.pe ∈ T → Part.ptpp ∈ T →
    Part.ptpx ∈ T → Part.regs ∈ T → b.Keeps T d2 → b.Keeps T (effAnnounceTx x0 x1 d2) := by
  intros; unfold effAnnounceTx; grind [foldl_keeps, forRange_keeps, Dev_modPtpp_keeps, Dev_sendAnnounce_keeps,
      Dev_modPtpx_keeps, Dev_setSess_keeps]
theorem effTxsaWrite_keeps (b : Dev) (T : List Part) (x0) (x1) (x2) (d3) : Part.ptpp ∈ T → Part.regs ∈ T → b.Keeps T
    d3 → b.Keeps T (effTxsaWrite x0 x1 x2 d3) := by
  intros; unfold effTxsaWrite; grind [foldl_keeps, Dev_asCust_keeps, ptpRefresh_keeps, instSaRefresh_keeps,
      Dev_sessSa_keeps, Dev_setFld_keeps]
theorem Dev_takeState_keeps (b : Dev) (T : List Part) (d0) (x1) (x2) (x3) (x4) : Part.ptpp ∈ T → Part.regs ∈ T →
    b.Keeps T d0 → b.Keeps T (Dev.takeState d0 x1 x2 x3 x4) := by
  intros; unfold Dev.takeState; grind [foldl_keeps, Dev_setPtpState_keeps]
theorem Dev_takeStates_keeps (b : Dev) (T : List Part) (d0) (x1) (x2) (x3) : Part.ptpp ∈ T → Part.regs ∈ T → b.Keeps T
    d0 → b.Keeps T (Dev.takeStates d0 x1 x2 x3) := by
  intros; unfold Dev.takeStates; grind [foldl_keeps, forRange_keeps, Dev_takeState_keeps]
theorem Dev_slotMessage_keeps (b : Dev) (T : List Part) (d0) (x1) (x2) : Part.refs ∈ T → Part.regs ∈ T → b.Keeps T d0
    → b.Keeps T (Dev.slotMessage d0 x1 x2) := by
  intros; unfold Dev.slotMessage; grind [foldl_keeps, Dev_modRef_keeps, Dev_refMessage_keeps]
theorem Dev_showParent_keeps (b : Dev) (T : List Part) (d0) (x1) (x2) (x3) : Part.regs ∈ T → b.Keeps T d0 → b.Keeps T
    (Dev.showParent d0 x1 x2 x3) := by
  intros; unfold Dev.showParent; grind [foldl_keeps, Dev_wrNat_keeps]
theorem Dev_setParent_keeps (b : Dev) (T : List Part) (d0) (x1) (x2) (x3) : Part.ptpi ∈ T → Part.ptpp ∈ T → Part.refs
    ∈ T → Part.regs ∈ T → b.Keeps T d0 → b.Keeps T (Dev.setParent d0 x1 x2 x3) := by
  intros; unfold Dev.setParent; grind [foldl_keeps, Dev_modPtpp_keeps, Dev_modPtpi_keeps, Dev_slotMessage_keeps,
      Dev_showParent_keeps]
theorem Dev_takeRequest_keeps (b : Dev) (T : List Part) (d0) (x1) (x2) (x3) : Part.ptpp ∈ T → b.Keeps T d0 → ∀ y e,
    Dev.takeRequest d0 x1 x2 x3 = some (y, e) → b.Keeps T e := by
  intro h0 h y e hy; unfold Dev.takeRequest at hy
  simp only [Option.map_eq_some_iff, Prod.mk.injEq] at hy
  obtain ⟨r, _, _, rfl⟩ := hy
  exact Dev_modPtpp_keeps _ _ _ _ _ _ h0 h
theorem Dev_addDelay_keeps (b : Dev) (T : List Part) (d0) (x1) (x2) (x3) : Part.ptpp ∈ T → b.Keeps T d0 → b.Keeps T
    (Dev.addDelay d0 x1 x2 x3) := by
  intros; unfold Dev.addDelay; grind [foldl_keeps, Dev_modPtpp_keeps]
theorem Dev_linkDelay_keeps (b : Dev) (T : List Part) (d0) (x1) (x2) (x3) : Part.fresh ∈ T → Part.ptpp ∈ T → Part.regs
    ∈ T → b.Keeps T d0 → b.Keeps T (Dev.linkDelay d0 x1 x2 x3) := by
  intros; unfold Dev.linkDelay; grind [foldl_keeps, Dev_wrFit_keeps, Dev_addDelay_keeps]
theorem effPdelayFupRx_keeps (b : Dev) (T : List Part) (d0) : Part.fresh ∈ T → Part.pe ∈ T → Part.ptpp ∈ T → Part.regs
    ∈ T → b.Keeps T d0 → b.Keeps T (effPdelayFupRx d0) := by
  intros; unfold effPdelayFupRx; split
  · assumption
  next m e he =>
  have h1 := Dev_ptpTake_keeps b T d0 _ ‹_› ‹_› _ _ he
  dsimp only; split
  · exact h1
  split
  · apply Dev_bump_keeps <;> assumption
  next r e2 he2 =>
  have h2 := Dev_takeRequest_keeps b T e _ _ _ ‹_› h1 _ _ he2
  split
  · split
    · apply Dev_linkDelay_keeps <;> assumption
    · apply Dev_bump_keeps <;> assumption
  · apply Dev_bump_keeps <;> assumption
theorem effPreMaster_keeps (b : Dev) (T : List Part) (x0) (x1) (d2) : Part.ptpp ∈ T → Part.regs ∈ T → b.Keeps T d2 →
    b.Keeps T (effPreMaster x0 x1 d2) := by
  intros; unfold effPreMaster; grind [foldl_keeps, Dev_setPtpState_keeps]
theorem Dev_ptpSample_keeps (b : Dev) (T : List Part) (d0) (x1) (x2) (x3) (x4) (x5) (x6) (x7) : Part.rn ∈ T → b.Keeps
    T d0 → b.Keeps T (Dev.ptpSample d0 x1 x2 x3 x4 x5 x6 x7).2 := by
  intros; unfold Dev.ptpSample; grind [foldl_keeps, Dev_taiUtcFor_keeps]
theorem Dev_slotSync_keeps (b : Dev) (T : List Part) (d0) (x1) (x2) (x3) (x4) (x5) (x6) (x7) : Part.refs ∈ T →
    Part.regs ∈ T → Part.rn ∈ T → Part.tb ∈ T → b.Keeps T d0 → b.Keeps T (Dev.slotSync d0 x1 x2 x3 x4 x5 x6 x7) := by
  intros; unfold Dev.slotSync; grind [foldl_keeps, Dev_modRef_keeps, forRange_keeps, Dev_ptpSample_keeps,
      Dev_startPtp_keeps, Dev_deliver_keeps]
theorem Dev_showOffset_keeps (b : Dev) (T : List Part) (d0) (x1) (x2) (x3) (x4) : Part.regs ∈ T → b.Keeps T d0 →
    b.Keeps T (Dev.showOffset d0 x1 x2 x3 x4) := by
  intros; unfold Dev.showOffset; grind [foldl_keeps, Dev_wrInt_keeps, Dev_wrInt64_keeps]
theorem Dev_syncDone_keeps (b : Dev) (T : List Part) (d0) (x1) (x2) (x3) : Part.ptpi ∈ T → Part.ptpp ∈ T → Part.refs ∈
    T → Part.regs ∈ T → Part.rn ∈ T → Part.tb ∈ T → b.Keeps T d0 → b.Keeps T (Dev.syncDone d0 x1 x2 x3) := by
  intros; unfold Dev.syncDone; grind [foldl_keeps, Dev_modPtpi_keeps, Dev_setPtpState_keeps, Dev_slotSync_keeps,
      Dev_showOffset_keeps]
theorem effSyncRx_keeps (b : Dev) (T : List Part) (d0) : Part.pe ∈ T → Part.ptpi ∈ T → Part.ptpp ∈ T → Part.refs ∈ T →
    Part.regs ∈ T → Part.rn ∈ T → Part.tb ∈ T → b.Keeps T d0 → b.Keeps T (effSyncRx d0) := by
  intros; unfold effSyncRx; grind [foldl_keeps, Dev_ptpTake_keeps, Dev_bumpWrap_keeps, Dev_modPtpi_keeps,
      Dev_syncDone_keeps]
theorem Dev_keepForeign_keeps (b : Dev) (T : List Part) (d0) (x1) (x2) (x3) (x4) : Part.ptpp ∈ T → Part.regs ∈ T →
    b.Keeps T d0 → b.Keeps T (Dev.keepForeign d0 x1 x2 x3 x4) := by
  intros; unfold Dev.keepForeign; grind [foldl_keeps, Dev_modPtpp_keeps, Dev_bump_keeps]
theorem Dev_newRequest_keeps (b : Dev) (T : List Part) (d0) (x1) (x2) : Part.ptpp ∈ T → Part.regs ∈ T → b.Keeps T d0 →
    b.Keeps T (Dev.newRequest d0 x1 x2).2 := by
  intros; unfold Dev.newRequest; grind [foldl_keeps, Dev_setPtpp_keeps, Dev_bumpBy_keeps]
theorem effDelayRespRx_keeps (b : Dev) (T : List Part) (d0) : Part.pe ∈ T → Part.ptpp ∈ T → Part.regs ∈ T → b.Keeps T
    d0 → b.Keeps T (effDelayRespRx d0) := by
  intros; unfold effDelayRespRx; split
  · assumption
  next m e he =>
  have h1 := Dev_ptpTake_keeps b T d0 _ ‹_› ‹_› _ _ he
  dsimp only; split
  · exact h1
  split
  · apply Dev_bump_keeps <;> assumption
  next r e2 he2 =>
  have h2 := Dev_takeRequest_keeps b T e _ _ _ ‹_› h1 _ _ he2
  split
  · apply Dev_addDelay_keeps <;> assumption
  · exact h2
theorem foreignTrim_keeps (b : Dev) (T : List Part) (x0) (x1) (d2) : Part.ptpp ∈ T → Part.regs ∈ T → b.Keeps T d2 →
    b.Keeps T (foreignTrim x0 x1 d2) := by
  intros; unfold foreignTrim; grind [foldl_keeps, Dev_modPtpp_keeps, Dev_setFld_keeps]
theorem Dev_noParent_keeps (b : Dev) (T : List Part) (d0) (x1) : Part.ptpi ∈ T → Part.regs ∈ T → b.Keeps T d0 →
    b.Keeps T (Dev.noParent d0 x1) := by
  intros; unfold Dev.noParent; grind [foldl_keeps, Dev_showParent_keeps, Dev_modPtpi_keeps]
theorem Dev_takeParent_keeps (b : Dev) (T : List Part) (d0) (x1) (x2) : Part.ptpi ∈ T → Part.ptpp ∈ T → Part.refs ∈ T
    → Part.regs ∈ T → b.Keeps T d0 → b.Keeps T (Dev.takeParent d0 x1 x2) := by
  intros; unfold Dev.takeParent; grind [foldl_keeps, Dev_setParent_keeps, Dev_noParent_keeps]
theorem runBmca_keeps (b : Dev) (T : List Part) (x0) (x1) (d2) : Part.fresh ∈ T → Part.pe ∈ T → Part.ptpi ∈ T →
    Part.ptpp ∈ T → Part.ptpx ∈ T → Part.refs ∈ T → Part.regs ∈ T → b.Keeps T d2 → b.Keeps T (runBmca x0 x1 d2) := by
  intros; unfold runBmca; grind [foldl_keeps, forRange_keeps, foreignTrim_keeps, Dev_takeParent_keeps, umFirst_keeps,
      Dev_takeStates_keeps]
theorem effAnnTimeout_keeps (b : Dev) (T : List Part) (x0) (x1) (d2) : Part.fresh ∈ T → Part.pe ∈ T → Part.ptpi ∈ T →
    Part.ptpp ∈ T → Part.ptpx ∈ T → Part.refs ∈ T → Part.regs ∈ T → b.Keeps T d2 → b.Keeps T (effAnnTimeout x0 x1 d2)
    := by
  intros; unfold effAnnTimeout; grind [foldl_keeps, Dev_setBit_keeps, Dev_bump_keeps, Dev_modPtpp_keeps,
      Dev_modRef_keeps, runBmca_keeps]
theorem effFollowupRx_keeps (b : Dev) (T : List Part) (d0) : Part.pe ∈ T → Part.ptpi ∈ T → Part.ptpp ∈ T → Part.refs ∈
    T → Part.regs ∈ T → Part.rn ∈ T → Part.tb ∈ T → b.Keeps T d0 → b.Keeps T (effFollowupRx d0) := by
  intros; unfold effFollowupRx; grind [foldl_keeps, Dev_ptpTake_keeps, Dev_bump_keeps, Dev_modPtpi_keeps,
      Dev_syncDone_keeps]
theorem effPdelayReqTx_keeps (b : Dev) (T : List Part) (x0) (x1) (d2) : Part.fresh ∈ T → Part.pe ∈ T → Part.ptpp ∈ T →
    Part.regs ∈ T → b.Keeps T d2 → b.Keeps T (effPdelayReqTx x0 x1 d2) := by
  intros; unfold effPdelayReqTx; grind [foldl_keeps, Dev_bump_keeps, Dev_newRequest_keeps, Dev_sendPtp_keeps]
theorem effAnnounceRx_keeps (b : Dev) (T : List Part) (d0) : Part.pe ∈ T → Part.ptpp ∈ T → Part.refs ∈ T → Part.regs ∈
    T → b.Keeps T d0 → b.Keeps T (effAnnounceRx d0) := by
  intros; unfold effAnnounceRx; grind [foldl_keeps, Dev_ptpTake_keeps, Dev_keepForeign_keeps, Dev_setFld_keeps,
      Dev_slotMessage_keeps, Dev_showParent_keeps]
theorem effDelayReqTx_keeps (b : Dev) (T : List Part) (x0) (x1) (d2) : Part.fresh ∈ T → Part.pe ∈ T → Part.ptpp ∈ T →
    Part.regs ∈ T → b.Keeps T d2 → b.Keeps T (effDelayReqTx x0 x1 d2) := by
  intros; unfold effDelayReqTx; grind [foldl_keeps, Dev_bump_keeps, Dev_newRequest_keeps, Dev_sendPtp_keeps]
theorem effPdelayRespRx_keeps (b : Dev) (T : List Part) (d0) : Part.fresh ∈ T → Part.pe ∈ T → Part.ptpp ∈ T →
    Part.regs ∈ T → b.Keeps T d0 → b.Keeps T (effPdelayRespRx d0) := by
  intros; unfold effPdelayRespRx; split
  · assumption
  next m e he =>
  have h1 := Dev_ptpTake_keeps b T d0 _ ‹_› ‹_› _ _ he
  dsimp only; split
  · exact h1
  split
  · apply Dev_bump_keeps <;> assumption
  next r e2 he2 =>
  have h2 := Dev_takeRequest_keeps b T e _ _ _ ‹_› h1 _ _ he2
  split
  · apply Dev_modPtpp_keeps <;> assumption
  split
  · apply Dev_linkDelay_keeps <;> assumption
  · exact h2
theorem effRefTimeout_keeps (b : Dev) (T : List Part) (x0) (x1) (d2) : Part.refs ∈ T → b.Keeps T d2 → b.Keeps T
    (effRefTimeout x0 x1 d2) := by
  intros; unfold effRefTimeout; grind [foldl_keeps, Dev_modRef_keeps]
theorem effFollowupTimeout_keeps (b : Dev) (T : List Part) (x0) (d1) : Part.ptpi ∈ T → Part.regs ∈ T → b.Keeps T d1 →
    b.Keeps T (effFollowupTimeout x0 d1) := by
  intros; unfold effFollowupTimeout; grind [foldl_keeps, Dev_bump_keeps, Dev_modPtpi_keeps]
theorem Dev_dropHeld_keeps (b : Dev) (T : List Part) (d0) (x1) : Part.egress ∈ T → Part.regs ∈ T → b.Keeps T d0 →
    b.Keeps T (Dev.dropHeld d0 x1) := by
  intros; unfold Dev.dropHeld; grind [foldl_keeps, Dev_pmc_keeps, Dev_bump_keeps, Dev_setQueue_keeps]
theorem Dev_setBuilder_keeps (b : Dev) (T : List Part) (d0) (x1) (x2) : Part.pe ∈ T → b.Keeps T d0 → b.Keeps T
    (Dev.setBuilder d0 x1 x2) := by
  intros; unfold Dev.setBuilder; grind [foldl_keeps, upd_pe_keeps]
theorem Dev_offerBuilt_keeps (b : Dev) (T : List Part) (d0) (x1) (x2) (x3) : Part.egress ∈ T → Part.pe ∈ T → Part.regs
    ∈ T → b.Keeps T d0 → b.Keeps T (Dev.offerBuilt d0 x1 x2 x3) := by
  intros; unfold Dev.offerBuilt; grind [foldl_keeps, Dev_enqueue_keeps, Dev_setBuilder_keeps]
theorem Dev_build_keeps (b : Dev) (T : List Part) (d0) (x1) : Part.fresh ∈ T → Part.nts ∈ T → Part.regs ∈ T → b.Keeps
    T d0 → b.Keeps T (Dev.build d0 x1).2 := by
  intros; unfold Dev.build; grind [foldl_keeps, Dev_buildNtp_keeps, Dev_buildNts_keeps, Dev_bump_keeps]
theorem effCryptoOutput_keeps (b : Dev) (T : List Part) (x0) (d1) : Part.egress ∈ T → Part.fresh ∈ T → Part.nts ∈ T →
    Part.pe ∈ T → Part.regs ∈ T → b.Keeps T d1 → b.Keeps T (effCryptoOutput x0 d1) := by
  intros; unfold effCryptoOutput; grind [foldl_keeps, Dev_offerBuilt_keeps, Dev_build_keeps, Dev_setBuilder_keeps]
theorem effEgressTimeout_keeps (b : Dev) (T : List Part) (x0) (d1) : Part.egress ∈ T → Part.pe ∈ T → Part.regs ∈ T →
    b.Keeps T d1 → b.Keeps T (effEgressTimeout x0 d1) := by
  intros; unfold effEgressTimeout; grind [foldl_keeps, Dev_dropHeld_keeps, Dev_pmc_keeps, Dev_bump_keeps,
      Dev_setBuilder_keeps]
theorem Dev_toBuilder_keeps (b : Dev) (T : List Part) (d0) (x1) : Part.pe ∈ T → b.Keeps T d0 → b.Keeps T
    (Dev.toBuilder d0 x1) := by
  intros; unfold Dev.toBuilder; grind [foldl_keeps, upd_pe_keeps]
theorem Dev_ntsInput_keeps (b : Dev) (T : List Part) (d0) (x1) (x2) (x3) (x4) (x5) : Part.pe ∈ T → Part.regs ∈ T →
    b.Keeps T d0 → b.Keeps T (Dev.ntsInput d0 x1 x2 x3 x4 x5) := by
  intros; unfold Dev.ntsInput; grind [foldl_keeps, Dev_reply_keeps, Dev_bump_keeps, Dev_toBuilder_keeps]
theorem Dev_ptpArrives_keeps (b : Dev) (T : List Part) (d0) (x1) : Part.pe ∈ T → Part.regs ∈ T → b.Keeps T d0 →
    b.Keeps T (Dev.ptpArrives d0 x1) := by
  intros; unfold Dev.ptpArrives; grind [foldl_keeps, upd_pe_keeps, Dev_pmc_keeps, Dev_rxDropped_keeps, Dev_bump_keeps,
      Dev_setBit_keeps]
theorem effCryptoInput_keeps (b : Dev) (T : List Part) (x0) (x1) (d2) : Part.pe ∈ T → Part.regs ∈ T → b.Keeps T d2 →
    b.Keeps T (effCryptoInput x0 x1 d2) := by
  intros; unfold effCryptoInput; grind [foldl_keeps, upd_pe_keeps, Dev_ptpArrives_keeps, Dev_ntsInput_keeps,
      Dev_toBuilder_keeps]
theorem Dev_storeBegin_keeps (b : Dev) (T : List Part) (d0) : Part.flash ∈ T → Part.regs ∈ T → b.Keeps T d0 → b.Keeps
    T (Dev.storeBegin d0) := by
  intros; unfold Dev.storeBegin; grind [foldl_keeps, Dev_flashErase_keeps, Dev_setFld_keeps]
theorem effSlotStored_keeps (b : Dev) (T : List Part) (d0) : Part.clk ∈ T → Part.clkOut ∈ T → Part.eio ∈ T →
    Part.flash ∈ T → Part.flt ∈ T → Part.fresh ∈ T → Part.hif ∈ T → Part.ks ∈ T → Part.nts ∈ T → Part.out ∈ T →
    Part.pair ∈ T → Part.pps ∈ T → Part.ptpp ∈ T → Part.recd ∈ T → Part.regs ∈ T → Part.rings ∈ T → Part.sys ∈ T →
    b.Keeps T d0 → b.Keeps T (effSlotStored d0) := by
  intros; unfold effSlotStored; grind (gen := 30) (ematch := 30) (splits := 30) [foldl_keeps, upd_ks_keeps,
      upd_nts_keeps, Dev_flashProgram_keeps, Dev_slotChanged_keeps, Dev_slotShow_keeps, Dev_storeBegin_keeps]
theorem effStoreDone_keeps (b : Dev) (T : List Part) (d0) : Part.flash ∈ T → Part.ks ∈ T → Part.regs ∈ T → Part.rings
    ∈ T → b.Keeps T d0 → b.Keeps T (effStoreDone d0) := by
  intros; unfold effStoreDone; grind (gen := 30) (ematch := 30) (splits := 30) [foldl_keeps, upd_ks_keeps,
      Dev_flashProgram_keeps, Dev_flashErase_keeps, Dev_bump_keeps, Dev_setBit_keeps, Dev_wrNat64_keeps,
      Dev_bumpWrap_keeps, Dev_resultOffer_keeps]
theorem Dev_setPortKs_keeps (b : Dev) (T : List Part) (d0) (x1) (x2) : Part.ks ∈ T → b.Keeps T d0 → b.Keeps T
    (Dev.setPortKs d0 x1 x2) := by
  intros; unfold Dev.setPortKs; grind [foldl_keeps, upd_ks_keeps]
theorem effChallenge_keeps (b : Dev) (T : List Part) (x0) (d1) : Part.fresh ∈ T → Part.ks ∈ T → Part.regs ∈ T →
    b.Keeps T d1 → b.Keeps T (effChallenge x0 d1) := by
  intros; unfold effChallenge; grind [foldl_keeps, Dev_freeBytes_keeps, forRange_keeps, Dev_wrNat_keeps,
      Dev_setPortKs_keeps]
theorem Dev_loadWkr_keeps (b : Dev) (T : List Part) (d0) (x1) (x2) (x3) (x4) : Part.ks ∈ T → Part.regs ∈ T → b.Keeps T
    d0 → b.Keeps T (Dev.loadWkr d0 x1 x2 x3 x4) := by
  intros; unfold Dev.loadWkr; grind [foldl_keeps, upd_ks_keeps, Dev_wrNat_keeps]
theorem effLockoutEnd_keeps (b : Dev) (T : List Part) (x0) (d1) : Part.ks ∈ T → b.Keeps T d1 → b.Keeps T
    (effLockoutEnd x0 d1) := by
  intros; unfold effLockoutEnd; grind [foldl_keeps, Dev_setPortKs_keeps]
theorem Dev_toObserver_keeps (b : Dev) (T : List Part) (d0) (x1) : Part.ks ∈ T → Part.regs ∈ T → b.Keeps T d0 →
    b.Keeps T (Dev.toObserver d0 x1) := by
  intros; unfold Dev.toObserver; grind [foldl_keeps, Dev_setPortKs_keeps, Dev_wrNat_keeps]
theorem effLock_keeps (b : Dev) (T : List Part) (x0) (d1) : Part.ks ∈ T → Part.regs ∈ T → b.Keeps T d1 → b.Keeps T
    (effLock x0 d1) := by
  intros; unfold effLock; grind [foldl_keeps, Dev_toObserver_keeps]
theorem effCustExpire_keeps (b : Dev) (T : List Part) (x0) (d1) : Part.hif ∈ T → Part.ks ∈ T → Part.out ∈ T →
    Part.regs ∈ T → b.Keeps T d1 → b.Keeps T (effCustExpire x0 d1) := by
  intros; unfold effCustExpire; grind [foldl_keeps, Dev_msixRises_keeps, Dev_setBit_keeps, Dev_toObserver_keeps]
theorem Dev_ksDone_keeps (b : Dev) (T : List Part) (d0) (x1) (x2) (x3) : Part.pe ∈ T → Part.regs ∈ T → Part.rings ∈ T
    → b.Keeps T d0 → b.Keeps T (Dev.ksDone d0 x1 x2 x3) := by
  intros; unfold Dev.ksDone; grind [foldl_keeps, Dev_cmdDone_keeps]
theorem Dev_clearWkr_keeps (b : Dev) (T : List Part) (d0) : Part.ks ∈ T → Part.regs ∈ T → b.Keeps T d0 → b.Keeps T
    (Dev.clearWkr d0) := by
  intros; unfold Dev.clearWkr; grind [foldl_keeps, upd_ks_keeps, Dev_wrNat_keeps]
theorem effWkrClear_keeps (b : Dev) (T : List Part) (d0) : Part.ks ∈ T → Part.pe ∈ T → Part.regs ∈ T → Part.rings ∈ T
    → b.Keeps T d0 → b.Keeps T (effWkrClear d0) := by
  intros; unfold effWkrClear; grind [foldl_keeps, Dev_ksDone_keeps, Dev_clearWkr_keeps]
theorem Dev_apgorFail_keeps (b : Dev) (T : List Part) (d0) (x1) (x2) (x3) : Part.clk ∈ T → Part.clkOut ∈ T → Part.eio
    ∈ T → Part.flash ∈ T → Part.flt ∈ T → Part.fresh ∈ T → Part.hif ∈ T → Part.ks ∈ T → Part.nts ∈ T → Part.out ∈ T →
    Part.pair ∈ T → Part.pe ∈ T → Part.pps ∈ T → Part.recd ∈ T → Part.regs ∈ T → Part.rings ∈ T → Part.sys ∈ T →
    b.Keeps T d0 → b.Keeps T (Dev.apgorFail d0 x1 x2 x3) := by
  intros; unfold Dev.apgorFail; grind [foldl_keeps, Dev_ksDone_keeps, Dev_record_keeps, Dev_bump_keeps]
theorem Dev_unlockFailed_keeps (b : Dev) (T : List Part) (d0) (x1) : Part.ks ∈ T → Part.regs ∈ T → b.Keeps T d0 →
    b.Keeps T (Dev.unlockFailed d0 x1) := by
  intros; unfold Dev.unlockFailed; grind [foldl_keeps, Dev_setPortKs_keeps, Dev_bump_keeps]
theorem Dev_wkrOp_keeps (b : Dev) (T : List Part) (d0) (x1) (x2) (x3) (x4) (x5) (x6) (x7) : Part.pe ∈ T → Part.regs ∈
    T → Part.rings ∈ T → b.Keeps T d0 → b.Keeps T (Dev.wkrOp d0 x1 x2 x3 x4 x5 x6 x7) := by
  intros; unfold Dev.wkrOp; grind [foldl_keeps, Dev_ksDone_keeps]
theorem effWkrDerive_keeps (b : Dev) (T : List Part) (d0) : Part.ks ∈ T → Part.pe ∈ T → Part.regs ∈ T → Part.rings ∈ T
    → b.Keeps T d0 → b.Keeps T (effWkrDerive d0) := by
  intros; unfold effWkrDerive; grind [foldl_keeps, Dev_ksDone_keeps, Dev_loadWkr_keeps]
theorem effWkrLoad_keeps (b : Dev) (T : List Part) (d0) : Part.ks ∈ T → Part.pe ∈ T → Part.regs ∈ T → Part.rings ∈ T →
    b.Keeps T d0 → b.Keeps T (effWkrLoad d0) := by
  intros; unfold effWkrLoad; grind [foldl_keeps, Dev_ksDone_keeps, Dev_loadWkr_keeps]
theorem effEncrypt_keeps (b : Dev) (T : List Part) (x0) (d1) : Part.pe ∈ T → Part.regs ∈ T → Part.rings ∈ T → b.Keeps
    T d1 → b.Keeps T (effEncrypt x0 d1) := by
  intros; unfold effEncrypt; grind [foldl_keeps, Dev_wkrOp_keeps]
theorem effCtrLatch_keeps (b : Dev) (T : List Part) (x0) (d1) : Part.latch ∈ T → Part.out ∈ T → b.Keeps T d1 → b.Keeps
    T (effCtrLatch x0 d1) := by
  intros; unfold effCtrLatch; grind [foldl_keeps, Dev_emit_keeps, Dev_latchRegs_keeps]
theorem effDecrypt_keeps (b : Dev) (T : List Part) (x0) (d1) : Part.pe ∈ T → Part.regs ∈ T → Part.rings ∈ T → b.Keeps
    T d1 → b.Keeps T (effDecrypt x0 d1) := by
  intros; unfold effDecrypt; grind [foldl_keeps, Dev_wkrOp_keeps]
theorem effWrap_keeps (b : Dev) (T : List Part) (x0) (d1) : Part.pe ∈ T → Part.regs ∈ T → Part.rings ∈ T → b.Keeps T
    d1 → b.Keeps T (effWrap x0 d1) := by
  intros; unfold effWrap; grind [foldl_keeps, Dev_wkrOp_keeps]
theorem effChalExpire_keeps (b : Dev) (T : List Part) (x0) (d1) : Part.ks ∈ T → b.Keeps T d1 → b.Keeps T
    (effChalExpire x0 d1) := by
  intros; unfold effChalExpire; grind [foldl_keeps, Dev_setPortKs_keeps]
theorem effApgor_keeps (b : Dev) (T : List Part) (x0) (d1) : Part.clk ∈ T → Part.clkOut ∈ T → Part.eio ∈ T →
    Part.flash ∈ T → Part.flt ∈ T → Part.fresh ∈ T → Part.hif ∈ T → Part.ks ∈ T → Part.nts ∈ T → Part.out ∈ T →
    Part.pair ∈ T → Part.pe ∈ T → Part.pps ∈ T → Part.recd ∈ T → Part.regs ∈ T → Part.rings ∈ T → Part.sys ∈ T →
    b.Keeps T d1 → b.Keeps T (effApgor x0 d1) :=
    by
  intros; unfold effApgor; grind [foldl_keeps, upd_ks_keeps, Dev_apgorFail_keeps, Dev_popCmd_keeps,
      Dev_storeBegin_keeps, Dev_setBit_keeps]
theorem effUnlock_keeps (b : Dev) (T : List Part) (x0) (d1) : Part.ks ∈ T → Part.regs ∈ T → b.Keeps T d1 → b.Keeps T
    (effUnlock x0 d1) := by
  intros; unfold effUnlock; grind [foldl_keeps, Dev_setPortKs_keeps, Dev_wrNat_keeps, Dev_unlockFailed_keeps]
theorem tickRole_keeps (b : Dev) (T : List Part) (d0) : Part.ks ∈ T → Part.regs ∈ T → b.Keeps T d0 → b.Keeps T
    (tickRole d0) := by
  intros; unfold tickRole; grind [foldl_keeps, Dev_setFld_keeps, Dev_setPortKs_keeps]
theorem Dev_pairRecord_keeps (b : Dev) (T : List Part) (d0) (x1) : Part.clk ∈ T → Part.clkOut ∈ T → Part.eio ∈ T →
    Part.flash ∈ T → Part.flt ∈ T → Part.fresh ∈ T → Part.hif ∈ T → Part.ks ∈ T → Part.nts ∈ T → Part.out ∈ T →
    Part.pair ∈ T → Part.pps ∈ T → Part.recd ∈ T → Part.regs ∈ T → Part.rings ∈ T → Part.sys ∈ T → b.Keeps T d0 →
    b.Keeps T (Dev.pairRecord d0 x1) :=
    by
  intros; unfold Dev.pairRecord; grind [foldl_keeps, Dev_record_keeps]
theorem Dev_modPair_keeps (b : Dev) (T : List Part) (d0) (x1) : Part.pair ∈ T → b.Keeps T d0 → b.Keeps T (Dev.modPair
    d0 x1) := by
  intros; unfold Dev.modPair; grind [foldl_keeps, upd_pair_keeps]
theorem Dev_endHandover_keeps (b : Dev) (T : List Part) (d0) : Part.pair ∈ T → b.Keeps T d0 → b.Keeps T
    (Dev.endHandover d0) := by
  intros; unfold Dev.endHandover; grind [foldl_keeps, Dev_modPair_keeps]
theorem Dev_takeLatch_keeps (b : Dev) (T : List Part) (d0) (x1) : Part.clkOut ∈ T → Part.eio ∈ T → Part.hif ∈ T →
    Part.out ∈ T → Part.pair ∈ T → Part.pps ∈ T → Part.regs ∈ T → b.Keeps T d0 → b.Keeps T (Dev.takeLatch d0 x1) := by
  intros; unfold Dev.takeLatch; grind [foldl_keeps, Dev_setOwn_keeps, Dev_modPair_keeps, Dev_interrupt_keeps,
      Dev_setBit_keeps, Dev_bump_keeps, Dev_setPairState_keeps]
theorem Dev_loadEntry_keeps (b : Dev) (T : List Part) (d0) (x1) (x2) (x3) : Part.ptpx ∈ T → Part.regs ∈ T → b.Keeps T
    d0 → b.Keeps T (Dev.loadEntry d0 x1 x2 x3) := by
  intros; unfold Dev.loadEntry; grind [foldl_keeps, Dev_bump_keeps, Dev_setPtpx_keeps, Dev_setSess_keeps]
theorem Dev_loadSegment_keeps (b : Dev) (T : List Part) (d0) (x1) : Part.ptpx ∈ T → Part.regs ∈ T → b.Keeps T d0 →
    b.Keeps T (Dev.loadSegment d0 x1) := by
  intros; unfold Dev.loadSegment; grind [foldl_keeps, forRange_keeps, Dev_loadEntry_keeps]
theorem Dev_loadShadow_keeps (b : Dev) (T : List Part) (d0) : Part.ptpx ∈ T → Part.regs ∈ T → b.Keeps T d0 → b.Keeps T
    (Dev.loadShadow d0) := by
  intros; unfold Dev.loadShadow; grind [foldl_keeps, forRange_keeps, Dev_loadSegment_keeps, Dev_wrNat_keeps]
theorem Dev_override_keeps (b : Dev) (T : List Part) (d0) (x1) : Part.clkOut ∈ T → Part.eio ∈ T → Part.hif ∈ T →
    Part.out ∈ T → Part.pair ∈ T → Part.pps ∈ T → Part.ptpx ∈ T → Part.regs ∈ T → b.Keeps T d0 → b.Keeps T
    (Dev.override d0 x1) := by
  intros; unfold Dev.override; grind [foldl_keeps, Dev_bump_keeps, Dev_emit_keeps, Dev_modPair_keeps,
      Dev_takeLatch_keeps, Dev_loadShadow_keeps]
theorem Dev_changeLatch_keeps (b : Dev) (T : List Part) (d0) (x1) : Part.clkOut ∈ T → Part.eio ∈ T → Part.hif ∈ T →
    Part.out ∈ T → Part.pair ∈ T → Part.pps ∈ T → Part.regs ∈ T → b.Keeps T d0 → b.Keeps T (Dev.changeLatch d0 x1) :=
    by
  intros; unfold Dev.changeLatch; grind [foldl_keeps, Dev_modPair_keeps, Dev_takeLatch_keeps]
theorem Dev_claim_keeps (b : Dev) (T : List Part) (d0) (x1) (x2) : Part.clkOut ∈ T → Part.eio ∈ T → Part.hif ∈ T →
    Part.out ∈ T → Part.pair ∈ T → Part.pps ∈ T → Part.ptpx ∈ T → Part.regs ∈ T → b.Keeps T d0 → b.Keeps T (Dev.claim
    d0 x1 x2) := by
  intros; unfold Dev.claim; grind [foldl_keeps, Dev_changeLatch_keeps, Dev_loadShadow_keeps]
theorem Dev_declareFail_keeps (b : Dev) (T : List Part) (d0) (x1) : Part.clk ∈ T → Part.clkOut ∈ T → Part.eio ∈ T →
    Part.flash ∈ T → Part.flt ∈ T → Part.fresh ∈ T → Part.hif ∈ T → Part.ks ∈ T → Part.nts ∈ T → Part.out ∈ T →
    Part.pair ∈ T → Part.pps ∈ T → Part.ptpx ∈ T → Part.recd ∈ T → Part.regs ∈ T → Part.rings ∈ T → Part.sys ∈ T →
    b.Keeps T d0 → b.Keeps T (Dev.declareFail d0 x1) := by
  intros; unfold Dev.declareFail; grind [foldl_keeps, Dev_endHandover_keeps, Dev_pairRecord_keeps, Dev_override_keeps,
      Dev_claim_keeps, Dev_setPairState_keeps]
theorem Dev_mateFault_keeps (b : Dev) (T : List Part) (d0) : Part.clk ∈ T → Part.clkOut ∈ T → Part.eio ∈ T →
    Part.flash ∈ T → Part.flt ∈ T → Part.fresh ∈ T → Part.hif ∈ T → Part.ks ∈ T → Part.nts ∈ T → Part.out ∈ T →
    Part.pair ∈ T → Part.pps ∈ T → Part.ptpx ∈ T → Part.recd ∈ T → Part.regs ∈ T → Part.rings ∈ T → Part.sys ∈ T →
    b.Keeps T d0 → b.Keeps T (Dev.mateFault d0) := by
  intros; unfold Dev.mateFault; grind [foldl_keeps, Dev_setBit_keeps, Dev_declareFail_keeps]
theorem Dev_pathHeard_keeps (b : Dev) (T : List Part) (d0) (x1) (x2) : Part.recd ∈ T → Part.regs ∈ T → Part.rings ∈ T
    → b.Keeps T d0 → b.Keeps T (Dev.pathHeard d0 x1 x2) := by
  intros; unfold Dev.pathHeard; grind [foldl_keeps, Dev_setBit_keeps, Dev_endLevel_keeps]
theorem effCwPattern_keeps (b : Dev) (T : List Part) (x0) (d1) : Part.clk ∈ T → Part.clkOut ∈ T → Part.eio ∈ T →
    Part.flash ∈ T → Part.flt ∈ T → Part.fresh ∈ T → Part.hif ∈ T → Part.ks ∈ T → Part.nts ∈ T → Part.out ∈ T →
    Part.pair ∈ T → Part.pps ∈ T → Part.ptpx ∈ T → Part.recd ∈ T → Part.regs ∈ T → Part.rings ∈ T → Part.sys ∈ T →
    b.Keeps T d1 → b.Keeps T (effCwPattern x0 d1) := by
  intros; unfold effCwPattern; grind [foldl_keeps, Dev_mateFault_keeps, Dev_pathHeard_keeps, Dev_modPair_keeps]
theorem effTakeCmd_keeps (b : Dev) (T : List Part) (x0) (d1) : Part.pair ∈ T → Part.regs ∈ T → b.Keeps T d1 → b.Keeps
    T (effTakeCmd x0 d1) := by
  intros; unfold effTakeCmd; grind [foldl_keeps, Dev_asCust_keeps, Dev_modPair_keeps, Dev_bump_keeps]
theorem Dev_yieldOwn_keeps (b : Dev) (T : List Part) (d0) : Part.clk ∈ T → Part.clkOut ∈ T → Part.eio ∈ T → Part.flash
    ∈ T → Part.flt ∈ T → Part.fresh ∈ T → Part.hif ∈ T → Part.ks ∈ T → Part.nts ∈ T → Part.out ∈ T → Part.pair ∈ T →
    Part.pps ∈ T → Part.recd ∈ T → Part.regs ∈ T → Part.rings ∈ T → Part.sys ∈ T → b.Keeps T d0 → b.Keeps T
    (Dev.yieldOwn d0) := by
  intros; unfold Dev.yieldOwn; grind (gen := 30) (ematch := 30) (splits := 30) [foldl_keeps, Dev_pairRecord_keeps,
      Dev_changeLatch_keeps, Dev_endHandover_keeps, Dev_interrupt_keeps, Dev_setBit_keeps, Dev_bump_keeps]
theorem Dev_sense_keeps (b : Dev) (T : List Part) (d0) (x1) : Part.pair ∈ T → Part.regs ∈ T → b.Keeps T d0 → b.Keeps T
    (Dev.sense d0 x1) := by
  intros; unfold Dev.sense; grind [foldl_keeps, Dev_modPair_keeps, Dev_setBit_keeps]
theorem effSenseAssert_keeps (b : Dev) (T : List Part) (d0) : Part.clk ∈ T → Part.clkOut ∈ T → Part.eio ∈ T →
    Part.flash ∈ T → Part.flt ∈ T → Part.fresh ∈ T → Part.hif ∈ T → Part.ks ∈ T → Part.nts ∈ T → Part.out ∈ T →
    Part.pair ∈ T → Part.pps ∈ T → Part.recd ∈ T → Part.regs ∈ T → Part.rings ∈ T → Part.sys ∈ T → b.Keeps T d0 →
    b.Keeps T (effSenseAssert d0) := by
  intros; unfold effSenseAssert; grind [foldl_keeps, Dev_yieldOwn_keeps, Dev_sense_keeps]
theorem Dev_resolvePair_keeps (b : Dev) (T : List Part) (d0) : Part.clkOut ∈ T → Part.eio ∈ T → Part.hif ∈ T →
    Part.out ∈ T → Part.pair ∈ T → Part.pps ∈ T → Part.ptpx ∈ T → Part.regs ∈ T → b.Keeps T d0 → b.Keeps T
    (Dev.resolvePair d0) := by
  intros; unfold Dev.resolvePair; grind [foldl_keeps, Dev_setPairState_keeps, Dev_claim_keeps]
theorem Dev_faultLeave_keeps (b : Dev) (T : List Part) (d0) : Part.clkOut ∈ T → Part.eio ∈ T → Part.hif ∈ T → Part.out
    ∈ T → Part.pair ∈ T → Part.pps ∈ T → Part.ptpx ∈ T → Part.regs ∈ T → b.Keeps T d0 → b.Keeps T (Dev.faultLeave d0)
    := by
  intros; unfold Dev.faultLeave; grind [foldl_keeps, Dev_emit_keeps, Dev_setBit_keeps, Dev_resolvePair_keeps]
theorem Dev_faultUpdate_keeps (b : Dev) (T : List Part) (d0) : Part.clkOut ∈ T → Part.eio ∈ T → Part.hif ∈ T →
    Part.out ∈ T → Part.pair ∈ T → Part.pps ∈ T → Part.ptpx ∈ T → Part.regs ∈ T → b.Keeps T d0 → b.Keeps T
    (Dev.faultUpdate d0) := by
  intros; unfold Dev.faultUpdate; grind [foldl_keeps, Dev_faultLeave_keeps, Dev_faultEnter_keeps]
theorem Dev_pathSilent_keeps (b : Dev) (T : List Part) (d0) (x1) (x2) : Part.clk ∈ T → Part.clkOut ∈ T → Part.eio ∈ T
    → Part.flash ∈ T → Part.flt ∈ T → Part.fresh ∈ T → Part.hif ∈ T → Part.ks ∈ T → Part.nts ∈ T → Part.out ∈ T →
    Part.pair ∈ T → Part.pps ∈ T → Part.ptpx ∈ T → Part.recd ∈ T → Part.regs ∈ T → Part.rings ∈ T → Part.sys ∈ T →
    b.Keeps T d0 → b.Keeps T (Dev.pathSilent d0 x1 x2) := by
  intros; unfold Dev.pathSilent; grind [foldl_keeps, Dev_setBit_keeps, Dev_declareFail_keeps, Dev_raiseLevel_keeps,
      Dev_bump_keeps]
theorem laneShow_keeps (b : Dev) (T : List Part) (x0) (d1) : Part.regs ∈ T → b.Keeps T d1 → b.Keeps T (laneShow x0 d1)
    := by
  intros; unfold laneShow; grind [foldl_keeps, Dev_wrNat_keeps]
theorem effStraitSilence_keeps (b : Dev) (T : List Part) (d0) : Part.clk ∈ T → Part.clkOut ∈ T → Part.eio ∈ T →
    Part.flash ∈ T → Part.flt ∈ T → Part.fresh ∈ T → Part.hif ∈ T → Part.ks ∈ T → Part.nts ∈ T → Part.out ∈ T →
    Part.pair ∈ T → Part.pps ∈ T → Part.ptpx ∈ T → Part.recd ∈ T → Part.regs ∈ T → Part.rings ∈ T → Part.sys ∈ T →
    b.Keeps T d0 → b.Keeps T (effStraitSilence d0) := by
  intros; unfold effStraitSilence; grind [foldl_keeps, Dev_pathSilent_keeps, Dev_modPair_keeps, forRange_keeps,
      laneShow_keeps]
theorem effHoCancel_keeps (b : Dev) (T : List Part) (d0) : Part.pair ∈ T → Part.regs ∈ T → b.Keeps T d0 → b.Keeps T
    (effHoCancel d0) := by
  intros; unfold effHoCancel; grind [foldl_keeps, Dev_bump_keeps, Dev_endHandover_keeps]
theorem effIsolatedClaim_keeps (b : Dev) (T : List Part) (d0) : Part.clkOut ∈ T → Part.eio ∈ T → Part.hif ∈ T →
    Part.out ∈ T → Part.pair ∈ T → Part.pps ∈ T → Part.ptpx ∈ T → Part.regs ∈ T → b.Keeps T d0 → b.Keeps T
    (effIsolatedClaim d0) := by
  intros; unfold effIsolatedClaim; grind [foldl_keeps, Dev_claim_keeps]
theorem effGiveUp_keeps (b : Dev) (T : List Part) (d0) : Part.clkOut ∈ T → Part.eio ∈ T → Part.hif ∈ T → Part.out ∈ T
    → Part.pair ∈ T → Part.pps ∈ T → Part.regs ∈ T → b.Keeps T d0 → b.Keeps T (effGiveUp d0) := by
  intros; unfold effGiveUp; grind [foldl_keeps, Dev_takeLatch_keeps, Dev_setBit_keeps]
theorem Dev_claimSensed_keeps (b : Dev) (T : List Part) (d0) (x1) : Part.clk ∈ T → Part.clkOut ∈ T → Part.eio ∈ T →
    Part.flash ∈ T → Part.flt ∈ T → Part.fresh ∈ T → Part.hif ∈ T → Part.ks ∈ T → Part.nts ∈ T → Part.out ∈ T →
    Part.pair ∈ T → Part.pps ∈ T → Part.ptpx ∈ T → Part.recd ∈ T → Part.regs ∈ T → Part.rings ∈ T → Part.sys ∈ T →
    b.Keeps T d0 → b.Keeps T (Dev.claimSensed d0 x1) := by
  intros; unfold Dev.claimSensed; grind [foldl_keeps, Dev_pairRecord_keeps, Dev_override_keeps, Dev_claim_keeps]
theorem tickOffer_keeps (b : Dev) (T : List Part) (d0) : Part.pair ∈ T → b.Keeps T d0 → b.Keeps T (tickOffer d0) := by
  intros; unfold tickOffer; grind [foldl_keeps, Dev_modPair_keeps]
theorem effCwSilence_keeps (b : Dev) (T : List Part) (d0) : Part.clk ∈ T → Part.clkOut ∈ T → Part.eio ∈ T → Part.flash
    ∈ T → Part.flt ∈ T → Part.fresh ∈ T → Part.hif ∈ T → Part.ks ∈ T → Part.nts ∈ T → Part.out ∈ T → Part.pair ∈ T →
    Part.pps ∈ T → Part.ptpx ∈ T → Part.recd ∈ T → Part.regs ∈ T → Part.rings ∈ T → Part.sys ∈ T → b.Keeps T d0 →
    b.Keeps T (effCwSilence d0) := by
  intros; unfold effCwSilence; grind [foldl_keeps, Dev_pathSilent_keeps]
theorem tickKcv_keeps (b : Dev) (T : List Part) (d0) : Part.pair ∈ T → b.Keeps T d0 → b.Keeps T (tickKcv d0) := by
  intros; unfold tickKcv; grind [foldl_keeps, Dev_modPair_keeps]
theorem effDeferred_keeps (b : Dev) (T : List Part) (d0) : Part.clk ∈ T → Part.clkOut ∈ T → Part.eio ∈ T → Part.flash
    ∈ T → Part.flt ∈ T → Part.fresh ∈ T → Part.hif ∈ T → Part.ks ∈ T → Part.nts ∈ T → Part.out ∈ T → Part.pair ∈ T →
    Part.pps ∈ T → Part.recd ∈ T → Part.regs ∈ T → Part.rings ∈ T → Part.sys ∈ T → b.Keeps T d0 → b.Keeps T
    (effDeferred d0) := by
  intros; unfold effDeferred; grind [foldl_keeps, Dev_yieldOwn_keeps, Dev_takeLatch_keeps]

end Sys2Proof.Laws
end

