-- ==== Sys2Proof/Laws/Keeps4.lean ====
section
/-! SUPPORT. One lemma per function of the model that answers a device: the parts of the device it may change (part 4 of 5,
callees first). A device that differs from b only in the parts T still does after it, when T holds those parts. -/
set_option Elab.async false
namespace Sys2Proof.Laws
open Sys2Proof.Machine

theorem effHoSet_keeps (b : Dev) (T : List Part) (d0) : Part.clk ∈ T → Part.clkOut ∈ T → Part.eio ∈ T → Part.flash ∈ T
    → Part.flt ∈ T → Part.fresh ∈ T → Part.hif ∈ T → Part.ks ∈ T → Part.nts ∈ T → Part.out ∈ T → Part.pair ∈ T →
    Part.pps ∈ T → Part.recd ∈ T → Part.regs ∈ T → Part.rings ∈ T → Part.sys ∈ T → b.Keeps T d0 → b.Keeps T (effHoSet
    d0) := by
  intros; unfold effHoSet; grind [foldl_keeps, Dev_pairRecord_keeps, Dev_takeLatch_keeps, Dev_endHandover_keeps]
theorem effKcvClear_keeps (b : Dev) (T : List Part) (d0) : Part.recd ∈ T → Part.regs ∈ T → Part.rings ∈ T → b.Keeps T
    d0 → b.Keeps T (effKcvClear d0) := by
  intros; unfold effKcvClear; grind [foldl_keeps, Dev_endLevel_keeps, Dev_setBit_keeps]
theorem effMofsLatch_keeps (b : Dev) (T : List Part) (x0) (d1) : Part.latch ∈ T → Part.out ∈ T → b.Keeps T d1 →
    b.Keeps T (effMofsLatch x0 d1) := by
  intros; unfold effMofsLatch; grind [foldl_keeps, Dev_emit_keeps, Dev_latchRegs_keeps]
theorem effSenseDeassert_keeps (b : Dev) (T : List Part) (d0) : Part.hif ∈ T → Part.out ∈ T → Part.pair ∈ T →
    Part.regs ∈ T → b.Keeps T d0 → b.Keeps T (effSenseDeassert d0) := by
  intros; unfold effSenseDeassert; grind [foldl_keeps, Dev_sense_keeps, Dev_setPairState_keeps, Dev_emit_keeps]
theorem effHandoverCmd_keeps (b : Dev) (T : List Part) (x0) (d1) : Part.pair ∈ T → Part.regs ∈ T → b.Keeps T d1 →
    b.Keeps T (effHandoverCmd x0 d1) := by
  intros; unfold effHandoverCmd; grind [foldl_keeps, Dev_asCust_keeps, Dev_modPair_keeps, Dev_bump_keeps]
theorem effRefresh_keeps (b : Dev) (T : List Part) (d0) : Part.pair ∈ T → b.Keeps T d0 → b.Keeps T (effRefresh d0) :=
    by
  intros; unfold effRefresh; grind [foldl_keeps, Dev_modPair_keeps]
theorem effHoShadow_keeps (b : Dev) (T : List Part) (d0) : Part.ptpx ∈ T → Part.regs ∈ T → b.Keeps T d0 → b.Keeps T
    (effHoShadow d0) := by
  intros; unfold effHoShadow; grind [foldl_keeps, Dev_loadShadow_keeps]
theorem effHoClear_keeps (b : Dev) (T : List Part) (d0) : Part.clk ∈ T → Part.clkOut ∈ T → Part.eio ∈ T → Part.flash ∈
    T → Part.flt ∈ T → Part.fresh ∈ T → Part.hif ∈ T → Part.ks ∈ T → Part.nts ∈ T → Part.out ∈ T → Part.pair ∈ T →
    Part.pps ∈ T → Part.recd ∈ T → Part.regs ∈ T → Part.rings ∈ T → Part.sys ∈ T → b.Keeps T d0 → b.Keeps T
    (effHoClear d0) := by
  intros; unfold effHoClear; grind [foldl_keeps, Dev_pairRecord_keeps, Dev_takeLatch_keeps, Dev_endHandover_keeps]
theorem effExpire_keeps (b : Dev) (T : List Part) (d0) : Part.clkOut ∈ T → Part.eio ∈ T → Part.out ∈ T → Part.pps ∈ T
    → Part.regs ∈ T → b.Keeps T d0 → b.Keeps T (effExpire d0) := by
  intros; unfold effExpire; grind [foldl_keeps, Dev_setOwn_keeps]
theorem effKcv_keeps (b : Dev) (T : List Part) (d0) : Part.clk ∈ T → Part.clkOut ∈ T → Part.eio ∈ T → Part.flash ∈ T →
    Part.flt ∈ T → Part.fresh ∈ T → Part.hif ∈ T → Part.ks ∈ T → Part.nts ∈ T → Part.out ∈ T → Part.pair ∈ T →
    Part.pps ∈ T → Part.recd ∈ T → Part.regs ∈ T → Part.rings ∈ T → Part.sys ∈ T → b.Keeps T d0 → b.Keeps T (effKcv
    d0) := by
  intros; unfold effKcv; grind [foldl_keeps, Dev_raiseLevel_keeps, Dev_setBit_keeps]
theorem effOverrideSeen_keeps (b : Dev) (T : List Part) (d0) : Part.clk ∈ T → Part.clkOut ∈ T → Part.eio ∈ T →
    Part.flash ∈ T → Part.flt ∈ T → Part.fresh ∈ T → Part.hif ∈ T → Part.ks ∈ T → Part.nts ∈ T → Part.out ∈ T →
    Part.pair ∈ T → Part.pps ∈ T → Part.recd ∈ T → Part.regs ∈ T → Part.rings ∈ T → Part.sys ∈ T → b.Keeps T d0 →
    b.Keeps T (effOverrideSeen d0) :=
    by
  intros; unfold effOverrideSeen; grind [foldl_keeps, Dev_takeLatch_keeps, Dev_endHandover_keeps, Dev_interrupt_keeps,
      Dev_pairRecord_keeps, Dev_setBit_keeps]
theorem effListenEnd_keeps (b : Dev) (T : List Part) (d0) : Part.clkOut ∈ T → Part.eio ∈ T → Part.hif ∈ T → Part.out ∈
    T → Part.pair ∈ T → Part.pps ∈ T → Part.ptpx ∈ T → Part.regs ∈ T → b.Keeps T d0 → b.Keeps T (effListenEnd d0) :=
    by
  intros; unfold effListenEnd; grind [foldl_keeps, Dev_setPairState_keeps, Dev_resolvePair_keeps]
theorem tickTakeback_keeps (b : Dev) (T : List Part) (d0) : Part.pair ∈ T → Part.regs ∈ T → b.Keeps T d0 → b.Keeps T
    (tickTakeback d0) := by
  intros; unfold tickTakeback; grind [foldl_keeps, Dev_wrNat_keeps, Dev_modPair_keeps]
theorem tickPairOut_keeps (b : Dev) (T : List Part) (d0) : Part.pair ∈ T → Part.regs ∈ T → b.Keeps T d0 → b.Keeps T
    (tickPairOut d0) := by
  intros; unfold tickPairOut; split
  · assumption
  extract_lets e1 e2 e3
  have h1 : b.Keeps T e1 := by apply Dev_modPair_keeps <;> assumption
  have h2 : b.Keeps T e2 := by apply Dev_wrNat_keeps <;> assumption
  have h3 : b.Keeps T e3 := by apply Dev_setBit_keeps <;> assumption
  clear_value e3
  apply tickOffer_keeps <;> first | assumption | skip
  apply tickTakeback_keeps <;> first | assumption | skip
  apply tickKcv_keeps <;> assumption
theorem tickLanes_keeps (b : Dev) (T : List Part) (d0) : Part.regs ∈ T → b.Keeps T d0 → b.Keeps T (tickLanes d0) := by
  intros; unfold tickLanes; grind [foldl_keeps, forRange_keeps, laneShow_keeps]
theorem Dev_fmtOk_keeps (b : Dev) (T : List Part) (d0) (x1) : Part.regs ∈ T → b.Keeps T d0 → b.Keeps T (Dev.fmtOk d0
    x1).2 := by
  intros; unfold Dev.fmtOk; grind [foldl_keeps, Dev_setFld_keeps, Dev_setBit_keeps, Dev_bump_keeps]
theorem Dev_laneFrame_keeps (b : Dev) (T : List Part) (d0) (x1) (x2) : Part.regs ∈ T → b.Keeps T d0 → b.Keeps T
    (Dev.laneFrame d0 x1 x2).2 := by
  intros; unfold Dev.laneFrame; grind [foldl_keeps, Dev_pmc_keeps, Dev_bumpBy_keeps, Dev_bump_keeps]
theorem Dev_firstCopy_keeps (b : Dev) (T : List Part) (d0) (x1) (x2) : Part.pair ∈ T → b.Keeps T d0 → ∀ y,
    Dev.firstCopy d0 x1 x2 = some y → b.Keeps T y := by
  intro h0 h1 y hy; unfold Dev.firstCopy at hy; grind [foldl_keeps, Dev_modPair_keeps]
theorem effStateRx_keeps (b : Dev) (T : List Part) (x0) (x1) (x2) (d3) : Part.pair ∈ T → Part.refs ∈ T → Part.regs ∈ T
    → b.Keeps T d3 → b.Keeps T (effStateRx x0 x1 x2 d3) := by
  intros; unfold effStateRx
  have hl : b.Keeps T (d3.laneFrame x0 x2).2 := by apply Dev_laneFrame_keeps <;> assumption
  split
  · next e he => rw [he] at hl; exact hl
  next e he =>
  rw [he] at hl
  split
  · exact hl
  next e2 he2 =>
  have h2 := Dev_firstCopy_keeps b T e _ _ ‹_› hl _ he2
  have h3 := Dev_fmtOk_keeps b T e2 x1 ‹_› h2
  split
  · next e3 he3 => rw [he3] at h3; exact h3
  next e3 he3 =>
  rw [he3] at h3
  split
  · exact h3
  apply Dev_modRef_keeps <;> first | assumption | skip
  apply Dev_wrNat_keeps <;> first | assumption | skip
  apply Dev_modPair_keeps <;> assumption
theorem Dev_nextSeq_keeps (b : Dev) (T : List Part) (d0) (x1) : Part.pair ∈ T → b.Keeps T d0 → b.Keeps T (Dev.nextSeq
    d0 x1).2 := by
  intros; unfold Dev.nextSeq; grind [foldl_keeps, Dev_modPair_keeps]
theorem effSessionTx_keeps (b : Dev) (T : List Part) (x0) (d1) : Part.out ∈ T → Part.pair ∈ T → b.Keeps T d1 → b.Keeps
    T (effSessionTx x0 d1) := by
  intros; unfold effSessionTx; grind [foldl_keeps, Dev_nextSeq_keeps, Dev_emit_keeps]
theorem Dev_setFromMate_keeps (b : Dev) (T : List Part) (d0) (x1) (x2) (x3) : Part.regs ∈ T → Part.tb ∈ T → b.Keeps T
    d0 → b.Keeps T (Dev.setFromMate d0 x1 x2 x3) := by
  intros; unfold Dev.setFromMate; grind [foldl_keeps, Dev_armAt_keeps]
theorem effLockLoss_keeps (b : Dev) (T : List Part) (x0) (d1) : Part.pair ∈ T → Part.regs ∈ T → b.Keeps T d1 → b.Keeps
    T (effLockLoss x0 d1) := by
  intros; unfold effLockLoss; grind [foldl_keeps, Dev_setBit_keeps, Dev_modPair_keeps]
theorem tickMateOffset_keeps (b : Dev) (T : List Part) (d0) : Part.fresh ∈ T → Part.pair ∈ T → Part.regs ∈ T → Part.rn
    ∈ T → b.Keeps T d0 → b.Keeps T (tickMateOffset d0) := by
  intros; unfold tickMateOffset; grind [foldl_keeps, Dev_wrFit_keeps, Dev_modPair_keeps, forRange_keeps,
      Dev_deliver_keeps, Dev_wrInt64_keeps]
theorem effLockGain_keeps (b : Dev) (T : List Part) (x0) (d1) : Part.pair ∈ T → b.Keeps T d1 → b.Keeps T (effLockGain
    x0 d1) := by
  intros; unfold effLockGain; grind [foldl_keeps, Dev_modPair_keeps]
theorem effStateTx_keeps (b : Dev) (T : List Part) (d0) : Part.out ∈ T → Part.pair ∈ T → b.Keeps T d0 → b.Keeps T
    (effStateTx d0) := by
  intros; unfold effStateTx; grind [foldl_keeps, Dev_nextSeq_keeps, Dev_emit_keeps]
theorem effHbTx_keeps (b : Dev) (T : List Part) (d0) : Part.out ∈ T → Part.pair ∈ T → Part.regs ∈ T → b.Keeps T d0 →
    b.Keeps T (effHbTx d0) := by
  intros; unfold effHbTx; grind [foldl_keeps, Dev_nextSeq_keeps, Dev_pmc_keeps, Dev_emit_keeps, Dev_modPair_keeps]
theorem effSetTx_keeps (b : Dev) (T : List Part) (d0) : Part.out ∈ T → Part.pair ∈ T → b.Keeps T d0 → b.Keeps T
    (effSetTx d0) := by
  intros; unfold effSetTx; grind [foldl_keeps, Dev_nextSeq_keeps, Dev_emit_keeps, Dev_modPair_keeps]
theorem Dev_answerOffer_keeps (b : Dev) (T : List Part) (d0) (x1) : Part.hif ∈ T → Part.out ∈ T → Part.pair ∈ T →
    Part.regs ∈ T → b.Keeps T d0 → b.Keeps T (Dev.answerOffer d0 x1) := by
  intros; unfold Dev.answerOffer; grind [foldl_keeps, Dev_modPair_keeps, Dev_setPairState_keeps, Dev_bump_keeps]
theorem Dev_takeHo_keeps (b : Dev) (T : List Part) (d0) (x1) : Part.hif ∈ T → Part.out ∈ T → Part.pair ∈ T → Part.regs
    ∈ T → b.Keeps T d0 → b.Keeps T (Dev.takeHo d0 x1) := by
  intros; unfold Dev.takeHo; grind [Dev_endHandover_keeps, foldl_keeps, Dev_modPair_keeps, Dev_answerOffer_keeps,
      Dev_setPairState_keeps]
theorem tickPairIn_keeps (b : Dev) (T : List Part) (d0) : Part.fresh ∈ T → Part.pair ∈ T → Part.regs ∈ T → Part.rn ∈ T
    → b.Keeps T d0 → b.Keeps T (tickPairIn d0) := by
  intros; unfold tickPairIn; grind [foldl_keeps, tickMateOffset_keeps, tickLanes_keeps]
theorem Dev_exchange_keeps (b : Dev) (T : List Part) (d0) (x1) (x2) (x3) : Part.pair ∈ T → b.Keeps T d0 → b.Keeps T
    (Dev.exchange d0 x1 x2 x3) := by
  intros; unfold Dev.exchange; grind [foldl_keeps, Dev_modPair_keeps]
theorem Dev_takeStatus_keeps (b : Dev) (T : List Part) (d0) (x1) : Part.clk ∈ T → Part.clkOut ∈ T → Part.eio ∈ T →
    Part.flash ∈ T → Part.flt ∈ T → Part.fresh ∈ T → Part.hif ∈ T → Part.ks ∈ T → Part.nts ∈ T → Part.out ∈ T →
    Part.pair ∈ T → Part.pps ∈ T → Part.ptpx ∈ T → Part.recd ∈ T → Part.regs ∈ T → Part.rings ∈ T → Part.sys ∈ T →
    b.Keeps T d0 → b.Keeps T (Dev.takeStatus d0 x1) := by
  intros; unfold Dev.takeStatus; grind [foldl_keeps, Dev_modPair_keeps, Dev_setBit_keeps, Dev_setFld_keeps,
      Dev_mateFault_keeps, Dev_setPairState_keeps, Dev_claimSensed_keeps, Dev_endHandover_keeps,
      Dev_resolvePair_keeps]
theorem effHbRx_keeps (b : Dev) (T : List Part) (x0) (x1) (x2) (d3) : Part.clk ∈ T → Part.clkOut ∈ T → Part.eio ∈ T →
    Part.flash ∈ T → Part.flt ∈ T → Part.fresh ∈ T → Part.hif ∈ T → Part.ks ∈ T → Part.nts ∈ T → Part.out ∈ T →
    Part.pair ∈ T → Part.pps ∈ T → Part.ptpx ∈ T → Part.recd ∈ T → Part.regs ∈ T → Part.rings ∈ T → Part.sys ∈ T →
    b.Keeps T d3 → b.Keeps T (effHbRx x0 x1 x2 d3) := by
  intros; unfold effHbRx
  have hl : b.Keeps T (d3.laneFrame x0 x2).2 := by apply Dev_laneFrame_keeps <;> assumption
  split
  · next e he => rw [he] at hl; exact hl
  next e he =>
  rw [he] at hl
  extract_lets t2 e1
  have h1 : b.Keeps T e1 := by
    apply Dev_pmc_keeps <;> first | assumption | skip
    apply Dev_exchange_keeps <;> first | assumption | skip
    apply Dev_wrNat_keeps <;> first | assumption | skip
    apply Dev_modPair_keeps <;> assumption
  split
  · exact h1
  next e2 he2 =>
  have h2 := Dev_firstCopy_keeps b T e1 _ _ ‹_› h1 _ he2
  apply Dev_takeHo_keeps <;> first | assumption | skip
  apply Dev_takeStatus_keeps <;> first | assumption | skip
  apply Dev_pathHeard_keeps <;> first | assumption | skip
  apply Dev_modPair_keeps <;> assumption
theorem effSetRx_keeps (b : Dev) (T : List Part) (x0) (x1) (x2) (x3) (x4) (d5) : Part.pair ∈ T → Part.regs ∈ T →
    Part.tb ∈ T → b.Keeps T d5 → b.Keeps T (effSetRx x0 x1 x2 x3 x4 d5) := by
  intros; unfold effSetRx
  have hl : b.Keeps T (d5.laneFrame x0 x2).2 := by apply Dev_laneFrame_keeps <;> assumption
  split
  · next e he => rw [he] at hl; exact hl
  next e he =>
  rw [he] at hl
  split
  · exact hl
  next e2 he2 =>
  have h2 := Dev_firstCopy_keeps b T e _ _ ‹_› hl _ he2
  exact foldl_keeps _ _ _ _ (fun d j hd => by apply Dev_setFromMate_keeps <;> assumption) _ h2
theorem effSessionRx_keeps (b : Dev) (T : List Part) (x0) (x1) (x2) (d3) : Part.pair ∈ T → Part.regs ∈ T → b.Keeps T
    d3 → b.Keeps T (effSessionRx x0 x1 x2 d3) := by
  intros; unfold effSessionRx
  have hl : b.Keeps T (d3.laneFrame x0 x2).2 := by apply Dev_laneFrame_keeps <;> assumption
  split
  · next e he => rw [he] at hl; exact hl
  next e he =>
  rw [he] at hl
  split
  · exact hl
  next e2 he2 =>
  have h2 := Dev_firstCopy_keeps b T e _ _ ‹_› hl _ he2
  have h3 := Dev_fmtOk_keeps b T e2 x1 ‹_› h2
  split
  · next e3 he3 => rw [he3] at h3; exact h3
  next e3 he3 =>
  rw [he3] at h3
  split
  · exact h3
  apply Dev_modPair_keeps <;> assumption
theorem Dev_modGnss_keeps (b : Dev) (T : List Part) (d0) (x1) : Part.gnss ∈ T → b.Keeps T d0 → b.Keeps T (Dev.modGnss
    d0 x1) := by
  intros; unfold Dev.modGnss; grind [foldl_keeps, upd_gnss_keeps]
theorem effNavRd_keeps (b : Dev) (T : List Part) (x0) (x1) (d2) : Part.gnss ∈ T → Part.regs ∈ T → b.Keeps T d2 →
    b.Keeps T (effNavRd x0 x1 d2) := by
  intros; unfold effNavRd; grind [foldl_keeps, Dev_asCust_keeps, Dev_modGnss_keeps, Dev_wrNat_keeps]
theorem Dev_feHostStart_keeps (b : Dev) (T : List Part) (d0) : Part.gnss ∈ T → Part.out ∈ T → b.Keeps T d0 → b.Keeps T
    (Dev.feHostStart d0) := by
  intros; unfold Dev.feHostStart; grind [foldl_keeps, Dev_emit_keeps, Dev_modGnss_keeps]
theorem Dev_setOsc_keeps (b : Dev) (T : List Part) (d0) (x1) (x2) : Part.regs ∈ T → b.Keeps T d0 → b.Keeps T
    (Dev.setOsc d0 x1 x2) := by
  intros; unfold Dev.setOsc; grind [foldl_keeps, Dev_wrNat_keeps, Dev_wrInt_keeps]
theorem effDumpMiss_keeps (b : Dev) (T : List Part) (x0) (d1) : Part.ch ∈ T → Part.gnss ∈ T → Part.regs ∈ T → b.Keeps
    T d1 → b.Keeps T (effDumpMiss x0 d1) := by
  intros; unfold effDumpMiss; grind [foldl_keeps, Dev_pmc_keeps, Dev_modGnss_keeps, Dev_bump_keeps, Dev_setCh_keeps]
theorem Dev_setWords_keeps (b : Dev) (T : List Part) (d0) (x1) (x2) (x3) : Part.regs ∈ T → b.Keeps T d0 → b.Keeps T
    (Dev.setWords d0 x1 x2 x3) := by
  intros; unfold Dev.setWords; grind [foldl_keeps, Dev_wrInt_keeps, Dev_wrNat_keeps]
theorem Dev_dumpNow_keeps (b : Dev) (T : List Part) (d0) (x1) : Part.ch ∈ T → Part.gnss ∈ T → Part.regs ∈ T → b.Keeps
    T d0 → b.Keeps T (Dev.dumpNow d0 x1) := by
  intros; unfold Dev.dumpNow; grind [foldl_keeps, effDumpMiss_keeps, forRange_keeps, Dev_wrInt_keeps,
      Dev_bumpWrap_keeps, Dev_setBit_keeps, Dev_setWords_keeps, Dev_setCh_keeps]
theorem chSample_keeps (b : Dev) (T : List Part) (x0) (d1) (x2) : Part.ch ∈ T → Part.gnss ∈ T → Part.regs ∈ T →
    b.Keeps T d1 → b.Keeps T (chSample x0 d1 x2) := by
  intros; unfold chSample; extract_lets sig o w t o' e1 c e2
  have h2 : b.Keeps T e2 := by
    apply Dev_setCh_keeps <;> first | assumption | skip
    apply Dev_setOsc_keeps <;> assumption
  split
  · apply Dev_dumpNow_keeps <;> assumption
  · exact h2
theorem effDump_keeps (b : Dev) (T : List Part) (x0) (x1) (d2) : Part.ch ∈ T → Part.gnss ∈ T → Part.regs ∈ T → b.Keeps
    T d2 → b.Keeps T (effDump x0 x1 d2) := by
  intros; unfold effDump; grind (gen := 30) (ematch := 30) (splits := 30) [foldl_keeps, chSample_keeps]
theorem Dev_chShow_keeps (b : Dev) (T : List Part) (d0) : Part.regs ∈ T → b.Keeps T d0 → b.Keeps T (Dev.chShow d0) :=
    by
  intros; unfold Dev.chShow; grind [foldl_keeps, Dev_wrNat_keeps]
theorem Dev_chSet_keeps (b : Dev) (T : List Part) (d0) (x1) (x2) : Part.ch ∈ T → Part.regs ∈ T → b.Keeps T d0 →
    b.Keeps T (Dev.chSet d0 x1 x2) := by
  intros; unfold Dev.chSet; grind [foldl_keeps, Dev_setFld_keeps, Dev_setCh_keeps, Dev_bump_keeps]
theorem Dev_chAssign_keeps (b : Dev) (T : List Part) (d0) (x1) (x2) (x3) (x4) (x5) : Part.ch ∈ T → Part.regs ∈ T →
    b.Keeps T d0 → b.Keeps T (Dev.chAssign d0 x1 x2 x3 x4 x5) := by
  intros; unfold Dev.chAssign; grind (gen := 30) (ematch := 30) (splits := 30) [foldl_keeps, Dev_wrNat_keeps,
      Dev_wr_keeps, Dev_setWords_keeps, Dev_setOsc_keeps, Dev_setBit_keeps, Dev_chShow_keeps, Dev_chSet_keeps,
      Dev_setCh_keeps]
theorem effAidFound_keeps (b : Dev) (T : List Part) (x0) (x1) (d2) : Part.ch ∈ T → Part.regs ∈ T → b.Keeps T d2 →
    b.Keeps T (effAidFound x0 x1 d2) := by
  intros; unfold effAidFound; grind [foldl_keeps, Dev_chAssign_keeps, Dev_setFld_keeps]
theorem Dev_setFerry_keeps (b : Dev) (T : List Part) (d0) (x1) (x2) : Part.gnss ∈ T → b.Keeps T d0 → b.Keeps T
    (Dev.setFerry d0 x1 x2) := by
  intros; unfold Dev.setFerry; grind [foldl_keeps, Dev_modGnss_keeps]
theorem Dev_streamMinv_keeps (b : Dev) (T : List Part) (d0) (x1) (x2) : Part.ch ∈ T → Part.regs ∈ T → b.Keeps T d0 →
    b.Keeps T (Dev.streamMinv d0 x1 x2) := by
  intros; unfold Dev.streamMinv; grind [foldl_keeps, Dev_setCh_keeps, Dev_setBit_keeps]
theorem effSlip_keeps (b : Dev) (T : List Part) (x0) (d1) : Part.ch ∈ T → Part.clk ∈ T → Part.clkOut ∈ T → Part.eio ∈
    T → Part.flash ∈ T → Part.flt ∈ T → Part.fresh ∈ T → Part.gnss ∈ T → Part.hif ∈ T → Part.ks ∈ T → Part.nts ∈ T →
    Part.out ∈ T → Part.pair ∈ T → Part.pps ∈ T → Part.recd ∈ T → Part.regs ∈ T → Part.rings ∈ T → Part.sys ∈ T →
    b.Keeps T d1 → b.Keeps T (effSlip x0 d1) := by
  intros; unfold effSlip; dsimp only
  apply Dev_raise_keeps <;> first | assumption | skip
  apply Dev_setFerry_keeps <;> first | assumption | skip
  apply Dev_streamMinv_keeps <;> first | assumption | skip
  apply Dev_setBit_keeps <;> first | assumption | skip
  apply Dev_setBit_keeps <;> first | assumption | skip
  apply Dev_bump_keeps <;> first | assumption | skip
  apply Dev_modGnss_keeps <;> assumption
theorem Dev_dropFollowers_keeps (b : Dev) (T : List Part) (d0) (x1) : Part.ch ∈ T → Part.regs ∈ T → b.Keeps T d0 →
    b.Keeps T (Dev.dropFollowers d0 x1) := by
  intros; unfold Dev.dropFollowers; grind [foldl_keeps, Dev_chSet_keeps]
theorem Dev_chTo_keeps (b : Dev) (T : List Part) (d0) (x1) (x2) : Part.ch ∈ T → Part.regs ∈ T → b.Keeps T d0 → b.Keeps
    T (Dev.chTo d0 x1 x2) := by
  intros; unfold Dev.chTo; grind [foldl_keeps, Dev_chSet_keeps, Dev_chShow_keeps, Dev_dropFollowers_keeps]
theorem effTrackLoss_keeps (b : Dev) (T : List Part) (x0) (d1) : Part.ch ∈ T → Part.regs ∈ T → b.Keeps T d1 → b.Keeps
    T (effTrackLoss x0 d1) := by
  intros; unfold effTrackLoss; grind [foldl_keeps, Dev_chTo_keeps]
theorem Dev_noteCell_keeps (b : Dev) (T : List Part) (d0) (x1) (x2) (x3) (x4) (x5) : Part.gnss ∈ T → b.Keeps T d0 →
    b.Keeps T (Dev.noteCell d0 x1 x2 x3 x4 x5) := by
  intros; unfold Dev.noteCell; grind [foldl_keeps, Dev_modGnss_keeps]
theorem effFwStall_keeps (b : Dev) (T : List Part) (d0) : Part.clk ∈ T → Part.clkOut ∈ T → Part.eio ∈ T → Part.flash ∈
    T → Part.flt ∈ T → Part.fresh ∈ T → Part.gnss ∈ T → Part.hif ∈ T → Part.ks ∈ T → Part.nts ∈ T → Part.out ∈ T →
    Part.pair ∈ T → Part.pps ∈ T → Part.recd ∈ T → Part.regs ∈ T → Part.rings ∈ T → Part.sys ∈ T → b.Keeps T d0 →
    b.Keeps T (effFwStall d0) := by
  intros; unfold effFwStall; grind [foldl_keeps, Dev_raise_keeps, Dev_modGnss_keeps]
theorem effAgc_keeps (b : Dev) (T : List Part) (x0) (x1) (x2) (d3) : Part.gnss ∈ T → Part.out ∈ T → Part.regs ∈ T →
    b.Keeps T d3 → b.Keeps T (effAgc x0 x1 x2 d3) := by
  intros; unfold effAgc; grind [foldl_keeps, Dev_emit_keeps, Dev_modGnss_keeps, Dev_setFld_keeps]
theorem effJamClear_keeps (b : Dev) (T : List Part) (x0) (d1) : Part.gnss ∈ T → Part.recd ∈ T → Part.regs ∈ T →
    Part.rings ∈ T → b.Keeps T d1 → b.Keeps T (effJamClear x0 d1) := by
  intros; unfold effJamClear; grind [foldl_keeps, Dev_modGnss_keeps, Dev_setBit_keeps, Dev_endLevel_keeps]
theorem Dev_propagate_keeps (b : Dev) (T : List Part) (d0) (x1) : Part.regs ∈ T → b.Keeps T d0 → b.Keeps T
    (Dev.propagate d0 x1) := by
  intros; unfold Dev.propagate; grind [foldl_keeps, Dev_setOsc_keeps, Dev_setWords_keeps]
theorem Dev_ungate_keeps (b : Dev) (T : List Part) (d0) : Part.ch ∈ T → Part.regs ∈ T → b.Keeps T d0 → b.Keeps T
    (Dev.ungate d0) := by
  intros; unfold Dev.ungate; grind [foldl_keeps, Dev_chTo_keeps, Dev_propagate_keeps]
theorem effWindowOpen_keeps (b : Dev) (T : List Part) (d0) : Part.ch ∈ T → Part.gnss ∈ T → Part.regs ∈ T → b.Keeps T
    d0 → b.Keeps T (effWindowOpen d0) := by
  intros; unfold effWindowOpen; grind [foldl_keeps, Dev_ungate_keeps, Dev_modGnss_keeps]
theorem effGchCorrLatch_keeps (b : Dev) (T : List Part) (x0) (x1) (d2) : Part.latch ∈ T → Part.out ∈ T → b.Keeps T d2
    → b.Keeps T (effGchCorrLatch x0 x1 d2) := by
  intros; unfold effGchCorrLatch; grind [foldl_keeps, Dev_emit_keeps, Dev_latchRegs_keeps]
theorem Dev_chRelease_keeps (b : Dev) (T : List Part) (d0) (x1) : Part.ch ∈ T → Part.regs ∈ T → b.Keeps T d0 → b.Keeps
    T (Dev.chRelease d0 x1) := by
  intros; unfold Dev.chRelease; grind [foldl_keeps, Dev_chTo_keeps, Dev_wr_keeps, Dev_chShow_keeps, Dev_setCh_keeps]
theorem lockTick_keeps (b : Dev) (T : List Part) (x0) (d1) : Part.regs ∈ T → b.Keeps T d1 → b.Keeps T (lockTick x0 d1)
    := by
  intros; unfold lockTick; grind [foldl_keeps, Dev_bump_keeps, Dev_wr_keeps]
theorem Dev_measOne_keeps (b : Dev) (T : List Part) (d0) (x1) (x2) : Part.fresh ∈ T → Part.regs ∈ T → b.Keeps T d0 →
    b.Keeps T (Dev.measOne d0 x1 x2) := by
  intros; unfold Dev.measOne; grind (gen := 30) (ematch := 30) (splits := 30) [foldl_keeps, Dev_wrNat_keeps,
      Dev_wrInt_keeps, Dev_wrFit_keeps]
theorem effMeas_keeps (b : Dev) (T : List Part) (x0) (d1) : Part.ch ∈ T → Part.fresh ∈ T → Part.regs ∈ T → b.Keeps T
    d1 → b.Keeps T (effMeas x0 d1) := by
  intros; unfold effMeas; grind [foldl_keeps, Dev_chRelease_keeps, Dev_measOne_keeps, lockTick_keeps]
theorem effDisqEnd_keeps (b : Dev) (T : List Part) (x0) (d1) : Part.ch ∈ T → Part.regs ∈ T → b.Keeps T d1 → b.Keeps T
    (effDisqEnd x0 d1) := by
  intros; unfold effDisqEnd; grind [foldl_keeps, Dev_streamMinv_keeps, Dev_setBit_keeps]
theorem effAidRetry_keeps (b : Dev) (T : List Part) (x0) (d1) : Part.regs ∈ T → b.Keeps T d1 → b.Keeps T (effAidRetry
    x0 d1) := by
  intros; unfold effAidRetry; split
  · apply Dev_setFld_keeps <;> first | assumption | skip
    apply Dev_setFld_keeps <;> assumption
  · assumption
theorem effAidStart_keeps (b : Dev) (T : List Part) (x0) (x1) (x2) (x3) (x4) (x5) (x6) (x7) (x8) (d9) : Part.regs ∈ T
    → b.Keeps T d9 → b.Keeps T (effAidStart x0 x1 x2 x3 x4 x5 x6 x7 x8 d9) := by
  intros; unfold effAidStart; grind [foldl_keeps, Dev_wrNat_keeps]
theorem Dev_sweepStart_keeps (b : Dev) (T : List Part) (d0) : Part.gnss ∈ T → Part.regs ∈ T → b.Keeps T d0 → b.Keeps T
    (Dev.sweepStart d0) := by
  intros; unfold Dev.sweepStart; grind [foldl_keeps, Dev_modGnss_keeps, Dev_setBit_keeps, Dev_setFld_keeps]
theorem Dev_acquire_keeps (b : Dev) (T : List Part) (d0) : Part.gnss ∈ T → Part.regs ∈ T → b.Keeps T d0 → b.Keeps T
    (Dev.acquire d0) := by
  intros; unfold Dev.acquire; grind [foldl_keeps, Dev_sweepStart_keeps]
theorem effBurstFull_keeps (b : Dev) (T : List Part) (d0) : Part.ch ∈ T → Part.gnss ∈ T → Part.regs ∈ T → b.Keeps T d0
    → b.Keeps T (effBurstFull d0) := by
  intros; unfold effBurstFull; grind [foldl_keeps, Dev_ungate_keeps, Dev_modGnss_keeps]
theorem Dev_feSend_keeps (b : Dev) (T : List Part) (d0) (x1) (x2) : Part.out ∈ T → b.Keeps T d0 → b.Keeps T
    (Dev.feSend d0 x1 x2) := by
  intros; unfold Dev.feSend; grind [foldl_keeps, Dev_emit_keeps]
theorem effFeDone_keeps (b : Dev) (T : List Part) (x0) (d1) : Part.clk ∈ T → Part.clkOut ∈ T → Part.eio ∈ T →
    Part.flash ∈ T → Part.flt ∈ T → Part.fresh ∈ T → Part.gnss ∈ T → Part.hif ∈ T → Part.ks ∈ T → Part.nts ∈ T →
    Part.out ∈ T → Part.pair ∈ T → Part.pps ∈ T → Part.recd ∈ T → Part.regs ∈ T → Part.rings ∈ T → Part.sys ∈ T →
    b.Keeps T d1 → b.Keeps T (effFeDone x0 d1) := by
  intros; unfold effFeDone; grind (gen := 30) (ematch := 30) (splits := 30) [foldl_keeps, Dev_modGnss_keeps,
      Dev_raise_keeps, Dev_setBit_keeps, Dev_acquire_keeps, Dev_feSend_keeps, Dev_feHostStart_keeps]
theorem effHandover_keeps (b : Dev) (T : List Part) (x0) (x1) (x2) (d3) : Part.ch ∈ T → Part.regs ∈ T → b.Keeps T d3 →
    b.Keeps T (effHandover x0 x1 x2 d3) := by
  intros; unfold effHandover; grind [foldl_keeps, Dev_chRelease_keeps, Dev_chAssign_keeps]
theorem effSweepCmd_keeps (b : Dev) (T : List Part) (x0) (x1) (d2) : Part.gnss ∈ T → Part.regs ∈ T → b.Keeps T d2 →
    b.Keeps T (effSweepCmd x0 x1 d2) := by
  intros; unfold effSweepCmd; grind [foldl_keeps, Dev_asCust_keeps, Dev_sweepStart_keeps]
theorem effStrobeReturn_keeps (b : Dev) (T : List Part) (x0) (d1) : Part.gnss ∈ T → Part.regs ∈ T → b.Keeps T d1 →
    b.Keeps T (effStrobeReturn x0 d1) := by
  intros; unfold effStrobeReturn; grind [foldl_keeps, Dev_setFerry_keeps, Dev_setBit_keeps]
theorem Dev_feStart_keeps (b : Dev) (T : List Part) (d0) (x1) : Part.gnss ∈ T → Part.out ∈ T → b.Keeps T d0 → b.Keeps
    T (Dev.feStart d0 x1) := by
  intros; unfold Dev.feStart; grind [foldl_keeps, Dev_modGnss_keeps, Dev_feSend_keeps]
theorem effWindowClose_keeps (b : Dev) (T : List Part) (x0) (d1) : Part.ch ∈ T → Part.gnss ∈ T → Part.out ∈ T →
    Part.regs ∈ T → b.Keeps T d1 → b.Keeps T (effWindowClose x0 d1) := by
  intros; unfold effWindowClose; grind [foldl_keeps, Dev_modGnss_keeps, Dev_chTo_keeps, Dev_feStart_keeps]
theorem effGchMeasLatch_keeps (b : Dev) (T : List Part) (x0) (x1) (d2) : Part.latch ∈ T → Part.out ∈ T → b.Keeps T d2
    → b.Keeps T (effGchMeasLatch x0 x1 d2) := by
  intros; unfold effGchMeasLatch; grind [foldl_keeps, Dev_emit_keeps, Dev_latchRegs_keeps]
theorem Dev_sweepStop_keeps (b : Dev) (T : List Part) (d0) : Part.regs ∈ T → b.Keeps T d0 → b.Keeps T (Dev.sweepStop
    d0) := by
  intros; unfold Dev.sweepStop; grind [foldl_keeps, Dev_setBit_keeps]
theorem effSearch_keeps (b : Dev) (T : List Part) (x0) (x1) (x2) (x3) (x4) (x5) (d6) : Part.gnss ∈ T → Part.regs ∈ T →
    b.Keeps T d6 → b.Keeps T (effSearch x0 x1 x2 x3 x4 x5 d6) := by
  intros; unfold effSearch; split
  · assumption
  extract_lets e1 e2 e3 e4
  have h3 : b.Keeps T e3 := by
    apply Dev_noteCell_keeps <;> first | assumption | skip
    apply Dev_modGnss_keeps <;> first | assumption | skip
    apply Dev_setFld_keeps <;> first | assumption | skip
    apply Dev_setFld_keeps <;> assumption
  split
  · exact h3
  have h4 : b.Keeps T e4 := by
    apply Dev_wrNat_keeps <;> first | assumption | skip
    apply Dev_sweepStop_keeps <;> assumption
  split
  · exact h4
  · apply Dev_sweepStart_keeps <;> assumption
theorem effStrobeLoss_keeps (b : Dev) (T : List Part) (x0) (d1) : Part.ch ∈ T → Part.clk ∈ T → Part.clkOut ∈ T →
    Part.eio ∈ T → Part.flash ∈ T → Part.flt ∈ T → Part.fresh ∈ T → Part.gnss ∈ T → Part.hif ∈ T → Part.ks ∈ T →
    Part.nts ∈ T → Part.out ∈ T → Part.pair ∈ T → Part.pps ∈ T → Part.recd ∈ T → Part.regs ∈ T → Part.rings ∈ T →
    Part.sys ∈ T → b.Keeps T d1 → b.Keeps T (effStrobeLoss x0 d1) := by
  intros; unfold effStrobeLoss; grind [foldl_keeps, Dev_setFerry_keeps, Dev_bump_keeps, Dev_setBit_keeps,
      Dev_chTo_keeps, Dev_raise_keeps]
theorem effBurstMiss_keeps (b : Dev) (T : List Part) (d0) : Part.ch ∈ T → Part.regs ∈ T → b.Keeps T d0 → b.Keeps T
    (effBurstMiss d0) := by
  intros; unfold effBurstMiss; grind [foldl_keeps, Dev_setCh_keeps, Dev_bump_keeps, Dev_chTo_keeps]
theorem effFeStart_keeps (b : Dev) (T : List Part) (d0) : Part.gnss ∈ T → Part.out ∈ T → Part.regs ∈ T → b.Keeps T d0
    → b.Keeps T (effFeStart d0) := by
  intros; unfold effFeStart; grind [foldl_keeps, Dev_feStart_keeps, Dev_setBit_keeps, Dev_modGnss_keeps]
theorem effFeGo_keeps (b : Dev) (T : List Part) (x0) (x1) (d2) : Part.gnss ∈ T → Part.out ∈ T → Part.regs ∈ T →
    b.Keeps T d2 → b.Keeps T (effFeGo x0 x1 d2) := by
  intros; unfold effFeGo; grind [foldl_keeps, Dev_asCust_keeps, Dev_wr_keeps, Dev_feHostStart_keeps,
      Dev_modGnss_keeps]
theorem effFeSpiDone_keeps (b : Dev) (T : List Part) (x0) (d1) : Part.gnss ∈ T → Part.out ∈ T → Part.regs ∈ T →
    b.Keeps T d1 → b.Keeps T (effFeSpiDone x0 d1) := by
  intros; unfold effFeSpiDone; grind [foldl_keeps, Dev_modGnss_keeps, Dev_setBit_keeps, Dev_wr_keeps,
      Dev_feSend_keeps]
theorem effVerify_keeps (b : Dev) (T : List Part) (x0) (x1) (x2) (d3) : Part.ch ∈ T → Part.gnss ∈ T → Part.regs ∈ T →
    b.Keeps T d3 → b.Keeps T (effVerify x0 x1 x2 d3) := by
  intros; unfold effVerify; split
  · assumption
  extract_lets e1 e2 e3 e4
  have h1 : b.Keeps T e1 := by apply Dev_modGnss_keeps <;> assumption
  have h2 : b.Keeps T e2 := by
    show b.Keeps T (ite _ _ _)
    split
    · apply Dev_setFld_keeps <;> assumption
    · exact h1
  clear_value e2
  split
  · exact h2
  split
  · apply Dev_bump_keeps <;> assumption
  have h4 : b.Keeps T e4 := by
    apply Dev_wrNat_keeps <;> first | assumption | skip
    apply Dev_wrInt_keeps <;> first | assumption | skip
    apply Dev_wrNat_keeps <;> first | assumption | skip
    apply Dev_bump_keeps <;> assumption
  split
  · apply Dev_chAssign_keeps <;> assumption
  · exact h4
theorem Dev_takeEph_keeps (b : Dev) (T : List Part) (d0) (x1) (x2) : Part.gnss ∈ T → b.Keeps T d0 → b.Keeps T
    (Dev.takeEph d0 x1 x2) := by
  intros; unfold Dev.takeEph; grind [foldl_keeps, Dev_modGnss_keeps]
theorem effNavUnit_keeps (b : Dev) (T : List Part) (x0) (x1) (d2) : Part.ch ∈ T → Part.gnss ∈ T → Part.regs ∈ T →
    Part.rings ∈ T → b.Keeps T d2 → b.Keeps T (effNavUnit x0 x1 d2) := by
  intros; unfold effNavUnit; grind [foldl_keeps, Dev_modGnss_keeps, Dev_setCh_keeps, Dev_takeEph_keeps,
      Dev_ringOffer_keeps, Dev_bump_keeps, forRange_keeps, Dev_wrNat_keeps]
theorem tickBurst_keeps (b : Dev) (T : List Part) (d0) : Part.ch ∈ T → Part.regs ∈ T → b.Keeps T d0 → b.Keeps T
    (tickBurst d0) := by
  intros; unfold tickBurst; grind [foldl_keeps, Dev_sweepStop_keeps, Dev_setBit_keeps, Dev_ungate_keeps]
theorem effJamSet_keeps (b : Dev) (T : List Part) (x0) (d1) : Part.clk ∈ T → Part.clkOut ∈ T → Part.eio ∈ T →
    Part.flash ∈ T → Part.flt ∈ T → Part.fresh ∈ T → Part.hif ∈ T → Part.ks ∈ T → Part.nts ∈ T → Part.out ∈ T →
    Part.pair ∈ T → Part.pps ∈ T → Part.recd ∈ T → Part.regs ∈ T → Part.rings ∈ T → Part.sys ∈ T → b.Keeps T d1 →
    b.Keeps T (effJamSet x0 d1) := by
  intros; unfold effJamSet; grind [foldl_keeps, Dev_raiseOnset_keeps, Dev_setBit_keeps]
theorem effExcl_keeps (b : Dev) (T : List Part) (x0) (x1) (x2) (d3) : Part.ch ∈ T → Part.regs ∈ T → b.Keeps T d3 →
    b.Keeps T (effExcl x0 x1 x2 d3) := by
  intros; unfold effExcl; grind [foldl_keeps, Dev_asCust_keeps, Dev_wr_keeps, Dev_setCh_keeps]
theorem effProcess_keeps (b : Dev) (T : List Part) (x0) (x1) (d2) : Part.ch ∈ T → Part.regs ∈ T → b.Keeps T d2 →
    b.Keeps T (effProcess x0 x1 d2) := by
  intros; unfold effProcess; grind [foldl_keeps, Dev_setBit_keeps, Dev_pmc_keeps, Dev_setFld_keeps, Dev_setCh_keeps,
      Dev_chTo_keeps]
theorem effBurstOn_keeps (b : Dev) (T : List Part) (d0) : Part.gnss ∈ T → Part.out ∈ T → b.Keeps T d0 → b.Keeps T
    (effBurstOn d0) := by
  intros; unfold effBurstOn; grind [foldl_keeps, Dev_feStart_keeps]
theorem effPullinTimeout_keeps (b : Dev) (T : List Part) (x0) (d1) : Part.ch ∈ T → Part.regs ∈ T → b.Keeps T d1 →
    b.Keeps T (effPullinTimeout x0 d1) := by
  intros; unfold effPullinTimeout; grind [foldl_keeps, Dev_chTo_keeps]
theorem effLostTimeout_keeps (b : Dev) (T : List Part) (x0) (d1) : Part.ch ∈ T → Part.regs ∈ T → b.Keeps T d1 →
    b.Keeps T (effLostTimeout x0 d1) := by
  intros; unfold effLostTimeout; grind [foldl_keeps, Dev_chRelease_keeps]
theorem effAidExhausted_keeps (b : Dev) (T : List Part) (x0) (d1) : Part.gnss ∈ T → Part.regs ∈ T → b.Keeps T d1 →
    b.Keeps T (effAidExhausted x0 d1) := by
  intros; unfold effAidExhausted; grind [foldl_keeps, Dev_setFld_keeps, Dev_modGnss_keeps]
theorem Dev_solSample_keeps (b : Dev) (T : List Part) (d0) (x1) (x2) (x3) (x4) (x5) (x6) : Part.rn ∈ T → b.Keeps T d0
    → b.Keeps T (Dev.solSample d0 x1 x2 x3 x4 x5 x6) := by
  intros; unfold Dev.solSample; grind [foldl_keeps, Dev_offsetFor_keeps, Dev_deliver_keeps]
theorem Dev_solRef_keeps (b : Dev) (T : List Part) (d0) (x1) (x2) (x3) (x4) (x5) : Part.refs ∈ T → Part.regs ∈ T →
    Part.rn ∈ T → b.Keeps T d0 → b.Keeps T (Dev.solRef d0 x1 x2 x3 x4 x5) := by
  intros; unfold Dev.solRef; grind [foldl_keeps, Dev_modRef_keeps, Dev_refMessage_keeps, forRange_keeps,
      Dev_solSample_keeps]
theorem Dev_solRegs_keeps (b : Dev) (T : List Part) (d0) (x1) (x2) (x3) (x4) (x5) (x6) (x7) (x8) : Part.fresh ∈ T →
    Part.regs ∈ T → b.Keeps T d0 → b.Keeps T (Dev.solRegs d0 x1 x2 x3 x4 x5 x6 x7 x8) := by
  intros; unfold Dev.solRegs; grind [foldl_keeps, Dev_wrNat_keeps, Dev_wrInt64_keeps, Dev_wrFit_keeps]
theorem effSolLatch_keeps (b : Dev) (T : List Part) (x0) (x1) (d2) : Part.latch ∈ T → Part.out ∈ T → b.Keeps T d2 →
    b.Keeps T (effSolLatch x0 x1 d2) := by
  intros; unfold effSolLatch; grind [foldl_keeps, Dev_emit_keeps, Dev_latchRegs_keeps]
theorem Dev_integChange_keeps (b : Dev) (T : List Part) (d0) (x1) (x2) (x3) (x4) : Part.clk ∈ T → Part.clkOut ∈ T →
    Part.eio ∈ T → Part.flash ∈ T → Part.flt ∈ T → Part.fresh ∈ T → Part.hif ∈ T → Part.ks ∈ T → Part.nts ∈ T →
    Part.out ∈ T → Part.pair ∈ T → Part.pps ∈ T → Part.recd ∈ T → Part.regs ∈ T → Part.rings ∈ T → Part.sys ∈ T →
    b.Keeps T d0 → b.Keeps T (Dev.integChange d0 x1 x2 x3 x4) := by
  intros; unfold Dev.integChange; grind [foldl_keeps, Dev_bump_keeps, Dev_record_keeps, Dev_raise_keeps]
theorem Dev_solPublish_keeps (b : Dev) (T : List Part) (d0) (x1) (x2) (x3) (x4) (x5) (x6) (x7) (x8) : Part.clk ∈ T →
    Part.clkOut ∈ T → Part.eio ∈ T → Part.flash ∈ T → Part.flt ∈ T → Part.fresh ∈ T → Part.hif ∈ T → Part.ks ∈ T →
    Part.nts ∈ T → Part.out ∈ T → Part.pair ∈ T → Part.pps ∈ T → Part.recd ∈ T → Part.refs ∈ T → Part.regs ∈ T →
    Part.rings ∈ T → Part.rn ∈ T → Part.sys ∈ T → b.Keeps T d0 → b.Keeps T (Dev.solPublish d0 x1 x2 x3 x4 x5 x6 x7 x8)
    := by
  intros; unfold Dev.solPublish; grind [foldl_keeps, Dev_solRegs_keeps, Dev_bump_keeps, Dev_integChange_keeps,
      Dev_ringOffer_keeps, Dev_solRef_keeps]
theorem Dev_surveyEnd_keeps (b : Dev) (T : List Part) (d0) (x1) : Part.regs ∈ T → b.Keeps T d0 → b.Keeps T
    (Dev.surveyEnd d0 x1) := by
  intros; unfold Dev.surveyEnd; grind [foldl_keeps, Dev_wrInt_keeps, Dev_setFld_keeps, Dev_wrNat_keeps]
theorem Dev_survey_keeps (b : Dev) (T : List Part) (d0) (x1) (x2) : Part.gnss ∈ T → Part.regs ∈ T → b.Keeps T d0 →
    b.Keeps T (Dev.survey d0 x1 x2) := by
  intros; unfold Dev.survey; grind (gen := 30) (ematch := 30) (splits := 30) [foldl_keeps, Dev_modGnss_keeps,
      Dev_setFld_keeps, Dev_surveyEnd_keeps]
theorem solEpoch_keeps (b : Dev) (T : List Part) (x0) (x1) (d2) : Part.clk ∈ T → Part.clkOut ∈ T → Part.eio ∈ T →
    Part.flash ∈ T → Part.flt ∈ T → Part.fresh ∈ T → Part.gnss ∈ T → Part.hif ∈ T → Part.ks ∈ T → Part.nts ∈ T →
    Part.out ∈ T → Part.pair ∈ T → Part.pps ∈ T → Part.recd ∈ T → Part.refs ∈ T → Part.regs ∈ T → Part.rings ∈ T →
    Part.rn ∈ T → Part.sols ∈ T → Part.sys ∈ T → Part.tb ∈ T → b.Keeps T d2 → b.Keeps T (solEpoch x0 x1 d2) := by
  intros; unfold solEpoch; grind (gen := 30) (ematch := 30) (splits := 30) [foldl_keeps, upd_fresh_keeps,
      Dev_setSols_keeps, Dev_solPublish_keeps, Dev_modGnss_keeps, Dev_survey_keeps, Dev_startGnss_keeps]
theorem integOne_keeps (b : Dev) (T : List Part) (x0) (x1) (d2) : Part.sols ∈ T → b.Keeps T d2 → b.Keeps T (integOne
    x0 x1 d2) := by
  intros; unfold integOne; grind [foldl_keeps, Dev_setSols_keeps]
theorem effInteg_keeps (b : Dev) (T : List Part) (x0) (x1) (d2) : Part.gnss ∈ T → Part.sols ∈ T → b.Keeps T d2 →
    b.Keeps T (effInteg x0 x1 d2) := by
  intros; unfold effInteg; grind [foldl_keeps, integOne_keeps, Dev_modGnss_keeps]
theorem Dev_takeResurvey_keeps (b : Dev) (T : List Part) (d0) : Part.gnss ∈ T → Part.regs ∈ T → b.Keeps T d0 → b.Keeps
    T (Dev.takeResurvey d0) := by
  intros; unfold Dev.takeResurvey; grind [foldl_keeps, Dev_wr_keeps, Dev_modGnss_keeps]
theorem effSolEpoch_keeps (b : Dev) (T : List Part) (x0) (x1) (d2) : Part.clk ∈ T → Part.clkOut ∈ T → Part.eio ∈ T →
    Part.flash ∈ T → Part.flt ∈ T → Part.fresh ∈ T → Part.gnss ∈ T → Part.hif ∈ T → Part.ks ∈ T → Part.nts ∈ T →
    Part.out ∈ T → Part.pair ∈ T → Part.pps ∈ T → Part.recd ∈ T → Part.refs ∈ T → Part.regs ∈ T → Part.rings ∈ T →
    Part.rn ∈ T → Part.sols ∈ T → Part.sys ∈ T → Part.tb ∈ T → b.Keeps T d2 → b.Keeps T (effSolEpoch x0 x1 d2) := by
  intros; unfold effSolEpoch; grind [foldl_keeps, solEpoch_keeps, Dev_takeResurvey_keeps]
theorem effResurvey_keeps (b : Dev) (T : List Part) (x0) (x1) (d2) : Part.gnss ∈ T → Part.regs ∈ T → b.Keeps T d2 →
    b.Keeps T (effResurvey x0 x1 d2) := by
  intros; unfold effResurvey; grind [foldl_keeps, Dev_asCust_keeps, Dev_modGnss_keeps]
theorem Dev_modClk_keeps (b : Dev) (T : List Part) (d0) (x1) : Part.clk ∈ T → b.Keeps T d0 → b.Keeps T (Dev.modClk d0
    x1) := by
  intros; unfold Dev.modClk; grind [foldl_keeps, upd_clk_keeps]
theorem Dev_tryBand_keeps (b : Dev) (T : List Part) (d0) : Part.clk ∈ T → Part.clkOut ∈ T → Part.eio ∈ T → Part.flash
    ∈ T → Part.flt ∈ T → Part.fresh ∈ T → Part.hif ∈ T → Part.ks ∈ T → Part.nts ∈ T → Part.out ∈ T → Part.pair ∈ T →
    Part.pps ∈ T → Part.recd ∈ T → Part.regs ∈ T → Part.rings ∈ T → Part.sys ∈ T → b.Keeps T d0 → b.Keeps T
    (Dev.tryBand d0) := by
  intros; unfold Dev.tryBand; grind [foldl_keeps, Dev_modClk_keeps, Dev_setFld_keeps, Dev_raiseLevel_keeps,
      Dev_setBit_keeps]
theorem Dev_lockAttempt_keeps (b : Dev) (T : List Part) (d0) : Part.clk ∈ T → Part.clkOut ∈ T → Part.eio ∈ T →
    Part.flash ∈ T → Part.flt ∈ T → Part.fresh ∈ T → Part.hif ∈ T → Part.ks ∈ T → Part.nts ∈ T → Part.out ∈ T →
    Part.pair ∈ T → Part.pps ∈ T → Part.recd ∈ T → Part.regs ∈ T → Part.rings ∈ T → Part.sys ∈ T → b.Keeps T d0 →
    b.Keeps T (Dev.lockAttempt d0) :=
    by
  intros; unfold Dev.lockAttempt; grind [foldl_keeps, Dev_tryBand_keeps, Dev_setFld_keeps, Dev_modClk_keeps]
theorem effClkRetry_keeps (b : Dev) (T : List Part) (x0) (d1) : Part.clk ∈ T → Part.clkOut ∈ T → Part.eio ∈ T →
    Part.flash ∈ T → Part.flt ∈ T → Part.fresh ∈ T → Part.hif ∈ T → Part.ks ∈ T → Part.nts ∈ T → Part.out ∈ T →
    Part.pair ∈ T → Part.pps ∈ T → Part.recd ∈ T → Part.regs ∈ T → Part.rings ∈ T → Part.sys ∈ T → b.Keeps T d1 →
    b.Keeps T (effClkRetry x0 d1) := by
  intros; unfold effClkRetry; grind [foldl_keeps, Dev_asCust_keeps, Dev_lockAttempt_keeps]
theorem Dev_stageTime_keeps (b : Dev) (T : List Part) (d0) (x1) : Part.regs ∈ T → b.Keeps T d0 → b.Keeps T
    (Dev.stageTime d0 x1) := by
  intros; unfold Dev.stageTime; grind [foldl_keeps, Dev_wr_keeps]
theorem Dev_setStage_keeps (b : Dev) (T : List Part) (d0) (x1) : Part.clk ∈ T → Part.clkOut ∈ T → Part.eio ∈ T →
    Part.flash ∈ T → Part.flt ∈ T → Part.fresh ∈ T → Part.hif ∈ T → Part.ks ∈ T → Part.nts ∈ T → Part.out ∈ T →
    Part.pair ∈ T → Part.pps ∈ T → Part.recd ∈ T → Part.regs ∈ T → Part.rings ∈ T → Part.sys ∈ T → b.Keeps T d0 →
    b.Keeps T (Dev.setStage d0 x1) :=
    by
  intros; unfold Dev.setStage; grind [foldl_keeps, Dev_setFld_keeps, Dev_stageTime_keeps, Dev_interrupt_keeps,
      Dev_record_keeps]
theorem effReduced_keeps (b : Dev) (T : List Part) (d0) : Part.clk ∈ T → Part.clkOut ∈ T → Part.eio ∈ T → Part.flash ∈
    T → Part.flt ∈ T → Part.fresh ∈ T → Part.hif ∈ T → Part.ks ∈ T → Part.nts ∈ T → Part.out ∈ T → Part.pair ∈ T →
    Part.pps ∈ T → Part.recd ∈ T → Part.regs ∈ T → Part.rings ∈ T → Part.sys ∈ T → b.Keeps T d0 → b.Keeps T
    (effReduced d0) := by
  intros; unfold effReduced; grind [foldl_keeps, Dev_setStage_keeps]
theorem effSurvey_keeps (b : Dev) (T : List Part) (x0) (d1) : Part.clk ∈ T → Part.regs ∈ T → b.Keeps T d1 → b.Keeps T
    (effSurvey x0 d1) := by
  intros; unfold effSurvey; grind [foldl_keeps, Dev_modClk_keeps, Dev_setFld_keeps]
theorem srcTb_keeps (b : Dev) (T : List Part) (x0) (x1) (x2) (d3) : Part.eb ∈ T → Part.regs ∈ T → Part.tb ∈ T →
    b.Keeps T d3 → b.Keeps T (srcTb x0 x1 x2 d3) := by
  intros; unfold srcTb; grind [foldl_keeps, Dev_setTb_keeps, Dev_setEb_keeps, Dev_setBit_keeps]
theorem auxShow_keeps (b : Dev) (T : List Part) (x0) (d1) : Part.clk ∈ T → Part.out ∈ T → b.Keeps T d1 → b.Keeps T
    (auxShow x0 d1) := by
  intros; unfold auxShow; grind [foldl_keeps, Dev_emit_keeps, Dev_modClk_keeps]
theorem osynWait_keeps (b : Dev) (T : List Part) (x0) (d1) : Part.clk ∈ T → Part.clkOut ∈ T → Part.eio ∈ T →
    Part.flash ∈ T → Part.flt ∈ T → Part.fresh ∈ T → Part.hif ∈ T → Part.ks ∈ T → Part.nts ∈ T → Part.out ∈ T →
    Part.pair ∈ T → Part.pps ∈ T → Part.recd ∈ T → Part.regs ∈ T → Part.rings ∈ T → Part.sys ∈ T → b.Keeps T d1 →
    b.Keeps T (osynWait x0 d1) := by
  intros; unfold osynWait; grind [foldl_keeps, Dev_raiseLevel_keeps]
theorem Dev_enterLo_keeps (b : Dev) (T : List Part) (d0) (x1) : Part.clk ∈ T → Part.clkOut ∈ T → Part.eio ∈ T →
    Part.flash ∈ T → Part.flt ∈ T → Part.fresh ∈ T → Part.hif ∈ T → Part.ks ∈ T → Part.nts ∈ T → Part.out ∈ T →
    Part.pair ∈ T → Part.pps ∈ T → Part.recd ∈ T → Part.regs ∈ T → Part.rings ∈ T → Part.sys ∈ T → b.Keeps T d0 →
    b.Keeps T (Dev.enterLo d0 x1) := by
  intros; unfold Dev.enterLo; grind [foldl_keeps, Dev_bump_keeps, forRange_keeps, auxShow_keeps, osynWait_keeps,
      Dev_endLevel_keeps, Dev_lockAttempt_keeps]
theorem rcUnbound_keeps (b : Dev) (T : List Part) (x0) (d1) : Part.eb ∈ T → Part.regs ∈ T → b.Keeps T d1 → b.Keeps T
    (rcUnbound x0 d1) := by
  intros; unfold rcUnbound; grind [foldl_keeps, Dev_wrNat64_keeps, Dev_setEb_keeps]
theorem clkUnalign_keeps (b : Dev) (T : List Part) (x0) (d1) : Part.clkOut ∈ T → Part.out ∈ T → Part.regs ∈ T →
    b.Keeps T d1 → b.Keeps T (clkUnalign x0 d1) := by
  intros; unfold clkUnalign; grind [foldl_keeps, clkShow_keeps, Dev_setClkOut_keeps]
theorem osynStop_keeps (b : Dev) (T : List Part) (x0) (d1) : Part.recd ∈ T → Part.regs ∈ T → Part.rings ∈ T → b.Keeps
    T d1 → b.Keeps T (osynStop x0 d1) := by
  intros; unfold osynStop; grind [foldl_keeps, Dev_setBit_keeps, Dev_endLevel_keeps]
theorem Dev_enterRc_keeps (b : Dev) (T : List Part) (d0) : Part.clk ∈ T → Part.clkOut ∈ T → Part.eb ∈ T → Part.eio ∈ T
    → Part.flash ∈ T → Part.flt ∈ T → Part.fresh ∈ T → Part.hif ∈ T → Part.ks ∈ T → Part.nts ∈ T → Part.out ∈ T →
    Part.pair ∈ T → Part.ports ∈ T → Part.pps ∈ T → Part.ptpp ∈ T → Part.recd ∈ T → Part.regs ∈ T → Part.rings ∈ T →
    Part.sys ∈ T → b.Keeps T d0 → b.Keeps T (Dev.enterRc d0) := by
  intros; unfold Dev.enterRc; grind (gen := 30) (ematch := 30) (splits := 30) [foldl_keeps, Dev_raiseLevel_keeps,
      Dev_setBit_keeps, Dev_bump_keeps, Dev_modClk_keeps, forRange_keeps, rcUnbound_keeps, clkUnalign_keeps,
      osynStop_keeps, auxShow_keeps, effPpsPulseEnd_keeps, effEioPulseEnd_keeps, effLockLoss_keeps,
      Dev_linkLost_keeps]
theorem Dev_toSource_keeps (b : Dev) (T : List Part) (d0) (x1) (x2) : Part.clk ∈ T → Part.clkOut ∈ T → Part.eb ∈ T →
    Part.eio ∈ T → Part.flash ∈ T → Part.flt ∈ T → Part.fresh ∈ T → Part.gnss ∈ T → Part.hif ∈ T → Part.ks ∈ T →
    Part.lines ∈ T → Part.nts ∈ T → Part.out ∈ T → Part.pair ∈ T → Part.ports ∈ T → Part.pps ∈ T → Part.ptpp ∈ T →
    Part.ptpx ∈ T → Part.recd ∈ T → Part.regs ∈ T → Part.rings ∈ T → Part.sys ∈ T → Part.tb ∈ T → b.Keeps T d0 →
    b.Keeps T (Dev.toSource d0 x1 x2) := by
  intros; unfold Dev.toSource; grind (gen := 30) (ematch := 30) (splits := 30) [foldl_keeps, forRange_keeps,
      srcTb_keeps, Dev_setFld_keeps, Dev_modClk_keeps, calStop_keeps, Dev_setBit_keeps, Dev_record_keeps,
      Dev_emit_keeps, Dev_modGnss_keeps, Dev_enterLo_keeps, Dev_enterRc_keeps, Dev_faultUpdate_keeps,
      Dev_ppsShowAll_keeps]
theorem Dev_xoOnset_keeps (b : Dev) (T : List Part) (d0) (x1) : Part.clk ∈ T → Part.clkOut ∈ T → Part.eb ∈ T →
    Part.eio ∈ T → Part.flash ∈ T → Part.flt ∈ T → Part.fresh ∈ T → Part.gnss ∈ T → Part.hif ∈ T → Part.ks ∈ T →
    Part.lines ∈ T → Part.nts ∈ T → Part.out ∈ T → Part.pair ∈ T → Part.ports ∈ T → Part.pps ∈ T → Part.ptpp ∈ T →
    Part.ptpx ∈ T → Part.recd ∈ T → Part.regs ∈ T → Part.rings ∈ T → Part.sys ∈ T → Part.tb ∈ T → b.Keeps T d0 →
    b.Keeps T (Dev.xoOnset d0 x1) := by
  intros; unfold Dev.xoOnset; grind [foldl_keeps, Dev_bump_keeps, Dev_setBit_keeps, Dev_raiseLevel_keeps,
      Dev_toSource_keeps]
theorem Dev_xoFound_keeps (b : Dev) (T : List Part) (d0) (x1) (x2) (x3) : Part.clk ∈ T → Part.clkOut ∈ T → Part.eb ∈ T
    → Part.eio ∈ T → Part.flash ∈ T → Part.flt ∈ T → Part.fresh ∈ T → Part.gnss ∈ T → Part.hif ∈ T → Part.ks ∈ T →
    Part.lines ∈ T → Part.nts ∈ T → Part.out ∈ T → Part.pair ∈ T → Part.ports ∈ T → Part.pps ∈ T → Part.ptpp ∈ T →
    Part.ptpx ∈ T → Part.recd ∈ T → Part.regs ∈ T → Part.rings ∈ T → Part.sys ∈ T → Part.tb ∈ T → b.Keeps T d0 →
    b.Keeps T (Dev.xoFound d0 x1 x2 x3) := by
  intros; unfold Dev.xoFound; grind [foldl_keeps, Dev_modClk_keeps, Dev_xoOnset_keeps, Dev_endLevel_keeps]
theorem effXoResume_keeps (b : Dev) (T : List Part) (d0) : Part.clk ∈ T → Part.clkOut ∈ T → Part.eb ∈ T → Part.eio ∈ T
    → Part.flash ∈ T → Part.flt ∈ T → Part.fresh ∈ T → Part.gnss ∈ T → Part.hif ∈ T → Part.ks ∈ T → Part.lines ∈ T →
    Part.nts ∈ T → Part.out ∈ T → Part.pair ∈ T → Part.ports ∈ T → Part.pps ∈ T → Part.ptpp ∈ T → Part.ptpx ∈ T →
    Part.recd ∈ T → Part.regs ∈ T → Part.rings ∈ T → Part.sys ∈ T → Part.tb ∈ T → b.Keeps T d0 → b.Keeps T
    (effXoResume d0) := by
  intros; unfold effXoResume; grind [foldl_keeps, Dev_xoFound_keeps]
theorem effAlign_keeps (b : Dev) (T : List Part) (x0) (x1) (d2) : Part.clkOut ∈ T → Part.out ∈ T → Part.regs ∈ T →
    b.Keeps T d2 → b.Keeps T (effAlign x0 x1 d2) := by
  intros; unfold effAlign; grind [foldl_keeps, clkShow_keeps, Dev_setClkOut_keeps, Dev_setFld_keeps, Dev_setBit_keeps,
      Dev_emit_keeps]
theorem effRetryTimer_keeps (b : Dev) (T : List Part) (d0) : Part.clk ∈ T → Part.clkOut ∈ T → Part.eio ∈ T →
    Part.flash ∈ T → Part.flt ∈ T → Part.fresh ∈ T → Part.hif ∈ T → Part.ks ∈ T → Part.nts ∈ T → Part.out ∈ T →
    Part.pair ∈ T → Part.pps ∈ T → Part.recd ∈ T → Part.regs ∈ T → Part.rings ∈ T → Part.sys ∈ T → b.Keeps T d0 →
    b.Keeps T (effRetryTimer d0) := by
  intros; unfold effRetryTimer; grind [foldl_keeps, Dev_lockAttempt_keeps]
theorem stageTick_keeps (b : Dev) (T : List Part) (d0) : Part.clk ∈ T → Part.clkOut ∈ T → Part.eio ∈ T → Part.flash ∈
    T → Part.flt ∈ T → Part.fresh ∈ T → Part.hif ∈ T → Part.ks ∈ T → Part.nts ∈ T → Part.out ∈ T → Part.pair ∈ T →
    Part.pps ∈ T → Part.recd ∈ T → Part.regs ∈ T → Part.rings ∈ T → Part.sys ∈ T → b.Keeps T d0 → b.Keeps T (stageTick
    d0) := by
  intros; unfold stageTick; grind [foldl_keeps, Dev_setStage_keeps]
theorem effRcStop_keeps (b : Dev) (T : List Part) (d0) : Part.clk ∈ T → Part.flt ∈ T → Part.out ∈ T → b.Keeps T d0 →
    b.Keeps T (effRcStop d0) := by
  intros; unfold effRcStop; grind [foldl_keeps, upd_flt_keeps, Dev_modClk_keeps, Dev_emit_keeps]
theorem effGateDefer_keeps (b : Dev) (T : List Part) (x0) (d1) : Part.clk ∈ T → Part.regs ∈ T → b.Keeps T d1 → b.Keeps
    T (effGateDefer x0 d1) := by
  intros; unfold effGateDefer; grind [foldl_keeps, Dev_pmc_keeps, Dev_bump_keeps, Dev_modClk_keeps]
theorem effBandTimeout_keeps (b : Dev) (T : List Part) (d0) : Part.clk ∈ T → Part.clkOut ∈ T → Part.eio ∈ T →
    Part.flash ∈ T → Part.flt ∈ T → Part.fresh ∈ T → Part.hif ∈ T → Part.ks ∈ T → Part.nts ∈ T → Part.out ∈ T →
    Part.pair ∈ T → Part.pps ∈ T → Part.recd ∈ T → Part.regs ∈ T → Part.rings ∈ T → Part.sys ∈ T → b.Keeps T d0 →
    b.Keeps T (effBandTimeout d0) := by
  intros; unfold effBandTimeout; grind [foldl_keeps, Dev_tryBand_keeps, Dev_modClk_keeps]
theorem effRelock_keeps (b : Dev) (T : List Part) (d0) : Part.clk ∈ T → Part.clkOut ∈ T → Part.eb ∈ T → Part.eio ∈ T →
    Part.flash ∈ T → Part.flt ∈ T → Part.fresh ∈ T → Part.gnss ∈ T → Part.hif ∈ T → Part.ks ∈ T → Part.lines ∈ T →
    Part.nts ∈ T → Part.out ∈ T → Part.pair ∈ T → Part.ports ∈ T → Part.pps ∈ T → Part.ptpp ∈ T → Part.ptpx ∈ T →
    Part.recd ∈ T → Part.regs ∈ T → Part.rings ∈ T → Part.sys ∈ T → Part.tb ∈ T → b.Keeps T d0 → b.Keeps T (effRelock
    d0) := by
  intros; unfold effRelock; grind [foldl_keeps, Dev_toSource_keeps, Dev_setStage_keeps]
theorem effPllLoss_keeps (b : Dev) (T : List Part) (x0) (d1) : Part.clk ∈ T → Part.clkOut ∈ T → Part.eb ∈ T → Part.eio
    ∈ T → Part.flash ∈ T → Part.flt ∈ T → Part.fresh ∈ T → Part.gnss ∈ T → Part.hif ∈ T → Part.ks ∈ T → Part.lines ∈ T
    → Part.nts ∈ T → Part.out ∈ T → Part.pair ∈ T → Part.ports ∈ T → Part.pps ∈ T → Part.ptpp ∈ T → Part.ptpx ∈ T →
    Part.recd ∈ T → Part.regs ∈ T → Part.rings ∈ T → Part.sys ∈ T → Part.tb ∈ T → b.Keeps T d1 → b.Keeps T (effPllLoss
    x0 d1) := by
  intros; unfold effPllLoss; grind [foldl_keeps, Dev_setBit_keeps, Dev_toSource_keeps, Dev_lockAttempt_keeps]
theorem effBandWrite_keeps (b : Dev) (T : List Part) (x0) (x1) (x2) (d3) : Part.regs ∈ T → b.Keeps T d3 → b.Keeps T
    (effBandWrite x0 x1 x2 d3) := by
  intros; unfold effBandWrite; grind [foldl_keeps, Dev_wr_keeps, Dev_asCust_keeps]
theorem effClkoCfg_keeps (b : Dev) (T : List Part) (x0) (x1) (x2) (d3) : Part.clkOut ∈ T → Part.out ∈ T → Part.regs ∈
    T → b.Keeps T d3 → b.Keeps T (effClkoCfg x0 x1 x2 d3) := by
  intros; unfold effClkoCfg; grind [foldl_keeps, Dev_asCust_keeps, Dev_wr_keeps, clkShow_keeps, Dev_setClkOut_keeps]
theorem effQuiesce_keeps (b : Dev) (T : List Part) (x0) (d1) : Part.clk ∈ T → b.Keeps T d1 → b.Keeps T (effQuiesce x0
    d1) := by
  intros; unfold effQuiesce; grind [foldl_keeps, Dev_modClk_keeps]
theorem effXoEdge_keeps (b : Dev) (T : List Part) (x0) (d1) : Part.clk ∈ T → Part.clkOut ∈ T → Part.eb ∈ T → Part.eio
    ∈ T → Part.flash ∈ T → Part.flt ∈ T → Part.fresh ∈ T → Part.gnss ∈ T → Part.hif ∈ T → Part.ks ∈ T → Part.lines ∈ T
    → Part.nts ∈ T → Part.out ∈ T → Part.pair ∈ T → Part.ports ∈ T → Part.pps ∈ T → Part.ptpp ∈ T → Part.ptpx ∈ T →
    Part.recd ∈ T → Part.regs ∈ T → Part.rings ∈ T → Part.sys ∈ T → Part.tb ∈ T → b.Keeps T d1 → b.Keeps T (effXoEdge
    x0 d1) := by
  intros; unfold effXoEdge; grind [foldl_keeps, Dev_xoFound_keeps]
theorem effPllLocked_keeps (b : Dev) (T : List Part) (d0) : Part.clk ∈ T → Part.recd ∈ T → Part.regs ∈ T → Part.rings
    ∈ T → b.Keeps T d0 → b.Keeps T (effPllLocked d0) := by
  intros; unfold effPllLocked; grind [foldl_keeps, Dev_setBit_keeps, Dev_modClk_keeps, Dev_endLevel_keeps]
theorem effOsynRelock_keeps (b : Dev) (T : List Part) (x0) (d1) : Part.clkOut ∈ T → Part.out ∈ T → Part.recd ∈ T →
    Part.regs ∈ T → Part.rings ∈ T → b.Keeps T d1 → b.Keeps T (effOsynRelock x0 d1) := by
  intros; unfold effOsynRelock; grind [foldl_keeps, Dev_emit_keeps, Dev_endLevel_keeps, Dev_setBit_keeps,
      forRange_keeps, clkShow_keeps]
theorem effGateClose_keeps (b : Dev) (T : List Part) (x0) (d1) : Part.clk ∈ T → Part.regs ∈ T → b.Keeps T d1 → b.Keeps
    T (effGateClose x0 d1) := by
  intros; unfold effGateClose; grind [foldl_keeps, Dev_setBit_keeps, Dev_modClk_keeps]
theorem effXoFreq_keeps (b : Dev) (T : List Part) (x0) (x1) (d2) : Part.clk ∈ T → Part.clkOut ∈ T → Part.eb ∈ T →
    Part.eio ∈ T → Part.flash ∈ T → Part.flt ∈ T → Part.fresh ∈ T → Part.gnss ∈ T → Part.hif ∈ T → Part.ks ∈ T →
    Part.lines ∈ T → Part.nts ∈ T → Part.out ∈ T → Part.pair ∈ T → Part.ports ∈ T → Part.pps ∈ T → Part.ptpp ∈ T →
    Part.ptpx ∈ T → Part.recd ∈ T → Part.regs ∈ T → Part.rings ∈ T → Part.sys ∈ T → Part.tb ∈ T → b.Keeps T d2 →
    b.Keeps T (effXoFreq x0 x1 d2) := by
  intros; unfold effXoFreq; grind [foldl_keeps, Dev_setFld_keeps, Dev_xoFound_keeps]
theorem syncOut_keeps (b : Dev) (T : List Part) (x0) (d1) : Part.out ∈ T → Part.regs ∈ T → b.Keeps T d1 → b.Keeps T
    (syncOut x0 d1) := by
  intros; unfold syncOut; grind [foldl_keeps, Dev_emit_keeps, Dev_setBit_keeps]
theorem effOsynLatch_keeps (b : Dev) (T : List Part) (x0) (x1) (d2) : Part.latch ∈ T → Part.out ∈ T → b.Keeps T d2 →
    b.Keeps T (effOsynLatch x0 x1 d2) := by
  intros; unfold effOsynLatch; grind [foldl_keeps, Dev_emit_keeps, Dev_latchRegs_keeps]
theorem effXoQualified_keeps (b : Dev) (T : List Part) (x0) (d1) : Part.clk ∈ T → Part.clkOut ∈ T → Part.eb ∈ T →
    Part.eio ∈ T → Part.flash ∈ T → Part.flt ∈ T → Part.fresh ∈ T → Part.gnss ∈ T → Part.hif ∈ T → Part.ks ∈ T →
    Part.lines ∈ T → Part.nts ∈ T → Part.out ∈ T → Part.pair ∈ T → Part.ports ∈ T → Part.pps ∈ T → Part.ptpp ∈ T →
    Part.ptpx ∈ T → Part.recd ∈ T → Part.regs ∈ T → Part.rings ∈ T → Part.sys ∈ T → Part.tb ∈ T → b.Keeps T d1 →
    b.Keeps T (effXoQualified x0 d1) := by
  intros; unfold effXoQualified; grind [foldl_keeps, Dev_setBit_keeps, Dev_toSource_keeps]
theorem effAuxEn_keeps (b : Dev) (T : List Part) (x0) (x1) (d2) : Part.clk ∈ T → Part.out ∈ T → Part.regs ∈ T →
    b.Keeps T d2 → b.Keeps T (effAuxEn x0 x1 d2) := by
  intros; unfold effAuxEn; grind [foldl_keeps, Dev_asCust_keeps, forRange_keeps, auxShow_keeps, Dev_wr_keeps]
theorem effSyncIn_keeps (b : Dev) (T : List Part) (x0) (d1) : Part.clk ∈ T → Part.out ∈ T → Part.regs ∈ T → b.Keeps T
    d1 → b.Keeps T (effSyncIn x0 d1) := by
  intros; unfold effSyncIn; grind [foldl_keeps, Dev_modClk_keeps, Dev_bump_keeps, Dev_wrNat_keeps, forRange_keeps,
      syncOut_keeps, Dev_bumpWrap_keeps]
theorem Dev_modRec_keeps (b : Dev) (T : List Part) (d0) (x1) : Part.recd ∈ T → b.Keeps T d0 → b.Keeps T (Dev.modRec d0
    x1) := by
  intros; unfold Dev.modRec; grind [foldl_keeps, upd_recd_keeps]
theorem Dev_unstage_keeps (b : Dev) (T : List Part) (d0) (x1) (x2) : Part.recd ∈ T → Part.regs ∈ T → b.Keeps T d0 →
    b.Keeps T (Dev.unstage d0 x1 x2) := by
  intros; unfold Dev.unstage; grind [foldl_keeps, Dev_recRing_keeps, Dev_modRec_keeps, Dev_setBit_keeps,
      Dev_bump_keeps]
theorem Dev_unfreeze_keeps (b : Dev) (T : List Part) (d0) : Part.recd ∈ T → Part.regs ∈ T → b.Keeps T d0 → b.Keeps T
    (Dev.unfreeze d0) := by
  intros; unfold Dev.unfreeze; grind [foldl_keeps, Dev_setBit_keeps, Dev_modRec_keeps, Dev_unstage_keeps,
      Dev_recShow_keeps]
theorem effMark_keeps (b : Dev) (T : List Part) (x0) (d1) : Part.clk ∈ T → Part.clkOut ∈ T → Part.eio ∈ T → Part.flash
    ∈ T → Part.flt ∈ T → Part.fresh ∈ T → Part.hif ∈ T → Part.ks ∈ T → Part.nts ∈ T → Part.out ∈ T → Part.pair ∈ T →
    Part.pps ∈ T → Part.recd ∈ T → Part.regs ∈ T → Part.rings ∈ T → Part.sys ∈ T → b.Keeps T d1 → b.Keeps T (effMark
    x0 d1) := by
  intros; unfold effMark; grind [foldl_keeps, Dev_asCust_keeps, Dev_record_keeps]
theorem Dev_segOpen_keeps (b : Dev) (T : List Part) (d0) (x1) (x2) (x3) : Part.flash ∈ T → Part.recd ∈ T → Part.regs ∈
    T → b.Keeps T d0 → b.Keeps T (Dev.segOpen d0 x1 x2 x3) := by
  intros; unfold Dev.segOpen; grind [foldl_keeps, Dev_flashErase_keeps, Dev_flashProgram_keeps, Dev_wrNat_keeps,
      Dev_modRec_keeps]
theorem Dev_segNext_keeps (b : Dev) (T : List Part) (d0) (x1) : Part.flash ∈ T → Part.recd ∈ T → Part.regs ∈ T →
    b.Keeps T d0 → b.Keeps T (Dev.segNext d0 x1) := by
  intros; unfold Dev.segNext; grind [foldl_keeps, Dev_segOpen_keeps]
theorem Dev_recToFlash_keeps (b : Dev) (T : List Part) (d0) (x1) : Part.flash ∈ T → Part.recd ∈ T → Part.regs ∈ T →
    b.Keeps T d0 → b.Keeps T (Dev.recToFlash d0 x1) := by
  intros; unfold Dev.recToFlash; grind [foldl_keeps, Dev_segNext_keeps, Dev_flashProgram_keeps, Dev_modRec_keeps]
theorem effSegErased_keeps (b : Dev) (T : List Part) (d0) : Part.flash ∈ T → Part.recd ∈ T → Part.regs ∈ T → b.Keeps T
    d0 → b.Keeps T (effSegErased d0) := by
  intros; unfold effSegErased; grind [foldl_keeps, Dev_setBit_keeps, Dev_modRec_keeps, Dev_flashErase_keeps]
theorem Dev_recPageEnd_keeps (b : Dev) (T : List Part) (d0) : Part.recd ∈ T → b.Keeps T d0 → b.Keeps T (Dev.recPageEnd
    d0) := by
  intros; unfold Dev.recPageEnd; grind [foldl_keeps, Dev_modRec_keeps]
theorem Dev_flushRecord_keeps (b : Dev) (T : List Part) (d0) (x1) : Part.flash ∈ T → Part.recd ∈ T → Part.regs ∈ T →
    b.Keeps T d0 → b.Keeps T (Dev.flushRecord d0 x1) := by
  intros; unfold Dev.flushRecord; grind [foldl_keeps, Dev_recToFlash_keeps, Dev_bumpWrap_keeps]
theorem effFlushDone_keeps (b : Dev) (T : List Part) (x0) (d1) : Part.flash ∈ T → Part.recd ∈ T → Part.regs ∈ T →
    b.Keeps T d1 → b.Keeps T (effFlushDone x0 d1) := by
  intros; unfold effFlushDone; grind (gen := 30) (ematch := 30) (splits := 30) [foldl_keeps, Dev_recPageEnd_keeps,
      Dev_flushRecord_keeps, Dev_recToFlash_keeps, Dev_modRec_keeps, Dev_recShow_keeps, Dev_pmc_keeps,
      Dev_wrNat_keeps, Dev_bumpWrap_keeps, Dev_setBit_keeps]
theorem Dev_segFirst_keeps (b : Dev) (T : List Part) (d0) (x1) : Part.flash ∈ T → Part.recd ∈ T → Part.regs ∈ T →
    b.Keeps T d0 → b.Keeps T (Dev.segFirst d0 x1) := by
  intros; unfold Dev.segFirst; grind [foldl_keeps, Dev_segOpen_keeps, Dev_wrNat_keeps, Dev_wr_keeps]
theorem Dev_recOpen_keeps (b : Dev) (T : List Part) (d0) : Part.clk ∈ T → Part.clkOut ∈ T → Part.eio ∈ T → Part.flash
    ∈ T → Part.flt ∈ T → Part.fresh ∈ T → Part.hif ∈ T → Part.ks ∈ T → Part.nts ∈ T → Part.out ∈ T → Part.pair ∈ T →
    Part.pps ∈ T → Part.recd ∈ T → Part.regs ∈ T → Part.rings ∈ T → Part.sys ∈ T → b.Keeps T d0 → b.Keeps T
    (Dev.recOpen d0) := by
  intros; unfold Dev.recOpen; grind (gen := 30) (ematch := 30) (splits := 30) [foldl_keeps, Dev_setBit_keeps,
      Dev_segFirst_keeps, Dev_modRec_keeps, Dev_wr_keeps, Dev_record_keeps]
theorem effWinLoad_keeps (b : Dev) (T : List Part) (x0) (d1) : Part.recd ∈ T → Part.regs ∈ T → b.Keeps T d1 → b.Keeps
    T (effWinLoad x0 d1) := by
  intros; unfold effWinLoad; grind [foldl_keeps, Dev_asAny_keeps, Dev_modRec_keeps, Dev_wr_keeps]
theorem effFreezeExpire_keeps (b : Dev) (T : List Part) (d0) : Part.recd ∈ T → Part.regs ∈ T → b.Keeps T d0 → b.Keeps
    T (effFreezeExpire d0) := by
  intros; unfold effFreezeExpire; grind [foldl_keeps, Dev_setBit_keeps, Dev_unfreeze_keeps]

end Sys2Proof.Laws
end

