-- ==== Sys2Proof/Laws/Keeps5.lean ====
section
/-! SUPPORT. One lemma per function of the model that answers a device: the parts of the device it may change (part 5 of 5,
callees first). A device that differs from b only in the parts T still does after it, when T holds those parts. -/
set_option Elab.async false
namespace Sys2Proof.Laws
open Sys2Proof.Machine

theorem effWinDone_keeps (b : Dev) (T : List Part) (x0) (d1) : Part.recd ∈ T → Part.regs ∈ T → b.Keeps T d1 → b.Keeps
    T (effWinDone x0 d1) := by
  intros; unfold effWinDone; grind [foldl_keeps, Dev_modRec_keeps, forRange_keeps, Dev_wrNat_keeps, Dev_wr_keeps]
theorem effFreeze_keeps (b : Dev) (T : List Part) (x0) (d1) : Part.recd ∈ T → Part.regs ∈ T → b.Keeps T d1 → b.Keeps T
    (effFreeze x0 d1) := by
  intros; unfold effFreeze; grind [foldl_keeps, Dev_asCust_keeps, Dev_modRec_keeps, Dev_setBit_keeps]
theorem effSegErase_keeps (b : Dev) (T : List Part) (d0) : Part.regs ∈ T → b.Keeps T d0 → b.Keeps T (effSegErase d0)
    := by
  intros; unfold effSegErase; grind [foldl_keeps, Dev_setBit_keeps]
theorem effBackFlush_keeps (b : Dev) (T : List Part) (d0) : Part.flash ∈ T → Part.fresh ∈ T → Part.ks ∈ T → Part.nts ∈
    T → Part.recd ∈ T → Part.regs ∈ T → Part.rings ∈ T → Part.sys ∈ T → b.Keeps T d0 → b.Keeps T (effBackFlush d0) :=
    by
  intros; unfold effBackFlush; grind [foldl_keeps, Dev_startFlush_keeps]
theorem effUnfreeze_keeps (b : Dev) (T : List Part) (x0) (d1) : Part.recd ∈ T → Part.regs ∈ T → b.Keeps T d1 → b.Keeps
    T (effUnfreeze x0 d1) := by
  intros; unfold effUnfreeze; grind [foldl_keeps, Dev_asCust_keeps, Dev_unfreeze_keeps]
theorem Dev_imgWrite_keeps (b : Dev) (T : List Part) (d0) (x1) (x2) : Part.regs ∈ T → b.Keeps T d0 → b.Keeps T
    (Dev.imgWrite d0 x1 x2) := by
  intros; unfold Dev.imgWrite; grind [foldl_keeps, Dev_wr_keeps]
theorem Dev_imgRegs_keeps (b : Dev) (T : List Part) (d0) (x1) : Part.regs ∈ T → b.Keeps T d0 → b.Keeps T (Dev.imgRegs
    d0 x1) := by
  intros; unfold Dev.imgRegs; grind [foldl_keeps, Dev_imgWrite_keeps, forRange_keeps, Dev_wrNat_keeps]
theorem readSlot_keeps (b : Dev) (T : List Part) (x0) (d1) : Part.ks ∈ T → Part.regs ∈ T → b.Keeps T d1 → b.Keeps T
    (readSlot x0 d1) := by
  intros; unfold readSlot; grind [foldl_keeps, upd_ks_keeps, Dev_slotShow_keeps]
theorem Dev_fuseAuthority_keeps (b : Dev) (T : List Part) (d0) (x1) : Part.regs ∈ T → b.Keeps T d0 → b.Keeps T
    (Dev.fuseAuthority d0 x1) := by
  intros; unfold Dev.fuseAuthority; grind [foldl_keeps, Dev_setBit_keeps, forRange_keeps, Dev_wrNat_keeps]
theorem Dev_readCounter_keeps (b : Dev) (T : List Part) (d0) : Part.regs ∈ T → b.Keeps T d0 → b.Keeps T
    (Dev.readCounter d0) := by
  intros; unfold Dev.readCounter; grind [foldl_keeps, Dev_setBit_keeps, Dev_wrNat64_keeps]
theorem Dev_readSlots_keeps (b : Dev) (T : List Part) (d0) : Part.clk ∈ T → Part.clkOut ∈ T → Part.eio ∈ T →
    Part.flash ∈ T → Part.flt ∈ T → Part.fresh ∈ T → Part.hif ∈ T → Part.ks ∈ T → Part.nts ∈ T → Part.out ∈ T →
    Part.pair ∈ T → Part.pps ∈ T → Part.recd ∈ T → Part.regs ∈ T → Part.rings ∈ T → Part.sys ∈ T → b.Keeps T d0 →
    b.Keeps T (Dev.readSlots d0) := by
  intros; unfold Dev.readSlots; grind [foldl_keeps, Dev_badAny_keeps, forRange_keeps, readSlot_keeps, Dev_raise_keeps]
theorem Dev_loadKeys_keeps (b : Dev) (T : List Part) (d0) (x1) : Part.clk ∈ T → Part.clkOut ∈ T → Part.eio ∈ T →
    Part.flash ∈ T → Part.flt ∈ T → Part.fresh ∈ T → Part.hif ∈ T → Part.ks ∈ T → Part.nts ∈ T → Part.out ∈ T →
    Part.pair ∈ T → Part.pps ∈ T → Part.recd ∈ T → Part.regs ∈ T → Part.rings ∈ T → Part.sys ∈ T → b.Keeps T d0 →
    b.Keeps T (Dev.loadKeys d0 x1) :=
    by
  intros; unfold Dev.loadKeys; grind [foldl_keeps, Dev_fuseAuthority_keeps, Dev_setBit_keeps, Dev_readCounter_keeps,
      Dev_readSlots_keeps]
theorem Dev_flCommand_keeps (b : Dev) (T : List Part) (d0) (x1) (f2) : Part.regs ∈ T → b.Keeps T d0 → (∀ d, b.Keeps T
    d → b.Keeps T (f2 d)) → b.Keeps T (Dev.flCommand d0 x1 f2) := by
  intros; unfold Dev.flCommand; grind [foldl_keeps, Dev_asCust_keeps]
theorem Dev_flWrites_keeps (b : Dev) (T : List Part) (d0) : Part.regs ∈ T → b.Keeps T d0 → b.Keeps T (Dev.flWrites d0)
    := by
  intros; unfold Dev.flWrites; grind [foldl_keeps, Dev_setBit_keeps]
theorem Dev_modSys_keeps (b : Dev) (T : List Part) (d0) (x1) : Part.sys ∈ T → b.Keeps T d0 → b.Keeps T (Dev.modSys d0
    x1) := by
  intros; unfold Dev.modSys; grind [foldl_keeps, upd_sys_keeps]
theorem Dev_flStart_keeps (b : Dev) (T : List Part) (d0) (x1) (x2) : Part.regs ∈ T → Part.sys ∈ T → b.Keeps T d0 →
    b.Keeps T (Dev.flStart d0 x1 x2) := by
  intros; unfold Dev.flStart; grind [foldl_keeps, Dev_setFld_keeps, Dev_setBit_keeps, Dev_modSys_keeps]
theorem effFlProgram_keeps (b : Dev) (T : List Part) (x0) (d1) : Part.regs ∈ T → Part.sys ∈ T → b.Keeps T d1 → b.Keeps
    T (effFlProgram x0 d1) := by
  intros; unfold effFlProgram; grind [foldl_keeps, Dev_flCommand_keeps, Dev_flWrites_keeps, Dev_flStart_keeps]
theorem Dev_deviceReset_keeps (b : Dev) (T : List Part) (d0) (x1) : Part.atom ∈ T → Part.ch ∈ T → Part.clk ∈ T →
    Part.clkOut ∈ T → Part.eb ∈ T → Part.egress ∈ T → Part.eio ∈ T → Part.flash ∈ T → Part.flt ∈ T → Part.fresh ∈ T →
    Part.gnss ∈ T → Part.hif ∈ T → Part.ks ∈ T → Part.latch ∈ T → Part.lines ∈ T → Part.models ∈ T → Part.nts ∈ T →
    Part.osyn ∈ T → Part.out ∈ T → Part.pair ∈ T → Part.pe ∈ T → Part.ports ∈ T → Part.pps ∈ T → Part.ptpg ∈ T →
    Part.ptpi ∈ T → Part.ptpp ∈ T → Part.ptpx ∈ T → Part.recd ∈ T → Part.refs ∈ T → Part.regs ∈ T → Part.rings ∈ T →
    Part.rn ∈ T → Part.sel ∈ T → Part.sols ∈ T → Part.srv ∈ T → Part.srvg ∈ T → Part.sys ∈ T → Part.tb ∈ T → Part.txq
    ∈ T → b.Keeps T d0 → b.Keeps T (Dev.deviceReset d0 x1) := by
  intros; unfold Dev.deviceReset; dsimp only
  apply Dev_emit_keeps <;> first | assumption | skip
  apply Dev_setBit_keeps <;> first | assumption | skip
  apply Dev_wrNat_keeps <;> first | assumption | skip
  refine foldl_keeps _ _ _ _ (fun d x hd => by apply Dev_wr_keeps <;> assumption) _ ?_
  intro k hk; cases k <;> contradiction
theorem effResetLow_keeps (b : Dev) (T : List Part) (d0) : Part.atom ∈ T → Part.ch ∈ T → Part.clk ∈ T → Part.clkOut ∈
    T → Part.eb ∈ T → Part.egress ∈ T → Part.eio ∈ T → Part.flash ∈ T → Part.flt ∈ T → Part.fresh ∈ T → Part.gnss ∈ T
    → Part.hif ∈ T → Part.ks ∈ T → Part.latch ∈ T → Part.lines ∈ T → Part.models ∈ T → Part.nts ∈ T → Part.osyn ∈ T →
    Part.out ∈ T → Part.pair ∈ T → Part.pe ∈ T → Part.ports ∈ T → Part.pps ∈ T → Part.ptpg ∈ T → Part.ptpi ∈ T →
    Part.ptpp ∈ T → Part.ptpx ∈ T → Part.recd ∈ T → Part.refs ∈ T → Part.regs ∈ T → Part.rings ∈ T → Part.rn ∈ T →
    Part.sel ∈ T → Part.sols ∈ T → Part.srv ∈ T → Part.srvg ∈ T → Part.sys ∈ T → Part.tb ∈ T → Part.txq ∈ T → b.Keeps
    T d0 → b.Keeps T (effResetLow d0) := by
  intros; unfold effResetLow; grind [foldl_keeps, Dev_deviceReset_keeps, Dev_modSys_keeps]
theorem Dev_bankRuns_keeps (b : Dev) (T : List Part) (d0) (x1) (x2) : Part.regs ∈ T → Part.sys ∈ T → b.Keeps T d0 →
    b.Keeps T (Dev.bankRuns d0 x1 x2) := by
  intros; unfold Dev.bankRuns; grind [foldl_keeps, Dev_setBit_keeps, Dev_modSys_keeps]
theorem Dev_bankFailed_keeps (b : Dev) (T : List Part) (d0) (x1) (x2) : Part.regs ∈ T → b.Keeps T d0 → b.Keeps T
    (Dev.bankFailed d0 x1 x2) := by
  intros; unfold Dev.bankFailed; grind [foldl_keeps, Dev_wrNat_keeps]
theorem Dev_tryBanks_keeps (b : Dev) (T : List Part) (d0) (x1) (x2) (x3) : Part.atom ∈ T → Part.ch ∈ T → Part.clk ∈ T
    → Part.clkOut ∈ T → Part.eb ∈ T → Part.egress ∈ T → Part.eio ∈ T → Part.flash ∈ T → Part.flt ∈ T → Part.fresh ∈ T
    → Part.gnss ∈ T → Part.hif ∈ T → Part.ks ∈ T → Part.latch ∈ T → Part.lines ∈ T → Part.models ∈ T → Part.nts ∈ T →
    Part.osyn ∈ T → Part.out ∈ T → Part.pair ∈ T → Part.pe ∈ T → Part.ports ∈ T → Part.pps ∈ T → Part.ptpg ∈ T →
    Part.ptpi ∈ T → Part.ptpp ∈ T → Part.ptpx ∈ T → Part.recd ∈ T → Part.refs ∈ T → Part.regs ∈ T → Part.rings ∈ T →
    Part.rn ∈ T → Part.sel ∈ T → Part.sols ∈ T → Part.srv ∈ T → Part.srvg ∈ T → Part.sys ∈ T → Part.tb ∈ T → Part.txq
    ∈ T → b.Keeps T d0 → b.Keeps T (Dev.tryBanks d0 x1 x2 x3) := by
  intros; unfold Dev.tryBanks; grind [foldl_keeps, Dev_bankRuns_keeps, Dev_bankFailed_keeps, Dev_setBit_keeps,
      Dev_setStage_keeps]
theorem Dev_load_keeps (b : Dev) (T : List Part) (d0) (x1) (x2) : Part.atom ∈ T → Part.ch ∈ T → Part.clk ∈ T →
    Part.clkOut ∈ T → Part.eb ∈ T → Part.egress ∈ T → Part.eio ∈ T → Part.flash ∈ T → Part.flt ∈ T → Part.fresh ∈ T →
    Part.gnss ∈ T → Part.hif ∈ T → Part.ks ∈ T → Part.latch ∈ T → Part.lines ∈ T → Part.models ∈ T → Part.nts ∈ T →
    Part.osyn ∈ T → Part.out ∈ T → Part.pair ∈ T → Part.pe ∈ T → Part.ports ∈ T → Part.pps ∈ T → Part.ptpg ∈ T →
    Part.ptpi ∈ T → Part.ptpp ∈ T → Part.ptpx ∈ T → Part.recd ∈ T → Part.refs ∈ T → Part.regs ∈ T → Part.rings ∈ T →
    Part.rn ∈ T → Part.sel ∈ T → Part.sols ∈ T → Part.srv ∈ T → Part.srvg ∈ T → Part.sys ∈ T → Part.tb ∈ T → Part.txq
    ∈ T → b.Keeps T d0 → b.Keeps T (Dev.load d0 x1 x2) := by
  intros; unfold Dev.load; grind (gen := 30) (ematch := 30) (splits := 30) [foldl_keeps, Dev_refreshFaultN_keeps,
      Dev_setStage_keeps, Dev_wrNat_keeps, Dev_setBit_keeps, Dev_tryBanks_keeps]
theorem effSupplyBack_keeps (b : Dev) (T : List Part) (d0) : Part.atom ∈ T → Part.ch ∈ T → Part.clk ∈ T → Part.clkOut
    ∈ T → Part.eb ∈ T → Part.egress ∈ T → Part.eio ∈ T → Part.flash ∈ T → Part.flt ∈ T → Part.fresh ∈ T → Part.gnss ∈
    T → Part.hif ∈ T → Part.ks ∈ T → Part.latch ∈ T → Part.lines ∈ T → Part.models ∈ T → Part.nts ∈ T → Part.osyn ∈ T
    → Part.out ∈ T → Part.pair ∈ T → Part.pe ∈ T → Part.ports ∈ T → Part.pps ∈ T → Part.ptpg ∈ T → Part.ptpi ∈ T →
    Part.ptpp ∈ T → Part.ptpx ∈ T → Part.recd ∈ T → Part.refs ∈ T → Part.regs ∈ T → Part.rings ∈ T → Part.rn ∈ T →
    Part.sel ∈ T → Part.sols ∈ T → Part.srv ∈ T → Part.srvg ∈ T → Part.sys ∈ T → Part.tb ∈ T → Part.txq ∈ T → b.Keeps
    T d0 → b.Keeps T (effSupplyBack d0) := by
  intros; unfold effSupplyBack; grind [foldl_keeps, Dev_emit_keeps, Dev_modSys_keeps, Dev_load_keeps]
theorem Dev_resetAndLoad_keeps (b : Dev) (T : List Part) (d0) (x1) : Part.atom ∈ T → Part.ch ∈ T → Part.clk ∈ T →
    Part.clkOut ∈ T → Part.eb ∈ T → Part.egress ∈ T → Part.eio ∈ T → Part.flash ∈ T → Part.flt ∈ T → Part.fresh ∈ T →
    Part.gnss ∈ T → Part.hif ∈ T → Part.ks ∈ T → Part.latch ∈ T → Part.lines ∈ T → Part.models ∈ T → Part.nts ∈ T →
    Part.osyn ∈ T → Part.out ∈ T → Part.pair ∈ T → Part.pe ∈ T → Part.ports ∈ T → Part.pps ∈ T → Part.ptpg ∈ T →
    Part.ptpi ∈ T → Part.ptpp ∈ T → Part.ptpx ∈ T → Part.recd ∈ T → Part.refs ∈ T → Part.regs ∈ T → Part.rings ∈ T →
    Part.rn ∈ T → Part.sel ∈ T → Part.sols ∈ T → Part.srv ∈ T → Part.srvg ∈ T → Part.sys ∈ T → Part.tb ∈ T → Part.txq
    ∈ T → b.Keeps T d0 → b.Keeps T (Dev.resetAndLoad d0 x1) := by
  intros; unfold Dev.resetAndLoad; grind [foldl_keeps, Dev_deviceReset_keeps, Dev_load_keeps]
theorem effRestart_keeps (b : Dev) (T : List Part) (x0) (d1) : Part.atom ∈ T → Part.ch ∈ T → Part.clk ∈ T →
    Part.clkOut ∈ T → Part.eb ∈ T → Part.egress ∈ T → Part.eio ∈ T → Part.flash ∈ T → Part.flt ∈ T → Part.fresh ∈ T →
    Part.gnss ∈ T → Part.hif ∈ T → Part.ks ∈ T → Part.latch ∈ T → Part.lines ∈ T → Part.models ∈ T → Part.nts ∈ T →
    Part.osyn ∈ T → Part.out ∈ T → Part.pair ∈ T → Part.pe ∈ T → Part.ports ∈ T → Part.pps ∈ T → Part.ptpg ∈ T →
    Part.ptpi ∈ T → Part.ptpp ∈ T → Part.ptpx ∈ T → Part.recd ∈ T → Part.refs ∈ T → Part.regs ∈ T → Part.rings ∈ T →
    Part.rn ∈ T → Part.sel ∈ T → Part.sols ∈ T → Part.srv ∈ T → Part.srvg ∈ T → Part.sys ∈ T → Part.tb ∈ T → Part.txq
    ∈ T → b.Keeps T d1 → b.Keeps T (effRestart x0 d1) := by
  intros; unfold effRestart; grind [foldl_keeps, upd_flt_keeps, Dev_startFlush_keeps, Dev_resetAndLoad_keeps,
      Dev_asCust_keeps]
theorem Dev_setFlBuffer_keeps (b : Dev) (T : List Part) (d0) (x1) : Part.regs ∈ T → b.Keeps T d0 → b.Keeps T
    (Dev.setFlBuffer d0 x1) := by
  intros; unfold Dev.setFlBuffer; grind [foldl_keeps, forRange_keeps, Dev_wrNat_keeps]
theorem Dev_flChecked_keeps (b : Dev) (T : List Part) (d0) (x1) (x2) : Part.atom ∈ T → Part.ch ∈ T → Part.clk ∈ T →
    Part.clkOut ∈ T → Part.eb ∈ T → Part.egress ∈ T → Part.eio ∈ T → Part.flash ∈ T → Part.flt ∈ T → Part.fresh ∈ T →
    Part.gnss ∈ T → Part.hif ∈ T → Part.ks ∈ T → Part.latch ∈ T → Part.lines ∈ T → Part.models ∈ T → Part.nts ∈ T →
    Part.osyn ∈ T → Part.out ∈ T → Part.pair ∈ T → Part.pe ∈ T → Part.ports ∈ T → Part.pps ∈ T → Part.ptpg ∈ T →
    Part.ptpi ∈ T → Part.ptpp ∈ T → Part.ptpx ∈ T → Part.recd ∈ T → Part.refs ∈ T → Part.regs ∈ T → Part.rings ∈ T →
    Part.rn ∈ T → Part.sel ∈ T → Part.sols ∈ T → Part.srv ∈ T → Part.srvg ∈ T → Part.sys ∈ T → Part.tb ∈ T → Part.txq
    ∈ T → b.Keeps T d0 → b.Keeps T (Dev.flChecked d0 x1 x2) := by
  intros; unfold Dev.flChecked; grind [foldl_keeps, Dev_wrNat_keeps, Dev_setBit_keeps, Dev_wr_keeps, Dev_modSys_keeps,
      Dev_bankFailed_keeps]
theorem Dev_dirNew_keeps (b : Dev) (T : List Part) (d0) : Part.fresh ∈ T → b.Keeps T d0 → b.Keeps T (Dev.dirNew d0).2
    := by
  intros; unfold Dev.dirNew; grind [foldl_keeps, Dev_freeBytes_keeps]
theorem Dev_flPerform_keeps (b : Dev) (T : List Part) (d0) (x1) : Part.atom ∈ T → Part.ch ∈ T → Part.clk ∈ T →
    Part.clkOut ∈ T → Part.eb ∈ T → Part.egress ∈ T → Part.eio ∈ T → Part.flash ∈ T → Part.flt ∈ T → Part.fresh ∈ T →
    Part.gnss ∈ T → Part.hif ∈ T → Part.ks ∈ T → Part.latch ∈ T → Part.lines ∈ T → Part.models ∈ T → Part.nts ∈ T →
    Part.osyn ∈ T → Part.out ∈ T → Part.pair ∈ T → Part.pe ∈ T → Part.ports ∈ T → Part.pps ∈ T → Part.ptpg ∈ T →
    Part.ptpi ∈ T → Part.ptpp ∈ T → Part.ptpx ∈ T → Part.recd ∈ T → Part.refs ∈ T → Part.regs ∈ T → Part.rings ∈ T →
    Part.rn ∈ T → Part.sel ∈ T → Part.sols ∈ T → Part.srv ∈ T → Part.srvg ∈ T → Part.sys ∈ T → Part.tb ∈ T → Part.txq
    ∈ T → b.Keeps T d0 → b.Keeps T (Dev.flPerform d0 x1) := by
  intros; unfold Dev.flPerform; grind [foldl_keeps, Dev_flashErase_keeps, Dev_flashProgram_keeps,
      Dev_setFlBuffer_keeps, Dev_flChecked_keeps, Dev_dirNew_keeps, Dev_setBit_keeps]
theorem Dev_fallbackFault_keeps (b : Dev) (T : List Part) (d0) : Part.clk ∈ T → Part.clkOut ∈ T → Part.eio ∈ T →
    Part.flash ∈ T → Part.flt ∈ T → Part.fresh ∈ T → Part.hif ∈ T → Part.ks ∈ T → Part.nts ∈ T → Part.out ∈ T →
    Part.pair ∈ T → Part.pps ∈ T → Part.recd ∈ T → Part.regs ∈ T → Part.rings ∈ T → Part.sys ∈ T → b.Keeps T d0 →
    b.Keeps T (Dev.fallbackFault d0) :=
    by
  intros; unfold Dev.fallbackFault; grind [foldl_keeps, Dev_raise_keeps]
theorem startTb_keeps (b : Dev) (T : List Part) (x0) (d1) : Part.regs ∈ T → Part.tb ∈ T → b.Keeps T d1 → b.Keeps T
    (startTb x0 d1) := by
  intros; unfold startTb; grind [foldl_keeps, Dev_setTb_keeps, Dev_setFld_keeps, Dev_setBit_keeps]
theorem startGate_keeps (b : Dev) (T : List Part) (x0) (d1) : Part.regs ∈ T → b.Keeps T d1 → b.Keeps T (startGate x0
    d1) := by
  intros; unfold startGate; grind [foldl_keeps, Dev_setBit_keeps]
theorem startRef_keeps (b : Dev) (T : List Part) (x0) (d1) : Part.clk ∈ T → Part.clkOut ∈ T → Part.eio ∈ T →
    Part.flash ∈ T → Part.flt ∈ T → Part.fresh ∈ T → Part.hif ∈ T → Part.ks ∈ T → Part.nts ∈ T → Part.out ∈ T →
    Part.pair ∈ T → Part.pps ∈ T → Part.recd ∈ T → Part.regs ∈ T → Part.rings ∈ T → Part.sys ∈ T → b.Keeps T d1 →
    b.Keeps T (startRef x0 d1) := by
  intros; unfold startRef; grind [foldl_keeps, Dev_refTo_keeps]
theorem startOsyn_keeps (b : Dev) (T : List Part) (x0) (d1) : Part.recd ∈ T → Part.regs ∈ T → Part.rings ∈ T → b.Keeps
    T d1 → b.Keeps T (startOsyn x0 d1) := by
  intros; unfold startOsyn; grind [foldl_keeps, Dev_wrNat_keeps, osynStop_keeps]
theorem Dev_startOwn_keeps (b : Dev) (T : List Part) (d0) : Part.regs ∈ T → b.Keeps T d0 → b.Keeps T (Dev.startOwn d0)
    := by
  intros; unfold Dev.startOwn; grind [foldl_keeps, Dev_setBit_keeps, Dev_setFld_keeps]
theorem Dev_startPosition_keeps (b : Dev) (T : List Part) (d0) : Part.regs ∈ T → b.Keeps T d0 → b.Keeps T
    (Dev.startPosition d0) := by
  intros; unfold Dev.startPosition; grind [foldl_keeps, Dev_wr_keeps, Dev_setFld_keeps]
theorem portFix_keeps (b : Dev) (T : List Part) (x0) (d1) : Part.regs ∈ T → b.Keeps T d1 → b.Keeps T (portFix x0 d1)
    := by
  intros; unfold portFix; grind [foldl_keeps, Dev_wr_keeps]
theorem Dev_startBlocks_keeps (b : Dev) (T : List Part) (d0) : Part.clk ∈ T → Part.clkOut ∈ T → Part.eio ∈ T →
    Part.flash ∈ T → Part.flt ∈ T → Part.fresh ∈ T → Part.hif ∈ T → Part.ks ∈ T → Part.nts ∈ T → Part.out ∈ T →
    Part.pair ∈ T → Part.pps ∈ T → Part.ptpp ∈ T → Part.ptpx ∈ T → Part.recd ∈ T → Part.regs ∈ T → Part.rings ∈ T →
    Part.sys ∈ T → Part.tb ∈ T → b.Keeps T d0 → b.Keeps T (Dev.startBlocks d0) := by
  intros; unfold Dev.startBlocks; grind (gen := 30) (ematch := 30) (splits := 30) [foldl_keeps, upd_pair_keeps,
      Dev_setBit_keeps, forRange_keeps, startTb_keeps, Dev_modClk_keeps, startGate_keeps, startRef_keeps,
      startOsyn_keeps, Dev_startOwn_keeps, Dev_startPosition_keeps, ptpShowAll_keeps, Dev_saAll_keeps,
      Dev_rootCheck_keeps, Dev_faultUpdate_keeps, ppsIdle_keeps, portFix_keeps, clkShow_keeps]
theorem Dev_showImage_keeps (b : Dev) (T : List Part) (d0) (x1) : Part.regs ∈ T → b.Keeps T d0 → b.Keeps T
    (Dev.showImage d0 x1) := by
  intros; unfold Dev.showImage; grind [foldl_keeps, Dev_wrNat64_keeps, Dev_wrNat_keeps]
theorem Dev_loadImage_keeps (b : Dev) (T : List Part) (d0) (x1) (x2) : Part.atom ∈ T → Part.gnss ∈ T → Part.regs ∈ T →
    Part.sys ∈ T → b.Keeps T d0 → b.Keeps T (Dev.loadImage d0 x1 x2) := by
  intros; unfold Dev.loadImage; grind (gen := 30) (ematch := 30) (splits := 30) [foldl_keeps, upd_atom_keeps,
      Dev_imgRegs_keeps, Dev_modSys_keeps, Dev_modGnss_keeps, Dev_wrNat_keeps, Dev_showImage_keeps, Dev_setBit_keeps]
theorem Dev_takeImage_keeps (b : Dev) (T : List Part) (d0) (x1) (x2) : Part.atom ∈ T → Part.gnss ∈ T → Part.regs ∈ T →
    Part.sys ∈ T → b.Keeps T d0 → b.Keeps T (Dev.takeImage d0 x1 x2) := by
  intros; unfold Dev.takeImage; grind [foldl_keeps, Dev_modSys_keeps, Dev_loadImage_keeps]
theorem effApply_keeps (b : Dev) (T : List Part) (x0) (d1) : Part.atom ∈ T → Part.clk ∈ T → Part.clkOut ∈ T → Part.eio
    ∈ T → Part.flash ∈ T → Part.flt ∈ T → Part.fresh ∈ T → Part.gnss ∈ T → Part.hif ∈ T → Part.ks ∈ T → Part.nts ∈ T →
    Part.out ∈ T → Part.pair ∈ T → Part.pps ∈ T → Part.ptpp ∈ T → Part.ptpx ∈ T → Part.recd ∈ T → Part.regs ∈ T →
    Part.rings ∈ T → Part.sys ∈ T → Part.tb ∈ T → b.Keeps T d1 → b.Keeps T (effApply x0 d1) := by
  intros; unfold effApply; grind (gen := 30) (ematch := 30) (splits := 30) [foldl_keeps, Dev_setStage_keeps,
      Dev_refreshFaultN_keeps, Dev_fallbackFault_keeps, Dev_startBlocks_keeps, Dev_loadKeys_keeps, Dev_emit_keeps,
      Dev_recOpen_keeps, Dev_takeImage_keeps]
theorem effFlRead_keeps (b : Dev) (T : List Part) (x0) (d1) : Part.regs ∈ T → Part.sys ∈ T → b.Keeps T d1 → b.Keeps T
    (effFlRead x0 d1) := by
  intros; unfold effFlRead; grind [foldl_keeps, Dev_flCommand_keeps, Dev_flStart_keeps]
theorem effPowerOn_keeps (b : Dev) (T : List Part) (d0) : Part.atom ∈ T → Part.ch ∈ T → Part.clk ∈ T → Part.clkOut ∈ T
    → Part.eb ∈ T → Part.egress ∈ T → Part.eio ∈ T → Part.flash ∈ T → Part.flt ∈ T → Part.fresh ∈ T → Part.gnss ∈ T →
    Part.hif ∈ T → Part.ks ∈ T → Part.latch ∈ T → Part.lines ∈ T → Part.models ∈ T → Part.nts ∈ T → Part.osyn ∈ T →
    Part.out ∈ T → Part.pair ∈ T → Part.pe ∈ T → Part.ports ∈ T → Part.pps ∈ T → Part.ptpg ∈ T → Part.ptpi ∈ T →
    Part.ptpp ∈ T → Part.ptpx ∈ T → Part.recd ∈ T → Part.refs ∈ T → Part.regs ∈ T → Part.rings ∈ T → Part.rn ∈ T →
    Part.sel ∈ T → Part.sols ∈ T → Part.srv ∈ T → Part.srvg ∈ T → Part.sys ∈ T → Part.tb ∈ T → Part.txq ∈ T → b.Keeps
    T d0 → b.Keeps T (effPowerOn d0) := by
  intros; unfold effPowerOn; grind [foldl_keeps, Dev_deviceReset_keeps, Dev_modSys_keeps]
theorem effSupplyLow_keeps (b : Dev) (T : List Part) (d0) : Part.atom ∈ T → Part.ch ∈ T → Part.clk ∈ T → Part.clkOut ∈
    T → Part.eb ∈ T → Part.egress ∈ T → Part.eio ∈ T → Part.flash ∈ T → Part.flt ∈ T → Part.fresh ∈ T → Part.gnss ∈ T
    → Part.hif ∈ T → Part.ks ∈ T → Part.latch ∈ T → Part.lines ∈ T → Part.models ∈ T → Part.nts ∈ T → Part.osyn ∈ T →
    Part.out ∈ T → Part.pair ∈ T → Part.pe ∈ T → Part.ports ∈ T → Part.pps ∈ T → Part.ptpg ∈ T → Part.ptpi ∈ T →
    Part.ptpp ∈ T → Part.ptpx ∈ T → Part.recd ∈ T → Part.refs ∈ T → Part.regs ∈ T → Part.rings ∈ T → Part.rn ∈ T →
    Part.sel ∈ T → Part.sols ∈ T → Part.srv ∈ T → Part.srvg ∈ T → Part.sys ∈ T → Part.tb ∈ T → Part.txq ∈ T → b.Keeps
    T d0 → b.Keeps T (effSupplyLow d0) := by
  intros; unfold effSupplyLow; grind [foldl_keeps, Dev_emit_keeps, Dev_deviceReset_keeps, Dev_modSys_keeps]
theorem effResetRise_keeps (b : Dev) (T : List Part) (x0) (d1) : Part.atom ∈ T → Part.ch ∈ T → Part.clk ∈ T →
    Part.clkOut ∈ T → Part.eb ∈ T → Part.egress ∈ T → Part.eio ∈ T → Part.flash ∈ T → Part.flt ∈ T → Part.fresh ∈ T →
    Part.gnss ∈ T → Part.hif ∈ T → Part.ks ∈ T → Part.latch ∈ T → Part.lines ∈ T → Part.models ∈ T → Part.nts ∈ T →
    Part.osyn ∈ T → Part.out ∈ T → Part.pair ∈ T → Part.pe ∈ T → Part.ports ∈ T → Part.pps ∈ T → Part.ptpg ∈ T →
    Part.ptpi ∈ T → Part.ptpp ∈ T → Part.ptpx ∈ T → Part.recd ∈ T → Part.refs ∈ T → Part.regs ∈ T → Part.rings ∈ T →
    Part.rn ∈ T → Part.sel ∈ T → Part.sols ∈ T → Part.srv ∈ T → Part.srvg ∈ T → Part.sys ∈ T → Part.tb ∈ T → Part.txq
    ∈ T → b.Keeps T d1 → b.Keeps T (effResetRise x0 d1) := by
  intros; unfold effResetRise; grind [foldl_keeps, Dev_modSys_keeps, Dev_wrNat_keeps, Dev_load_keeps]
theorem Dev_flFailed_keeps (b : Dev) (T : List Part) (d0) (x1) : Part.atom ∈ T → Part.ch ∈ T → Part.clk ∈ T →
    Part.clkOut ∈ T → Part.eb ∈ T → Part.egress ∈ T → Part.eio ∈ T → Part.flash ∈ T → Part.flt ∈ T → Part.fresh ∈ T →
    Part.gnss ∈ T → Part.hif ∈ T → Part.ks ∈ T → Part.latch ∈ T → Part.lines ∈ T → Part.models ∈ T → Part.nts ∈ T →
    Part.osyn ∈ T → Part.out ∈ T → Part.pair ∈ T → Part.pe ∈ T → Part.ports ∈ T → Part.pps ∈ T → Part.ptpg ∈ T →
    Part.ptpi ∈ T → Part.ptpp ∈ T → Part.ptpx ∈ T → Part.recd ∈ T → Part.refs ∈ T → Part.regs ∈ T → Part.rings ∈ T →
    Part.rn ∈ T → Part.sel ∈ T → Part.sols ∈ T → Part.srv ∈ T → Part.srvg ∈ T → Part.sys ∈ T → Part.tb ∈ T → Part.txq
    ∈ T → b.Keeps T d0 → b.Keeps T (Dev.flFailed d0 x1) := by
  intros; unfold Dev.flFailed; grind [foldl_keeps, upd_sys_keeps, Dev_freeBytes_keeps, Dev_setFlBuffer_keeps,
      Dev_flChecked_keeps, Dev_flTorn_keeps]
theorem effFlCheck_keeps (b : Dev) (T : List Part) (x0) (d1) : Part.regs ∈ T → Part.sys ∈ T → b.Keeps T d1 → b.Keeps T
    (effFlCheck x0 d1) := by
  intros; unfold effFlCheck; grind [foldl_keeps, Dev_flCommand_keeps, Dev_flStart_keeps]
theorem effFlActivate_keeps (b : Dev) (T : List Part) (x0) (d1) : Part.regs ∈ T → Part.sys ∈ T → b.Keeps T d1 →
    b.Keeps T (effFlActivate x0 d1) := by
  intros; unfold effFlActivate; grind [foldl_keeps, Dev_flCommand_keeps, Dev_flStart_keeps]
theorem effFlErase_keeps (b : Dev) (T : List Part) (x0) (d1) : Part.regs ∈ T → Part.sys ∈ T → b.Keeps T d1 → b.Keeps T
    (effFlErase x0 d1) := by
  intros; unfold effFlErase; grind [foldl_keeps, Dev_flCommand_keeps, Dev_flWrites_keeps, Dev_flStart_keeps]
theorem effFlDone_keeps (b : Dev) (T : List Part) (x0) (d1) : Part.atom ∈ T → Part.ch ∈ T → Part.clk ∈ T → Part.clkOut
    ∈ T → Part.eb ∈ T → Part.egress ∈ T → Part.eio ∈ T → Part.flash ∈ T → Part.flt ∈ T → Part.fresh ∈ T → Part.gnss ∈
    T → Part.hif ∈ T → Part.ks ∈ T → Part.latch ∈ T → Part.lines ∈ T → Part.models ∈ T → Part.nts ∈ T → Part.osyn ∈ T
    → Part.out ∈ T → Part.pair ∈ T → Part.pe ∈ T → Part.ports ∈ T → Part.pps ∈ T → Part.ptpg ∈ T → Part.ptpi ∈ T →
    Part.ptpp ∈ T → Part.ptpx ∈ T → Part.recd ∈ T → Part.refs ∈ T → Part.regs ∈ T → Part.rings ∈ T → Part.rn ∈ T →
    Part.sel ∈ T → Part.sols ∈ T → Part.srv ∈ T → Part.srvg ∈ T → Part.sys ∈ T → Part.tb ∈ T → Part.txq ∈ T → b.Keeps
    T d1 → b.Keeps T (effFlDone x0 d1) := by
  intros; unfold effFlDone; grind [foldl_keeps, Dev_modSys_keeps, Dev_flFailed_keeps, Dev_flPerform_keeps,
      Dev_setFld_keeps, Dev_setBit_keeps]
theorem Dev_modFlt_keeps (b : Dev) (T : List Part) (d0) (x1) : Part.flt ∈ T → b.Keeps T d0 → b.Keeps T (Dev.modFlt d0
    x1) := by
  intros; unfold Dev.modFlt; grind [foldl_keeps, upd_flt_keeps]
theorem effPfwOn_keeps (b : Dev) (T : List Part) (d0) : Part.clk ∈ T → Part.clkOut ∈ T → Part.eio ∈ T → Part.flash ∈ T
    → Part.flt ∈ T → Part.fresh ∈ T → Part.hif ∈ T → Part.ks ∈ T → Part.nts ∈ T → Part.out ∈ T → Part.pair ∈ T →
    Part.pps ∈ T → Part.ptpx ∈ T → Part.recd ∈ T → Part.regs ∈ T → Part.rings ∈ T → Part.sys ∈ T → b.Keeps T d0 →
    b.Keeps T (effPfwOn d0) := by
  intros; unfold effPfwOn; grind [foldl_keeps, Dev_startFlush_keeps, Dev_faultUpdate_keeps, Dev_raiseLevel_keeps,
      Dev_setBit_keeps, Dev_modFlt_keeps]
theorem effPendClear_keeps (b : Dev) (T : List Part) (x0) (x1) (x2) (d3) : Part.out ∈ T → Part.regs ∈ T → b.Keeps T d3
    → b.Keeps T (effPendClear x0 x1 x2 d3) := by
  intros; unfold effPendClear; grind [foldl_keeps, Dev_asCust_keeps, Dev_refreshFaultN_keeps, Dev_wr_keeps]
theorem Dev_zeroRange_keeps (b : Dev) (T : List Part) (d0) (x1) (x2) : Part.regs ∈ T → b.Keeps T d0 → b.Keeps T
    (Dev.zeroRange d0 x1 x2) := by
  intros; unfold Dev.zeroRange; grind [foldl_keeps, upd_regs_keeps]
theorem Dev_resetGnss_keeps (b : Dev) (T : List Part) (d0) : Part.ch ∈ T → Part.gnss ∈ T → Part.regs ∈ T → b.Keeps T
    d0 → b.Keeps T (Dev.resetGnss d0) := by
  intros; unfold Dev.resetGnss; grind [foldl_keeps, Dev_chRelease_keeps, Dev_acquire_keeps, Dev_zeroRange_keeps,
      Dev_modGnss_keeps]
theorem effKat_keeps (b : Dev) (T : List Part) (x0) (x1) (d2) : Part.clk ∈ T → Part.clkOut ∈ T → Part.eio ∈ T →
    Part.flash ∈ T → Part.flt ∈ T → Part.fresh ∈ T → Part.hif ∈ T → Part.ks ∈ T → Part.nts ∈ T → Part.out ∈ T →
    Part.pair ∈ T → Part.pps ∈ T → Part.recd ∈ T → Part.regs ∈ T → Part.rings ∈ T → Part.sys ∈ T → b.Keeps T d2 →
    b.Keeps T (effKat x0 x1 d2) := by
  intros; unfold effKat; grind [foldl_keeps, forRange_keeps, Dev_raise_keeps]
theorem resetLoop_keeps (b : Dev) (T : List Part) (x0) (d1) : Part.regs ∈ T → Part.srv ∈ T → Part.srvg ∈ T → b.Keeps T
    d1 → b.Keeps T (resetLoop x0 d1) := by
  intros; unfold resetLoop; grind [foldl_keeps, upd_srvg_keeps, Dev_setSrv_keeps, Dev_restartAt_keeps]
theorem Dev_resetPe_keeps (b : Dev) (T : List Part) (d0) : Part.egress ∈ T → Part.hif ∈ T → Part.nts ∈ T → Part.out ∈
    T → Part.pe ∈ T → Part.ports ∈ T → Part.regs ∈ T → Part.rings ∈ T → b.Keeps T d0 → b.Keeps T (Dev.resetPe d0) :=
    by
  intros; unfold Dev.resetPe; dsimp only
  have h1 : b.Keeps T (d0.peHeld.foldl (fun d n => d.bump (R.PEn_RXDROP n 11)) d0) :=
    foldl_keeps _ _ _ _ (fun d x hd => by apply Dev_bump_keeps <;> assumption) _ ‹_›
  generalize d0.peHeld.foldl (fun d n => d.bump (R.PEn_RXDROP n 11)) d0 = e at h1 ⊢
  have h2 : b.Keeps T (if e.pe.htx.isSome = true then e.headAdvance 6 else e) := by
    split
    · apply Dev_headAdvance_keeps <;> assumption
    · exact h1
  generalize (if e.pe.htx.isSome = true then e.headAdvance 6 else e) = e2 at h2 ⊢
  have h3 : b.Keeps T (forRange 8 (fun n d => d.modPort n (fun h => { h with rx := [] })) e2) := by
    apply forRange_keeps <;> first | assumption | skip
    intro n d hd; apply Dev_modPort_keeps <;> assumption
  generalize forRange 8 (fun n d => d.modPort n (fun h => { h with rx := [] })) e2 = e3 at h3 ⊢
  apply forRange_keeps
  · intro n d hd; apply Dev_queueShow_keeps <;> assumption
  · intro k hk; cases k <;> first | exact h3 _ hk | contradiction
theorem Dev_resetKs_keeps (b : Dev) (T : List Part) (d0) : Part.clk ∈ T → Part.clkOut ∈ T → Part.eio ∈ T → Part.flash
    ∈ T → Part.flt ∈ T → Part.fresh ∈ T → Part.hif ∈ T → Part.ks ∈ T → Part.nts ∈ T → Part.out ∈ T → Part.pair ∈ T →
    Part.pps ∈ T → Part.ptpp ∈ T → Part.recd ∈ T → Part.regs ∈ T → Part.rings ∈ T → Part.sys ∈ T → b.Keeps T d0 →
    b.Keeps T (Dev.resetKs d0) := by
  intros; unfold Dev.resetKs; grind [foldl_keeps, Dev_deriveWindow_keeps, Dev_saAll_keeps, Dev_rootCheck_keeps,
      Dev_readSlots_keeps, Dev_clearWkr_keeps]
theorem Dev_resetPair_keeps (b : Dev) (T : List Part) (d0) : Part.pair ∈ T → Part.regs ∈ T → b.Keeps T d0 → b.Keeps T
    (Dev.resetPair d0) := by
  intros; unfold Dev.resetPair; grind [foldl_keeps, Dev_modPair_keeps, forRange_keeps, effLockLoss_keeps]
theorem Dev_resetRec_keeps (b : Dev) (T : List Part) (d0) : Part.recd ∈ T → Part.regs ∈ T → b.Keeps T d0 → b.Keeps T
    (Dev.resetRec d0) := by
  intros; unfold Dev.resetRec; grind [foldl_keeps, Dev_recShow_keeps, Dev_modRec_keeps]
theorem Dev_resetTarget_keeps (b : Dev) (T : List Part) (d0) (x1) : Part.ch ∈ T → Part.clk ∈ T → Part.clkOut ∈ T →
    Part.egress ∈ T → Part.eio ∈ T → Part.flash ∈ T → Part.flt ∈ T → Part.fresh ∈ T → Part.gnss ∈ T → Part.hif ∈ T →
    Part.ks ∈ T → Part.lines ∈ T → Part.nts ∈ T → Part.out ∈ T → Part.pair ∈ T → Part.pe ∈ T → Part.ports ∈ T →
    Part.pps ∈ T → Part.ptpp ∈ T → Part.recd ∈ T → Part.regs ∈ T → Part.rings ∈ T → Part.srv ∈ T → Part.srvg ∈ T →
    Part.sys ∈ T → b.Keeps T d0 → b.Keeps T (Dev.resetTarget d0 x1) :=
    by
  intros; unfold Dev.resetTarget; grind [foldl_keeps, upd_lines_keeps, resetLoop_keeps, Dev_resetGnss_keeps,
      Dev_calShow_keeps, Dev_wr_keeps, Dev_modGnss_keeps, Dev_modPort_keeps, Dev_resetPe_keeps, Dev_resetKs_keeps,
      Dev_resetPair_keeps, Dev_resetRec_keeps, Dev_zeroRange_keeps]
theorem Dev_replay_keeps (b : Dev) (T : List Part) (d0) (x1) : Part.regs ∈ T → b.Keeps T d0 → b.Keeps T (Dev.replay d0
    x1) := by
  intros; unfold Dev.replay; grind [foldl_keeps, Dev_imgWrite_keeps]
theorem Dev_pendingRestart_keeps (b : Dev) (T : List Part) (d0) : Part.atom ∈ T → Part.ch ∈ T → Part.clk ∈ T →
    Part.clkOut ∈ T → Part.eb ∈ T → Part.egress ∈ T → Part.eio ∈ T → Part.flash ∈ T → Part.flt ∈ T → Part.fresh ∈ T →
    Part.gnss ∈ T → Part.hif ∈ T → Part.ks ∈ T → Part.latch ∈ T → Part.lines ∈ T → Part.models ∈ T → Part.nts ∈ T →
    Part.osyn ∈ T → Part.out ∈ T → Part.pair ∈ T → Part.pe ∈ T → Part.ports ∈ T → Part.pps ∈ T → Part.ptpg ∈ T →
    Part.ptpi ∈ T → Part.ptpp ∈ T → Part.ptpx ∈ T → Part.recd ∈ T → Part.refs ∈ T → Part.regs ∈ T → Part.rings ∈ T →
    Part.rn ∈ T → Part.sel ∈ T → Part.sols ∈ T → Part.srv ∈ T → Part.srvg ∈ T → Part.sys ∈ T → Part.tb ∈ T → Part.txq
    ∈ T → b.Keeps T d0 → b.Keeps T (Dev.pendingRestart d0) := by
  intros; unfold Dev.pendingRestart; grind [foldl_keeps, Dev_resetAndLoad_keeps]
theorem effBlkDone_keeps (b : Dev) (T : List Part) (x0) (x1) (d2) : Part.atom ∈ T → Part.ch ∈ T → Part.clk ∈ T →
    Part.clkOut ∈ T → Part.eb ∈ T → Part.egress ∈ T → Part.eio ∈ T → Part.flash ∈ T → Part.flt ∈ T → Part.fresh ∈ T →
    Part.gnss ∈ T → Part.hif ∈ T → Part.ks ∈ T → Part.latch ∈ T → Part.lines ∈ T → Part.models ∈ T → Part.nts ∈ T →
    Part.osyn ∈ T → Part.out ∈ T → Part.pair ∈ T → Part.pe ∈ T → Part.ports ∈ T → Part.pps ∈ T → Part.ptpg ∈ T →
    Part.ptpi ∈ T → Part.ptpp ∈ T → Part.ptpx ∈ T → Part.recd ∈ T → Part.refs ∈ T → Part.regs ∈ T → Part.rings ∈ T →
    Part.rn ∈ T → Part.sel ∈ T → Part.sols ∈ T → Part.srv ∈ T → Part.srvg ∈ T → Part.sys ∈ T → Part.tb ∈ T → Part.txq
    ∈ T → b.Keeps T d2 → b.Keeps T (effBlkDone x0 x1 d2) := by
  intros; unfold effBlkDone; grind [foldl_keeps, Dev_resetTarget_keeps, Dev_replay_keeps, Dev_modFlt_keeps,
      Dev_setBit_keeps, Dev_raise_keeps, Dev_pendingRestart_keeps]
theorem effCorrected_keeps (b : Dev) (T : List Part) (x0) (d1) : Part.clk ∈ T → Part.clkOut ∈ T → Part.eio ∈ T →
    Part.flash ∈ T → Part.flt ∈ T → Part.fresh ∈ T → Part.hif ∈ T → Part.ks ∈ T → Part.nts ∈ T → Part.out ∈ T →
    Part.pair ∈ T → Part.pps ∈ T → Part.recd ∈ T → Part.regs ∈ T → Part.rings ∈ T → Part.sys ∈ T → b.Keeps T d1 →
    b.Keeps T (effCorrected x0 d1) :=
    by
  intros; unfold effCorrected; grind [foldl_keeps, Dev_pmc_keeps, Dev_modFlt_keeps, Dev_bump_keeps, Dev_raise_keeps]
theorem effInfoLatch_keeps (b : Dev) (T : List Part) (x0) (x1) (d2) : Part.latch ∈ T → Part.out ∈ T → b.Keeps T d2 →
    b.Keeps T (effInfoLatch x0 x1 d2) := by
  intros; unfold effInfoLatch; grind [foldl_keeps, Dev_emit_keeps, Dev_latchRegs_keeps]
theorem effInject_keeps (b : Dev) (T : List Part) (x0) (x1) (d2) : Part.clk ∈ T → Part.clkOut ∈ T → Part.eio ∈ T →
    Part.flash ∈ T → Part.flt ∈ T → Part.fresh ∈ T → Part.hif ∈ T → Part.ks ∈ T → Part.nts ∈ T → Part.out ∈ T →
    Part.pair ∈ T → Part.pps ∈ T → Part.recd ∈ T → Part.regs ∈ T → Part.rings ∈ T → Part.sys ∈ T → b.Keeps T d2 →
    b.Keeps T (effInject x0 x1 d2) :=
    by
  intros; unfold effInject; grind [foldl_keeps, Dev_raise_keeps, Dev_asCust_keeps]
theorem effFlushEnd_keeps (b : Dev) (T : List Part) (x0) (d1) : Part.atom ∈ T → Part.ch ∈ T → Part.clk ∈ T →
    Part.clkOut ∈ T → Part.eb ∈ T → Part.egress ∈ T → Part.eio ∈ T → Part.flash ∈ T → Part.flt ∈ T → Part.fresh ∈ T →
    Part.gnss ∈ T → Part.hif ∈ T → Part.ks ∈ T → Part.latch ∈ T → Part.lines ∈ T → Part.models ∈ T → Part.nts ∈ T →
    Part.osyn ∈ T → Part.out ∈ T → Part.pair ∈ T → Part.pe ∈ T → Part.ports ∈ T → Part.pps ∈ T → Part.ptpg ∈ T →
    Part.ptpi ∈ T → Part.ptpp ∈ T → Part.ptpx ∈ T → Part.recd ∈ T → Part.refs ∈ T → Part.regs ∈ T → Part.rings ∈ T →
    Part.rn ∈ T → Part.sel ∈ T → Part.sols ∈ T → Part.srv ∈ T → Part.srvg ∈ T → Part.sys ∈ T → Part.tb ∈ T → Part.txq
    ∈ T → b.Keeps T d1 → b.Keeps T (effFlushEnd x0 d1) := by
  intros; unfold effFlushEnd; grind [foldl_keeps, Dev_pendingRestart_keeps, effFlushDone_keeps]
theorem effFault_keeps (b : Dev) (T : List Part) (x0) (x1) (x2) (d3) : Part.clk ∈ T → Part.clkOut ∈ T → Part.eio ∈ T →
    Part.flash ∈ T → Part.flt ∈ T → Part.fresh ∈ T → Part.hif ∈ T → Part.ks ∈ T → Part.nts ∈ T → Part.out ∈ T →
    Part.pair ∈ T → Part.pps ∈ T → Part.recd ∈ T → Part.regs ∈ T → Part.rings ∈ T → Part.sys ∈ T → b.Keeps T d3 →
    b.Keeps T (effFault x0 x1 x2 d3) :=
    by
  intros; unfold effFault; grind [foldl_keeps, Dev_endLevel_keeps, Dev_raiseLevel_keeps, Dev_raise_keeps]
theorem effPfwOff_keeps (b : Dev) (T : List Part) (d0) : Part.clkOut ∈ T → Part.eio ∈ T → Part.flt ∈ T → Part.hif ∈ T
    → Part.out ∈ T → Part.pair ∈ T → Part.pps ∈ T → Part.ptpx ∈ T → Part.recd ∈ T → Part.regs ∈ T → Part.rings ∈ T →
    b.Keeps T d0 → b.Keeps T (effPfwOff d0) := by
  intros; unfold effPfwOff; grind [foldl_keeps, Dev_faultUpdate_keeps, Dev_endLevel_keeps, Dev_setBit_keeps,
      Dev_modFlt_keeps]
theorem effWatchdog_keeps (b : Dev) (T : List Part) (d0) : Part.clk ∈ T → Part.clkOut ∈ T → Part.eio ∈ T → Part.flash
    ∈ T → Part.flt ∈ T → Part.fresh ∈ T → Part.hif ∈ T → Part.ks ∈ T → Part.nts ∈ T → Part.out ∈ T → Part.pair ∈ T →
    Part.pps ∈ T → Part.recd ∈ T → Part.regs ∈ T → Part.rings ∈ T → Part.sys ∈ T → b.Keeps T d0 → b.Keeps T
    (effWatchdog d0) := by
  intros; unfold effWatchdog; grind [foldl_keeps, Dev_raise_keeps]
theorem effChipReset_keeps (b : Dev) (T : List Part) (d0) : Part.atom ∈ T → Part.ch ∈ T → Part.clk ∈ T → Part.clkOut ∈
    T → Part.eb ∈ T → Part.egress ∈ T → Part.eio ∈ T → Part.flash ∈ T → Part.flt ∈ T → Part.fresh ∈ T → Part.gnss ∈ T
    → Part.hif ∈ T → Part.ks ∈ T → Part.latch ∈ T → Part.lines ∈ T → Part.models ∈ T → Part.nts ∈ T → Part.osyn ∈ T →
    Part.out ∈ T → Part.pair ∈ T → Part.pe ∈ T → Part.ports ∈ T → Part.pps ∈ T → Part.ptpg ∈ T → Part.ptpi ∈ T →
    Part.ptpp ∈ T → Part.ptpx ∈ T → Part.recd ∈ T → Part.refs ∈ T → Part.regs ∈ T → Part.rings ∈ T → Part.rn ∈ T →
    Part.sel ∈ T → Part.sols ∈ T → Part.srv ∈ T → Part.srvg ∈ T → Part.sys ∈ T → Part.tb ∈ T → Part.txq ∈ T → b.Keeps
    T d0 → b.Keeps T (effChipReset d0) := by
  intros; unfold effChipReset; grind [foldl_keeps, Dev_resetAndLoad_keeps]
theorem effPfwRestart_keeps (b : Dev) (T : List Part) (d0) : Part.ch ∈ T → Part.flt ∈ T → Part.gnss ∈ T → Part.regs ∈
    T → b.Keeps T d0 → b.Keeps T (effPfwRestart d0) := by
  intros; unfold effPfwRestart; grind [foldl_keeps, Dev_chRelease_keeps, Dev_setBit_keeps, Dev_modGnss_keeps,
      Dev_modFlt_keeps]
theorem effPfwStop_keeps (b : Dev) (T : List Part) (d0) : Part.flt ∈ T → Part.pair ∈ T → Part.ports ∈ T → Part.ptpp ∈
    T → Part.regs ∈ T → b.Keeps T d0 → b.Keeps T (effPfwStop d0) := by
  intros; unfold effPfwStop; grind [foldl_keeps, forRange_keeps, effLockLoss_keeps, Dev_linkLost_keeps,
      Dev_modFlt_keeps]
theorem effPmcRun_keeps (b : Dev) (T : List Part) (x0) (x1) (d2) : Part.regs ∈ T → b.Keeps T d2 → b.Keeps T (effPmcRun
    x0 x1 d2) := by
  intros; unfold effPmcRun; grind [foldl_keeps, Dev_asCust_keeps, Dev_setBit_keeps]
theorem effPmcWrap_keeps (b : Dev) (T : List Part) (x0) (d1) : Part.regs ∈ T → b.Keeps T d1 → b.Keeps T (effPmcWrap x0
    d1) := by
  intros; unfold effPmcWrap; grind [foldl_keeps, Dev_setBit_keeps, Dev_wrNat64_keeps]
theorem effPmcLatch_keeps (b : Dev) (T : List Part) (x0) (x1) (d2) : Part.latch ∈ T → Part.out ∈ T → b.Keeps T d2 →
    b.Keeps T (effPmcLatch x0 x1 d2) := by
  intros; unfold effPmcLatch; grind [foldl_keeps, Dev_emit_keeps, Dev_latchWord_keeps]
theorem effPmcClear_keeps (b : Dev) (T : List Part) (x0) (d1) : Part.regs ∈ T → b.Keeps T d1 → b.Keeps T (effPmcClear
    x0 d1) := by
  intros; unfold effPmcClear; grind [foldl_keeps, Dev_asCust_keeps, forRange_keeps, Dev_wrNat64_keeps]
theorem effPmcSnap_keeps (b : Dev) (T : List Part) (x0) (d1) : Part.regs ∈ T → b.Keeps T d1 → b.Keeps T (effPmcSnap x0
    d1) := by
  intros; unfold effPmcSnap; grind [foldl_keeps, Dev_asCust_keeps, forRange_keeps, Dev_wr_keeps]
theorem effSample_keeps (b : Dev) (T : List Part) (x0) (d1) : Part.regs ∈ T → Part.rings ∈ T → b.Keeps T d1 → b.Keeps
    T (effSample x0 d1) := by
  intros; unfold effSample; grind [foldl_keeps, Dev_ringOffer_keeps, Dev_bumpWrap_keeps, forRange_keeps,
      Dev_wrNat_keeps, Dev_setBit_keeps, Dev_setFld_keeps]
theorem effSampReset_keeps (b : Dev) (T : List Part) (x0) (d1) : Part.regs ∈ T → b.Keeps T d1 → b.Keeps T
    (effSampReset x0 d1) := by
  intros; unfold effSampReset; grind [foldl_keeps, Dev_asCust_keeps, Dev_wr_keeps]
theorem Dev_store_keeps (b : Dev) (T : List Part) (d0) (x1) (x2) (x3) : Part.regs ∈ T → b.Keeps T d0 → b.Keeps T
    (Dev.store d0 x1 x2 x3) := by
  intros; unfold Dev.store; grind [foldl_keeps, Dev_wr_keeps]
theorem effFlCmd_keeps (b : Dev) (T : List Part) (x0) (x1) (d2) : Part.regs ∈ T → Part.sys ∈ T → b.Keeps T d2 →
    b.Keeps T (effFlCmd x0 x1 d2) := by
  intros; unfold effFlCmd; grind [foldl_keeps, effFlErase_keeps, effFlProgram_keeps, effFlRead_keeps,
      effFlCheck_keeps, effFlActivate_keeps, Dev_flCommand_keeps]
theorem effUnlockDur_keeps (b : Dev) (T : List Part) (x0) (x1) (d2) : Part.regs ∈ T → b.Keeps T d2 → b.Keeps T
    (effUnlockDur x0 x1 d2) := by
  intros; unfold effUnlockDur; grind [foldl_keeps, Dev_asAny_keeps, Dev_wrNat_keeps]
theorem effIstat_keeps (b : Dev) (T : List Part) (x0) (x1) (d2) : Part.regs ∈ T → b.Keeps T d2 → b.Keeps T (effIstat
    x0 x1 d2) := by
  intros; unfold effIstat; grind [foldl_keeps, Dev_asAny_keeps, Dev_wr_keeps]
theorem effIvec_keeps (b : Dev) (T : List Part) (x0) (x1) (x2) (d3) : Part.hif ∈ T → Part.out ∈ T → Part.regs ∈ T →
    b.Keeps T d3 → b.Keeps T (effIvec x0 x1 x2 d3) := by
  intros; unfold effIvec; grind [foldl_keeps, Dev_asCust_keeps, Dev_msixRises_keeps, Dev_wr_keeps]
theorem effIen_keeps (b : Dev) (T : List Part) (x0) (x1) (d2) : Part.hif ∈ T → Part.out ∈ T → Part.regs ∈ T → b.Keeps
    T d2 → b.Keeps T (effIen x0 x1 d2) := by
  intros; unfold effIen; grind [foldl_keeps, Dev_asAny_keeps, Dev_msixRises_keeps, Dev_wr_keeps]
theorem Dev_hostWrite_keeps (b : Dev) (T : List Part) (d0) (x1) (x2) (x3) : Part.atom ∈ T → Part.ch ∈ T → Part.clk ∈ T
    → Part.clkOut ∈ T → Part.eb ∈ T → Part.egress ∈ T → Part.eio ∈ T → Part.flash ∈ T → Part.flt ∈ T → Part.fresh ∈ T
    → Part.gnss ∈ T → Part.hif ∈ T → Part.ks ∈ T → Part.latch ∈ T → Part.lines ∈ T → Part.models ∈ T → Part.nts ∈ T →
    Part.osyn ∈ T → Part.out ∈ T → Part.pair ∈ T → Part.pe ∈ T → Part.ports ∈ T → Part.pps ∈ T → Part.ptpg ∈ T →
    Part.ptpi ∈ T → Part.ptpp ∈ T → Part.ptpx ∈ T → Part.recd ∈ T → Part.refs ∈ T → Part.regs ∈ T → Part.rings ∈ T →
    Part.rn ∈ T → Part.sel ∈ T → Part.sols ∈ T → Part.srv ∈ T → Part.srvg ∈ T → Part.sys ∈ T → Part.tb ∈ T → Part.txq
    ∈ T → b.Keeps T d0 → b.Keeps T (Dev.hostWrite d0 x1 x2 x3) := by
  intros; intro k hk; cases k <;> contradiction
theorem effRegWrite_keeps (b : Dev) (T : List Part) (x0) (x1) (x2) (x3) (x4) (d5) : Part.atom ∈ T → Part.ch ∈ T →
    Part.clk ∈ T → Part.clkOut ∈ T → Part.eb ∈ T → Part.egress ∈ T → Part.eio ∈ T → Part.flash ∈ T → Part.flt ∈ T →
    Part.fresh ∈ T → Part.gnss ∈ T → Part.hif ∈ T → Part.ks ∈ T → Part.latch ∈ T → Part.lines ∈ T → Part.models ∈ T →
    Part.nts ∈ T → Part.osyn ∈ T → Part.out ∈ T → Part.pair ∈ T → Part.pe ∈ T → Part.ports ∈ T → Part.pps ∈ T →
    Part.ptpg ∈ T → Part.ptpi ∈ T → Part.ptpp ∈ T → Part.ptpx ∈ T → Part.recd ∈ T → Part.refs ∈ T → Part.regs ∈ T →
    Part.rings ∈ T → Part.rn ∈ T → Part.sel ∈ T → Part.sols ∈ T → Part.srv ∈ T → Part.srvg ∈ T → Part.sys ∈ T →
    Part.tb ∈ T → Part.txq ∈ T → b.Keeps T d5 → b.Keeps T (effRegWrite x0 x1 x2 x3 x4 d5) := by
  intros; unfold effRegWrite; grind [foldl_keeps, Dev_bump_keeps, Dev_hostWrite_keeps]
theorem Dev_latchedWord_keeps (b : Dev) (T : List Part) (d0) (x1) : Part.out ∈ T → b.Keeps T d0 → b.Keeps T
    (Dev.latchedWord d0 x1).2 := by
  intros; unfold Dev.latchedWord; grind [foldl_keeps, upd_out_keeps]
theorem Dev_ltssmRead_keeps (b : Dev) (T : List Part) (d0) : Part.fresh ∈ T → b.Keeps T d0 → b.Keeps T (Dev.ltssmRead
    d0).2 := by
  intros; unfold Dev.ltssmRead; grind [foldl_keeps, Dev_freeWord_keeps]
theorem latchReads_keeps (b : Dev) (T : List Part) (h1 : Part.latch ∈ T) (h2 : Part.out ∈ T) (h3 : Part.regs ∈ T) :
    ∀ t ∈ latchReads, ∀ a f, t a = some f → ∀ p d, b.Keeps T d → b.Keeps T (f p d) := by
  simp only [latchReads, List.forall_mem_cons]
  refine ⟨?_, ?_, ?_, ?_, ?_, ?_, ?_, ?_, ?_, ?_, ?_, ?_, ?_, ?_, ?_, ?_, List.forall_mem_nil _⟩
  all_goals intro a f hf p d hd
  all_goals first
    | (simp only [Option.map_eq_some_iff, Option.ite_none_right_eq_some, Option.some.injEq] at hf
       obtain ⟨n, _, rfl⟩ := hf
       grind [effNowLatch_keeps, effEbLatch_keeps, effSteerLatch_keeps, effErrLatch_keeps, effModelLatch_keeps,
           effGchMeasLatch_keeps, effGchCorrLatch_keeps, effSolLatch_keeps, effNtsLatch_keeps, effOfsLatch_keeps,
           effOsynLatch_keeps, effInfoLatch_keeps, effPmcLatch_keeps, effCtrLatch_keeps, effMofsLatch_keeps])
    | (refine keeps_first _ (fun f : Port → Dev → Dev => ∀ p d, b.Keeps T d → b.Keeps T (f p d)) ?_ a f hf p d hd
       intro t ht a f hf p d hd
       simp only [List.mem_map] at ht
       obtain ⟨c, _, rfl⟩ := ht
       simp only [Option.map_eq_some_iff] at hf
       obtain ⟨n, _, rfl⟩ := hf
       apply effMacLatch_keeps <;> assumption)
theorem Dev_hostRead_keeps (b : Dev) (T : List Part) (d0) (x1) (x2) : Part.fresh ∈ T → Part.latch ∈ T → Part.out ∈ T →
    Part.regs ∈ T → b.Keeps T d0 → b.Keeps T (Dev.hostRead d0 x1 x2).2 := by
  intro h1 h2 h3 h4 h; unfold Dev.hostRead
  split
  · apply Dev_bump_keeps <;> assumption
  dsimp only
  split
  · exact h
  split
  · show b.Keeps T (ite _ _ _)
    repeat' split
    all_goals first
      | exact h
      | (apply Dev_wr_keeps <;> assumption)
  split
  · next f hf =>
    exact Dev_latchedWord_keeps _ _ _ _ ‹Part.out ∈ T› (keeps_first _ (fun f : Port → Dev → Dev => ∀ p d, b.Keeps T d
        → b.Keeps T
        (f p d)) (latchReads_keeps b T ‹Part.latch ∈ T› ‹Part.out ∈ T› ‹Part.regs ∈ T›) _ _ hf _ _ h)
  split
  · apply Dev_ltssmRead_keeps <;> assumption
  · exact h
theorem Dev_readRequest_keeps (b : Dev) (T : List Part) (d0) (x1) (x2) (x3) : Part.fresh ∈ T → Part.latch ∈ T →
    Part.out ∈ T → Part.regs ∈ T → b.Keeps T d0 → b.Keeps T (Dev.readRequest d0 x1 x2 x3).2 := by
  intros; unfold Dev.readRequest; grind [foldl_keeps, Dev_freeWord_keeps, Dev_hostRead_keeps]
theorem effRegRead_keeps (b : Dev) (T : List Part) (x0) (x1) (x2) (d3) : Part.fresh ∈ T → Part.latch ∈ T → Part.out ∈
    T → Part.regs ∈ T → b.Keeps T d3 → b.Keeps T (effRegRead x0 x1 x2 d3) := by
  intros; unfold effRegRead; grind [foldl_keeps, Dev_emit_keeps, Dev_readRequest_keeps]
theorem effD0_keeps (b : Dev) (T : List Part) (d0) : Part.hif ∈ T → b.Keeps T d0 → b.Keeps T (effD0 d0) := by
  intros; unfold effD0; grind [foldl_keeps, upd_hif_keeps]
theorem Dev_dmaStop_keeps (b : Dev) (T : List Part) (d0) : Part.ks ∈ T → Part.pe ∈ T → Part.regs ∈ T → Part.rings ∈ T
    → b.Keeps T d0 → b.Keeps T (Dev.dmaStop d0) := by
  intros; unfold Dev.dmaStop; dsimp only
  have h1 : b.Keeps T ((List.range 8).foldl (fun d k => d.ringStop k) d0) :=
    foldl_keeps _ _ _ _ (fun d x hd => by apply Dev_ringStop_keeps <;> assumption) _ ‹_›
  generalize (List.range 8).foldl (fun d k => d.ringStop k) d0 = e at h1 ⊢
  intro k hk; cases k <;> first | exact h1 _ hk | contradiction
theorem Dev_spiStatusOut_keeps (b : Dev) (T : List Part) (d0) : Part.hif ∈ T → Part.out ∈ T → Part.regs ∈ T → b.Keeps
    T d0 → b.Keeps T (Dev.spiStatusOut d0) := by
  intros; unfold Dev.spiStatusOut; grind [foldl_keeps, upd_hif_keeps, Dev_emit_keeps, Dev_setBit_keeps]
theorem Dev_spiTransaction_keeps (b : Dev) (T : List Part) (d0) (f1) : Part.hif ∈ T → Part.out ∈ T → Part.regs ∈ T →
    b.Keeps T d0 → (∀ d, b.Keeps T d → b.Keeps T (f1 d)) → b.Keeps T (Dev.spiTransaction d0 f1) := by
  intros; unfold Dev.spiTransaction; grind [foldl_keeps, Dev_bump_keeps, Dev_spiStatusOut_keeps]
theorem effSpiWrite_keeps (b : Dev) (T : List Part) (x0) (x1) (x2) (d3) : Part.hif ∈ T → Part.out ∈ T → Part.regs ∈ T
    → b.Keeps T d3 → b.Keeps T (effSpiWrite x0 x1 x2 d3) := by
  intros; unfold effSpiWrite; grind [foldl_keeps, upd_hif_keeps, Dev_spiTransaction_keeps, Dev_setBit_keeps]
theorem Dev_hifReset_keeps (b : Dev) (T : List Part) (d0) : Part.hif ∈ T → Part.ks ∈ T → Part.pe ∈ T → Part.regs ∈ T →
    Part.rings ∈ T → b.Keeps T d0 → b.Keeps T (Dev.hifReset d0) := by
  intros; unfold Dev.hifReset; grind [foldl_keeps, upd_hif_keeps, Dev_wr_keeps, Dev_toObserver_keeps,
      Dev_dmaStop_keeps, Dev_bump_keeps]
theorem effPcieLinkDown_keeps (b : Dev) (T : List Part) (d0) : Part.clk ∈ T → Part.clkOut ∈ T → Part.eio ∈ T →
    Part.flash ∈ T → Part.flt ∈ T → Part.fresh ∈ T → Part.hif ∈ T → Part.ks ∈ T → Part.nts ∈ T → Part.out ∈ T →
    Part.pair ∈ T → Part.pe ∈ T → Part.pps ∈ T → Part.recd ∈ T → Part.regs ∈ T → Part.rings ∈ T → Part.sys ∈ T →
    b.Keeps T d0 → b.Keeps T (effPcieLinkDown d0) := by
  intros; unfold effPcieLinkDown; grind [foldl_keeps, Dev_raise_keeps, Dev_wr_keeps, Dev_hifReset_keeps]
theorem effEarlyMem_keeps (b : Dev) (T : List Part) (x0) (d1) : Part.out ∈ T → b.Keeps T d1 → b.Keeps T (effEarlyMem
    x0 d1) := by
  intros; unfold effEarlyMem; grind [foldl_keeps, Dev_emit_keeps]
theorem effSpiStatus_keeps (b : Dev) (T : List Part) (d0) : Part.hif ∈ T → Part.out ∈ T → Part.regs ∈ T → b.Keeps T d0
    → b.Keeps T (effSpiStatus d0) := by
  intros; unfold effSpiStatus; grind [foldl_keeps, Dev_spiStatusOut_keeps]
theorem effConfigReq_keeps (b : Dev) (T : List Part) (d0) : Part.out ∈ T → b.Keeps T d0 → b.Keeps T (effConfigReq d0)
    := by
  intros; unfold effConfigReq; grind [foldl_keeps, Dev_emit_keeps]
theorem effHotReset_keeps (b : Dev) (T : List Part) (d0) : Part.hif ∈ T → Part.ks ∈ T → Part.pe ∈ T → Part.regs ∈ T →
    Part.rings ∈ T → b.Keeps T d0 → b.Keeps T (effHotReset d0) := by
  intros; unfold effHotReset; grind [foldl_keeps, Dev_wr_keeps, Dev_hifReset_keeps]
theorem effUnmapped_keeps (b : Dev) (T : List Part) (x0) (x1) (x2) (d3) : Part.atom ∈ T → Part.ch ∈ T → Part.clk ∈ T →
    Part.clkOut ∈ T → Part.eb ∈ T → Part.egress ∈ T → Part.eio ∈ T → Part.flash ∈ T → Part.flt ∈ T → Part.fresh ∈ T →
    Part.gnss ∈ T → Part.hif ∈ T → Part.ks ∈ T → Part.latch ∈ T → Part.lines ∈ T → Part.models ∈ T → Part.nts ∈ T →
    Part.osyn ∈ T → Part.out ∈ T → Part.pair ∈ T → Part.pe ∈ T → Part.ports ∈ T → Part.pps ∈ T → Part.ptpg ∈ T →
    Part.ptpi ∈ T → Part.ptpp ∈ T → Part.ptpx ∈ T → Part.recd ∈ T → Part.refs ∈ T → Part.regs ∈ T → Part.rings ∈ T →
    Part.rn ∈ T → Part.sel ∈ T → Part.sols ∈ T → Part.srv ∈ T → Part.srvg ∈ T → Part.sys ∈ T → Part.tb ∈ T → Part.txq
    ∈ T → b.Keeps T d3 → b.Keeps T (effUnmapped x0 x1 x2 d3) := by
  intros; unfold effUnmapped; grind [foldl_keeps, Dev_hostWrite_keeps, effRegRead_keeps]
theorem effPcieLinkUp_keeps (b : Dev) (T : List Part) (x0) (x1) (d2) : Part.regs ∈ T → b.Keeps T d2 → b.Keeps T
    (effPcieLinkUp x0 x1 d2) := by
  intros; unfold effPcieLinkUp; grind [foldl_keeps, Dev_wrNat_keeps]
theorem effSpiPerformed_keeps (b : Dev) (T : List Part) (d0) : Part.atom ∈ T → Part.ch ∈ T → Part.clk ∈ T →
    Part.clkOut ∈ T → Part.eb ∈ T → Part.egress ∈ T → Part.eio ∈ T → Part.flash ∈ T → Part.flt ∈ T → Part.fresh ∈ T →
    Part.gnss ∈ T → Part.hif ∈ T → Part.ks ∈ T → Part.latch ∈ T → Part.lines ∈ T → Part.models ∈ T → Part.nts ∈ T →
    Part.osyn ∈ T → Part.out ∈ T → Part.pair ∈ T → Part.pe ∈ T → Part.ports ∈ T → Part.pps ∈ T → Part.ptpg ∈ T →
    Part.ptpi ∈ T → Part.ptpp ∈ T → Part.ptpx ∈ T → Part.recd ∈ T → Part.refs ∈ T → Part.regs ∈ T → Part.rings ∈ T →
    Part.rn ∈ T → Part.sel ∈ T → Part.sols ∈ T → Part.srv ∈ T → Part.srvg ∈ T → Part.sys ∈ T → Part.tb ∈ T → Part.txq
    ∈ T → b.Keeps T d0 → b.Keeps T (effSpiPerformed d0) := by
  intros; unfold effSpiPerformed; grind [foldl_keeps, upd_hif_keeps, Dev_hostWrite_keeps, Dev_setBit_keeps]
theorem Dev_readBurst_keeps (b : Dev) (T : List Part) (x0) (x1) (x2) (d3) : Part.fresh ∈ T → Part.latch ∈ T → Part.out
    ∈ T → Part.regs ∈ T → b.Keeps T d3 → b.Keeps T (Dev.readBurst x0 x1 x2 d3).2 := by
  intro a1 a2 a3 a4 h
  induction x1 generalizing x2 d3 with
  | zero => exact h
  | succ k ih => exact ih _ _ (Dev_readRequest_keeps _ _ _ _ _ _ a1 a2 a3 a4 h)
theorem effSpiRead_keeps (b : Dev) (T : List Part) (x0) (x1) (x2) (d3) : Part.fresh ∈ T → Part.hif ∈ T → Part.latch ∈
    T → Part.out ∈ T → Part.regs ∈ T → b.Keeps T d3 → b.Keeps T (effSpiRead x0 x1 x2 d3) := by
  intros; unfold effSpiRead; grind [foldl_keeps, Dev_spiTransaction_keeps, Dev_readBurst_keeps, Dev_emit_keeps,
      Dev_bump_keeps]
theorem effUnmask_keeps (b : Dev) (T : List Part) (x0) (d1) : Part.hif ∈ T → Part.out ∈ T → b.Keeps T d1 → b.Keeps T
    (effUnmask x0 d1) := by
  intros; unfold effUnmask; grind [foldl_keeps, upd_hif_keeps, Dev_emit_keeps]
theorem effD3_keeps (b : Dev) (T : List Part) (d0) : Part.hif ∈ T → Part.ks ∈ T → Part.pe ∈ T → Part.regs ∈ T →
    Part.rings ∈ T → b.Keeps T d0 → b.Keeps T (effD3 d0) := by
  intros; unfold effD3; grind [foldl_keeps, upd_hif_keeps, Dev_dmaStop_keeps]
theorem effIrigOut_keeps (b : Dev) (T : List Part) (x0) (x1) (d2) : Part.out ∈ T → b.Keeps T d2 → b.Keeps T
    (effIrigOut x0 x1 d2) := by
  intros; unfold effIrigOut; grind [foldl_keeps, Dev_emit_keeps]
theorem Dev_loopStart_keeps (b : Dev) (T : List Part) (d0) (x1) : Part.regs ∈ T → Part.srv ∈ T → b.Keeps T d0 →
    b.Keeps T (Dev.loopStart d0 x1) := by
  intros; unfold Dev.loopStart; grind [foldl_keeps, Dev_restartAt_keeps, Dev_setSrv_keeps]
theorem Dev_shiftInstants_keeps (b : Dev) (T : List Part) (d0) : Part.eb ∈ T → Part.rn ∈ T → Part.srv ∈ T → b.Keeps T
    d0 → b.Keeps T (Dev.shiftInstants d0) := by
  intros; unfold Dev.shiftInstants; grind [foldl_keeps, forRange_keeps, Dev_setSrv_keeps, Dev_setEb_keeps,
      Dev_modRn_keeps]
theorem Dev_cryptoLoad_keeps (b : Dev) (T : List Part) (d0) : Part.fresh ∈ T → Part.regs ∈ T → b.Keeps T d0 → b.Keeps
    T (Dev.cryptoLoad d0) := by
  intros; unfold Dev.cryptoLoad; grind [foldl_keeps, Dev_freeWord_keeps, Dev_wr_keeps]
theorem epochOsyn_keeps (b : Dev) (T : List Part) (x0) (d1) : Part.osyn ∈ T → Part.out ∈ T → Part.regs ∈ T → b.Keeps T
    d1 → b.Keeps T (epochOsyn x0 d1) := by
  intros; unfold epochOsyn; grind [foldl_keeps, Dev_wrNat_keeps, Dev_emit_keeps, Dev_setBit_keeps, Dev_setOsyn_keeps]
theorem effEpoch_keeps (b : Dev) (T : List Part) (d0) : Part.eb ∈ T → Part.eio ∈ T → Part.osyn ∈ T → Part.out ∈ T →
    Part.regs ∈ T → Part.tb ∈ T → b.Keeps T d0 → b.Keeps T (effEpoch d0) := by
  intros; unfold effEpoch; grind [foldl_keeps, forRange_keeps, epochOsyn_keeps, epochEio_keeps, epochTb_keeps,
      ebMark_keeps]
theorem Dev_forgetSamples_keeps (b : Dev) (T : List Part) (d0) (x1) : Part.rn ∈ T → Part.sel ∈ T → b.Keeps T d0 →
    b.Keeps T (Dev.forgetSamples d0 x1) := by
  intros; unfold Dev.forgetSamples; grind [foldl_keeps, forRange_keeps, Dev_modRn_keeps, Dev_setSel_keeps]
theorem Dev_firstAnchor_keeps (b : Dev) (T : List Part) (d0) (x1) (x2) : Part.eb ∈ T → b.Keeps T d0 → b.Keeps T
    (Dev.firstAnchor d0 x1 x2) := by
  intros; unfold Dev.firstAnchor; grind [foldl_keeps, Dev_setEb_keeps]
theorem Dev_tb0Set_keeps (b : Dev) (T : List Part) (d0) : Part.nts ∈ T → Part.regs ∈ T → b.Keeps T d0 → b.Keeps T
    (Dev.tb0Set d0) := by
  intros; unfold Dev.tb0Set; grind [foldl_keeps, Dev_showKeys_keeps, Dev_deriveWindow_keeps, Dev_stageTime_keeps,
      Dev_setBit_keeps]
theorem Dev_applySet_keeps (b : Dev) (T : List Part) (d0) (x1) (x2) (x3) (x4) : Part.eb ∈ T → Part.fresh ∈ T →
    Part.models ∈ T → Part.nts ∈ T → Part.ptpp ∈ T → Part.regs ∈ T → Part.rn ∈ T → Part.sel ∈ T → Part.srv ∈ T →
    Part.srvg ∈ T → Part.tb ∈ T → b.Keeps T d0 → b.Keeps T (Dev.applySet d0 x1 x2 x3 x4) := by
  intros; unfold Dev.applySet; grind (gen := 30) (ematch := 30) (splits := 30) [foldl_keeps, Dev_takeSet_keeps,
      Dev_shiftInstants_keeps, Dev_seedModels_keeps, Dev_loopStart_keeps, Dev_forgetSamples_keeps,
      Dev_firstAnchor_keeps, Dev_setBit_keeps, Dev_ppsShowAll_keeps, ptpShowAll_keeps, Dev_tb0Set_keeps]
theorem followSet_keeps (b : Dev) (T : List Part) (x0) (x1) (x2) (x3) (d4) : Part.eb ∈ T → Part.fresh ∈ T →
    Part.models ∈ T → Part.nts ∈ T → Part.ptpp ∈ T → Part.regs ∈ T → Part.rn ∈ T → Part.sel ∈ T → Part.srv ∈ T →
    Part.srvg ∈ T → Part.tb ∈ T → b.Keeps T d4 → b.Keeps T (followSet x0 x1 x2 x3 d4) := by
  intros; unfold followSet; grind [foldl_keeps, Dev_applySet_keeps]
theorem tickCounters_keeps (b : Dev) (T : List Part) (d0) : Part.regs ∈ T → b.Keeps T d0 → b.Keeps T (tickCounters d0)
    := by
  intros; unfold tickCounters; grind [foldl_keeps, Dev_bump_keeps]
theorem effSetApply_keeps (b : Dev) (T : List Part) (x0) (d1) : Part.eb ∈ T → Part.fresh ∈ T → Part.models ∈ T →
    Part.nts ∈ T → Part.ptpp ∈ T → Part.regs ∈ T → Part.rn ∈ T → Part.sel ∈ T → Part.srv ∈ T → Part.srvg ∈ T → Part.tb
    ∈ T → b.Keeps T d1 → b.Keeps T (effSetApply x0 d1) := by
  intros; unfold effSetApply; grind [foldl_keeps, Dev_setTb_keeps, Dev_applySet_keeps, forRange_keeps,
      followSet_keeps]
theorem lateUtcSet_keeps (b : Dev) (T : List Part) (x0) (d1) : Part.eb ∈ T → Part.fresh ∈ T → Part.models ∈ T →
    Part.nts ∈ T → Part.ptpp ∈ T → Part.regs ∈ T → Part.rn ∈ T → Part.sel ∈ T → Part.srv ∈ T → Part.srvg ∈ T → Part.tb
    ∈ T → b.Keeps T d1 → b.Keeps T (lateUtcSet x0 d1) := by
  intros; unfold lateUtcSet; grind [foldl_keeps, Dev_applySet_keeps]
theorem tickModel_keeps (b : Dev) (T : List Part) (x0) (d1) : Part.clk ∈ T → Part.clkOut ∈ T → Part.eb ∈ T → Part.eio
    ∈ T → Part.flash ∈ T → Part.flt ∈ T → Part.fresh ∈ T → Part.hif ∈ T → Part.ks ∈ T → Part.models ∈ T → Part.nts ∈ T
    → Part.out ∈ T → Part.pair ∈ T → Part.pps ∈ T → Part.recd ∈ T → Part.regs ∈ T → Part.rings ∈ T → Part.sel ∈ T →
    Part.srv ∈ T → Part.srvg ∈ T → Part.sys ∈ T → b.Keeps T d1 → b.Keeps T (tickModel x0 d1) := by
  intros; unfold tickModel; grind [foldl_keeps, forRange_keeps, ebGrow_keeps, tickTemps_keeps, Dev_predCorrect_keeps,
      tickSeed_keeps, tickAtom_keeps, ebIdle_keeps, ebOpen_keeps, Dev_incModel_keeps]
theorem tickTiming_keeps (b : Dev) (T : List Part) (x0) (d1) : Part.clk ∈ T → Part.clkOut ∈ T → Part.eb ∈ T → Part.eio
    ∈ T → Part.flash ∈ T → Part.flt ∈ T → Part.fresh ∈ T → Part.hif ∈ T → Part.ks ∈ T → Part.models ∈ T → Part.nts ∈ T
    → Part.out ∈ T → Part.pair ∈ T → Part.ports ∈ T → Part.pps ∈ T → Part.ptpp ∈ T → Part.recd ∈ T → Part.refs ∈ T →
    Part.regs ∈ T → Part.rings ∈ T → Part.rn ∈ T → Part.sel ∈ T → Part.srv ∈ T → Part.srvg ∈ T → Part.sys ∈ T →
    Part.tb ∈ T → b.Keeps T d1 → b.Keeps T (tickTiming x0 d1) := by
  intros; unfold tickTiming; grind (gen := 30) (ematch := 30) (splits := 30) [foldl_keeps, forRange_keeps,
      ebStamp_keeps, lateUtcSet_keeps, Dev_bumpWrap_keeps, tickLate_keeps, stageTick_keeps, tickServo_keeps,
      tickModel_keeps, selectorTick_keeps, tickPairIn_keeps]
theorem tickShows_keeps (b : Dev) (T : List Part) (d0) : Part.ch ∈ T → Part.clk ∈ T → Part.clkOut ∈ T → Part.eio ∈ T →
    Part.flash ∈ T → Part.flt ∈ T → Part.fresh ∈ T → Part.hif ∈ T → Part.ks ∈ T → Part.nts ∈ T → Part.out ∈ T →
    Part.pair ∈ T → Part.pe ∈ T → Part.ports ∈ T → Part.pps ∈ T → Part.ptpp ∈ T → Part.recd ∈ T → Part.regs ∈ T →
    Part.rings ∈ T → Part.sys ∈ T → b.Keeps T d0 → b.Keeps T (tickShows d0) := by
  intros; unfold tickShows; grind (gen := 30) (ematch := 30) (splits := 30) [foldl_keeps, forRange_keeps,
      tickEsmc_keeps, heldUpdate_keeps, Dev_cryptoLoad_keeps, Dev_calShow_keeps, tickBurst_keeps, tickPairOut_keeps,
      tickRole_keeps, ptpShowAll_keeps, Dev_storeRecheck_keeps]
theorem effTick_keeps (b : Dev) (T : List Part) (x0) (d1) : Part.ch ∈ T → Part.clk ∈ T → Part.clkOut ∈ T → Part.eb ∈ T
    → Part.eio ∈ T → Part.flash ∈ T → Part.flt ∈ T → Part.fresh ∈ T → Part.hif ∈ T → Part.ks ∈ T → Part.models ∈ T →
    Part.nts ∈ T → Part.out ∈ T → Part.pair ∈ T → Part.pe ∈ T → Part.ports ∈ T → Part.pps ∈ T → Part.ptpp ∈ T →
    Part.recd ∈ T → Part.refs ∈ T → Part.regs ∈ T → Part.rings ∈ T → Part.rn ∈ T → Part.sel ∈ T → Part.srv ∈ T →
    Part.srvg ∈ T → Part.sys ∈ T → Part.tb ∈ T → b.Keeps T d1 → b.Keeps T (effTick x0 d1) := by
  intros; unfold effTick; grind [foldl_keeps, tickCounters_keeps, tickShows_keeps, tickTiming_keeps]

end Sys2Proof.Laws
end

