-- ==== Sys2Proof/WellFormed.lean ====
section
/-! DEFINITION. Well-formed commands: what the rules say about a command's operands beyond their types. A command that is
not well-formed describes no event that can reach the device. -/
namespace Sys2Proof
open Sys2Proof.Machine

/-- The tick reads references 0 to 23 once each (R123). -/
def Machine.TickIn.wf (inp : TickIn) : Bool :=
  inp.freqs.all (fun f => decide (f.r < 24)) && decide ((inp.freqs.map (·.r)).Nodup)

/-- An 802.3x frame carries one time, a PFC frame eight with eight enable bits; times have 16 bits (R263). -/
def Machine.PauseIn.wf (f : PauseIn) : Bool :=
  decide (f.times.length = if f.pfc then 8 else 1) && f.times.all (fun t => decide (t < 65536)) && decide (f.enable < 256)

/-- A solution takes each satellite once, and an offset for GPS, Galileo and BeiDou time (R231). -/
def Machine.SolIn.wf (i : SolIn) : Bool :=
  decide ((i.sats.map (fun s => (s.cons, s.svid))).Nodup) && decide (i.iso.length = 3)

/-- The dual-antenna check takes each satellite once (R240). -/
def Machine.IntegIn.wf (i : IntegIn) : Bool := decide ((i.sats.map (fun s => (s.cons, s.svid))).Nodup)

/-- A command is well-formed. -/
def Instr.wf : Instr → Bool
  | .qualificationTick inp => inp.wf
  | .refHoldoffExpire _ => true
  | .refWtrExpire _ => true
  | .trendDefectClear _ => true
  | .refMsgTimeout _ _ => true
  | .servoLoopUpdate _ _ => true
  | .loopDeadlineMiss _ => true
  | .servoStall _ => true
  | .tempSensorRecover _ => true
  | .atomModelReturn => true
  | .modelFit _ _ => true
  | .ebLatchRead _ _ => true
  | .alignmentEpoch => true
  | .tbIncHiWrite _ _ _ => true
  | .tbIncCommit _ _ _ => true
  | .tbBincHiWrite _ _ _ => true
  | .tbBincCommit _ _ _ => true
  | .padjCommit _ _ _ => true
  | .padjComplete _ => true
  | .pslopeWrite _ _ _ => true
  | .pabort _ _ => true
  | .tbSetArm _ _ => true
  | .tbSetApply _ => true
  | .leapScheduleHoldWrite _ _ _ _ => true
  | .leapCtlCommit _ _ _ => true
  | .leapInsertStart _ => true
  | .leapInsertEnd _ => true
  | .leapDelete _ => true
  | .smearWindowStart _ => true
  | .smearWindowEnd _ => true
  | .tbNowLatchRead _ _ => true
  | .tbSnap _ _ => true
  | .eioArm _ _ => true
  | .eioDisarm _ _ => true
  | .eioTriggerPosition _ => true
  | .eioPulseEnd _ => true
  | .eioCfgWrite _ _ _ => true
  | .eioScheduleWrite _ _ _ _ => true
  | .eioCaptureEdge _ _ _ => true
  | .eioFifoToRing _ => true
  | .eioPop _ _ => true
  | .eioStuckWrite _ _ _ => true
  | .eioStuckTimeout _ => true
  | .eioStuckRelease _ => true
  | .tsuCalStart _ => true
  | .tsuCalComplete _ hits => decide (hits.length = 64)
  | .tsuLineSwap _ _ => true
  | .tsuCalStale _ => true
  | .tsuCfgWrite _ _ _ => true
  | .ppsEdge _ _ => true
  | .ppsPulseEnd _ => true
  | .ppsSettingsWrite _ _ _ _ => true
  | .ppsSettingsApply _ => true
  | .frameRx _ _ _ _ => true
  | .classifyFrame => true
  | .cryptoInputJob _ _ => true
  | .cryptoOutputJob _ => true
  | .egressSchedule _ _ => true
  | .egressQueueTimeout _ => true
  | .frameTx _ _ _ => true
  | .preemptFragment _ _ => true
  | .pauseFrameRx _ f => f.wf
  | .pauseTimerExpire _ _ => true
  | .linkUp _ _ _ => true
  | .linkDown _ _ _ _ _ => true
  | .preemptVerifyTimeout _ => true
  | .preemptRespondRx _ => true
  | .verifyMpacketRx _ => true
  | .esmcPduRx _ _ _ => true
  | .esmcInfoTx _ => true
  | .isletCmd _ _ => true
  | .isletAutoIdle _ => true
  | .wakeCmd _ _ => true
  | .wakeFrameRx _ _ => true
  | .macCounterLatchRead _ _ _ => true
  | .ringRecordWrite _ => true
  | .ringStagingTimeout _ => true
  | .ringTailWrite _ _ _ => true
  | .ringEnable _ _ _ => true
  | .ringDisable _ _ _ => true
  | .ringImodExpire _ => true
  | .htxDescriptorFetch desc _ => decide (desc.length = 32)
  | .htxQueueTimeout => true
  | .dmaReadError _ _ => true
  | .hcmdFetch desc => decide (desc.length = 64)
  | .cookieIssue _ keys => decide (keys.length = 64)
  | .epochKeyDerive => true
  | .epochDayTurn => true
  | .rootKeyRederive => true
  | .rlWindowSwap => true
  | .clientStatsRecord => true
  | .ntsCounterLatchRead _ _ => true
  | .ptpAnnounceTx _ _ => true
  | .bmcaRun _ => true
  | .ptpSyncTx _ _ => true
  | .ptpFollowupTx _ => true
  | .ptpDelayReqTx _ _ => true
  | .ptpPdelayReqTx _ _ => true
  | .ptpAnnounceRx => true
  | .ptpSyncRx => true
  | .ptpFollowupRx => true
  | .ptpDelayReqRx => true
  | .ptpDelayRespRx => true
  | .ptpPdelayReqRx => true
  | .ptpPdelayRespRx => true
  | .ptpPdelayRespFupRx => true
  | .announceReceiptTimeout _ _ => true
  | .preMasterTimeout _ _ => true
  | .syncFollowupTimeout _ => true
  | .unicastRequestRx => true
  | .unicastCancelRx => true
  | .unicastAckCancelRx => true
  | .unicastGrantRx => true
  | .unicastGrantEnd _ => true
  | .sessionCancelCmd _ _ => true
  | .sessionCancelResend _ => true
  | .unicastRenew _ => true
  | .unicastRequestRetry _ _ => true
  | .ptpTxsaWrite _ _ _ => true
  | .ptpOfsLatchRead _ _ => true
  | .wkrLoad => true
  | .wkrDerive => true
  | .wrap _ => true
  | .encrypt _ => true
  | .decrypt _ => true
  | .wkrClear => true
  | .apgor _ => true
  | .apgorStoreDone => true
  | .ksChallenge _ => true
  | .ksUnlock _ => true
  | .ksLock _ => true
  | .custodianExpire _ => true
  | .challengeExpire _ => true
  | .unlockLockoutEnd _ => true
  | .ksCtrLatchRead _ => true
  | .straitHeartbeatTx => true
  | .straitHeartbeatRx _ frame _ => decide (frame.length % 16 = 0)
  | .stateFrameTx => true
  | .sessionFrameTx _ => true
  | .stateFrameRx _ frame _ => decide (frame.length % 16 = 0)
  | .sessionFrameRx _ frame _ => decide (frame.length % 16 = 0)
  | .setFrameTx => true
  | .setFrameRx _ frame _ _ _ => decide (frame.length % 16 = 0)
  | .cwFaultPattern => true
  | .cwNormalPattern => true
  | .cwSilence => true
  | .straitSilence => true
  | .ownLatchRefresh => true
  | .ownLatchExpire => true
  | .ownSenseAssert => true
  | .ownSenseDeassert => true
  | .overridePulsesSeen => true
  | .overrideGiveUp => true
  | .ownChangeDeferred => true
  | .pairListenEnd => true
  | .isolatedClaim => true
  | .handoverCancel => true
  | .handoverShadowLoad => true
  | .handoverLatchSet => true
  | .handoverLatchClear => true
  | .pairHandoverCmd _ => true
  | .pairTakeCmd _ => true
  | .kcvMismatch => true
  | .kcvMismatchClear => true
  | .pairMofsLatchRead _ => true
  | .xoEdgeDefect _ => true
  | .xoFreqMeasure _ _ => true
  | .xoQualified _ => true
  | .bandTryTimeout => true
  | .pllLocked => true
  | .pllRetryTimer => true
  | .clkRetry _ => true
  | .pllLossOfLock _ => true
  | .relockHoldComplete => true
  | .clkBandWrite _ _ _ => true
  | .bandSurvey mhz => decide (mhz.length = 64)
  | .reducedByTimeout => true
  | .gateQuiesceRequest _ => true
  | .gateClose _ => true
  | .gateDefer _ => true
  | .gateOpen _ => true
  | .syncInEdge _ => true
  | .alignCorrection _ _ => true
  | .osynWordLatchRead _ _ => true
  | .feStartSequence => true
  | .feSpiGo _ _ => true
  | .feSpiDone _ => true
  | .agcUpdate _ _ _ => true
  | .jamSet _ => true
  | .jamClear _ => true
  | .ferrySlip _ => true
  | .strobeLoss _ => true
  | .streamDisqEnd _ => true
  | .correlatorDump _ _ => true
  | .dumpProcess _ _ => true
  | .dumpMiss _ => true
  | .gnssFwStall => true
  | .pullinTimeout _ => true
  | .trackLoss _ => true
  | .lostTimeout _ => true
  | .measLatch _ => true
  | .gchMeasLatchRead _ _ => true
  | .gchCorrLatchRead _ _ => true
  | .channelHandover _ _ _ => true
  | .gnssExclWrite _ _ _ => true
  | .navUnitDecoded _ _ => true
  | .navRdWrite _ _ => true
  | .acqSnapshotSearch _ _ _ _ _ _ => true
  | .acqDetectionVerify _ _ _ => true
  | .acqSweepTimer => true
  | .acqSweepCmd _ _ => true
  | .aidedSearchStart _ _ _ _ _ _ _ _ _ => true
  | .aidedSearchExhausted _ => true
  | .aidedSearchRetry _ => true
  | .burstOnSequence => true
  | .burstWindowOpen => true
  | .burstMissCheck => true
  | .burstWindowClose old => old.all (fun c => decide (c < 256))
  | .burstFullInterval => true
  | .gnssSolutionEpoch a b => a.wf && b.wf
  | .integrityEpoch a b => a.wf && b.wf
  | .gnssResurvey _ _ => true
  | .gnssSolLatchRead _ _ => true
  | .refPpsEdge _ _ => true
  | .irigbFrameRx _ _ _ => true
  | .atomPoll => true
  | .atomReplyRx _ => true
  | .atomReplyTimeout => true
  | .atomListenSilence => true
  | .refLockoutWrite _ _ => true
  | .refForceWrite _ _ _ => true
  | .refAcceptWrite _ _ _ => true
  | .refSteerLatchRead _ _ => true
  | .srvLoopOpen _ _ _ => true
  | .srvOpenEffect _ => true
  | .srvLoopClose _ _ _ => true
  | .srvHostWatchdog _ => true
  | .srvErrLatchRead _ _ => true
  | .srvModelLatchRead _ _ => true
  | .powerOnReset => true
  | .resetNLow => true
  | .sysRestart _ => true
  | .supplyMonitorReset => true
  | .resetNRise i => i.jedec.all (fun j => decide (j < 2 ^ 24))
  | .imageApply _ => true
  | .flErase _ => true
  | .flProgram _ => true
  | .flRead _ => true
  | .flCheck _ => true
  | .flActivate _ => true
  | .flOpComplete _ => true
  | .faultOccurrence _ info _ => decide (info < 2 ^ 64)
  | .blockResetComplete _ _ => true
  | .chipReset => true
  | .fltWatchdog => true
  | .fltPendClear _ _ _ => true
  | .faultInject _ _ => true
  | .fltInfoLatchRead _ _ => true
  | .katRun _ _ => true
  | .pfwAssert => true
  | .pfwRestart => true
  | .recBackgroundFlush => true
  | .recFlushDone _ => true
  | .recSegmentErase => true
  | .recFreeze _ => true
  | .recUnfreeze _ => true
  | .recFreezeExpire => true
  | .recMark _ => true
  | .recWinLoad _ => true
  | .recWinLoadDone _ => true
  | .pmcStart _ => true
  | .pmcStop _ => true
  | .pmcSnap _ => true
  | .pmcClear _ => true
  | .pmcSample _ => true
  | .pmcSampReset _ => true
  | .pmcLatchRead _ _ => true
  | .registerWrite _ _ _ _ _ => true
  | .unmappedAccess _ _ _ => true
  | .pcieConfigRequest => true
  | .pcieEarlyMemoryRequest _ => true
  | .pcieFlr => true
  | .pcieHotReset => true
  | .pcieLinkDown => true
  | .pcieD3hotEntry => true
  | .pcieD0Return => true
  | .spiRead _ _ _ => true
  | .spiWrite _ words _ => decide (1 ≤ words.length) && decide (words.length ≤ 64)
  | .spiStatus => true
  | .spiNop => true
  | .hifIstatWrite _ _ => true
  | .msixUnmask _ => true
  | .pfwDeassert => true
  | .pfwBlockStop => true
  | .xoEdgesResume => true
  | .rcOscillatorStop => true
  | .osynRelock _ => true
  | .strobeReturn _ => true
  | .straitBlockLockGain _ => true
  | .straitBlockLockLoss _ => true
  | .aidedSearchFound _ _ => true
  | .feSequenceDone _ => true
  | .irigbOutFrame _ _ => true
  | .ptpPdelayRespFupTx _ => true
  | .keyDerivationDone => true
  | .apgorSlotStored => true
  | .recSegmentEraseDone => true
  | .spiWritePerformed => true
  | .rcReadClear _ _ _ => true
  | .pcieLinkUp speed width => decide (1 ≤ speed.val) && (width.val == 1 || width.val == 2 || width.val == 4)
  | .sramCorrectedError _ => true
  | .pmcCounterWrap _ => true
  | .supplyMonitorRelease => true

end Sys2Proof
end

