-- ==== Sys2Proof/Laws/PerInstr.lean ====
section
/-! SUPPORT. What holds of every command as syntax, command by command: a command that a host port gives, a Custodian's
write or the read of a latching register, is well-formed whatever its operands. -/
set_option Elab.async false
namespace Sys2Proof.Laws.HostCommands
open Sys2Proof.Machine

/-- A Custodian's write and a latching read are well-formed whatever their operands: the spec lets a host write any word. -/
def Statement (i : Instr) : Prop := (custodianOnly i).isSome = true ∨ (latchesOf i).isSome = true → i.wf = true

theorem qualificationTick x0 : Statement (.qualificationTick x0) := fun h =>
  h.elim (fun h => Bool.noConfusion h) (fun h => Bool.noConfusion h)
theorem refHoldoffExpire x0 : Statement (.refHoldoffExpire x0) := fun _ => rfl
theorem refWtrExpire x0 : Statement (.refWtrExpire x0) := fun _ => rfl
theorem trendDefectClear x0 : Statement (.trendDefectClear x0) := fun _ => rfl
theorem refMsgTimeout x0 x1 : Statement (.refMsgTimeout x0 x1) := fun _ => rfl
theorem servoLoopUpdate x0 x1 : Statement (.servoLoopUpdate x0 x1) := fun _ => rfl
theorem loopDeadlineMiss x0 : Statement (.loopDeadlineMiss x0) := fun _ => rfl
theorem servoStall x0 : Statement (.servoStall x0) := fun _ => rfl
theorem tempSensorRecover x0 : Statement (.tempSensorRecover x0) := fun _ => rfl
theorem atomModelReturn : Statement (.atomModelReturn) := fun _ => rfl
theorem modelFit x0 x1 : Statement (.modelFit x0 x1) := fun _ => rfl
theorem ebLatchRead x0 x1 : Statement (.ebLatchRead x0 x1) := fun _ => rfl
theorem alignmentEpoch : Statement (.alignmentEpoch) := fun _ => rfl
theorem tbIncHiWrite x0 x1 x2 : Statement (.tbIncHiWrite x0 x1 x2) := fun _ => rfl
theorem tbIncCommit x0 x1 x2 : Statement (.tbIncCommit x0 x1 x2) := fun _ => rfl
theorem tbBincHiWrite x0 x1 x2 : Statement (.tbBincHiWrite x0 x1 x2) := fun _ => rfl
theorem tbBincCommit x0 x1 x2 : Statement (.tbBincCommit x0 x1 x2) := fun _ => rfl
theorem padjCommit x0 x1 x2 : Statement (.padjCommit x0 x1 x2) := fun _ => rfl
theorem padjComplete x0 : Statement (.padjComplete x0) := fun _ => rfl
theorem pslopeWrite x0 x1 x2 : Statement (.pslopeWrite x0 x1 x2) := fun _ => rfl
theorem pabort x0 x1 : Statement (.pabort x0 x1) := fun _ => rfl
theorem tbSetArm x0 x1 : Statement (.tbSetArm x0 x1) := fun _ => rfl
theorem tbSetApply x0 : Statement (.tbSetApply x0) := fun _ => rfl
theorem leapScheduleHoldWrite x0 x1 x2 x3 : Statement (.leapScheduleHoldWrite x0 x1 x2 x3) := fun _ => rfl
theorem leapCtlCommit x0 x1 x2 : Statement (.leapCtlCommit x0 x1 x2) := fun _ => rfl
theorem leapInsertStart x0 : Statement (.leapInsertStart x0) := fun _ => rfl
theorem leapInsertEnd x0 : Statement (.leapInsertEnd x0) := fun _ => rfl
theorem leapDelete x0 : Statement (.leapDelete x0) := fun _ => rfl
theorem smearWindowStart x0 : Statement (.smearWindowStart x0) := fun _ => rfl
theorem smearWindowEnd x0 : Statement (.smearWindowEnd x0) := fun _ => rfl
theorem tbNowLatchRead x0 x1 : Statement (.tbNowLatchRead x0 x1) := fun _ => rfl
theorem tbSnap x0 x1 : Statement (.tbSnap x0 x1) := fun _ => rfl
theorem eioArm x0 x1 : Statement (.eioArm x0 x1) := fun _ => rfl
theorem eioDisarm x0 x1 : Statement (.eioDisarm x0 x1) := fun _ => rfl
theorem eioTriggerPosition x0 : Statement (.eioTriggerPosition x0) := fun _ => rfl
theorem eioPulseEnd x0 : Statement (.eioPulseEnd x0) := fun _ => rfl
theorem eioCfgWrite x0 x1 x2 : Statement (.eioCfgWrite x0 x1 x2) := fun _ => rfl
theorem eioScheduleWrite x0 x1 x2 x3 : Statement (.eioScheduleWrite x0 x1 x2 x3) := fun _ => rfl
theorem eioCaptureEdge x0 x1 x2 : Statement (.eioCaptureEdge x0 x1 x2) := fun _ => rfl
theorem eioFifoToRing x0 : Statement (.eioFifoToRing x0) := fun _ => rfl
theorem eioPop x0 x1 : Statement (.eioPop x0 x1) := fun _ => rfl
theorem eioStuckWrite x0 x1 x2 : Statement (.eioStuckWrite x0 x1 x2) := fun _ => rfl
theorem eioStuckTimeout x0 : Statement (.eioStuckTimeout x0) := fun _ => rfl
theorem eioStuckRelease x0 : Statement (.eioStuckRelease x0) := fun _ => rfl
theorem tsuCalStart x0 : Statement (.tsuCalStart x0) := fun _ => rfl
theorem tsuCalComplete x0 x1 : Statement (.tsuCalComplete x0 x1) := fun h =>
  h.elim (fun h => Bool.noConfusion h) (fun h => Bool.noConfusion h)
theorem tsuLineSwap x0 x1 : Statement (.tsuLineSwap x0 x1) := fun _ => rfl
theorem tsuCalStale x0 : Statement (.tsuCalStale x0) := fun _ => rfl
theorem tsuCfgWrite x0 x1 x2 : Statement (.tsuCfgWrite x0 x1 x2) := fun _ => rfl
theorem ppsEdge x0 x1 : Statement (.ppsEdge x0 x1) := fun _ => rfl
theorem ppsPulseEnd x0 : Statement (.ppsPulseEnd x0) := fun _ => rfl
theorem ppsSettingsWrite x0 x1 x2 x3 : Statement (.ppsSettingsWrite x0 x1 x2 x3) := fun _ => rfl
theorem ppsSettingsApply x0 : Statement (.ppsSettingsApply x0) := fun _ => rfl
theorem frameRx x0 x1 x2 x3 : Statement (.frameRx x0 x1 x2 x3) := fun h =>
  h.elim (fun h => Bool.noConfusion h) (fun h => Bool.noConfusion h)
theorem classifyFrame : Statement (.classifyFrame) := fun _ => rfl
theorem cryptoInputJob x0 x1 : Statement (.cryptoInputJob x0 x1) := fun _ => rfl
theorem cryptoOutputJob x0 : Statement (.cryptoOutputJob x0) := fun _ => rfl
theorem egressSchedule x0 x1 : Statement (.egressSchedule x0 x1) := fun _ => rfl
theorem egressQueueTimeout x0 : Statement (.egressQueueTimeout x0) := fun _ => rfl
theorem frameTx x0 x1 x2 : Statement (.frameTx x0 x1 x2) := fun _ => rfl
theorem preemptFragment x0 x1 : Statement (.preemptFragment x0 x1) := fun _ => rfl
theorem pauseFrameRx x0 x1 : Statement (.pauseFrameRx x0 x1) := fun h =>
  h.elim (fun h => Bool.noConfusion h) (fun h => Bool.noConfusion h)
theorem pauseTimerExpire x0 x1 : Statement (.pauseTimerExpire x0 x1) := fun _ => rfl
theorem linkUp x0 x1 x2 : Statement (.linkUp x0 x1 x2) := fun _ => rfl
theorem linkDown x0 x1 x2 x3 x4 : Statement (.linkDown x0 x1 x2 x3 x4) := fun _ => rfl
theorem preemptVerifyTimeout x0 : Statement (.preemptVerifyTimeout x0) := fun _ => rfl
theorem preemptRespondRx x0 : Statement (.preemptRespondRx x0) := fun _ => rfl
theorem verifyMpacketRx x0 : Statement (.verifyMpacketRx x0) := fun _ => rfl
theorem esmcPduRx x0 x1 x2 : Statement (.esmcPduRx x0 x1 x2) := fun _ => rfl
theorem esmcInfoTx x0 : Statement (.esmcInfoTx x0) := fun _ => rfl
theorem isletCmd x0 x1 : Statement (.isletCmd x0 x1) := fun _ => rfl
theorem isletAutoIdle x0 : Statement (.isletAutoIdle x0) := fun _ => rfl
theorem wakeCmd x0 x1 : Statement (.wakeCmd x0 x1) := fun _ => rfl
theorem wakeFrameRx x0 x1 : Statement (.wakeFrameRx x0 x1) := fun _ => rfl
theorem macCounterLatchRead x0 x1 x2 : Statement (.macCounterLatchRead x0 x1 x2) := fun _ => rfl
theorem ringRecordWrite x0 : Statement (.ringRecordWrite x0) := fun _ => rfl
theorem ringStagingTimeout x0 : Statement (.ringStagingTimeout x0) := fun _ => rfl
theorem ringTailWrite x0 x1 x2 : Statement (.ringTailWrite x0 x1 x2) := fun _ => rfl
theorem ringEnable x0 x1 x2 : Statement (.ringEnable x0 x1 x2) := fun _ => rfl
theorem ringDisable x0 x1 x2 : Statement (.ringDisable x0 x1 x2) := fun _ => rfl
theorem ringImodExpire x0 : Statement (.ringImodExpire x0) := fun _ => rfl
theorem htxDescriptorFetch x0 x1 : Statement (.htxDescriptorFetch x0 x1) := fun h =>
  h.elim (fun h => Bool.noConfusion h) (fun h => Bool.noConfusion h)
theorem htxQueueTimeout : Statement (.htxQueueTimeout) := fun _ => rfl
theorem dmaReadError x0 x1 : Statement (.dmaReadError x0 x1) := fun _ => rfl
theorem hcmdFetch x0 : Statement (.hcmdFetch x0) := fun h =>
  h.elim (fun h => Bool.noConfusion h) (fun h => Bool.noConfusion h)
theorem cookieIssue x0 x1 : Statement (.cookieIssue x0 x1) := fun h =>
  h.elim (fun h => Bool.noConfusion h) (fun h => Bool.noConfusion h)
theorem epochKeyDerive : Statement (.epochKeyDerive) := fun _ => rfl
theorem epochDayTurn : Statement (.epochDayTurn) := fun _ => rfl
theorem rootKeyRederive : Statement (.rootKeyRederive) := fun _ => rfl
theorem rlWindowSwap : Statement (.rlWindowSwap) := fun _ => rfl
theorem clientStatsRecord : Statement (.clientStatsRecord) := fun _ => rfl
theorem ntsCounterLatchRead x0 x1 : Statement (.ntsCounterLatchRead x0 x1) := fun _ => rfl
theorem ptpAnnounceTx x0 x1 : Statement (.ptpAnnounceTx x0 x1) := fun _ => rfl
theorem bmcaRun x0 : Statement (.bmcaRun x0) := fun _ => rfl
theorem ptpSyncTx x0 x1 : Statement (.ptpSyncTx x0 x1) := fun _ => rfl
theorem ptpFollowupTx x0 : Statement (.ptpFollowupTx x0) := fun _ => rfl
theorem ptpDelayReqTx x0 x1 : Statement (.ptpDelayReqTx x0 x1) := fun _ => rfl
theorem ptpPdelayReqTx x0 x1 : Statement (.ptpPdelayReqTx x0 x1) := fun _ => rfl
theorem ptpAnnounceRx : Statement (.ptpAnnounceRx) := fun _ => rfl
theorem ptpSyncRx : Statement (.ptpSyncRx) := fun _ => rfl
theorem ptpFollowupRx : Statement (.ptpFollowupRx) := fun _ => rfl
theorem ptpDelayReqRx : Statement (.ptpDelayReqRx) := fun _ => rfl
theorem ptpDelayRespRx : Statement (.ptpDelayRespRx) := fun _ => rfl
theorem ptpPdelayReqRx : Statement (.ptpPdelayReqRx) := fun _ => rfl
theorem ptpPdelayRespRx : Statement (.ptpPdelayRespRx) := fun _ => rfl
theorem ptpPdelayRespFupRx : Statement (.ptpPdelayRespFupRx) := fun _ => rfl
theorem announceReceiptTimeout x0 x1 : Statement (.announceReceiptTimeout x0 x1) := fun _ => rfl
theorem preMasterTimeout x0 x1 : Statement (.preMasterTimeout x0 x1) := fun _ => rfl
theorem syncFollowupTimeout x0 : Statement (.syncFollowupTimeout x0) := fun _ => rfl
theorem unicastRequestRx : Statement (.unicastRequestRx) := fun _ => rfl
theorem unicastCancelRx : Statement (.unicastCancelRx) := fun _ => rfl
theorem unicastAckCancelRx : Statement (.unicastAckCancelRx) := fun _ => rfl
theorem unicastGrantRx : Statement (.unicastGrantRx) := fun _ => rfl
theorem unicastGrantEnd x0 : Statement (.unicastGrantEnd x0) := fun _ => rfl
theorem sessionCancelCmd x0 x1 : Statement (.sessionCancelCmd x0 x1) := fun _ => rfl
theorem sessionCancelResend x0 : Statement (.sessionCancelResend x0) := fun _ => rfl
theorem unicastRenew x0 : Statement (.unicastRenew x0) := fun _ => rfl
theorem unicastRequestRetry x0 x1 : Statement (.unicastRequestRetry x0 x1) := fun _ => rfl
theorem ptpTxsaWrite x0 x1 x2 : Statement (.ptpTxsaWrite x0 x1 x2) := fun _ => rfl
theorem ptpOfsLatchRead x0 x1 : Statement (.ptpOfsLatchRead x0 x1) := fun _ => rfl
theorem wkrLoad : Statement (.wkrLoad) := fun _ => rfl
theorem wkrDerive : Statement (.wkrDerive) := fun _ => rfl
theorem wrap x0 : Statement (.wrap x0) := fun _ => rfl
theorem encrypt x0 : Statement (.encrypt x0) := fun _ => rfl
theorem decrypt x0 : Statement (.decrypt x0) := fun _ => rfl
theorem wkrClear : Statement (.wkrClear) := fun _ => rfl
theorem apgor x0 : Statement (.apgor x0) := fun _ => rfl
theorem apgorStoreDone : Statement (.apgorStoreDone) := fun _ => rfl
theorem ksChallenge x0 : Statement (.ksChallenge x0) := fun _ => rfl
theorem ksUnlock x0 : Statement (.ksUnlock x0) := fun _ => rfl
theorem ksLock x0 : Statement (.ksLock x0) := fun _ => rfl
theorem custodianExpire x0 : Statement (.custodianExpire x0) := fun _ => rfl
theorem challengeExpire x0 : Statement (.challengeExpire x0) := fun _ => rfl
theorem unlockLockoutEnd x0 : Statement (.unlockLockoutEnd x0) := fun _ => rfl
theorem ksCtrLatchRead x0 : Statement (.ksCtrLatchRead x0) := fun _ => rfl
theorem straitHeartbeatTx : Statement (.straitHeartbeatTx) := fun _ => rfl
theorem straitHeartbeatRx x0 x1 x2 : Statement (.straitHeartbeatRx x0 x1 x2) := fun h =>
  h.elim (fun h => Bool.noConfusion h) (fun h => Bool.noConfusion h)
theorem stateFrameTx : Statement (.stateFrameTx) := fun _ => rfl
theorem sessionFrameTx x0 : Statement (.sessionFrameTx x0) := fun _ => rfl
theorem stateFrameRx x0 x1 x2 : Statement (.stateFrameRx x0 x1 x2) := fun h =>
  h.elim (fun h => Bool.noConfusion h) (fun h => Bool.noConfusion h)
theorem sessionFrameRx x0 x1 x2 : Statement (.sessionFrameRx x0 x1 x2) := fun h =>
  h.elim (fun h => Bool.noConfusion h) (fun h => Bool.noConfusion h)
theorem setFrameTx : Statement (.setFrameTx) := fun _ => rfl
theorem setFrameRx x0 x1 x2 x3 x4 : Statement (.setFrameRx x0 x1 x2 x3 x4) := fun h =>
  h.elim (fun h => Bool.noConfusion h) (fun h => Bool.noConfusion h)
theorem cwFaultPattern : Statement (.cwFaultPattern) := fun _ => rfl
theorem cwNormalPattern : Statement (.cwNormalPattern) := fun _ => rfl
theorem cwSilence : Statement (.cwSilence) := fun _ => rfl
theorem straitSilence : Statement (.straitSilence) := fun _ => rfl
theorem ownLatchRefresh : Statement (.ownLatchRefresh) := fun _ => rfl
theorem ownLatchExpire : Statement (.ownLatchExpire) := fun _ => rfl
theorem ownSenseAssert : Statement (.ownSenseAssert) := fun _ => rfl
theorem ownSenseDeassert : Statement (.ownSenseDeassert) := fun _ => rfl
theorem overridePulsesSeen : Statement (.overridePulsesSeen) := fun _ => rfl
theorem overrideGiveUp : Statement (.overrideGiveUp) := fun _ => rfl
theorem ownChangeDeferred : Statement (.ownChangeDeferred) := fun _ => rfl
theorem pairListenEnd : Statement (.pairListenEnd) := fun _ => rfl
theorem isolatedClaim : Statement (.isolatedClaim) := fun _ => rfl
theorem handoverCancel : Statement (.handoverCancel) := fun _ => rfl
theorem handoverShadowLoad : Statement (.handoverShadowLoad) := fun _ => rfl
theorem handoverLatchSet : Statement (.handoverLatchSet) := fun _ => rfl
theorem handoverLatchClear : Statement (.handoverLatchClear) := fun _ => rfl
theorem pairHandoverCmd x0 : Statement (.pairHandoverCmd x0) := fun _ => rfl
theorem pairTakeCmd x0 : Statement (.pairTakeCmd x0) := fun _ => rfl
theorem kcvMismatch : Statement (.kcvMismatch) := fun _ => rfl
theorem kcvMismatchClear : Statement (.kcvMismatchClear) := fun _ => rfl
theorem pairMofsLatchRead x0 : Statement (.pairMofsLatchRead x0) := fun _ => rfl
theorem xoEdgeDefect x0 : Statement (.xoEdgeDefect x0) := fun _ => rfl
theorem xoFreqMeasure x0 x1 : Statement (.xoFreqMeasure x0 x1) := fun _ => rfl
theorem xoQualified x0 : Statement (.xoQualified x0) := fun _ => rfl
theorem bandTryTimeout : Statement (.bandTryTimeout) := fun _ => rfl
theorem pllLocked : Statement (.pllLocked) := fun _ => rfl
theorem pllRetryTimer : Statement (.pllRetryTimer) := fun _ => rfl
theorem clkRetry x0 : Statement (.clkRetry x0) := fun _ => rfl
theorem pllLossOfLock x0 : Statement (.pllLossOfLock x0) := fun _ => rfl
theorem relockHoldComplete : Statement (.relockHoldComplete) := fun _ => rfl
theorem clkBandWrite x0 x1 x2 : Statement (.clkBandWrite x0 x1 x2) := fun _ => rfl
theorem bandSurvey x0 : Statement (.bandSurvey x0) := fun h =>
  h.elim (fun h => Bool.noConfusion h) (fun h => Bool.noConfusion h)
theorem reducedByTimeout : Statement (.reducedByTimeout) := fun _ => rfl
theorem gateQuiesceRequest x0 : Statement (.gateQuiesceRequest x0) := fun _ => rfl
theorem gateClose x0 : Statement (.gateClose x0) := fun _ => rfl
theorem gateDefer x0 : Statement (.gateDefer x0) := fun _ => rfl
theorem gateOpen x0 : Statement (.gateOpen x0) := fun _ => rfl
theorem syncInEdge x0 : Statement (.syncInEdge x0) := fun _ => rfl
theorem alignCorrection x0 x1 : Statement (.alignCorrection x0 x1) := fun _ => rfl
theorem osynWordLatchRead x0 x1 : Statement (.osynWordLatchRead x0 x1) := fun _ => rfl
theorem feStartSequence : Statement (.feStartSequence) := fun _ => rfl
theorem feSpiGo x0 x1 : Statement (.feSpiGo x0 x1) := fun _ => rfl
theorem feSpiDone x0 : Statement (.feSpiDone x0) := fun _ => rfl
theorem agcUpdate x0 x1 x2 : Statement (.agcUpdate x0 x1 x2) := fun _ => rfl
theorem jamSet x0 : Statement (.jamSet x0) := fun _ => rfl
theorem jamClear x0 : Statement (.jamClear x0) := fun _ => rfl
theorem ferrySlip x0 : Statement (.ferrySlip x0) := fun _ => rfl
theorem strobeLoss x0 : Statement (.strobeLoss x0) := fun _ => rfl
theorem streamDisqEnd x0 : Statement (.streamDisqEnd x0) := fun _ => rfl
theorem correlatorDump x0 x1 : Statement (.correlatorDump x0 x1) := fun h =>
  h.elim (fun h => Bool.noConfusion h) (fun h => Bool.noConfusion h)
theorem dumpProcess x0 x1 : Statement (.dumpProcess x0 x1) := fun _ => rfl
theorem dumpMiss x0 : Statement (.dumpMiss x0) := fun _ => rfl
theorem gnssFwStall : Statement (.gnssFwStall) := fun _ => rfl
theorem pullinTimeout x0 : Statement (.pullinTimeout x0) := fun _ => rfl
theorem trackLoss x0 : Statement (.trackLoss x0) := fun _ => rfl
theorem lostTimeout x0 : Statement (.lostTimeout x0) := fun _ => rfl
theorem measLatch x0 : Statement (.measLatch x0) := fun h =>
  h.elim (fun h => Bool.noConfusion h) (fun h => Bool.noConfusion h)
theorem gchMeasLatchRead x0 x1 : Statement (.gchMeasLatchRead x0 x1) := fun _ => rfl
theorem gchCorrLatchRead x0 x1 : Statement (.gchCorrLatchRead x0 x1) := fun _ => rfl
theorem channelHandover x0 x1 x2 : Statement (.channelHandover x0 x1 x2) := fun _ => rfl
theorem gnssExclWrite x0 x1 x2 : Statement (.gnssExclWrite x0 x1 x2) := fun _ => rfl
theorem navUnitDecoded x0 x1 : Statement (.navUnitDecoded x0 x1) := fun _ => rfl
theorem navRdWrite x0 x1 : Statement (.navRdWrite x0 x1) := fun _ => rfl
theorem acqSnapshotSearch x0 x1 x2 x3 x4 x5 : Statement (.acqSnapshotSearch x0 x1 x2 x3 x4 x5) := fun _ => rfl
theorem acqDetectionVerify x0 x1 x2 : Statement (.acqDetectionVerify x0 x1 x2) := fun _ => rfl
theorem acqSweepTimer : Statement (.acqSweepTimer) := fun _ => rfl
theorem acqSweepCmd x0 x1 : Statement (.acqSweepCmd x0 x1) := fun _ => rfl
theorem aidedSearchStart x0 x1 x2 x3 x4 x5 x6 x7 x8 : Statement (.aidedSearchStart x0 x1 x2 x3 x4 x5 x6 x7 x8) := fun _ => rfl
theorem aidedSearchExhausted x0 : Statement (.aidedSearchExhausted x0) := fun _ => rfl
theorem aidedSearchRetry x0 : Statement (.aidedSearchRetry x0) := fun _ => rfl
theorem burstOnSequence : Statement (.burstOnSequence) := fun _ => rfl
theorem burstWindowOpen : Statement (.burstWindowOpen) := fun _ => rfl
theorem burstMissCheck : Statement (.burstMissCheck) := fun _ => rfl
theorem burstWindowClose x0 : Statement (.burstWindowClose x0) := fun h =>
  h.elim (fun h => Bool.noConfusion h) (fun h => Bool.noConfusion h)
theorem burstFullInterval : Statement (.burstFullInterval) := fun _ => rfl
theorem gnssSolutionEpoch x0 x1 : Statement (.gnssSolutionEpoch x0 x1) := fun h =>
  h.elim (fun h => Bool.noConfusion h) (fun h => Bool.noConfusion h)
theorem integrityEpoch x0 x1 : Statement (.integrityEpoch x0 x1) := fun h =>
  h.elim (fun h => Bool.noConfusion h) (fun h => Bool.noConfusion h)
theorem gnssResurvey x0 x1 : Statement (.gnssResurvey x0 x1) := fun _ => rfl
theorem gnssSolLatchRead x0 x1 : Statement (.gnssSolLatchRead x0 x1) := fun _ => rfl
theorem refPpsEdge x0 x1 : Statement (.refPpsEdge x0 x1) := fun h =>
  h.elim (fun h => Bool.noConfusion h) (fun h => Bool.noConfusion h)
theorem irigbFrameRx x0 x1 x2 : Statement (.irigbFrameRx x0 x1 x2) := fun h =>
  h.elim (fun h => Bool.noConfusion h) (fun h => Bool.noConfusion h)
theorem atomPoll : Statement (.atomPoll) := fun _ => rfl
theorem atomReplyRx x0 : Statement (.atomReplyRx x0) := fun _ => rfl
theorem atomReplyTimeout : Statement (.atomReplyTimeout) := fun _ => rfl
theorem atomListenSilence : Statement (.atomListenSilence) := fun _ => rfl
theorem refLockoutWrite x0 x1 : Statement (.refLockoutWrite x0 x1) := fun _ => rfl
theorem refForceWrite x0 x1 x2 : Statement (.refForceWrite x0 x1 x2) := fun _ => rfl
theorem refAcceptWrite x0 x1 x2 : Statement (.refAcceptWrite x0 x1 x2) := fun _ => rfl
theorem refSteerLatchRead x0 x1 : Statement (.refSteerLatchRead x0 x1) := fun _ => rfl
theorem srvLoopOpen x0 x1 x2 : Statement (.srvLoopOpen x0 x1 x2) := fun _ => rfl
theorem srvOpenEffect x0 : Statement (.srvOpenEffect x0) := fun _ => rfl
theorem srvLoopClose x0 x1 x2 : Statement (.srvLoopClose x0 x1 x2) := fun _ => rfl
theorem srvHostWatchdog x0 : Statement (.srvHostWatchdog x0) := fun _ => rfl
theorem srvErrLatchRead x0 x1 : Statement (.srvErrLatchRead x0 x1) := fun _ => rfl
theorem srvModelLatchRead x0 x1 : Statement (.srvModelLatchRead x0 x1) := fun _ => rfl
theorem powerOnReset : Statement (.powerOnReset) := fun _ => rfl
theorem resetNLow : Statement (.resetNLow) := fun _ => rfl
theorem sysRestart x0 : Statement (.sysRestart x0) := fun _ => rfl
theorem supplyMonitorReset : Statement (.supplyMonitorReset) := fun _ => rfl
theorem resetNRise x0 : Statement (.resetNRise x0) := fun h =>
  h.elim (fun h => Bool.noConfusion h) (fun h => Bool.noConfusion h)
theorem imageApply x0 : Statement (.imageApply x0) := fun _ => rfl
theorem flErase x0 : Statement (.flErase x0) := fun _ => rfl
theorem flProgram x0 : Statement (.flProgram x0) := fun _ => rfl
theorem flRead x0 : Statement (.flRead x0) := fun _ => rfl
theorem flCheck x0 : Statement (.flCheck x0) := fun _ => rfl
theorem flActivate x0 : Statement (.flActivate x0) := fun _ => rfl
theorem flOpComplete x0 : Statement (.flOpComplete x0) := fun _ => rfl
theorem faultOccurrence x0 x1 x2 : Statement (.faultOccurrence x0 x1 x2) := fun h =>
  h.elim (fun h => Bool.noConfusion h) (fun h => Bool.noConfusion h)
theorem blockResetComplete x0 x1 : Statement (.blockResetComplete x0 x1) := fun _ => rfl
theorem chipReset : Statement (.chipReset) := fun _ => rfl
theorem fltWatchdog : Statement (.fltWatchdog) := fun _ => rfl
theorem fltPendClear x0 x1 x2 : Statement (.fltPendClear x0 x1 x2) := fun _ => rfl
theorem faultInject x0 x1 : Statement (.faultInject x0 x1) := fun _ => rfl
theorem fltInfoLatchRead x0 x1 : Statement (.fltInfoLatchRead x0 x1) := fun _ => rfl
theorem katRun x0 x1 : Statement (.katRun x0 x1) := fun _ => rfl
theorem pfwAssert : Statement (.pfwAssert) := fun _ => rfl
theorem pfwRestart : Statement (.pfwRestart) := fun _ => rfl
theorem recBackgroundFlush : Statement (.recBackgroundFlush) := fun _ => rfl
theorem recFlushDone x0 : Statement (.recFlushDone x0) := fun _ => rfl
theorem recSegmentErase : Statement (.recSegmentErase) := fun _ => rfl
theorem recFreeze x0 : Statement (.recFreeze x0) := fun _ => rfl
theorem recUnfreeze x0 : Statement (.recUnfreeze x0) := fun _ => rfl
theorem recFreezeExpire : Statement (.recFreezeExpire) := fun _ => rfl
theorem recMark x0 : Statement (.recMark x0) := fun _ => rfl
theorem recWinLoad x0 : Statement (.recWinLoad x0) := fun _ => rfl
theorem recWinLoadDone x0 : Statement (.recWinLoadDone x0) := fun _ => rfl
theorem pmcStart x0 : Statement (.pmcStart x0) := fun _ => rfl
theorem pmcStop x0 : Statement (.pmcStop x0) := fun _ => rfl
theorem pmcSnap x0 : Statement (.pmcSnap x0) := fun _ => rfl
theorem pmcClear x0 : Statement (.pmcClear x0) := fun _ => rfl
theorem pmcSample x0 : Statement (.pmcSample x0) := fun _ => rfl
theorem pmcSampReset x0 : Statement (.pmcSampReset x0) := fun _ => rfl
theorem pmcLatchRead x0 x1 : Statement (.pmcLatchRead x0 x1) := fun _ => rfl
theorem registerWrite x0 x1 x2 x3 x4 : Statement (.registerWrite x0 x1 x2 x3 x4) := fun _ => rfl
theorem unmappedAccess x0 x1 x2 : Statement (.unmappedAccess x0 x1 x2) := fun _ => rfl
theorem pcieConfigRequest : Statement (.pcieConfigRequest) := fun _ => rfl
theorem pcieEarlyMemoryRequest x0 : Statement (.pcieEarlyMemoryRequest x0) := fun _ => rfl
theorem pcieFlr : Statement (.pcieFlr) := fun _ => rfl
theorem pcieHotReset : Statement (.pcieHotReset) := fun _ => rfl
theorem pcieLinkDown : Statement (.pcieLinkDown) := fun _ => rfl
theorem pcieD3hotEntry : Statement (.pcieD3hotEntry) := fun _ => rfl
theorem pcieD0Return : Statement (.pcieD0Return) := fun _ => rfl
theorem spiRead x0 x1 x2 : Statement (.spiRead x0 x1 x2) := fun _ => rfl
theorem spiWrite x0 x1 x2 : Statement (.spiWrite x0 x1 x2) := fun h =>
  h.elim (fun h => Bool.noConfusion h) (fun h => Bool.noConfusion h)
theorem spiStatus : Statement (.spiStatus) := fun _ => rfl
theorem spiNop : Statement (.spiNop) := fun _ => rfl
theorem hifIstatWrite x0 x1 : Statement (.hifIstatWrite x0 x1) := fun _ => rfl
theorem msixUnmask x0 : Statement (.msixUnmask x0) := fun _ => rfl
theorem pfwDeassert : Statement (.pfwDeassert) := fun _ => rfl
theorem pfwBlockStop : Statement (.pfwBlockStop) := fun _ => rfl
theorem xoEdgesResume : Statement (.xoEdgesResume) := fun _ => rfl
theorem rcOscillatorStop : Statement (.rcOscillatorStop) := fun _ => rfl
theorem osynRelock x0 : Statement (.osynRelock x0) := fun _ => rfl
theorem strobeReturn x0 : Statement (.strobeReturn x0) := fun _ => rfl
theorem straitBlockLockGain x0 : Statement (.straitBlockLockGain x0) := fun _ => rfl
theorem straitBlockLockLoss x0 : Statement (.straitBlockLockLoss x0) := fun _ => rfl
theorem aidedSearchFound x0 x1 : Statement (.aidedSearchFound x0 x1) := fun _ => rfl
theorem feSequenceDone x0 : Statement (.feSequenceDone x0) := fun _ => rfl
theorem irigbOutFrame x0 x1 : Statement (.irigbOutFrame x0 x1) := fun _ => rfl
theorem ptpPdelayRespFupTx x0 : Statement (.ptpPdelayRespFupTx x0) := fun _ => rfl
theorem keyDerivationDone : Statement (.keyDerivationDone) := fun _ => rfl
theorem apgorSlotStored : Statement (.apgorSlotStored) := fun _ => rfl
theorem recSegmentEraseDone : Statement (.recSegmentEraseDone) := fun _ => rfl
theorem spiWritePerformed : Statement (.spiWritePerformed) := fun _ => rfl
theorem rcReadClear x0 x1 x2 : Statement (.rcReadClear x0 x1 x2) := fun _ => rfl
theorem pcieLinkUp x0 x1 : Statement (.pcieLinkUp x0 x1) := fun h =>
  h.elim (fun h => Bool.noConfusion h) (fun h => Bool.noConfusion h)
theorem sramCorrectedError x0 : Statement (.sramCorrectedError x0) := fun _ => rfl
theorem pmcCounterWrap x0 : Statement (.pmcCounterWrap x0) := fun _ => rfl
theorem supplyMonitorRelease : Statement (.supplyMonitorRelease) := fun _ => rfl

end Sys2Proof.Laws.HostCommands
end

