-- ==== Sys2Proof/Laws/State.lean ====
section
/-! SUPPORT. One lemma per field of the device per update: what a write of a register or of an instance's state reads
back, and that every other field stays. -/
set_option Elab.async false
namespace Sys2Proof.Laws
open Sys2Proof.Machine

@[simp] theorem rd_wr_same (d : Dev) (a : Nat) (v : Word) : (d.wr a v).rd a = v := Map.get_put_same ..
theorem rd_wr_ne (d : Dev) (a b : Nat) (v : Word) (h : b ≠ a) : (d.wr a v).rd b = d.rd b := Map.get_put_ne _ _ _ _ _ h
@[simp] theorem latch_wr (d : Dev) (a : Nat) (v : Word) : (d.wr a v).latch = d.latch := rfl
@[simp] theorem fresh_wr (d : Dev) (a : Nat) (v : Word) : (d.wr a v).fresh = d.fresh := rfl
@[simp] theorem out_wr (d : Dev) (a : Nat) (v : Word) : (d.wr a v).out = d.out := rfl
@[simp] theorem rd_emit (d : Dev) (o : Out) (a : Nat) : (d.emit o).rd a = d.rd a := rfl
@[simp] theorem out_emit (d : Dev) (o : Out) : (d.emit o).out = o :: d.out := rfl
@[simp] theorem tb_wr (d : Dev) (a : Nat) (v : Word) : (d.wr a v).tb = d.tb := rfl
@[simp] theorem tb_emit (d : Dev) (o : Out) : (d.emit o).tb = d.tb := rfl
@[simp] theorem tbAt_setTb_same (d : Dev) (k : Nat) (x : TbHid) : (d.setTb k x).tbAt k = x := by
  simp only [Dev.tbAt, Dev.setTb, Map.get_put_same]
theorem tbAt_setTb_ne (d : Dev) (k j : Nat) (x : TbHid) (h : j ≠ k) : (d.setTb k x).tbAt j = d.tbAt j := by
  simp only [Dev.tbAt, Dev.setTb, Map.get_put_ne _ _ _ _ _ h]
@[simp] theorem tbAt_wr (d : Dev) (a : Nat) (v : Word) (k : Nat) : (d.wr a v).tbAt k = d.tbAt k := rfl
@[simp] theorem rd_setTb (d : Dev) (k : Nat) (x : TbHid) (a : Nat) : (d.setTb k x).rd a = d.rd a := rfl
@[simp] theorem eioAt_setTb (d : Dev) (k : Nat) (x : TbHid) (j : Nat) : (d.setTb k x).eioAt j = d.eioAt j := rfl
@[simp] theorem ringsAt_setTb (d : Dev) (k : Nat) (x : TbHid) (j : Nat) : (d.setTb k x).ringsAt j = d.ringsAt j := rfl
@[simp] theorem egressAt_setTb (d : Dev) (k : Nat) (x : TbHid) (j : Nat) : (d.setTb k x).egressAt j = d.egressAt j := rfl
@[simp] theorem linesAt_setTb (d : Dev) (k : Nat) (x : TbHid) (j : Nat) : (d.setTb k x).linesAt j = d.linesAt j := rfl
@[simp] theorem ppsAt_setTb (d : Dev) (k : Nat) (x : TbHid) (j : Nat) : (d.setTb k x).ppsAt j = d.ppsAt j := rfl
@[simp] theorem txqAt_setTb (d : Dev) (k : Nat) (x : TbHid) (j : Nat) : (d.setTb k x).txqAt j = d.txqAt j := rfl
@[simp] theorem ebAt_setTb (d : Dev) (k : Nat) (x : TbHid) (j : Nat) : (d.setTb k x).ebAt j = d.ebAt j := rfl
@[simp] theorem refsAt_setTb (d : Dev) (k : Nat) (x : TbHid) (j : Nat) : (d.setTb k x).refsAt j = d.refsAt j := rfl
@[simp] theorem rnAt_setTb (d : Dev) (k : Nat) (x : TbHid) (j : Nat) : (d.setTb k x).rnAt j = d.rnAt j := rfl
@[simp] theorem selAt_setTb (d : Dev) (k : Nat) (x : TbHid) (j : Nat) : (d.setTb k x).selAt j = d.selAt j := rfl
@[simp] theorem srvAt_setTb (d : Dev) (k : Nat) (x : TbHid) (j : Nat) : (d.setTb k x).srvAt j = d.srvAt j := rfl
@[simp] theorem modelsAt_setTb (d : Dev) (k : Nat) (x : TbHid) (j : Nat) : (d.setTb k x).modelsAt j = d.modelsAt j := rfl
@[simp] theorem chAt_setTb (d : Dev) (k : Nat) (x : TbHid) (j : Nat) : (d.setTb k x).chAt j = d.chAt j := rfl
@[simp] theorem solsAt_setTb (d : Dev) (k : Nat) (x : TbHid) (j : Nat) : (d.setTb k x).solsAt j = d.solsAt j := rfl
@[simp] theorem portsAt_setTb (d : Dev) (k : Nat) (x : TbHid) (j : Nat) : (d.setTb k x).portsAt j = d.portsAt j := rfl
@[simp] theorem ptppAt_setTb (d : Dev) (k : Nat) (x : TbHid) (j : Nat) : (d.setTb k x).ptppAt j = d.ptppAt j := rfl
@[simp] theorem ptpiAt_setTb (d : Dev) (k : Nat) (x : TbHid) (j : Nat) : (d.setTb k x).ptpiAt j = d.ptpiAt j := rfl
@[simp] theorem ptpxAt_setTb (d : Dev) (k : Nat) (x : TbHid) (j : Nat) : (d.setTb k x).ptpxAt j = d.ptpxAt j := rfl
@[simp] theorem osynAt_setTb (d : Dev) (k : Nat) (x : TbHid) (j : Nat) : (d.setTb k x).osynAt j = d.osynAt j := rfl
@[simp] theorem clkOutAt_setTb (d : Dev) (k : Nat) (x : TbHid) (j : Nat) : (d.setTb k x).clkOutAt j = d.clkOutAt j := rfl
@[simp] theorem eio_wr (d : Dev) (a : Nat) (v : Word) : (d.wr a v).eio = d.eio := rfl
@[simp] theorem eio_emit (d : Dev) (o : Out) : (d.emit o).eio = d.eio := rfl
@[simp] theorem eioAt_setEio_same (d : Dev) (k : Nat) (x : EioHid) : (d.setEio k x).eioAt k = x := by
  simp only [Dev.eioAt, Dev.setEio, Map.get_put_same]
theorem eioAt_setEio_ne (d : Dev) (k j : Nat) (x : EioHid) (h : j ≠ k) : (d.setEio k x).eioAt j = d.eioAt j := by
  simp only [Dev.eioAt, Dev.setEio, Map.get_put_ne _ _ _ _ _ h]
@[simp] theorem eioAt_wr (d : Dev) (a : Nat) (v : Word) (k : Nat) : (d.wr a v).eioAt k = d.eioAt k := rfl
@[simp] theorem rd_setEio (d : Dev) (k : Nat) (x : EioHid) (a : Nat) : (d.setEio k x).rd a = d.rd a := rfl
@[simp] theorem tbAt_setEio (d : Dev) (k : Nat) (x : EioHid) (j : Nat) : (d.setEio k x).tbAt j = d.tbAt j := rfl
@[simp] theorem ringsAt_setEio (d : Dev) (k : Nat) (x : EioHid) (j : Nat) : (d.setEio k x).ringsAt j = d.ringsAt j := rfl
@[simp] theorem egressAt_setEio (d : Dev) (k : Nat) (x : EioHid) (j : Nat) : (d.setEio k x).egressAt j = d.egressAt j := rfl
@[simp] theorem linesAt_setEio (d : Dev) (k : Nat) (x : EioHid) (j : Nat) : (d.setEio k x).linesAt j = d.linesAt j := rfl
@[simp] theorem ppsAt_setEio (d : Dev) (k : Nat) (x : EioHid) (j : Nat) : (d.setEio k x).ppsAt j = d.ppsAt j := rfl
@[simp] theorem txqAt_setEio (d : Dev) (k : Nat) (x : EioHid) (j : Nat) : (d.setEio k x).txqAt j = d.txqAt j := rfl
@[simp] theorem ebAt_setEio (d : Dev) (k : Nat) (x : EioHid) (j : Nat) : (d.setEio k x).ebAt j = d.ebAt j := rfl
@[simp] theorem refsAt_setEio (d : Dev) (k : Nat) (x : EioHid) (j : Nat) : (d.setEio k x).refsAt j = d.refsAt j := rfl
@[simp] theorem rnAt_setEio (d : Dev) (k : Nat) (x : EioHid) (j : Nat) : (d.setEio k x).rnAt j = d.rnAt j := rfl
@[simp] theorem selAt_setEio (d : Dev) (k : Nat) (x : EioHid) (j : Nat) : (d.setEio k x).selAt j = d.selAt j := rfl
@[simp] theorem srvAt_setEio (d : Dev) (k : Nat) (x : EioHid) (j : Nat) : (d.setEio k x).srvAt j = d.srvAt j := rfl
@[simp] theorem modelsAt_setEio (d : Dev) (k : Nat) (x : EioHid) (j : Nat) : (d.setEio k x).modelsAt j = d.modelsAt j := rfl
@[simp] theorem chAt_setEio (d : Dev) (k : Nat) (x : EioHid) (j : Nat) : (d.setEio k x).chAt j = d.chAt j := rfl
@[simp] theorem solsAt_setEio (d : Dev) (k : Nat) (x : EioHid) (j : Nat) : (d.setEio k x).solsAt j = d.solsAt j := rfl
@[simp] theorem portsAt_setEio (d : Dev) (k : Nat) (x : EioHid) (j : Nat) : (d.setEio k x).portsAt j = d.portsAt j := rfl
@[simp] theorem ptppAt_setEio (d : Dev) (k : Nat) (x : EioHid) (j : Nat) : (d.setEio k x).ptppAt j = d.ptppAt j := rfl
@[simp] theorem ptpiAt_setEio (d : Dev) (k : Nat) (x : EioHid) (j : Nat) : (d.setEio k x).ptpiAt j = d.ptpiAt j := rfl
@[simp] theorem ptpxAt_setEio (d : Dev) (k : Nat) (x : EioHid) (j : Nat) : (d.setEio k x).ptpxAt j = d.ptpxAt j := rfl
@[simp] theorem osynAt_setEio (d : Dev) (k : Nat) (x : EioHid) (j : Nat) : (d.setEio k x).osynAt j = d.osynAt j := rfl
@[simp] theorem clkOutAt_setEio (d : Dev) (k : Nat) (x : EioHid) (j : Nat) : (d.setEio k x).clkOutAt j = d.clkOutAt j := rfl
@[simp] theorem recd_wr (d : Dev) (a : Nat) (v : Word) : (d.wr a v).recd = d.recd := rfl
@[simp] theorem recd_emit (d : Dev) (o : Out) : (d.emit o).recd = d.recd := rfl
@[simp] theorem flt_wr (d : Dev) (a : Nat) (v : Word) : (d.wr a v).flt = d.flt := rfl
@[simp] theorem flt_emit (d : Dev) (o : Out) : (d.emit o).flt = d.flt := rfl
@[simp] theorem hif_wr (d : Dev) (a : Nat) (v : Word) : (d.wr a v).hif = d.hif := rfl
@[simp] theorem hif_emit (d : Dev) (o : Out) : (d.emit o).hif = d.hif := rfl
@[simp] theorem rings_wr (d : Dev) (a : Nat) (v : Word) : (d.wr a v).rings = d.rings := rfl
@[simp] theorem rings_emit (d : Dev) (o : Out) : (d.emit o).rings = d.rings := rfl
@[simp] theorem ringsAt_setRings_same (d : Dev) (k : Nat) (x : RingHid) : (d.setRings k x).ringsAt k = x := by
  simp only [Dev.ringsAt, Dev.setRings, Map.get_put_same]
theorem ringsAt_setRings_ne (d : Dev) (k j : Nat) (x : RingHid) (h : j ≠ k) : (d.setRings k x).ringsAt j = d.ringsAt j := by
  simp only [Dev.ringsAt, Dev.setRings, Map.get_put_ne _ _ _ _ _ h]
@[simp] theorem ringsAt_wr (d : Dev) (a : Nat) (v : Word) (k : Nat) : (d.wr a v).ringsAt k = d.ringsAt k := rfl
@[simp] theorem rd_setRings (d : Dev) (k : Nat) (x : RingHid) (a : Nat) : (d.setRings k x).rd a = d.rd a := rfl
@[simp] theorem tbAt_setRings (d : Dev) (k : Nat) (x : RingHid) (j : Nat) : (d.setRings k x).tbAt j = d.tbAt j := rfl
@[simp] theorem eioAt_setRings (d : Dev) (k : Nat) (x : RingHid) (j : Nat) : (d.setRings k x).eioAt j = d.eioAt j := rfl
@[simp] theorem egressAt_setRings (d : Dev) (k : Nat) (x : RingHid) (j : Nat) : (d.setRings k x).egressAt j = d.egressAt j := rfl
@[simp] theorem linesAt_setRings (d : Dev) (k : Nat) (x : RingHid) (j : Nat) : (d.setRings k x).linesAt j = d.linesAt j := rfl
@[simp] theorem ppsAt_setRings (d : Dev) (k : Nat) (x : RingHid) (j : Nat) : (d.setRings k x).ppsAt j = d.ppsAt j := rfl
@[simp] theorem txqAt_setRings (d : Dev) (k : Nat) (x : RingHid) (j : Nat) : (d.setRings k x).txqAt j = d.txqAt j := rfl
@[simp] theorem ebAt_setRings (d : Dev) (k : Nat) (x : RingHid) (j : Nat) : (d.setRings k x).ebAt j = d.ebAt j := rfl
@[simp] theorem refsAt_setRings (d : Dev) (k : Nat) (x : RingHid) (j : Nat) : (d.setRings k x).refsAt j = d.refsAt j := rfl
@[simp] theorem rnAt_setRings (d : Dev) (k : Nat) (x : RingHid) (j : Nat) : (d.setRings k x).rnAt j = d.rnAt j := rfl
@[simp] theorem selAt_setRings (d : Dev) (k : Nat) (x : RingHid) (j : Nat) : (d.setRings k x).selAt j = d.selAt j := rfl
@[simp] theorem srvAt_setRings (d : Dev) (k : Nat) (x : RingHid) (j : Nat) : (d.setRings k x).srvAt j = d.srvAt j := rfl
@[simp] theorem modelsAt_setRings (d : Dev) (k : Nat) (x : RingHid) (j : Nat) : (d.setRings k x).modelsAt j = d.modelsAt j := rfl
@[simp] theorem chAt_setRings (d : Dev) (k : Nat) (x : RingHid) (j : Nat) : (d.setRings k x).chAt j = d.chAt j := rfl
@[simp] theorem solsAt_setRings (d : Dev) (k : Nat) (x : RingHid) (j : Nat) : (d.setRings k x).solsAt j = d.solsAt j := rfl
@[simp] theorem portsAt_setRings (d : Dev) (k : Nat) (x : RingHid) (j : Nat) : (d.setRings k x).portsAt j = d.portsAt j := rfl
@[simp] theorem ptppAt_setRings (d : Dev) (k : Nat) (x : RingHid) (j : Nat) : (d.setRings k x).ptppAt j = d.ptppAt j := rfl
@[simp] theorem ptpiAt_setRings (d : Dev) (k : Nat) (x : RingHid) (j : Nat) : (d.setRings k x).ptpiAt j = d.ptpiAt j := rfl
@[simp] theorem ptpxAt_setRings (d : Dev) (k : Nat) (x : RingHid) (j : Nat) : (d.setRings k x).ptpxAt j = d.ptpxAt j := rfl
@[simp] theorem osynAt_setRings (d : Dev) (k : Nat) (x : RingHid) (j : Nat) : (d.setRings k x).osynAt j = d.osynAt j := rfl
@[simp] theorem clkOutAt_setRings (d : Dev) (k : Nat) (x : RingHid) (j : Nat) : (d.setRings k x).clkOutAt j = d.clkOutAt j := rfl
@[simp] theorem pe_wr (d : Dev) (a : Nat) (v : Word) : (d.wr a v).pe = d.pe := rfl
@[simp] theorem pe_emit (d : Dev) (o : Out) : (d.emit o).pe = d.pe := rfl
@[simp] theorem egress_wr (d : Dev) (a : Nat) (v : Word) : (d.wr a v).egress = d.egress := rfl
@[simp] theorem egress_emit (d : Dev) (o : Out) : (d.emit o).egress = d.egress := rfl
@[simp] theorem egressAt_setEgress_same (d : Dev) (k : Nat) (x : (List EgFrame)) : (d.setEgress k x).egressAt k = x := by
  simp only [Dev.egressAt, Dev.setEgress, Map.get_put_same]
theorem egressAt_setEgress_ne (d : Dev) (k j : Nat) (x : (List EgFrame)) (h : j ≠ k) : (d.setEgress k x).egressAt j = d.egressAt j := by
  simp only [Dev.egressAt, Dev.setEgress, Map.get_put_ne _ _ _ _ _ h]
@[simp] theorem egressAt_wr (d : Dev) (a : Nat) (v : Word) (k : Nat) : (d.wr a v).egressAt k = d.egressAt k := rfl
@[simp] theorem rd_setEgress (d : Dev) (k : Nat) (x : (List EgFrame)) (a : Nat) : (d.setEgress k x).rd a = d.rd a := rfl
@[simp] theorem tbAt_setEgress (d : Dev) (k : Nat) (x : (List EgFrame)) (j : Nat) : (d.setEgress k x).tbAt j = d.tbAt j := rfl
@[simp] theorem eioAt_setEgress (d : Dev) (k : Nat) (x : (List EgFrame)) (j : Nat) : (d.setEgress k x).eioAt j = d.eioAt j := rfl
@[simp] theorem ringsAt_setEgress (d : Dev) (k : Nat) (x : (List EgFrame)) (j : Nat) : (d.setEgress k x).ringsAt j = d.ringsAt j := rfl
@[simp] theorem linesAt_setEgress (d : Dev) (k : Nat) (x : (List EgFrame)) (j : Nat) : (d.setEgress k x).linesAt j = d.linesAt j := rfl
@[simp] theorem ppsAt_setEgress (d : Dev) (k : Nat) (x : (List EgFrame)) (j : Nat) : (d.setEgress k x).ppsAt j = d.ppsAt j := rfl
@[simp] theorem txqAt_setEgress (d : Dev) (k : Nat) (x : (List EgFrame)) (j : Nat) : (d.setEgress k x).txqAt j = d.txqAt j := rfl
@[simp] theorem ebAt_setEgress (d : Dev) (k : Nat) (x : (List EgFrame)) (j : Nat) : (d.setEgress k x).ebAt j = d.ebAt j := rfl
@[simp] theorem refsAt_setEgress (d : Dev) (k : Nat) (x : (List EgFrame)) (j : Nat) : (d.setEgress k x).refsAt j = d.refsAt j := rfl
@[simp] theorem rnAt_setEgress (d : Dev) (k : Nat) (x : (List EgFrame)) (j : Nat) : (d.setEgress k x).rnAt j = d.rnAt j := rfl
@[simp] theorem selAt_setEgress (d : Dev) (k : Nat) (x : (List EgFrame)) (j : Nat) : (d.setEgress k x).selAt j = d.selAt j := rfl
@[simp] theorem srvAt_setEgress (d : Dev) (k : Nat) (x : (List EgFrame)) (j : Nat) : (d.setEgress k x).srvAt j = d.srvAt j := rfl
@[simp] theorem modelsAt_setEgress (d : Dev) (k : Nat) (x : (List EgFrame)) (j : Nat) : (d.setEgress k x).modelsAt j = d.modelsAt j := rfl
@[simp] theorem chAt_setEgress (d : Dev) (k : Nat) (x : (List EgFrame)) (j : Nat) : (d.setEgress k x).chAt j = d.chAt j := rfl
@[simp] theorem solsAt_setEgress (d : Dev) (k : Nat) (x : (List EgFrame)) (j : Nat) : (d.setEgress k x).solsAt j = d.solsAt j := rfl
@[simp] theorem portsAt_setEgress (d : Dev) (k : Nat) (x : (List EgFrame)) (j : Nat) : (d.setEgress k x).portsAt j = d.portsAt j := rfl
@[simp] theorem ptppAt_setEgress (d : Dev) (k : Nat) (x : (List EgFrame)) (j : Nat) : (d.setEgress k x).ptppAt j = d.ptppAt j := rfl
@[simp] theorem ptpiAt_setEgress (d : Dev) (k : Nat) (x : (List EgFrame)) (j : Nat) : (d.setEgress k x).ptpiAt j = d.ptpiAt j := rfl
@[simp] theorem ptpxAt_setEgress (d : Dev) (k : Nat) (x : (List EgFrame)) (j : Nat) : (d.setEgress k x).ptpxAt j = d.ptpxAt j := rfl
@[simp] theorem osynAt_setEgress (d : Dev) (k : Nat) (x : (List EgFrame)) (j : Nat) : (d.setEgress k x).osynAt j = d.osynAt j := rfl
@[simp] theorem clkOutAt_setEgress (d : Dev) (k : Nat) (x : (List EgFrame)) (j : Nat) : (d.setEgress k x).clkOutAt j = d.clkOutAt j := rfl
@[simp] theorem lines_wr (d : Dev) (a : Nat) (v : Word) : (d.wr a v).lines = d.lines := rfl
@[simp] theorem lines_emit (d : Dev) (o : Out) : (d.emit o).lines = d.lines := rfl
@[simp] theorem linesAt_setLines_same (d : Dev) (k : Nat) (x : LineHid) : (d.setLines k x).linesAt k = x := by
  simp only [Dev.linesAt, Dev.setLines, Map.get_put_same]
theorem linesAt_setLines_ne (d : Dev) (k j : Nat) (x : LineHid) (h : j ≠ k) : (d.setLines k x).linesAt j = d.linesAt j := by
  simp only [Dev.linesAt, Dev.setLines, Map.get_put_ne _ _ _ _ _ h]
@[simp] theorem linesAt_wr (d : Dev) (a : Nat) (v : Word) (k : Nat) : (d.wr a v).linesAt k = d.linesAt k := rfl
@[simp] theorem rd_setLines (d : Dev) (k : Nat) (x : LineHid) (a : Nat) : (d.setLines k x).rd a = d.rd a := rfl
@[simp] theorem tbAt_setLines (d : Dev) (k : Nat) (x : LineHid) (j : Nat) : (d.setLines k x).tbAt j = d.tbAt j := rfl
@[simp] theorem eioAt_setLines (d : Dev) (k : Nat) (x : LineHid) (j : Nat) : (d.setLines k x).eioAt j = d.eioAt j := rfl
@[simp] theorem ringsAt_setLines (d : Dev) (k : Nat) (x : LineHid) (j : Nat) : (d.setLines k x).ringsAt j = d.ringsAt j := rfl
@[simp] theorem egressAt_setLines (d : Dev) (k : Nat) (x : LineHid) (j : Nat) : (d.setLines k x).egressAt j = d.egressAt j := rfl
@[simp] theorem ppsAt_setLines (d : Dev) (k : Nat) (x : LineHid) (j : Nat) : (d.setLines k x).ppsAt j = d.ppsAt j := rfl
@[simp] theorem txqAt_setLines (d : Dev) (k : Nat) (x : LineHid) (j : Nat) : (d.setLines k x).txqAt j = d.txqAt j := rfl
@[simp] theorem ebAt_setLines (d : Dev) (k : Nat) (x : LineHid) (j : Nat) : (d.setLines k x).ebAt j = d.ebAt j := rfl
@[simp] theorem refsAt_setLines (d : Dev) (k : Nat) (x : LineHid) (j : Nat) : (d.setLines k x).refsAt j = d.refsAt j := rfl
@[simp] theorem rnAt_setLines (d : Dev) (k : Nat) (x : LineHid) (j : Nat) : (d.setLines k x).rnAt j = d.rnAt j := rfl
@[simp] theorem selAt_setLines (d : Dev) (k : Nat) (x : LineHid) (j : Nat) : (d.setLines k x).selAt j = d.selAt j := rfl
@[simp] theorem srvAt_setLines (d : Dev) (k : Nat) (x : LineHid) (j : Nat) : (d.setLines k x).srvAt j = d.srvAt j := rfl
@[simp] theorem modelsAt_setLines (d : Dev) (k : Nat) (x : LineHid) (j : Nat) : (d.setLines k x).modelsAt j = d.modelsAt j := rfl
@[simp] theorem chAt_setLines (d : Dev) (k : Nat) (x : LineHid) (j : Nat) : (d.setLines k x).chAt j = d.chAt j := rfl
@[simp] theorem solsAt_setLines (d : Dev) (k : Nat) (x : LineHid) (j : Nat) : (d.setLines k x).solsAt j = d.solsAt j := rfl
@[simp] theorem portsAt_setLines (d : Dev) (k : Nat) (x : LineHid) (j : Nat) : (d.setLines k x).portsAt j = d.portsAt j := rfl
@[simp] theorem ptppAt_setLines (d : Dev) (k : Nat) (x : LineHid) (j : Nat) : (d.setLines k x).ptppAt j = d.ptppAt j := rfl
@[simp] theorem ptpiAt_setLines (d : Dev) (k : Nat) (x : LineHid) (j : Nat) : (d.setLines k x).ptpiAt j = d.ptpiAt j := rfl
@[simp] theorem ptpxAt_setLines (d : Dev) (k : Nat) (x : LineHid) (j : Nat) : (d.setLines k x).ptpxAt j = d.ptpxAt j := rfl
@[simp] theorem osynAt_setLines (d : Dev) (k : Nat) (x : LineHid) (j : Nat) : (d.setLines k x).osynAt j = d.osynAt j := rfl
@[simp] theorem clkOutAt_setLines (d : Dev) (k : Nat) (x : LineHid) (j : Nat) : (d.setLines k x).clkOutAt j = d.clkOutAt j := rfl
@[simp] theorem pps_wr (d : Dev) (a : Nat) (v : Word) : (d.wr a v).pps = d.pps := rfl
@[simp] theorem pps_emit (d : Dev) (o : Out) : (d.emit o).pps = d.pps := rfl
@[simp] theorem ppsAt_setPps_same (d : Dev) (k : Nat) (x : PpsHid) : (d.setPps k x).ppsAt k = x := by
  simp only [Dev.ppsAt, Dev.setPps, Map.get_put_same]
theorem ppsAt_setPps_ne (d : Dev) (k j : Nat) (x : PpsHid) (h : j ≠ k) : (d.setPps k x).ppsAt j = d.ppsAt j := by
  simp only [Dev.ppsAt, Dev.setPps, Map.get_put_ne _ _ _ _ _ h]
@[simp] theorem ppsAt_wr (d : Dev) (a : Nat) (v : Word) (k : Nat) : (d.wr a v).ppsAt k = d.ppsAt k := rfl
@[simp] theorem rd_setPps (d : Dev) (k : Nat) (x : PpsHid) (a : Nat) : (d.setPps k x).rd a = d.rd a := rfl
@[simp] theorem tbAt_setPps (d : Dev) (k : Nat) (x : PpsHid) (j : Nat) : (d.setPps k x).tbAt j = d.tbAt j := rfl
@[simp] theorem eioAt_setPps (d : Dev) (k : Nat) (x : PpsHid) (j : Nat) : (d.setPps k x).eioAt j = d.eioAt j := rfl
@[simp] theorem ringsAt_setPps (d : Dev) (k : Nat) (x : PpsHid) (j : Nat) : (d.setPps k x).ringsAt j = d.ringsAt j := rfl
@[simp] theorem egressAt_setPps (d : Dev) (k : Nat) (x : PpsHid) (j : Nat) : (d.setPps k x).egressAt j = d.egressAt j := rfl
@[simp] theorem linesAt_setPps (d : Dev) (k : Nat) (x : PpsHid) (j : Nat) : (d.setPps k x).linesAt j = d.linesAt j := rfl
@[simp] theorem txqAt_setPps (d : Dev) (k : Nat) (x : PpsHid) (j : Nat) : (d.setPps k x).txqAt j = d.txqAt j := rfl
@[simp] theorem ebAt_setPps (d : Dev) (k : Nat) (x : PpsHid) (j : Nat) : (d.setPps k x).ebAt j = d.ebAt j := rfl
@[simp] theorem refsAt_setPps (d : Dev) (k : Nat) (x : PpsHid) (j : Nat) : (d.setPps k x).refsAt j = d.refsAt j := rfl
@[simp] theorem rnAt_setPps (d : Dev) (k : Nat) (x : PpsHid) (j : Nat) : (d.setPps k x).rnAt j = d.rnAt j := rfl
@[simp] theorem selAt_setPps (d : Dev) (k : Nat) (x : PpsHid) (j : Nat) : (d.setPps k x).selAt j = d.selAt j := rfl
@[simp] theorem srvAt_setPps (d : Dev) (k : Nat) (x : PpsHid) (j : Nat) : (d.setPps k x).srvAt j = d.srvAt j := rfl
@[simp] theorem modelsAt_setPps (d : Dev) (k : Nat) (x : PpsHid) (j : Nat) : (d.setPps k x).modelsAt j = d.modelsAt j := rfl
@[simp] theorem chAt_setPps (d : Dev) (k : Nat) (x : PpsHid) (j : Nat) : (d.setPps k x).chAt j = d.chAt j := rfl
@[simp] theorem solsAt_setPps (d : Dev) (k : Nat) (x : PpsHid) (j : Nat) : (d.setPps k x).solsAt j = d.solsAt j := rfl
@[simp] theorem portsAt_setPps (d : Dev) (k : Nat) (x : PpsHid) (j : Nat) : (d.setPps k x).portsAt j = d.portsAt j := rfl
@[simp] theorem ptppAt_setPps (d : Dev) (k : Nat) (x : PpsHid) (j : Nat) : (d.setPps k x).ptppAt j = d.ptppAt j := rfl
@[simp] theorem ptpiAt_setPps (d : Dev) (k : Nat) (x : PpsHid) (j : Nat) : (d.setPps k x).ptpiAt j = d.ptpiAt j := rfl
@[simp] theorem ptpxAt_setPps (d : Dev) (k : Nat) (x : PpsHid) (j : Nat) : (d.setPps k x).ptpxAt j = d.ptpxAt j := rfl
@[simp] theorem osynAt_setPps (d : Dev) (k : Nat) (x : PpsHid) (j : Nat) : (d.setPps k x).osynAt j = d.osynAt j := rfl
@[simp] theorem clkOutAt_setPps (d : Dev) (k : Nat) (x : PpsHid) (j : Nat) : (d.setPps k x).clkOutAt j = d.clkOutAt j := rfl
@[simp] theorem txq_wr (d : Dev) (a : Nat) (v : Word) : (d.wr a v).txq = d.txq := rfl
@[simp] theorem txq_emit (d : Dev) (o : Out) : (d.emit o).txq = d.txq := rfl
@[simp] theorem txqAt_setTxq_same (d : Dev) (k : Nat) (x : (List TxStamp)) : (d.setTxq k x).txqAt k = x := by
  simp only [Dev.txqAt, Dev.setTxq, Map.get_put_same]
theorem txqAt_setTxq_ne (d : Dev) (k j : Nat) (x : (List TxStamp)) (h : j ≠ k) : (d.setTxq k x).txqAt j = d.txqAt j := by
  simp only [Dev.txqAt, Dev.setTxq, Map.get_put_ne _ _ _ _ _ h]
@[simp] theorem txqAt_wr (d : Dev) (a : Nat) (v : Word) (k : Nat) : (d.wr a v).txqAt k = d.txqAt k := rfl
@[simp] theorem rd_setTxq (d : Dev) (k : Nat) (x : (List TxStamp)) (a : Nat) : (d.setTxq k x).rd a = d.rd a := rfl
@[simp] theorem tbAt_setTxq (d : Dev) (k : Nat) (x : (List TxStamp)) (j : Nat) : (d.setTxq k x).tbAt j = d.tbAt j := rfl
@[simp] theorem eioAt_setTxq (d : Dev) (k : Nat) (x : (List TxStamp)) (j : Nat) : (d.setTxq k x).eioAt j = d.eioAt j := rfl
@[simp] theorem ringsAt_setTxq (d : Dev) (k : Nat) (x : (List TxStamp)) (j : Nat) : (d.setTxq k x).ringsAt j = d.ringsAt j := rfl
@[simp] theorem egressAt_setTxq (d : Dev) (k : Nat) (x : (List TxStamp)) (j : Nat) : (d.setTxq k x).egressAt j = d.egressAt j := rfl
@[simp] theorem linesAt_setTxq (d : Dev) (k : Nat) (x : (List TxStamp)) (j : Nat) : (d.setTxq k x).linesAt j = d.linesAt j := rfl
@[simp] theorem ppsAt_setTxq (d : Dev) (k : Nat) (x : (List TxStamp)) (j : Nat) : (d.setTxq k x).ppsAt j = d.ppsAt j := rfl
@[simp] theorem ebAt_setTxq (d : Dev) (k : Nat) (x : (List TxStamp)) (j : Nat) : (d.setTxq k x).ebAt j = d.ebAt j := rfl
@[simp] theorem refsAt_setTxq (d : Dev) (k : Nat) (x : (List TxStamp)) (j : Nat) : (d.setTxq k x).refsAt j = d.refsAt j := rfl
@[simp] theorem rnAt_setTxq (d : Dev) (k : Nat) (x : (List TxStamp)) (j : Nat) : (d.setTxq k x).rnAt j = d.rnAt j := rfl
@[simp] theorem selAt_setTxq (d : Dev) (k : Nat) (x : (List TxStamp)) (j : Nat) : (d.setTxq k x).selAt j = d.selAt j := rfl
@[simp] theorem srvAt_setTxq (d : Dev) (k : Nat) (x : (List TxStamp)) (j : Nat) : (d.setTxq k x).srvAt j = d.srvAt j := rfl
@[simp] theorem modelsAt_setTxq (d : Dev) (k : Nat) (x : (List TxStamp)) (j : Nat) : (d.setTxq k x).modelsAt j = d.modelsAt j := rfl
@[simp] theorem chAt_setTxq (d : Dev) (k : Nat) (x : (List TxStamp)) (j : Nat) : (d.setTxq k x).chAt j = d.chAt j := rfl
@[simp] theorem solsAt_setTxq (d : Dev) (k : Nat) (x : (List TxStamp)) (j : Nat) : (d.setTxq k x).solsAt j = d.solsAt j := rfl
@[simp] theorem portsAt_setTxq (d : Dev) (k : Nat) (x : (List TxStamp)) (j : Nat) : (d.setTxq k x).portsAt j = d.portsAt j := rfl
@[simp] theorem ptppAt_setTxq (d : Dev) (k : Nat) (x : (List TxStamp)) (j : Nat) : (d.setTxq k x).ptppAt j = d.ptppAt j := rfl
@[simp] theorem ptpiAt_setTxq (d : Dev) (k : Nat) (x : (List TxStamp)) (j : Nat) : (d.setTxq k x).ptpiAt j = d.ptpiAt j := rfl
@[simp] theorem ptpxAt_setTxq (d : Dev) (k : Nat) (x : (List TxStamp)) (j : Nat) : (d.setTxq k x).ptpxAt j = d.ptpxAt j := rfl
@[simp] theorem osynAt_setTxq (d : Dev) (k : Nat) (x : (List TxStamp)) (j : Nat) : (d.setTxq k x).osynAt j = d.osynAt j := rfl
@[simp] theorem clkOutAt_setTxq (d : Dev) (k : Nat) (x : (List TxStamp)) (j : Nat) : (d.setTxq k x).clkOutAt j = d.clkOutAt j := rfl
@[simp] theorem eb_wr (d : Dev) (a : Nat) (v : Word) : (d.wr a v).eb = d.eb := rfl
@[simp] theorem eb_emit (d : Dev) (o : Out) : (d.emit o).eb = d.eb := rfl
@[simp] theorem ebAt_setEb_same (d : Dev) (k : Nat) (x : EbHid) : (d.setEb k x).ebAt k = x := by
  simp only [Dev.ebAt, Dev.setEb, Map.get_put_same]
theorem ebAt_setEb_ne (d : Dev) (k j : Nat) (x : EbHid) (h : j ≠ k) : (d.setEb k x).ebAt j = d.ebAt j := by
  simp only [Dev.ebAt, Dev.setEb, Map.get_put_ne _ _ _ _ _ h]
@[simp] theorem ebAt_wr (d : Dev) (a : Nat) (v : Word) (k : Nat) : (d.wr a v).ebAt k = d.ebAt k := rfl
@[simp] theorem rd_setEb (d : Dev) (k : Nat) (x : EbHid) (a : Nat) : (d.setEb k x).rd a = d.rd a := rfl
@[simp] theorem tbAt_setEb (d : Dev) (k : Nat) (x : EbHid) (j : Nat) : (d.setEb k x).tbAt j = d.tbAt j := rfl
@[simp] theorem eioAt_setEb (d : Dev) (k : Nat) (x : EbHid) (j : Nat) : (d.setEb k x).eioAt j = d.eioAt j := rfl
@[simp] theorem ringsAt_setEb (d : Dev) (k : Nat) (x : EbHid) (j : Nat) : (d.setEb k x).ringsAt j = d.ringsAt j := rfl
@[simp] theorem egressAt_setEb (d : Dev) (k : Nat) (x : EbHid) (j : Nat) : (d.setEb k x).egressAt j = d.egressAt j := rfl
@[simp] theorem linesAt_setEb (d : Dev) (k : Nat) (x : EbHid) (j : Nat) : (d.setEb k x).linesAt j = d.linesAt j := rfl
@[simp] theorem ppsAt_setEb (d : Dev) (k : Nat) (x : EbHid) (j : Nat) : (d.setEb k x).ppsAt j = d.ppsAt j := rfl
@[simp] theorem txqAt_setEb (d : Dev) (k : Nat) (x : EbHid) (j : Nat) : (d.setEb k x).txqAt j = d.txqAt j := rfl
@[simp] theorem refsAt_setEb (d : Dev) (k : Nat) (x : EbHid) (j : Nat) : (d.setEb k x).refsAt j = d.refsAt j := rfl
@[simp] theorem rnAt_setEb (d : Dev) (k : Nat) (x : EbHid) (j : Nat) : (d.setEb k x).rnAt j = d.rnAt j := rfl
@[simp] theorem selAt_setEb (d : Dev) (k : Nat) (x : EbHid) (j : Nat) : (d.setEb k x).selAt j = d.selAt j := rfl
@[simp] theorem srvAt_setEb (d : Dev) (k : Nat) (x : EbHid) (j : Nat) : (d.setEb k x).srvAt j = d.srvAt j := rfl
@[simp] theorem modelsAt_setEb (d : Dev) (k : Nat) (x : EbHid) (j : Nat) : (d.setEb k x).modelsAt j = d.modelsAt j := rfl
@[simp] theorem chAt_setEb (d : Dev) (k : Nat) (x : EbHid) (j : Nat) : (d.setEb k x).chAt j = d.chAt j := rfl
@[simp] theorem solsAt_setEb (d : Dev) (k : Nat) (x : EbHid) (j : Nat) : (d.setEb k x).solsAt j = d.solsAt j := rfl
@[simp] theorem portsAt_setEb (d : Dev) (k : Nat) (x : EbHid) (j : Nat) : (d.setEb k x).portsAt j = d.portsAt j := rfl
@[simp] theorem ptppAt_setEb (d : Dev) (k : Nat) (x : EbHid) (j : Nat) : (d.setEb k x).ptppAt j = d.ptppAt j := rfl
@[simp] theorem ptpiAt_setEb (d : Dev) (k : Nat) (x : EbHid) (j : Nat) : (d.setEb k x).ptpiAt j = d.ptpiAt j := rfl
@[simp] theorem ptpxAt_setEb (d : Dev) (k : Nat) (x : EbHid) (j : Nat) : (d.setEb k x).ptpxAt j = d.ptpxAt j := rfl
@[simp] theorem osynAt_setEb (d : Dev) (k : Nat) (x : EbHid) (j : Nat) : (d.setEb k x).osynAt j = d.osynAt j := rfl
@[simp] theorem clkOutAt_setEb (d : Dev) (k : Nat) (x : EbHid) (j : Nat) : (d.setEb k x).clkOutAt j = d.clkOutAt j := rfl
@[simp] theorem refs_wr (d : Dev) (a : Nat) (v : Word) : (d.wr a v).refs = d.refs := rfl
@[simp] theorem refs_emit (d : Dev) (o : Out) : (d.emit o).refs = d.refs := rfl
@[simp] theorem refsAt_setRefs_same (d : Dev) (k : Nat) (x : RefHid) : (d.setRefs k x).refsAt k = x := by
  simp only [Dev.refsAt, Dev.setRefs, Map.get_put_same]
theorem refsAt_setRefs_ne (d : Dev) (k j : Nat) (x : RefHid) (h : j ≠ k) : (d.setRefs k x).refsAt j = d.refsAt j := by
  simp only [Dev.refsAt, Dev.setRefs, Map.get_put_ne _ _ _ _ _ h]
@[simp] theorem refsAt_wr (d : Dev) (a : Nat) (v : Word) (k : Nat) : (d.wr a v).refsAt k = d.refsAt k := rfl
@[simp] theorem rd_setRefs (d : Dev) (k : Nat) (x : RefHid) (a : Nat) : (d.setRefs k x).rd a = d.rd a := rfl
@[simp] theorem tbAt_setRefs (d : Dev) (k : Nat) (x : RefHid) (j : Nat) : (d.setRefs k x).tbAt j = d.tbAt j := rfl
@[simp] theorem eioAt_setRefs (d : Dev) (k : Nat) (x : RefHid) (j : Nat) : (d.setRefs k x).eioAt j = d.eioAt j := rfl
@[simp] theorem ringsAt_setRefs (d : Dev) (k : Nat) (x : RefHid) (j : Nat) : (d.setRefs k x).ringsAt j = d.ringsAt j := rfl
@[simp] theorem egressAt_setRefs (d : Dev) (k : Nat) (x : RefHid) (j : Nat) : (d.setRefs k x).egressAt j = d.egressAt j := rfl
@[simp] theorem linesAt_setRefs (d : Dev) (k : Nat) (x : RefHid) (j : Nat) : (d.setRefs k x).linesAt j = d.linesAt j := rfl
@[simp] theorem ppsAt_setRefs (d : Dev) (k : Nat) (x : RefHid) (j : Nat) : (d.setRefs k x).ppsAt j = d.ppsAt j := rfl
@[simp] theorem txqAt_setRefs (d : Dev) (k : Nat) (x : RefHid) (j : Nat) : (d.setRefs k x).txqAt j = d.txqAt j := rfl
@[simp] theorem ebAt_setRefs (d : Dev) (k : Nat) (x : RefHid) (j : Nat) : (d.setRefs k x).ebAt j = d.ebAt j := rfl
@[simp] theorem rnAt_setRefs (d : Dev) (k : Nat) (x : RefHid) (j : Nat) : (d.setRefs k x).rnAt j = d.rnAt j := rfl
@[simp] theorem selAt_setRefs (d : Dev) (k : Nat) (x : RefHid) (j : Nat) : (d.setRefs k x).selAt j = d.selAt j := rfl
@[simp] theorem srvAt_setRefs (d : Dev) (k : Nat) (x : RefHid) (j : Nat) : (d.setRefs k x).srvAt j = d.srvAt j := rfl
@[simp] theorem modelsAt_setRefs (d : Dev) (k : Nat) (x : RefHid) (j : Nat) : (d.setRefs k x).modelsAt j = d.modelsAt j := rfl
@[simp] theorem chAt_setRefs (d : Dev) (k : Nat) (x : RefHid) (j : Nat) : (d.setRefs k x).chAt j = d.chAt j := rfl
@[simp] theorem solsAt_setRefs (d : Dev) (k : Nat) (x : RefHid) (j : Nat) : (d.setRefs k x).solsAt j = d.solsAt j := rfl
@[simp] theorem portsAt_setRefs (d : Dev) (k : Nat) (x : RefHid) (j : Nat) : (d.setRefs k x).portsAt j = d.portsAt j := rfl
@[simp] theorem ptppAt_setRefs (d : Dev) (k : Nat) (x : RefHid) (j : Nat) : (d.setRefs k x).ptppAt j = d.ptppAt j := rfl
@[simp] theorem ptpiAt_setRefs (d : Dev) (k : Nat) (x : RefHid) (j : Nat) : (d.setRefs k x).ptpiAt j = d.ptpiAt j := rfl
@[simp] theorem ptpxAt_setRefs (d : Dev) (k : Nat) (x : RefHid) (j : Nat) : (d.setRefs k x).ptpxAt j = d.ptpxAt j := rfl
@[simp] theorem osynAt_setRefs (d : Dev) (k : Nat) (x : RefHid) (j : Nat) : (d.setRefs k x).osynAt j = d.osynAt j := rfl
@[simp] theorem clkOutAt_setRefs (d : Dev) (k : Nat) (x : RefHid) (j : Nat) : (d.setRefs k x).clkOutAt j = d.clkOutAt j := rfl
@[simp] theorem rn_wr (d : Dev) (a : Nat) (v : Word) : (d.wr a v).rn = d.rn := rfl
@[simp] theorem rn_emit (d : Dev) (o : Out) : (d.emit o).rn = d.rn := rfl
@[simp] theorem rnAt_setRn_same (d : Dev) (k : Nat) (x : RnHid) : (d.setRn k x).rnAt k = x := by
  simp only [Dev.rnAt, Dev.setRn, Map.get_put_same]
theorem rnAt_setRn_ne (d : Dev) (k j : Nat) (x : RnHid) (h : j ≠ k) : (d.setRn k x).rnAt j = d.rnAt j := by
  simp only [Dev.rnAt, Dev.setRn, Map.get_put_ne _ _ _ _ _ h]
@[simp] theorem rnAt_wr (d : Dev) (a : Nat) (v : Word) (k : Nat) : (d.wr a v).rnAt k = d.rnAt k := rfl
@[simp] theorem rd_setRn (d : Dev) (k : Nat) (x : RnHid) (a : Nat) : (d.setRn k x).rd a = d.rd a := rfl
@[simp] theorem tbAt_setRn (d : Dev) (k : Nat) (x : RnHid) (j : Nat) : (d.setRn k x).tbAt j = d.tbAt j := rfl
@[simp] theorem eioAt_setRn (d : Dev) (k : Nat) (x : RnHid) (j : Nat) : (d.setRn k x).eioAt j = d.eioAt j := rfl
@[simp] theorem ringsAt_setRn (d : Dev) (k : Nat) (x : RnHid) (j : Nat) : (d.setRn k x).ringsAt j = d.ringsAt j := rfl
@[simp] theorem egressAt_setRn (d : Dev) (k : Nat) (x : RnHid) (j : Nat) : (d.setRn k x).egressAt j = d.egressAt j := rfl
@[simp] theorem linesAt_setRn (d : Dev) (k : Nat) (x : RnHid) (j : Nat) : (d.setRn k x).linesAt j = d.linesAt j := rfl
@[simp] theorem ppsAt_setRn (d : Dev) (k : Nat) (x : RnHid) (j : Nat) : (d.setRn k x).ppsAt j = d.ppsAt j := rfl
@[simp] theorem txqAt_setRn (d : Dev) (k : Nat) (x : RnHid) (j : Nat) : (d.setRn k x).txqAt j = d.txqAt j := rfl
@[simp] theorem ebAt_setRn (d : Dev) (k : Nat) (x : RnHid) (j : Nat) : (d.setRn k x).ebAt j = d.ebAt j := rfl
@[simp] theorem refsAt_setRn (d : Dev) (k : Nat) (x : RnHid) (j : Nat) : (d.setRn k x).refsAt j = d.refsAt j := rfl
@[simp] theorem selAt_setRn (d : Dev) (k : Nat) (x : RnHid) (j : Nat) : (d.setRn k x).selAt j = d.selAt j := rfl
@[simp] theorem srvAt_setRn (d : Dev) (k : Nat) (x : RnHid) (j : Nat) : (d.setRn k x).srvAt j = d.srvAt j := rfl
@[simp] theorem modelsAt_setRn (d : Dev) (k : Nat) (x : RnHid) (j : Nat) : (d.setRn k x).modelsAt j = d.modelsAt j := rfl
@[simp] theorem chAt_setRn (d : Dev) (k : Nat) (x : RnHid) (j : Nat) : (d.setRn k x).chAt j = d.chAt j := rfl
@[simp] theorem solsAt_setRn (d : Dev) (k : Nat) (x : RnHid) (j : Nat) : (d.setRn k x).solsAt j = d.solsAt j := rfl
@[simp] theorem portsAt_setRn (d : Dev) (k : Nat) (x : RnHid) (j : Nat) : (d.setRn k x).portsAt j = d.portsAt j := rfl
@[simp] theorem ptppAt_setRn (d : Dev) (k : Nat) (x : RnHid) (j : Nat) : (d.setRn k x).ptppAt j = d.ptppAt j := rfl
@[simp] theorem ptpiAt_setRn (d : Dev) (k : Nat) (x : RnHid) (j : Nat) : (d.setRn k x).ptpiAt j = d.ptpiAt j := rfl
@[simp] theorem ptpxAt_setRn (d : Dev) (k : Nat) (x : RnHid) (j : Nat) : (d.setRn k x).ptpxAt j = d.ptpxAt j := rfl
@[simp] theorem osynAt_setRn (d : Dev) (k : Nat) (x : RnHid) (j : Nat) : (d.setRn k x).osynAt j = d.osynAt j := rfl
@[simp] theorem clkOutAt_setRn (d : Dev) (k : Nat) (x : RnHid) (j : Nat) : (d.setRn k x).clkOutAt j = d.clkOutAt j := rfl
@[simp] theorem sel_wr (d : Dev) (a : Nat) (v : Word) : (d.wr a v).sel = d.sel := rfl
@[simp] theorem sel_emit (d : Dev) (o : Out) : (d.emit o).sel = d.sel := rfl
@[simp] theorem selAt_setSel_same (d : Dev) (k : Nat) (x : SelHid) : (d.setSel k x).selAt k = x := by
  simp only [Dev.selAt, Dev.setSel, Map.get_put_same]
theorem selAt_setSel_ne (d : Dev) (k j : Nat) (x : SelHid) (h : j ≠ k) : (d.setSel k x).selAt j = d.selAt j := by
  simp only [Dev.selAt, Dev.setSel, Map.get_put_ne _ _ _ _ _ h]
@[simp] theorem selAt_wr (d : Dev) (a : Nat) (v : Word) (k : Nat) : (d.wr a v).selAt k = d.selAt k := rfl
@[simp] theorem rd_setSel (d : Dev) (k : Nat) (x : SelHid) (a : Nat) : (d.setSel k x).rd a = d.rd a := rfl
@[simp] theorem tbAt_setSel (d : Dev) (k : Nat) (x : SelHid) (j : Nat) : (d.setSel k x).tbAt j = d.tbAt j := rfl
@[simp] theorem eioAt_setSel (d : Dev) (k : Nat) (x : SelHid) (j : Nat) : (d.setSel k x).eioAt j = d.eioAt j := rfl
@[simp] theorem ringsAt_setSel (d : Dev) (k : Nat) (x : SelHid) (j : Nat) : (d.setSel k x).ringsAt j = d.ringsAt j := rfl
@[simp] theorem egressAt_setSel (d : Dev) (k : Nat) (x : SelHid) (j : Nat) : (d.setSel k x).egressAt j = d.egressAt j := rfl
@[simp] theorem linesAt_setSel (d : Dev) (k : Nat) (x : SelHid) (j : Nat) : (d.setSel k x).linesAt j = d.linesAt j := rfl
@[simp] theorem ppsAt_setSel (d : Dev) (k : Nat) (x : SelHid) (j : Nat) : (d.setSel k x).ppsAt j = d.ppsAt j := rfl
@[simp] theorem txqAt_setSel (d : Dev) (k : Nat) (x : SelHid) (j : Nat) : (d.setSel k x).txqAt j = d.txqAt j := rfl
@[simp] theorem ebAt_setSel (d : Dev) (k : Nat) (x : SelHid) (j : Nat) : (d.setSel k x).ebAt j = d.ebAt j := rfl
@[simp] theorem refsAt_setSel (d : Dev) (k : Nat) (x : SelHid) (j : Nat) : (d.setSel k x).refsAt j = d.refsAt j := rfl
@[simp] theorem rnAt_setSel (d : Dev) (k : Nat) (x : SelHid) (j : Nat) : (d.setSel k x).rnAt j = d.rnAt j := rfl
@[simp] theorem srvAt_setSel (d : Dev) (k : Nat) (x : SelHid) (j : Nat) : (d.setSel k x).srvAt j = d.srvAt j := rfl
@[simp] theorem modelsAt_setSel (d : Dev) (k : Nat) (x : SelHid) (j : Nat) : (d.setSel k x).modelsAt j = d.modelsAt j := rfl
@[simp] theorem chAt_setSel (d : Dev) (k : Nat) (x : SelHid) (j : Nat) : (d.setSel k x).chAt j = d.chAt j := rfl
@[simp] theorem solsAt_setSel (d : Dev) (k : Nat) (x : SelHid) (j : Nat) : (d.setSel k x).solsAt j = d.solsAt j := rfl
@[simp] theorem portsAt_setSel (d : Dev) (k : Nat) (x : SelHid) (j : Nat) : (d.setSel k x).portsAt j = d.portsAt j := rfl
@[simp] theorem ptppAt_setSel (d : Dev) (k : Nat) (x : SelHid) (j : Nat) : (d.setSel k x).ptppAt j = d.ptppAt j := rfl
@[simp] theorem ptpiAt_setSel (d : Dev) (k : Nat) (x : SelHid) (j : Nat) : (d.setSel k x).ptpiAt j = d.ptpiAt j := rfl
@[simp] theorem ptpxAt_setSel (d : Dev) (k : Nat) (x : SelHid) (j : Nat) : (d.setSel k x).ptpxAt j = d.ptpxAt j := rfl
@[simp] theorem osynAt_setSel (d : Dev) (k : Nat) (x : SelHid) (j : Nat) : (d.setSel k x).osynAt j = d.osynAt j := rfl
@[simp] theorem clkOutAt_setSel (d : Dev) (k : Nat) (x : SelHid) (j : Nat) : (d.setSel k x).clkOutAt j = d.clkOutAt j := rfl
@[simp] theorem atom_wr (d : Dev) (a : Nat) (v : Word) : (d.wr a v).atom = d.atom := rfl
@[simp] theorem atom_emit (d : Dev) (o : Out) : (d.emit o).atom = d.atom := rfl
@[simp] theorem srv_wr (d : Dev) (a : Nat) (v : Word) : (d.wr a v).srv = d.srv := rfl
@[simp] theorem srv_emit (d : Dev) (o : Out) : (d.emit o).srv = d.srv := rfl
@[simp] theorem srvAt_setSrv_same (d : Dev) (k : Nat) (x : SrvHid) : (d.setSrv k x).srvAt k = x := by
  simp only [Dev.srvAt, Dev.setSrv, Map.get_put_same]
theorem srvAt_setSrv_ne (d : Dev) (k j : Nat) (x : SrvHid) (h : j ≠ k) : (d.setSrv k x).srvAt j = d.srvAt j := by
  simp only [Dev.srvAt, Dev.setSrv, Map.get_put_ne _ _ _ _ _ h]
@[simp] theorem srvAt_wr (d : Dev) (a : Nat) (v : Word) (k : Nat) : (d.wr a v).srvAt k = d.srvAt k := rfl
@[simp] theorem rd_setSrv (d : Dev) (k : Nat) (x : SrvHid) (a : Nat) : (d.setSrv k x).rd a = d.rd a := rfl
@[simp] theorem tbAt_setSrv (d : Dev) (k : Nat) (x : SrvHid) (j : Nat) : (d.setSrv k x).tbAt j = d.tbAt j := rfl
@[simp] theorem eioAt_setSrv (d : Dev) (k : Nat) (x : SrvHid) (j : Nat) : (d.setSrv k x).eioAt j = d.eioAt j := rfl
@[simp] theorem ringsAt_setSrv (d : Dev) (k : Nat) (x : SrvHid) (j : Nat) : (d.setSrv k x).ringsAt j = d.ringsAt j := rfl
@[simp] theorem egressAt_setSrv (d : Dev) (k : Nat) (x : SrvHid) (j : Nat) : (d.setSrv k x).egressAt j = d.egressAt j := rfl
@[simp] theorem linesAt_setSrv (d : Dev) (k : Nat) (x : SrvHid) (j : Nat) : (d.setSrv k x).linesAt j = d.linesAt j := rfl
@[simp] theorem ppsAt_setSrv (d : Dev) (k : Nat) (x : SrvHid) (j : Nat) : (d.setSrv k x).ppsAt j = d.ppsAt j := rfl
@[simp] theorem txqAt_setSrv (d : Dev) (k : Nat) (x : SrvHid) (j : Nat) : (d.setSrv k x).txqAt j = d.txqAt j := rfl
@[simp] theorem ebAt_setSrv (d : Dev) (k : Nat) (x : SrvHid) (j : Nat) : (d.setSrv k x).ebAt j = d.ebAt j := rfl
@[simp] theorem refsAt_setSrv (d : Dev) (k : Nat) (x : SrvHid) (j : Nat) : (d.setSrv k x).refsAt j = d.refsAt j := rfl
@[simp] theorem rnAt_setSrv (d : Dev) (k : Nat) (x : SrvHid) (j : Nat) : (d.setSrv k x).rnAt j = d.rnAt j := rfl
@[simp] theorem selAt_setSrv (d : Dev) (k : Nat) (x : SrvHid) (j : Nat) : (d.setSrv k x).selAt j = d.selAt j := rfl
@[simp] theorem modelsAt_setSrv (d : Dev) (k : Nat) (x : SrvHid) (j : Nat) : (d.setSrv k x).modelsAt j = d.modelsAt j := rfl
@[simp] theorem chAt_setSrv (d : Dev) (k : Nat) (x : SrvHid) (j : Nat) : (d.setSrv k x).chAt j = d.chAt j := rfl
@[simp] theorem solsAt_setSrv (d : Dev) (k : Nat) (x : SrvHid) (j : Nat) : (d.setSrv k x).solsAt j = d.solsAt j := rfl
@[simp] theorem portsAt_setSrv (d : Dev) (k : Nat) (x : SrvHid) (j : Nat) : (d.setSrv k x).portsAt j = d.portsAt j := rfl
@[simp] theorem ptppAt_setSrv (d : Dev) (k : Nat) (x : SrvHid) (j : Nat) : (d.setSrv k x).ptppAt j = d.ptppAt j := rfl
@[simp] theorem ptpiAt_setSrv (d : Dev) (k : Nat) (x : SrvHid) (j : Nat) : (d.setSrv k x).ptpiAt j = d.ptpiAt j := rfl
@[simp] theorem ptpxAt_setSrv (d : Dev) (k : Nat) (x : SrvHid) (j : Nat) : (d.setSrv k x).ptpxAt j = d.ptpxAt j := rfl
@[simp] theorem osynAt_setSrv (d : Dev) (k : Nat) (x : SrvHid) (j : Nat) : (d.setSrv k x).osynAt j = d.osynAt j := rfl
@[simp] theorem clkOutAt_setSrv (d : Dev) (k : Nat) (x : SrvHid) (j : Nat) : (d.setSrv k x).clkOutAt j = d.clkOutAt j := rfl
@[simp] theorem models_wr (d : Dev) (a : Nat) (v : Word) : (d.wr a v).models = d.models := rfl
@[simp] theorem models_emit (d : Dev) (o : Out) : (d.emit o).models = d.models := rfl
@[simp] theorem modelsAt_setModels_same (d : Dev) (k : Nat) (x : ModelHid) : (d.setModels k x).modelsAt k = x := by
  simp only [Dev.modelsAt, Dev.setModels, Map.get_put_same]
theorem modelsAt_setModels_ne (d : Dev) (k j : Nat) (x : ModelHid) (h : j ≠ k) : (d.setModels k x).modelsAt j = d.modelsAt j := by
  simp only [Dev.modelsAt, Dev.setModels, Map.get_put_ne _ _ _ _ _ h]
@[simp] theorem modelsAt_wr (d : Dev) (a : Nat) (v : Word) (k : Nat) : (d.wr a v).modelsAt k = d.modelsAt k := rfl
@[simp] theorem rd_setModels (d : Dev) (k : Nat) (x : ModelHid) (a : Nat) : (d.setModels k x).rd a = d.rd a := rfl
@[simp] theorem tbAt_setModels (d : Dev) (k : Nat) (x : ModelHid) (j : Nat) : (d.setModels k x).tbAt j = d.tbAt j := rfl
@[simp] theorem eioAt_setModels (d : Dev) (k : Nat) (x : ModelHid) (j : Nat) : (d.setModels k x).eioAt j = d.eioAt j := rfl
@[simp] theorem ringsAt_setModels (d : Dev) (k : Nat) (x : ModelHid) (j : Nat) : (d.setModels k x).ringsAt j = d.ringsAt j := rfl
@[simp] theorem egressAt_setModels (d : Dev) (k : Nat) (x : ModelHid) (j : Nat) : (d.setModels k x).egressAt j = d.egressAt j := rfl
@[simp] theorem linesAt_setModels (d : Dev) (k : Nat) (x : ModelHid) (j : Nat) : (d.setModels k x).linesAt j = d.linesAt j := rfl
@[simp] theorem ppsAt_setModels (d : Dev) (k : Nat) (x : ModelHid) (j : Nat) : (d.setModels k x).ppsAt j = d.ppsAt j := rfl
@[simp] theorem txqAt_setModels (d : Dev) (k : Nat) (x : ModelHid) (j : Nat) : (d.setModels k x).txqAt j = d.txqAt j := rfl
@[simp] theorem ebAt_setModels (d : Dev) (k : Nat) (x : ModelHid) (j : Nat) : (d.setModels k x).ebAt j = d.ebAt j := rfl
@[simp] theorem refsAt_setModels (d : Dev) (k : Nat) (x : ModelHid) (j : Nat) : (d.setModels k x).refsAt j = d.refsAt j := rfl
@[simp] theorem rnAt_setModels (d : Dev) (k : Nat) (x : ModelHid) (j : Nat) : (d.setModels k x).rnAt j = d.rnAt j := rfl
@[simp] theorem selAt_setModels (d : Dev) (k : Nat) (x : ModelHid) (j : Nat) : (d.setModels k x).selAt j = d.selAt j := rfl
@[simp] theorem srvAt_setModels (d : Dev) (k : Nat) (x : ModelHid) (j : Nat) : (d.setModels k x).srvAt j = d.srvAt j := rfl
@[simp] theorem chAt_setModels (d : Dev) (k : Nat) (x : ModelHid) (j : Nat) : (d.setModels k x).chAt j = d.chAt j := rfl
@[simp] theorem solsAt_setModels (d : Dev) (k : Nat) (x : ModelHid) (j : Nat) : (d.setModels k x).solsAt j = d.solsAt j := rfl
@[simp] theorem portsAt_setModels (d : Dev) (k : Nat) (x : ModelHid) (j : Nat) : (d.setModels k x).portsAt j = d.portsAt j := rfl
@[simp] theorem ptppAt_setModels (d : Dev) (k : Nat) (x : ModelHid) (j : Nat) : (d.setModels k x).ptppAt j = d.ptppAt j := rfl
@[simp] theorem ptpiAt_setModels (d : Dev) (k : Nat) (x : ModelHid) (j : Nat) : (d.setModels k x).ptpiAt j = d.ptpiAt j := rfl
@[simp] theorem ptpxAt_setModels (d : Dev) (k : Nat) (x : ModelHid) (j : Nat) : (d.setModels k x).ptpxAt j = d.ptpxAt j := rfl
@[simp] theorem osynAt_setModels (d : Dev) (k : Nat) (x : ModelHid) (j : Nat) : (d.setModels k x).osynAt j = d.osynAt j := rfl
@[simp] theorem clkOutAt_setModels (d : Dev) (k : Nat) (x : ModelHid) (j : Nat) : (d.setModels k x).clkOutAt j = d.clkOutAt j := rfl
@[simp] theorem srvg_wr (d : Dev) (a : Nat) (v : Word) : (d.wr a v).srvg = d.srvg := rfl
@[simp] theorem srvg_emit (d : Dev) (o : Out) : (d.emit o).srvg = d.srvg := rfl
@[simp] theorem ch_wr (d : Dev) (a : Nat) (v : Word) : (d.wr a v).ch = d.ch := rfl
@[simp] theorem ch_emit (d : Dev) (o : Out) : (d.emit o).ch = d.ch := rfl
@[simp] theorem chAt_setCh_same (d : Dev) (k : Nat) (x : ChHid) : (d.setCh k x).chAt k = x := by
  simp only [Dev.chAt, Dev.setCh, Map.get_put_same]
theorem chAt_setCh_ne (d : Dev) (k j : Nat) (x : ChHid) (h : j ≠ k) : (d.setCh k x).chAt j = d.chAt j := by
  simp only [Dev.chAt, Dev.setCh, Map.get_put_ne _ _ _ _ _ h]
@[simp] theorem chAt_wr (d : Dev) (a : Nat) (v : Word) (k : Nat) : (d.wr a v).chAt k = d.chAt k := rfl
@[simp] theorem rd_setCh (d : Dev) (k : Nat) (x : ChHid) (a : Nat) : (d.setCh k x).rd a = d.rd a := rfl
@[simp] theorem tbAt_setCh (d : Dev) (k : Nat) (x : ChHid) (j : Nat) : (d.setCh k x).tbAt j = d.tbAt j := rfl
@[simp] theorem eioAt_setCh (d : Dev) (k : Nat) (x : ChHid) (j : Nat) : (d.setCh k x).eioAt j = d.eioAt j := rfl
@[simp] theorem ringsAt_setCh (d : Dev) (k : Nat) (x : ChHid) (j : Nat) : (d.setCh k x).ringsAt j = d.ringsAt j := rfl
@[simp] theorem egressAt_setCh (d : Dev) (k : Nat) (x : ChHid) (j : Nat) : (d.setCh k x).egressAt j = d.egressAt j := rfl
@[simp] theorem linesAt_setCh (d : Dev) (k : Nat) (x : ChHid) (j : Nat) : (d.setCh k x).linesAt j = d.linesAt j := rfl
@[simp] theorem ppsAt_setCh (d : Dev) (k : Nat) (x : ChHid) (j : Nat) : (d.setCh k x).ppsAt j = d.ppsAt j := rfl
@[simp] theorem txqAt_setCh (d : Dev) (k : Nat) (x : ChHid) (j : Nat) : (d.setCh k x).txqAt j = d.txqAt j := rfl
@[simp] theorem ebAt_setCh (d : Dev) (k : Nat) (x : ChHid) (j : Nat) : (d.setCh k x).ebAt j = d.ebAt j := rfl
@[simp] theorem refsAt_setCh (d : Dev) (k : Nat) (x : ChHid) (j : Nat) : (d.setCh k x).refsAt j = d.refsAt j := rfl
@[simp] theorem rnAt_setCh (d : Dev) (k : Nat) (x : ChHid) (j : Nat) : (d.setCh k x).rnAt j = d.rnAt j := rfl
@[simp] theorem selAt_setCh (d : Dev) (k : Nat) (x : ChHid) (j : Nat) : (d.setCh k x).selAt j = d.selAt j := rfl
@[simp] theorem srvAt_setCh (d : Dev) (k : Nat) (x : ChHid) (j : Nat) : (d.setCh k x).srvAt j = d.srvAt j := rfl
@[simp] theorem modelsAt_setCh (d : Dev) (k : Nat) (x : ChHid) (j : Nat) : (d.setCh k x).modelsAt j = d.modelsAt j := rfl
@[simp] theorem solsAt_setCh (d : Dev) (k : Nat) (x : ChHid) (j : Nat) : (d.setCh k x).solsAt j = d.solsAt j := rfl
@[simp] theorem portsAt_setCh (d : Dev) (k : Nat) (x : ChHid) (j : Nat) : (d.setCh k x).portsAt j = d.portsAt j := rfl
@[simp] theorem ptppAt_setCh (d : Dev) (k : Nat) (x : ChHid) (j : Nat) : (d.setCh k x).ptppAt j = d.ptppAt j := rfl
@[simp] theorem ptpiAt_setCh (d : Dev) (k : Nat) (x : ChHid) (j : Nat) : (d.setCh k x).ptpiAt j = d.ptpiAt j := rfl
@[simp] theorem ptpxAt_setCh (d : Dev) (k : Nat) (x : ChHid) (j : Nat) : (d.setCh k x).ptpxAt j = d.ptpxAt j := rfl
@[simp] theorem osynAt_setCh (d : Dev) (k : Nat) (x : ChHid) (j : Nat) : (d.setCh k x).osynAt j = d.osynAt j := rfl
@[simp] theorem clkOutAt_setCh (d : Dev) (k : Nat) (x : ChHid) (j : Nat) : (d.setCh k x).clkOutAt j = d.clkOutAt j := rfl
@[simp] theorem gnss_wr (d : Dev) (a : Nat) (v : Word) : (d.wr a v).gnss = d.gnss := rfl
@[simp] theorem gnss_emit (d : Dev) (o : Out) : (d.emit o).gnss = d.gnss := rfl
@[simp] theorem sols_wr (d : Dev) (a : Nat) (v : Word) : (d.wr a v).sols = d.sols := rfl
@[simp] theorem sols_emit (d : Dev) (o : Out) : (d.emit o).sols = d.sols := rfl
@[simp] theorem solsAt_setSols_same (d : Dev) (k : Nat) (x : SolHid) : (d.setSols k x).solsAt k = x := by
  simp only [Dev.solsAt, Dev.setSols, Map.get_put_same]
theorem solsAt_setSols_ne (d : Dev) (k j : Nat) (x : SolHid) (h : j ≠ k) : (d.setSols k x).solsAt j = d.solsAt j := by
  simp only [Dev.solsAt, Dev.setSols, Map.get_put_ne _ _ _ _ _ h]
@[simp] theorem solsAt_wr (d : Dev) (a : Nat) (v : Word) (k : Nat) : (d.wr a v).solsAt k = d.solsAt k := rfl
@[simp] theorem rd_setSols (d : Dev) (k : Nat) (x : SolHid) (a : Nat) : (d.setSols k x).rd a = d.rd a := rfl
@[simp] theorem tbAt_setSols (d : Dev) (k : Nat) (x : SolHid) (j : Nat) : (d.setSols k x).tbAt j = d.tbAt j := rfl
@[simp] theorem eioAt_setSols (d : Dev) (k : Nat) (x : SolHid) (j : Nat) : (d.setSols k x).eioAt j = d.eioAt j := rfl
@[simp] theorem ringsAt_setSols (d : Dev) (k : Nat) (x : SolHid) (j : Nat) : (d.setSols k x).ringsAt j = d.ringsAt j := rfl
@[simp] theorem egressAt_setSols (d : Dev) (k : Nat) (x : SolHid) (j : Nat) : (d.setSols k x).egressAt j = d.egressAt j := rfl
@[simp] theorem linesAt_setSols (d : Dev) (k : Nat) (x : SolHid) (j : Nat) : (d.setSols k x).linesAt j = d.linesAt j := rfl
@[simp] theorem ppsAt_setSols (d : Dev) (k : Nat) (x : SolHid) (j : Nat) : (d.setSols k x).ppsAt j = d.ppsAt j := rfl
@[simp] theorem txqAt_setSols (d : Dev) (k : Nat) (x : SolHid) (j : Nat) : (d.setSols k x).txqAt j = d.txqAt j := rfl
@[simp] theorem ebAt_setSols (d : Dev) (k : Nat) (x : SolHid) (j : Nat) : (d.setSols k x).ebAt j = d.ebAt j := rfl
@[simp] theorem refsAt_setSols (d : Dev) (k : Nat) (x : SolHid) (j : Nat) : (d.setSols k x).refsAt j = d.refsAt j := rfl
@[simp] theorem rnAt_setSols (d : Dev) (k : Nat) (x : SolHid) (j : Nat) : (d.setSols k x).rnAt j = d.rnAt j := rfl
@[simp] theorem selAt_setSols (d : Dev) (k : Nat) (x : SolHid) (j : Nat) : (d.setSols k x).selAt j = d.selAt j := rfl
@[simp] theorem srvAt_setSols (d : Dev) (k : Nat) (x : SolHid) (j : Nat) : (d.setSols k x).srvAt j = d.srvAt j := rfl
@[simp] theorem modelsAt_setSols (d : Dev) (k : Nat) (x : SolHid) (j : Nat) : (d.setSols k x).modelsAt j = d.modelsAt j := rfl
@[simp] theorem chAt_setSols (d : Dev) (k : Nat) (x : SolHid) (j : Nat) : (d.setSols k x).chAt j = d.chAt j := rfl
@[simp] theorem portsAt_setSols (d : Dev) (k : Nat) (x : SolHid) (j : Nat) : (d.setSols k x).portsAt j = d.portsAt j := rfl
@[simp] theorem ptppAt_setSols (d : Dev) (k : Nat) (x : SolHid) (j : Nat) : (d.setSols k x).ptppAt j = d.ptppAt j := rfl
@[simp] theorem ptpiAt_setSols (d : Dev) (k : Nat) (x : SolHid) (j : Nat) : (d.setSols k x).ptpiAt j = d.ptpiAt j := rfl
@[simp] theorem ptpxAt_setSols (d : Dev) (k : Nat) (x : SolHid) (j : Nat) : (d.setSols k x).ptpxAt j = d.ptpxAt j := rfl
@[simp] theorem osynAt_setSols (d : Dev) (k : Nat) (x : SolHid) (j : Nat) : (d.setSols k x).osynAt j = d.osynAt j := rfl
@[simp] theorem clkOutAt_setSols (d : Dev) (k : Nat) (x : SolHid) (j : Nat) : (d.setSols k x).clkOutAt j = d.clkOutAt j := rfl
@[simp] theorem ports_wr (d : Dev) (a : Nat) (v : Word) : (d.wr a v).ports = d.ports := rfl
@[simp] theorem ports_emit (d : Dev) (o : Out) : (d.emit o).ports = d.ports := rfl
@[simp] theorem portsAt_setPorts_same (d : Dev) (k : Nat) (x : PortHid) : (d.setPorts k x).portsAt k = x := by
  simp only [Dev.portsAt, Dev.setPorts, Map.get_put_same]
theorem portsAt_setPorts_ne (d : Dev) (k j : Nat) (x : PortHid) (h : j ≠ k) : (d.setPorts k x).portsAt j = d.portsAt j := by
  simp only [Dev.portsAt, Dev.setPorts, Map.get_put_ne _ _ _ _ _ h]
@[simp] theorem portsAt_wr (d : Dev) (a : Nat) (v : Word) (k : Nat) : (d.wr a v).portsAt k = d.portsAt k := rfl
@[simp] theorem rd_setPorts (d : Dev) (k : Nat) (x : PortHid) (a : Nat) : (d.setPorts k x).rd a = d.rd a := rfl
@[simp] theorem tbAt_setPorts (d : Dev) (k : Nat) (x : PortHid) (j : Nat) : (d.setPorts k x).tbAt j = d.tbAt j := rfl
@[simp] theorem eioAt_setPorts (d : Dev) (k : Nat) (x : PortHid) (j : Nat) : (d.setPorts k x).eioAt j = d.eioAt j := rfl
@[simp] theorem ringsAt_setPorts (d : Dev) (k : Nat) (x : PortHid) (j : Nat) : (d.setPorts k x).ringsAt j = d.ringsAt j := rfl
@[simp] theorem egressAt_setPorts (d : Dev) (k : Nat) (x : PortHid) (j : Nat) : (d.setPorts k x).egressAt j = d.egressAt j := rfl
@[simp] theorem linesAt_setPorts (d : Dev) (k : Nat) (x : PortHid) (j : Nat) : (d.setPorts k x).linesAt j = d.linesAt j := rfl
@[simp] theorem ppsAt_setPorts (d : Dev) (k : Nat) (x : PortHid) (j : Nat) : (d.setPorts k x).ppsAt j = d.ppsAt j := rfl
@[simp] theorem txqAt_setPorts (d : Dev) (k : Nat) (x : PortHid) (j : Nat) : (d.setPorts k x).txqAt j = d.txqAt j := rfl
@[simp] theorem ebAt_setPorts (d : Dev) (k : Nat) (x : PortHid) (j : Nat) : (d.setPorts k x).ebAt j = d.ebAt j := rfl
@[simp] theorem refsAt_setPorts (d : Dev) (k : Nat) (x : PortHid) (j : Nat) : (d.setPorts k x).refsAt j = d.refsAt j := rfl
@[simp] theorem rnAt_setPorts (d : Dev) (k : Nat) (x : PortHid) (j : Nat) : (d.setPorts k x).rnAt j = d.rnAt j := rfl
@[simp] theorem selAt_setPorts (d : Dev) (k : Nat) (x : PortHid) (j : Nat) : (d.setPorts k x).selAt j = d.selAt j := rfl
@[simp] theorem srvAt_setPorts (d : Dev) (k : Nat) (x : PortHid) (j : Nat) : (d.setPorts k x).srvAt j = d.srvAt j := rfl
@[simp] theorem modelsAt_setPorts (d : Dev) (k : Nat) (x : PortHid) (j : Nat) : (d.setPorts k x).modelsAt j = d.modelsAt j := rfl
@[simp] theorem chAt_setPorts (d : Dev) (k : Nat) (x : PortHid) (j : Nat) : (d.setPorts k x).chAt j = d.chAt j := rfl
@[simp] theorem solsAt_setPorts (d : Dev) (k : Nat) (x : PortHid) (j : Nat) : (d.setPorts k x).solsAt j = d.solsAt j := rfl
@[simp] theorem ptppAt_setPorts (d : Dev) (k : Nat) (x : PortHid) (j : Nat) : (d.setPorts k x).ptppAt j = d.ptppAt j := rfl
@[simp] theorem ptpiAt_setPorts (d : Dev) (k : Nat) (x : PortHid) (j : Nat) : (d.setPorts k x).ptpiAt j = d.ptpiAt j := rfl
@[simp] theorem ptpxAt_setPorts (d : Dev) (k : Nat) (x : PortHid) (j : Nat) : (d.setPorts k x).ptpxAt j = d.ptpxAt j := rfl
@[simp] theorem osynAt_setPorts (d : Dev) (k : Nat) (x : PortHid) (j : Nat) : (d.setPorts k x).osynAt j = d.osynAt j := rfl
@[simp] theorem clkOutAt_setPorts (d : Dev) (k : Nat) (x : PortHid) (j : Nat) : (d.setPorts k x).clkOutAt j = d.clkOutAt j := rfl
@[simp] theorem nts_wr (d : Dev) (a : Nat) (v : Word) : (d.wr a v).nts = d.nts := rfl
@[simp] theorem nts_emit (d : Dev) (o : Out) : (d.emit o).nts = d.nts := rfl
@[simp] theorem ptpp_wr (d : Dev) (a : Nat) (v : Word) : (d.wr a v).ptpp = d.ptpp := rfl
@[simp] theorem ptpp_emit (d : Dev) (o : Out) : (d.emit o).ptpp = d.ptpp := rfl
@[simp] theorem ptppAt_setPtpp_same (d : Dev) (k : Nat) (x : PtpPortHid) : (d.setPtpp k x).ptppAt k = x := by
  simp only [Dev.ptppAt, Dev.setPtpp, Map.get_put_same]
theorem ptppAt_setPtpp_ne (d : Dev) (k j : Nat) (x : PtpPortHid) (h : j ≠ k) : (d.setPtpp k x).ptppAt j = d.ptppAt j := by
  simp only [Dev.ptppAt, Dev.setPtpp, Map.get_put_ne _ _ _ _ _ h]
@[simp] theorem ptppAt_wr (d : Dev) (a : Nat) (v : Word) (k : Nat) : (d.wr a v).ptppAt k = d.ptppAt k := rfl
@[simp] theorem rd_setPtpp (d : Dev) (k : Nat) (x : PtpPortHid) (a : Nat) : (d.setPtpp k x).rd a = d.rd a := rfl
@[simp] theorem tbAt_setPtpp (d : Dev) (k : Nat) (x : PtpPortHid) (j : Nat) : (d.setPtpp k x).tbAt j = d.tbAt j := rfl
@[simp] theorem eioAt_setPtpp (d : Dev) (k : Nat) (x : PtpPortHid) (j : Nat) : (d.setPtpp k x).eioAt j = d.eioAt j := rfl
@[simp] theorem ringsAt_setPtpp (d : Dev) (k : Nat) (x : PtpPortHid) (j : Nat) : (d.setPtpp k x).ringsAt j = d.ringsAt j := rfl
@[simp] theorem egressAt_setPtpp (d : Dev) (k : Nat) (x : PtpPortHid) (j : Nat) : (d.setPtpp k x).egressAt j = d.egressAt j := rfl
@[simp] theorem linesAt_setPtpp (d : Dev) (k : Nat) (x : PtpPortHid) (j : Nat) : (d.setPtpp k x).linesAt j = d.linesAt j := rfl
@[simp] theorem ppsAt_setPtpp (d : Dev) (k : Nat) (x : PtpPortHid) (j : Nat) : (d.setPtpp k x).ppsAt j = d.ppsAt j := rfl
@[simp] theorem txqAt_setPtpp (d : Dev) (k : Nat) (x : PtpPortHid) (j : Nat) : (d.setPtpp k x).txqAt j = d.txqAt j := rfl
@[simp] theorem ebAt_setPtpp (d : Dev) (k : Nat) (x : PtpPortHid) (j : Nat) : (d.setPtpp k x).ebAt j = d.ebAt j := rfl
@[simp] theorem refsAt_setPtpp (d : Dev) (k : Nat) (x : PtpPortHid) (j : Nat) : (d.setPtpp k x).refsAt j = d.refsAt j := rfl
@[simp] theorem rnAt_setPtpp (d : Dev) (k : Nat) (x : PtpPortHid) (j : Nat) : (d.setPtpp k x).rnAt j = d.rnAt j := rfl
@[simp] theorem selAt_setPtpp (d : Dev) (k : Nat) (x : PtpPortHid) (j : Nat) : (d.setPtpp k x).selAt j = d.selAt j := rfl
@[simp] theorem srvAt_setPtpp (d : Dev) (k : Nat) (x : PtpPortHid) (j : Nat) : (d.setPtpp k x).srvAt j = d.srvAt j := rfl
@[simp] theorem modelsAt_setPtpp (d : Dev) (k : Nat) (x : PtpPortHid) (j : Nat) : (d.setPtpp k x).modelsAt j = d.modelsAt j := rfl
@[simp] theorem chAt_setPtpp (d : Dev) (k : Nat) (x : PtpPortHid) (j : Nat) : (d.setPtpp k x).chAt j = d.chAt j := rfl
@[simp] theorem solsAt_setPtpp (d : Dev) (k : Nat) (x : PtpPortHid) (j : Nat) : (d.setPtpp k x).solsAt j = d.solsAt j := rfl
@[simp] theorem portsAt_setPtpp (d : Dev) (k : Nat) (x : PtpPortHid) (j : Nat) : (d.setPtpp k x).portsAt j = d.portsAt j := rfl
@[simp] theorem ptpiAt_setPtpp (d : Dev) (k : Nat) (x : PtpPortHid) (j : Nat) : (d.setPtpp k x).ptpiAt j = d.ptpiAt j := rfl
@[simp] theorem ptpxAt_setPtpp (d : Dev) (k : Nat) (x : PtpPortHid) (j : Nat) : (d.setPtpp k x).ptpxAt j = d.ptpxAt j := rfl
@[simp] theorem osynAt_setPtpp (d : Dev) (k : Nat) (x : PtpPortHid) (j : Nat) : (d.setPtpp k x).osynAt j = d.osynAt j := rfl
@[simp] theorem clkOutAt_setPtpp (d : Dev) (k : Nat) (x : PtpPortHid) (j : Nat) : (d.setPtpp k x).clkOutAt j = d.clkOutAt j := rfl
@[simp] theorem ptpi_wr (d : Dev) (a : Nat) (v : Word) : (d.wr a v).ptpi = d.ptpi := rfl
@[simp] theorem ptpi_emit (d : Dev) (o : Out) : (d.emit o).ptpi = d.ptpi := rfl
@[simp] theorem ptpiAt_setPtpi_same (d : Dev) (k : Nat) (x : PtpInstHid) : (d.setPtpi k x).ptpiAt k = x := by
  simp only [Dev.ptpiAt, Dev.setPtpi, Map.get_put_same]
theorem ptpiAt_setPtpi_ne (d : Dev) (k j : Nat) (x : PtpInstHid) (h : j ≠ k) : (d.setPtpi k x).ptpiAt j = d.ptpiAt j := by
  simp only [Dev.ptpiAt, Dev.setPtpi, Map.get_put_ne _ _ _ _ _ h]
@[simp] theorem ptpiAt_wr (d : Dev) (a : Nat) (v : Word) (k : Nat) : (d.wr a v).ptpiAt k = d.ptpiAt k := rfl
@[simp] theorem rd_setPtpi (d : Dev) (k : Nat) (x : PtpInstHid) (a : Nat) : (d.setPtpi k x).rd a = d.rd a := rfl
@[simp] theorem tbAt_setPtpi (d : Dev) (k : Nat) (x : PtpInstHid) (j : Nat) : (d.setPtpi k x).tbAt j = d.tbAt j := rfl
@[simp] theorem eioAt_setPtpi (d : Dev) (k : Nat) (x : PtpInstHid) (j : Nat) : (d.setPtpi k x).eioAt j = d.eioAt j := rfl
@[simp] theorem ringsAt_setPtpi (d : Dev) (k : Nat) (x : PtpInstHid) (j : Nat) : (d.setPtpi k x).ringsAt j = d.ringsAt j := rfl
@[simp] theorem egressAt_setPtpi (d : Dev) (k : Nat) (x : PtpInstHid) (j : Nat) : (d.setPtpi k x).egressAt j = d.egressAt j := rfl
@[simp] theorem linesAt_setPtpi (d : Dev) (k : Nat) (x : PtpInstHid) (j : Nat) : (d.setPtpi k x).linesAt j = d.linesAt j := rfl
@[simp] theorem ppsAt_setPtpi (d : Dev) (k : Nat) (x : PtpInstHid) (j : Nat) : (d.setPtpi k x).ppsAt j = d.ppsAt j := rfl
@[simp] theorem txqAt_setPtpi (d : Dev) (k : Nat) (x : PtpInstHid) (j : Nat) : (d.setPtpi k x).txqAt j = d.txqAt j := rfl
@[simp] theorem ebAt_setPtpi (d : Dev) (k : Nat) (x : PtpInstHid) (j : Nat) : (d.setPtpi k x).ebAt j = d.ebAt j := rfl
@[simp] theorem refsAt_setPtpi (d : Dev) (k : Nat) (x : PtpInstHid) (j : Nat) : (d.setPtpi k x).refsAt j = d.refsAt j := rfl
@[simp] theorem rnAt_setPtpi (d : Dev) (k : Nat) (x : PtpInstHid) (j : Nat) : (d.setPtpi k x).rnAt j = d.rnAt j := rfl
@[simp] theorem selAt_setPtpi (d : Dev) (k : Nat) (x : PtpInstHid) (j : Nat) : (d.setPtpi k x).selAt j = d.selAt j := rfl
@[simp] theorem srvAt_setPtpi (d : Dev) (k : Nat) (x : PtpInstHid) (j : Nat) : (d.setPtpi k x).srvAt j = d.srvAt j := rfl
@[simp] theorem modelsAt_setPtpi (d : Dev) (k : Nat) (x : PtpInstHid) (j : Nat) : (d.setPtpi k x).modelsAt j = d.modelsAt j := rfl
@[simp] theorem chAt_setPtpi (d : Dev) (k : Nat) (x : PtpInstHid) (j : Nat) : (d.setPtpi k x).chAt j = d.chAt j := rfl
@[simp] theorem solsAt_setPtpi (d : Dev) (k : Nat) (x : PtpInstHid) (j : Nat) : (d.setPtpi k x).solsAt j = d.solsAt j := rfl
@[simp] theorem portsAt_setPtpi (d : Dev) (k : Nat) (x : PtpInstHid) (j : Nat) : (d.setPtpi k x).portsAt j = d.portsAt j := rfl
@[simp] theorem ptppAt_setPtpi (d : Dev) (k : Nat) (x : PtpInstHid) (j : Nat) : (d.setPtpi k x).ptppAt j = d.ptppAt j := rfl
@[simp] theorem ptpxAt_setPtpi (d : Dev) (k : Nat) (x : PtpInstHid) (j : Nat) : (d.setPtpi k x).ptpxAt j = d.ptpxAt j := rfl
@[simp] theorem osynAt_setPtpi (d : Dev) (k : Nat) (x : PtpInstHid) (j : Nat) : (d.setPtpi k x).osynAt j = d.osynAt j := rfl
@[simp] theorem clkOutAt_setPtpi (d : Dev) (k : Nat) (x : PtpInstHid) (j : Nat) : (d.setPtpi k x).clkOutAt j = d.clkOutAt j := rfl
@[simp] theorem ptpx_wr (d : Dev) (a : Nat) (v : Word) : (d.wr a v).ptpx = d.ptpx := rfl
@[simp] theorem ptpx_emit (d : Dev) (o : Out) : (d.emit o).ptpx = d.ptpx := rfl
@[simp] theorem ptpxAt_setPtpx_same (d : Dev) (k : Nat) (x : PtpSessHid) : (d.setPtpx k x).ptpxAt k = x := by
  simp only [Dev.ptpxAt, Dev.setPtpx, Map.get_put_same]
theorem ptpxAt_setPtpx_ne (d : Dev) (k j : Nat) (x : PtpSessHid) (h : j ≠ k) : (d.setPtpx k x).ptpxAt j = d.ptpxAt j := by
  simp only [Dev.ptpxAt, Dev.setPtpx, Map.get_put_ne _ _ _ _ _ h]
@[simp] theorem ptpxAt_wr (d : Dev) (a : Nat) (v : Word) (k : Nat) : (d.wr a v).ptpxAt k = d.ptpxAt k := rfl
@[simp] theorem rd_setPtpx (d : Dev) (k : Nat) (x : PtpSessHid) (a : Nat) : (d.setPtpx k x).rd a = d.rd a := rfl
@[simp] theorem tbAt_setPtpx (d : Dev) (k : Nat) (x : PtpSessHid) (j : Nat) : (d.setPtpx k x).tbAt j = d.tbAt j := rfl
@[simp] theorem eioAt_setPtpx (d : Dev) (k : Nat) (x : PtpSessHid) (j : Nat) : (d.setPtpx k x).eioAt j = d.eioAt j := rfl
@[simp] theorem ringsAt_setPtpx (d : Dev) (k : Nat) (x : PtpSessHid) (j : Nat) : (d.setPtpx k x).ringsAt j = d.ringsAt j := rfl
@[simp] theorem egressAt_setPtpx (d : Dev) (k : Nat) (x : PtpSessHid) (j : Nat) : (d.setPtpx k x).egressAt j = d.egressAt j := rfl
@[simp] theorem linesAt_setPtpx (d : Dev) (k : Nat) (x : PtpSessHid) (j : Nat) : (d.setPtpx k x).linesAt j = d.linesAt j := rfl
@[simp] theorem ppsAt_setPtpx (d : Dev) (k : Nat) (x : PtpSessHid) (j : Nat) : (d.setPtpx k x).ppsAt j = d.ppsAt j := rfl
@[simp] theorem txqAt_setPtpx (d : Dev) (k : Nat) (x : PtpSessHid) (j : Nat) : (d.setPtpx k x).txqAt j = d.txqAt j := rfl
@[simp] theorem ebAt_setPtpx (d : Dev) (k : Nat) (x : PtpSessHid) (j : Nat) : (d.setPtpx k x).ebAt j = d.ebAt j := rfl
@[simp] theorem refsAt_setPtpx (d : Dev) (k : Nat) (x : PtpSessHid) (j : Nat) : (d.setPtpx k x).refsAt j = d.refsAt j := rfl
@[simp] theorem rnAt_setPtpx (d : Dev) (k : Nat) (x : PtpSessHid) (j : Nat) : (d.setPtpx k x).rnAt j = d.rnAt j := rfl
@[simp] theorem selAt_setPtpx (d : Dev) (k : Nat) (x : PtpSessHid) (j : Nat) : (d.setPtpx k x).selAt j = d.selAt j := rfl
@[simp] theorem srvAt_setPtpx (d : Dev) (k : Nat) (x : PtpSessHid) (j : Nat) : (d.setPtpx k x).srvAt j = d.srvAt j := rfl
@[simp] theorem modelsAt_setPtpx (d : Dev) (k : Nat) (x : PtpSessHid) (j : Nat) : (d.setPtpx k x).modelsAt j = d.modelsAt j := rfl
@[simp] theorem chAt_setPtpx (d : Dev) (k : Nat) (x : PtpSessHid) (j : Nat) : (d.setPtpx k x).chAt j = d.chAt j := rfl
@[simp] theorem solsAt_setPtpx (d : Dev) (k : Nat) (x : PtpSessHid) (j : Nat) : (d.setPtpx k x).solsAt j = d.solsAt j := rfl
@[simp] theorem portsAt_setPtpx (d : Dev) (k : Nat) (x : PtpSessHid) (j : Nat) : (d.setPtpx k x).portsAt j = d.portsAt j := rfl
@[simp] theorem ptppAt_setPtpx (d : Dev) (k : Nat) (x : PtpSessHid) (j : Nat) : (d.setPtpx k x).ptppAt j = d.ptppAt j := rfl
@[simp] theorem ptpiAt_setPtpx (d : Dev) (k : Nat) (x : PtpSessHid) (j : Nat) : (d.setPtpx k x).ptpiAt j = d.ptpiAt j := rfl
@[simp] theorem osynAt_setPtpx (d : Dev) (k : Nat) (x : PtpSessHid) (j : Nat) : (d.setPtpx k x).osynAt j = d.osynAt j := rfl
@[simp] theorem clkOutAt_setPtpx (d : Dev) (k : Nat) (x : PtpSessHid) (j : Nat) : (d.setPtpx k x).clkOutAt j = d.clkOutAt j := rfl
@[simp] theorem ptpg_wr (d : Dev) (a : Nat) (v : Word) : (d.wr a v).ptpg = d.ptpg := rfl
@[simp] theorem ptpg_emit (d : Dev) (o : Out) : (d.emit o).ptpg = d.ptpg := rfl
@[simp] theorem ks_wr (d : Dev) (a : Nat) (v : Word) : (d.wr a v).ks = d.ks := rfl
@[simp] theorem ks_emit (d : Dev) (o : Out) : (d.emit o).ks = d.ks := rfl
@[simp] theorem pair_wr (d : Dev) (a : Nat) (v : Word) : (d.wr a v).pair = d.pair := rfl
@[simp] theorem pair_emit (d : Dev) (o : Out) : (d.emit o).pair = d.pair := rfl
@[simp] theorem osyn_wr (d : Dev) (a : Nat) (v : Word) : (d.wr a v).osyn = d.osyn := rfl
@[simp] theorem osyn_emit (d : Dev) (o : Out) : (d.emit o).osyn = d.osyn := rfl
@[simp] theorem osynAt_setOsyn_same (d : Dev) (k : Nat) (x : OsynHid) : (d.setOsyn k x).osynAt k = x := by
  simp only [Dev.osynAt, Dev.setOsyn, Map.get_put_same]
theorem osynAt_setOsyn_ne (d : Dev) (k j : Nat) (x : OsynHid) (h : j ≠ k) : (d.setOsyn k x).osynAt j = d.osynAt j := by
  simp only [Dev.osynAt, Dev.setOsyn, Map.get_put_ne _ _ _ _ _ h]
@[simp] theorem osynAt_wr (d : Dev) (a : Nat) (v : Word) (k : Nat) : (d.wr a v).osynAt k = d.osynAt k := rfl
@[simp] theorem rd_setOsyn (d : Dev) (k : Nat) (x : OsynHid) (a : Nat) : (d.setOsyn k x).rd a = d.rd a := rfl
@[simp] theorem tbAt_setOsyn (d : Dev) (k : Nat) (x : OsynHid) (j : Nat) : (d.setOsyn k x).tbAt j = d.tbAt j := rfl
@[simp] theorem eioAt_setOsyn (d : Dev) (k : Nat) (x : OsynHid) (j : Nat) : (d.setOsyn k x).eioAt j = d.eioAt j := rfl
@[simp] theorem ringsAt_setOsyn (d : Dev) (k : Nat) (x : OsynHid) (j : Nat) : (d.setOsyn k x).ringsAt j = d.ringsAt j := rfl
@[simp] theorem egressAt_setOsyn (d : Dev) (k : Nat) (x : OsynHid) (j : Nat) : (d.setOsyn k x).egressAt j = d.egressAt j := rfl
@[simp] theorem linesAt_setOsyn (d : Dev) (k : Nat) (x : OsynHid) (j : Nat) : (d.setOsyn k x).linesAt j = d.linesAt j := rfl
@[simp] theorem ppsAt_setOsyn (d : Dev) (k : Nat) (x : OsynHid) (j : Nat) : (d.setOsyn k x).ppsAt j = d.ppsAt j := rfl
@[simp] theorem txqAt_setOsyn (d : Dev) (k : Nat) (x : OsynHid) (j : Nat) : (d.setOsyn k x).txqAt j = d.txqAt j := rfl
@[simp] theorem ebAt_setOsyn (d : Dev) (k : Nat) (x : OsynHid) (j : Nat) : (d.setOsyn k x).ebAt j = d.ebAt j := rfl
@[simp] theorem refsAt_setOsyn (d : Dev) (k : Nat) (x : OsynHid) (j : Nat) : (d.setOsyn k x).refsAt j = d.refsAt j := rfl
@[simp] theorem rnAt_setOsyn (d : Dev) (k : Nat) (x : OsynHid) (j : Nat) : (d.setOsyn k x).rnAt j = d.rnAt j := rfl
@[simp] theorem selAt_setOsyn (d : Dev) (k : Nat) (x : OsynHid) (j : Nat) : (d.setOsyn k x).selAt j = d.selAt j := rfl
@[simp] theorem srvAt_setOsyn (d : Dev) (k : Nat) (x : OsynHid) (j : Nat) : (d.setOsyn k x).srvAt j = d.srvAt j := rfl
@[simp] theorem modelsAt_setOsyn (d : Dev) (k : Nat) (x : OsynHid) (j : Nat) : (d.setOsyn k x).modelsAt j = d.modelsAt j := rfl
@[simp] theorem chAt_setOsyn (d : Dev) (k : Nat) (x : OsynHid) (j : Nat) : (d.setOsyn k x).chAt j = d.chAt j := rfl
@[simp] theorem solsAt_setOsyn (d : Dev) (k : Nat) (x : OsynHid) (j : Nat) : (d.setOsyn k x).solsAt j = d.solsAt j := rfl
@[simp] theorem portsAt_setOsyn (d : Dev) (k : Nat) (x : OsynHid) (j : Nat) : (d.setOsyn k x).portsAt j = d.portsAt j := rfl
@[simp] theorem ptppAt_setOsyn (d : Dev) (k : Nat) (x : OsynHid) (j : Nat) : (d.setOsyn k x).ptppAt j = d.ptppAt j := rfl
@[simp] theorem ptpiAt_setOsyn (d : Dev) (k : Nat) (x : OsynHid) (j : Nat) : (d.setOsyn k x).ptpiAt j = d.ptpiAt j := rfl
@[simp] theorem ptpxAt_setOsyn (d : Dev) (k : Nat) (x : OsynHid) (j : Nat) : (d.setOsyn k x).ptpxAt j = d.ptpxAt j := rfl
@[simp] theorem clkOutAt_setOsyn (d : Dev) (k : Nat) (x : OsynHid) (j : Nat) : (d.setOsyn k x).clkOutAt j = d.clkOutAt j := rfl
@[simp] theorem clkOut_wr (d : Dev) (a : Nat) (v : Word) : (d.wr a v).clkOut = d.clkOut := rfl
@[simp] theorem clkOut_emit (d : Dev) (o : Out) : (d.emit o).clkOut = d.clkOut := rfl
@[simp] theorem clkOutAt_setClkOut_same (d : Dev) (k : Nat) (x : ClkOutHid) : (d.setClkOut k x).clkOutAt k = x := by
  simp only [Dev.clkOutAt, Dev.setClkOut, Map.get_put_same]
theorem clkOutAt_setClkOut_ne (d : Dev) (k j : Nat) (x : ClkOutHid) (h : j ≠ k) : (d.setClkOut k x).clkOutAt j = d.clkOutAt j := by
  simp only [Dev.clkOutAt, Dev.setClkOut, Map.get_put_ne _ _ _ _ _ h]
@[simp] theorem clkOutAt_wr (d : Dev) (a : Nat) (v : Word) (k : Nat) : (d.wr a v).clkOutAt k = d.clkOutAt k := rfl
@[simp] theorem rd_setClkOut (d : Dev) (k : Nat) (x : ClkOutHid) (a : Nat) : (d.setClkOut k x).rd a = d.rd a := rfl
@[simp] theorem tbAt_setClkOut (d : Dev) (k : Nat) (x : ClkOutHid) (j : Nat) : (d.setClkOut k x).tbAt j = d.tbAt j := rfl
@[simp] theorem eioAt_setClkOut (d : Dev) (k : Nat) (x : ClkOutHid) (j : Nat) : (d.setClkOut k x).eioAt j = d.eioAt j := rfl
@[simp] theorem ringsAt_setClkOut (d : Dev) (k : Nat) (x : ClkOutHid) (j : Nat) : (d.setClkOut k x).ringsAt j = d.ringsAt j := rfl
@[simp] theorem egressAt_setClkOut (d : Dev) (k : Nat) (x : ClkOutHid) (j : Nat) : (d.setClkOut k x).egressAt j = d.egressAt j := rfl
@[simp] theorem linesAt_setClkOut (d : Dev) (k : Nat) (x : ClkOutHid) (j : Nat) : (d.setClkOut k x).linesAt j = d.linesAt j := rfl
@[simp] theorem ppsAt_setClkOut (d : Dev) (k : Nat) (x : ClkOutHid) (j : Nat) : (d.setClkOut k x).ppsAt j = d.ppsAt j := rfl
@[simp] theorem txqAt_setClkOut (d : Dev) (k : Nat) (x : ClkOutHid) (j : Nat) : (d.setClkOut k x).txqAt j = d.txqAt j := rfl
@[simp] theorem ebAt_setClkOut (d : Dev) (k : Nat) (x : ClkOutHid) (j : Nat) : (d.setClkOut k x).ebAt j = d.ebAt j := rfl
@[simp] theorem refsAt_setClkOut (d : Dev) (k : Nat) (x : ClkOutHid) (j : Nat) : (d.setClkOut k x).refsAt j = d.refsAt j := rfl
@[simp] theorem rnAt_setClkOut (d : Dev) (k : Nat) (x : ClkOutHid) (j : Nat) : (d.setClkOut k x).rnAt j = d.rnAt j := rfl
@[simp] theorem selAt_setClkOut (d : Dev) (k : Nat) (x : ClkOutHid) (j : Nat) : (d.setClkOut k x).selAt j = d.selAt j := rfl
@[simp] theorem srvAt_setClkOut (d : Dev) (k : Nat) (x : ClkOutHid) (j : Nat) : (d.setClkOut k x).srvAt j = d.srvAt j := rfl
@[simp] theorem modelsAt_setClkOut (d : Dev) (k : Nat) (x : ClkOutHid) (j : Nat) : (d.setClkOut k x).modelsAt j = d.modelsAt j := rfl
@[simp] theorem chAt_setClkOut (d : Dev) (k : Nat) (x : ClkOutHid) (j : Nat) : (d.setClkOut k x).chAt j = d.chAt j := rfl
@[simp] theorem solsAt_setClkOut (d : Dev) (k : Nat) (x : ClkOutHid) (j : Nat) : (d.setClkOut k x).solsAt j = d.solsAt j := rfl
@[simp] theorem portsAt_setClkOut (d : Dev) (k : Nat) (x : ClkOutHid) (j : Nat) : (d.setClkOut k x).portsAt j = d.portsAt j := rfl
@[simp] theorem ptppAt_setClkOut (d : Dev) (k : Nat) (x : ClkOutHid) (j : Nat) : (d.setClkOut k x).ptppAt j = d.ptppAt j := rfl
@[simp] theorem ptpiAt_setClkOut (d : Dev) (k : Nat) (x : ClkOutHid) (j : Nat) : (d.setClkOut k x).ptpiAt j = d.ptpiAt j := rfl
@[simp] theorem ptpxAt_setClkOut (d : Dev) (k : Nat) (x : ClkOutHid) (j : Nat) : (d.setClkOut k x).ptpxAt j = d.ptpxAt j := rfl
@[simp] theorem osynAt_setClkOut (d : Dev) (k : Nat) (x : ClkOutHid) (j : Nat) : (d.setClkOut k x).osynAt j = d.osynAt j := rfl
@[simp] theorem clk_wr (d : Dev) (a : Nat) (v : Word) : (d.wr a v).clk = d.clk := rfl
@[simp] theorem clk_emit (d : Dev) (o : Out) : (d.emit o).clk = d.clk := rfl
@[simp] theorem sys_wr (d : Dev) (a : Nat) (v : Word) : (d.wr a v).sys = d.sys := rfl
@[simp] theorem sys_emit (d : Dev) (o : Out) : (d.emit o).sys = d.sys := rfl
@[simp] theorem flash_wr (d : Dev) (a : Nat) (v : Word) : (d.wr a v).flash = d.flash := rfl
@[simp] theorem flash_emit (d : Dev) (o : Out) : (d.emit o).flash = d.flash := rfl

end Sys2Proof.Laws
end

