-- ==== Sys2Proof/Laws/Pins.lean ====
section
/-! SUPPORT. The occurrence of a fault source, whatever its reaction, leaves every event pin's state alone but the level
its pin is driven to. -/
set_option Elab.async false
namespace Sys2Proof.Laws
open Sys2Proof.Machine

/-- Every event pin's state but its driven level is the same. -/
structure SamePins (d e : Dev) : Prop where
  same : ∀ m, { e.eioAt m with pin := none } = { d.eioAt m with pin := none }

theorem SamePins.of_eq {d e : Dev} (h : e.eio = d.eio) : SamePins d e := ⟨fun m => by unfold Dev.eioAt; rw [h]⟩

theorem SamePins.trans {d e f : Dev} (h : SamePins d e) (g : SamePins e f) : SamePins d f :=
  ⟨fun m => (g.same m).trans (h.same m)⟩

theorem keeps_self (d : Dev) (T : List Part) : d.Keeps T d := fun k _ => by cases k <;> rfl

/-- The parts that an operation of the fault system reaches beside the event pins. -/
def otherParts : List Part :=
  [.regs, .fresh, .out, .recd, .flt, .hif, .rings, .pps, .nts, .ks, .pair, .clkOut, .clk, .sys, .flash]

theorem otherParts_eio : Part.eio ∉ otherParts := by decide

theorem forRange_same (b : Dev) (n : Nat) (f : Nat → Dev → Dev) (hf : ∀ i d, SamePins b d → SamePins b (f i d)) (d : Dev)
    (h : SamePins b d) : SamePins b (forRange n f d) := by
  unfold forRange
  generalize List.range n = l
  induction l generalizing d with
  | nil => exact h
  | cons x l ih => exact ih _ (hf x d h)

theorem Dev_eioPinTo_same (b d : Dev) (n : Nat) (lv : Option Bool) (h : SamePins b d) : SamePins b (d.eioPinTo n lv) := by
  unfold Dev.eioPinTo
  split
  · exact h
  · refine h.trans ⟨fun m => ?_⟩
    show { (d.setEio n { d.eioAt n with pin := lv }).eioAt m with pin := none } = _
    by_cases e : m = n
    · subst e; rw [eioAt_setEio_same]
    · rw [eioAt_setEio_ne _ _ _ _ e]

theorem eioOwn_same (b : Dev) (n : Nat) (d : Dev) (h : SamePins b d) : SamePins b (eioOwn n d) := by
  unfold eioOwn
  split
  · exact h
  · exact Dev_eioPinTo_same _ _ _ _ h

theorem Dev_setBit_same (b : Dev) (d : Dev) (a i : Nat) (x : Bool) (h : SamePins b d) : SamePins b (d.setBit a i x) :=
  h.trans (.of_eq (Dev_setBit_keeps d otherParts _ _ _ _ (by decide) (keeps_self d _) .eio otherParts_eio))
theorem Dev_emit_same (b : Dev) (d : Dev) (o : Out) (h : SamePins b d) : SamePins b (d.emit o) :=
  h.trans (.of_eq (Dev_emit_keeps d otherParts _ _ (by decide) (keeps_self d _) .eio otherParts_eio))
theorem clkShow_same (b : Dev) (j : Nat) (d : Dev) (h : SamePins b d) : SamePins b (clkShow j d) :=
  h.trans (.of_eq (clkShow_keeps d otherParts _ _ (by decide) (by decide) (by decide) (keeps_self d _) .eio otherParts_eio))
theorem ppsOwn_same (b : Dev) (m : Nat) (d : Dev) (h : SamePins b d) : SamePins b (ppsOwn m d) :=
  h.trans (.of_eq (ppsOwn_keeps d otherParts _ _ (by decide) (by decide) (keeps_self d _) .eio otherParts_eio))
theorem Dev_setPairState_same (b : Dev) (d : Dev) (st : Nat) (h : SamePins b d) : SamePins b (d.setPairState st) :=
  h.trans (.of_eq (Dev_setPairState_keeps d otherParts _ _ (by decide) (by decide) (by decide) (keeps_self d _) .eio otherParts_eio))
theorem Dev_startFlush_same (b : Dev) (d : Dev) (r : Nat) (h : SamePins b d) : SamePins b (d.startFlush r) :=
  h.trans (.of_eq (Dev_startFlush_keeps d otherParts _ _ (by decide) (by decide) (by decide) (by decide) (by decide) (by decide) (by decide) (by decide) (keeps_self d _) .eio otherParts_eio))
theorem Dev_interrupt_same (b : Dev) (d : Dev) (s : Nat) (h : SamePins b d) : SamePins b (d.interrupt s) :=
  h.trans (.of_eq (Dev_interrupt_keeps d otherParts _ _ (by decide) (by decide) (by decide) (keeps_self d _) .eio otherParts_eio))
theorem Dev_nmiTraps_same (b : Dev) (d : Dev) (h : SamePins b d) : SamePins b (d.nmiTraps) :=
  h.trans (.of_eq (Dev_nmiTraps_keeps d otherParts _ (by decide) (by decide) (by decide) (by decide) (by decide) (keeps_self d _) .eio otherParts_eio))
theorem Dev_noteReset_same (b : Dev) (d : Dev) (s : Nat) (h : SamePins b d) : SamePins b (d.noteReset s) :=
  h.trans (.of_eq (Dev_noteReset_keeps d otherParts _ _ (by decide) (keeps_self d _) .eio otherParts_eio))
theorem Dev_startBlkRst_same (b : Dev) (d : Dev) (t : Target) (h : SamePins b d) : SamePins b (d.startBlkRst t) :=
  h.trans (.of_eq (Dev_startBlkRst_keeps d otherParts _ _ (by decide) (by decide) (by decide) (by decide) (by decide) (by decide) (by decide) (keeps_self d _) .eio otherParts_eio))
theorem Dev_refreshFaultN_same (b : Dev) (d : Dev) (h : SamePins b d) : SamePins b (d.refreshFaultN) :=
  h.trans (.of_eq (Dev_refreshFaultN_keeps d otherParts _ (by decide) (by decide) (keeps_self d _) .eio otherParts_eio))
theorem Dev_faultMark_same (b : Dev) (d : Dev) (s i : Nat) (h : SamePins b d) : SamePins b (d.faultMark s i) :=
  h.trans (.of_eq (Dev_faultMark_keeps d otherParts _ _ _ (by decide) (keeps_self d _) .eio otherParts_eio))
theorem Dev_recAppend_same (b d : Dev) (r : Rec) (h : SamePins b d) : SamePins b (d.recAppend r).1 :=
  h.trans (.of_eq (Dev_recAppend_keeps d otherParts _ _ (by decide) (by decide) (by decide) (keeps_self d _) .eio otherParts_eio))
theorem upd_flt_same (b d : Dev) (x : FltHid) (h : SamePins b d) : SamePins b { d with flt := x } := ⟨h.same⟩
theorem upd_pair_same (b d : Dev) (x : PairHid) (h : SamePins b d) : SamePins b { d with pair := x } := ⟨h.same⟩

theorem Dev_setOwn_same (b d : Dev) (x : Bool) (h : SamePins b d) : SamePins b (d.setOwn x) := by
  unfold Dev.setOwn
  grind [forRange_same, clkShow_same, Dev_emit_same, Dev_setBit_same, ppsOwn_same, eioOwn_same]

theorem Dev_faultEnter_same (b d : Dev) (h : SamePins b d) : SamePins b d.faultEnter := by
  unfold Dev.faultEnter
  grind (gen := 30) (ematch := 30) (splits := 30) [upd_pair_same, Dev_setBit_same, Dev_setOwn_same, Dev_emit_same,
    Dev_setPairState_same]

theorem Dev_stopAlive_same (b d : Dev) (h : SamePins b d) : SamePins b d.stopAlive := by
  unfold Dev.stopAlive
  grind (gen := 30) (ematch := 30) (splits := 30) [upd_flt_same, Dev_startFlush_same, Dev_faultEnter_same, Dev_setBit_same,
    Dev_emit_same]

theorem Dev_chipRst_same (b d : Dev) (h : SamePins b d) : SamePins b d.chipRst := by
  unfold Dev.chipRst
  grind [upd_flt_same, Dev_startFlush_same, Dev_faultEnter_same, Dev_setBit_same]

/-- The occurrence of a source, with whatever it raises in turn, drives or releases event pins and does no more to them. -/
theorem Dev_raiseF_same (b : Dev) (fuel s info : Nat) (d : Dev) (h : SamePins b d) :
    SamePins b (Dev.raiseF fuel s info d) := by
  induction fuel generalizing s info d with
  | zero => exact Dev_faultMark_same _ _ _ _ h
  | succ n ih =>
    unfold Dev.raiseF
    have ih2 : ∀ s i d, SamePins b d → SamePins b (Dev.raiseF n s i d) := fun s i d hd => ih s i d hd
    clear ih
    grind (gen := 30) (ematch := 30) (splits := 30) [Dev_faultMark_same, Dev_recAppend_same, Dev_setBit_same,
        Dev_interrupt_same, Dev_startFlush_same, Dev_nmiTraps_same, Dev_noteReset_same, Dev_startBlkRst_same,
        Dev_chipRst_same, Dev_stopAlive_same, Dev_refreshFaultN_same]

theorem Dev_raise_same (b d : Dev) (s info : Nat) (h : SamePins b d) : SamePins b (d.raise s info) :=
  Dev_raiseF_same _ _ _ _ _ h

end Sys2Proof.Laws
end

