-- ==== Sys2Proof/Laws/Regs.lean ====
section
/-! SUPPORT. What a register, one of its bits and one of its fields read as after each of the register operations. -/
set_option Elab.async false
namespace Sys2Proof.Laws
open Sys2Proof.Machine

theorem rd_wr (d : Dev) (a b : Nat) (v : Word) : (d.wr a v).rd b = if b = a then v else d.rd b := by
  split
  · next h => rw [h, rd_wr_same]
  · next h => exact rd_wr_ne _ _ _ _ h

theorem rd_wrNat (d : Dev) (a b v : Nat) : (d.wrNat a v).rd b = if b = a then BitVec.ofNat 32 v else d.rd b := rd_wr ..

theorem rd_wrInt (d : Dev) (a b : Nat) (v : Int) : (d.wrInt a v).rd b = if b = a then BitVec.ofInt 32 v else d.rd b := rd_wr ..

theorem rd_setBit (d : Dev) (a b i : Nat) (x : Bool) :
    (d.setBit a i x).rd b = if b = a then setWbit (d.rd a) i x else d.rd b := rd_wr ..

theorem rd_setFld (d : Dev) (a b hi lo v : Nat) :
    (d.setFld a hi lo v).rd b = if b = a then setWfld (d.rd a) hi lo v else d.rd b := rd_wr ..

theorem rd_bump (d : Dev) (a b : Nat) : (d.bump a).rd b = if b = a then satAdd (d.rd a) 1 else d.rd b := rd_wr ..

theorem rd_bumpBy (d : Dev) (a b k : Nat) : (d.bumpBy a k).rd b = if b = a then satAdd (d.rd a) k else d.rd b := rd_wr ..

theorem rd_bumpWrap (d : Dev) (a b : Nat) : (d.bumpWrap a).rd b = if b = a then d.rd a + 1 else d.rd b := rd_wr ..

/-- A bit of a word after one bit was set or cleared. -/
theorem wbit_setWbit (w : Word) (i j : Nat) (b : Bool) (h : i < 32) :
    wbit (setWbit w i b) j = if j = i then b else wbit w j := by
  unfold wbit setWbit
  by_cases hj : j = i
  · subst hj; cases b <;> simp [BitVec.getLsbD_twoPow, h]
  · have : ¬ i = j := fun e => hj e.symm
    cases b <;> simp [BitVec.getLsbD_twoPow, hj, this]
    exact fun hw => BitVec.lt_of_getLsbD hw

/-- The register bit that was set or cleared. -/
@[simp] theorem bit_setBit_same (d : Dev) (a i : Nat) (b : Bool) (h : i < 32) : (d.setBit a i b).bit a i = b := by
  simp [Dev.bit, rd_setBit, wbit_setWbit _ _ _ _ h]

/-- A bit of a register after a bit of a register was set or cleared. -/
theorem bit_setBit (d : Dev) (a a' i j : Nat) (b : Bool) (h : i < 32) :
    (d.setBit a i b).bit a' j = if a' = a ∧ j = i then b else d.bit a' j := by
  unfold Dev.bit
  rw [rd_setBit]
  by_cases ha : a' = a
  · simp [ha, wbit_setWbit _ _ _ _ h]
  · simp [ha]

theorem bit_wr_ne (d : Dev) (a a' j : Nat) (v : Word) (h : a' ≠ a) : (d.wr a v).bit a' j = d.bit a' j := by
  simp [Dev.bit, rd_wr, h]

/-- The field that was written. -/
theorem wfld_setWfld (w : Word) (hi lo v : Nat) (h : hi < 32) (hl : lo ≤ hi) :
    wfld (setWfld w hi lo v) hi lo = v % 2 ^ (hi + 1 - lo) := by
  unfold wfld setWfld
  have e : 2 ^ (hi + 1) = 2 ^ lo * 2 ^ (hi + 1 - lo) := by rw [← Nat.pow_add]; congr 1; omega
  have e2 : (2 : Nat) ^ 32 = 2 ^ (hi + 1) * 2 ^ (31 - hi) := by rw [← Nat.pow_add]; congr 1; omega
  have hlt : w.toNat < 2 ^ 32 := w.isLt
  generalize hq : w.toNat / 2 ^ (hi + 1) = q
  have hq2 : q < 2 ^ (31 - hi) := by
    rw [← hq]; apply Nat.div_lt_of_lt_mul; rw [← e2]; exact hlt
  have hv : v % 2 ^ (hi + 1 - lo) < 2 ^ (hi + 1 - lo) := Nat.mod_lt _ (Nat.two_pow_pos _)
  have hw : w.toNat % 2 ^ lo < 2 ^ lo := Nat.mod_lt _ (Nat.two_pow_pos _)
  generalize v % 2 ^ (hi + 1 - lo) = x at hv ⊢
  generalize w.toNat % 2 ^ lo = r at hw ⊢
  have hs : r + x * 2 ^ lo + q * 2 ^ (hi + 1) = r + 2 ^ lo * (x + 2 ^ (hi + 1 - lo) * q) := by
    rw [e, Nat.mul_add, Nat.mul_comm x, Nat.mul_comm q, Nat.mul_assoc, Nat.add_assoc]
  have hb : r + x * 2 ^ lo < 2 ^ (hi + 1) := by
    rw [e]
    calc r + x * 2 ^ lo < 2 ^ lo + x * 2 ^ lo := Nat.add_lt_add_right hw _
      _ = 2 ^ lo * (x + 1) := by rw [Nat.mul_add, Nat.mul_comm x]; omega
      _ ≤ _ := Nat.mul_le_mul_left _ hv
  have hb2 : r + x * 2 ^ lo + q * 2 ^ (hi + 1) < 2 ^ 32 := by
    rw [e2]
    calc r + x * 2 ^ lo + q * 2 ^ (hi + 1) < 2 ^ (hi + 1) + q * 2 ^ (hi + 1) := Nat.add_lt_add_right hb _
      _ = 2 ^ (hi + 1) * (q + 1) := by rw [Nat.mul_add, Nat.mul_comm q]; omega
      _ ≤ _ := Nat.mul_le_mul_left _ hq2
  rw [BitVec.toNat_ofNat, Nat.mod_eq_of_lt hb2, hs, Nat.add_mul_div_left _ _ (Nat.two_pow_pos _), Nat.div_eq_of_lt hw,
    Nat.zero_add, Nat.add_mul_mod_self_left, Nat.mod_eq_of_lt hv]

/-- A register's field after it was written. -/
theorem fld_setFld_same (d : Dev) (a hi lo v : Nat) (h : hi < 32) (hl : lo ≤ hi) :
    (d.setFld a hi lo v).fld a hi lo = v % 2 ^ (hi + 1 - lo) := by
  simp [Dev.fld, rd_setFld, wfld_setWfld _ _ _ _ h hl]

/-- Nothing changes between a state and itself. -/
theorem frame_refl (d : Dev) (ps : List Part) (as : List Nat) : d.Frame d ps as :=
  ⟨fun k _ => by cases k <;> rfl, fun _ _ => rfl⟩

/-- A register write after a change stays in the frame when its address is in it. -/
theorem frame_wr (d e : Dev) (ps : List Part) (as : List Nat) (a : Nat) (v : Word) (h : d.Frame e ps as) (ha : a ∈ as) :
    d.Frame (e.wr a v) ps as := by
  refine ⟨fun k hk => ?_, fun b hb => ?_⟩
  · have := h.1 k hk; cases k <;> first | exact this | simp at hk
  · rw [rd_wr, if_neg (by rintro rfl; exact hb ha)]; exact h.2 b hb

end Sys2Proof.Laws
end

