-- ==== Sys2Proof/Laws/Quiet.lean ====
section
/-! SUPPORT. The registers that the recorder, an interrupt, a flush, ownership and the occurrence of a fault source leave
alone. -/
set_option Elab.async false
namespace Sys2Proof.Laws
open Sys2Proof.Machine

/-- A register that only the marking of a fault source may reach, or nothing that the fault system does. -/
abbrev spared (a : Nat) : Prop := quietReg a ∨ (0x1E0004 ≤ a ∧ a < 0x1F0000)

theorem spared_ranges {a : Nat} (h : spared a) :
    ¬(0x20200 ≤ a ∧ a < 0x20400) ∧ ¬(0x122000 ≤ a ∧ a < 0x122180) ∧ ¬(0x140000 ≤ a ∧ a < 0x142000 ∧ a % 0x400 = 8) ∧
      ¬(0x1C0100 ≤ a ∧ a < 0x1C0200) ∧ ¬(0x1F0000 ≤ a ∧ a < 0x210000) := by
  obtain ⟨-, h1, h2, h3, h4, h5, -⟩ | h := h
  · exact ⟨h1, h2, h3, h4, by omega⟩
  · omega

theorem quiet_flt {a : Nat} (h : quietReg a) : ¬(0x1E0000 ≤ a ∧ a < 0x210000) := h.2.2.2.2.2.1

theorem foldl_rd {α : Type} (f : Dev → α → Dev) (a : Nat) (hf : ∀ d x, (f d x).rd a = d.rd a) (l : List α) (d : Dev) :
    (l.foldl f d).rd a = d.rd a := by
  induction l generalizing d with
  | nil => rfl
  | cons x l ih => rw [List.foldl_cons, ih, hf]

theorem foldl_mem_rd {α : Type} (f : Dev → α → Dev) (a : Nat) (l : List α) (hf : ∀ d, ∀ x ∈ l, (f d x).rd a = d.rd a)
    (d : Dev) : (l.foldl f d).rd a = d.rd a := by
  induction l generalizing d with
  | nil => rfl
  | cons x l ih =>
    rw [List.foldl_cons, ih (fun d y hy => hf d y (List.mem_cons_of_mem _ hy)), hf d x (List.mem_cons_self ..)]

theorem forRange_rd (n : Nat) (f : Nat → Dev → Dev) (a : Nat) (hf : ∀ i < n, ∀ d, (f i d).rd a = d.rd a) (d : Dev) :
    (forRange n f d).rd a = d.rd a :=
  foldl_mem_rd _ _ _ (fun d x hx => hf x (List.mem_range.1 hx) d) d

theorem wr_rd_ne (d : Dev) {a b : Nat} (v : Word) (h : b ≠ a) : (d.wr a v).rd b = d.rd b := by rw [rd_wr, if_neg h]

theorem pmcAdd_rd (d : Dev) (c k a : Nat) (hc : c < 128) (h : spared a) : (d.pmcAdd c k).rd a = d.rd a := by
  have hr := spared_ranges h
  have h1 : a ≠ R.PMCc_LO c := by unfold R.PMCc_LO; omega
  have h2 : a ≠ R.PMCc_HI c := by unfold R.PMCc_HI; omega
  have h3 : a ≠ R.PMC_WRAP (c / 32) := by unfold R.PMC_WRAP; omega
  unfold Dev.pmcAdd Dev.wrNat64
  dsimp only
  split <;> simp only [rd_setBit, rd_wrNat, h1, h2, h3, if_false]

theorem pmc_rd (d : Dev) (ev : Nat) (inst : Option Nat) (k a : Nat) (h : spared a) : (d.pmc ev inst k).rd a = d.rd a := by
  unfold Dev.pmc
  split
  · rfl
  · refine forRange_rd _ _ _ (fun c hc d => ?_) _
    split
    · exact pmcAdd_rd _ _ _ _ hc h
    · rfl

theorem ringCount_rd (d : Dev) (k : Nat) (ctr : Option Nat) (a : Nat) (hk : k < 6) (hc : ctr ≠ some a) (h : spared a) :
    (d.ringCount k ctr).rd a = d.rd a := by
  have h0 := h
  have hr := spared_ranges h
  have h1 : a ≠ R.PE_RINGk_DROP k := by unfold R.PE_RINGk_DROP; omega
  unfold Dev.ringCount
  cases ctr with
  | none =>
    show Dev.rd _ a = _
    simp only [rd_setRings, pmc_rd _ _ _ _ _ h0, rd_bump, h1, if_false]
  | some c =>
    have : a ≠ c := fun e => hc (by rw [e])
    simp only [rd_setRings, pmc_rd _ _ _ _ _ h0, rd_bump, h1, this, if_false]

theorem ringDrop_rd (d : Dev) (k b : Nat) (ctr : Option Nat) (a : Nat) (hk : k < 6) (hc : ctr ≠ some a) (h : spared a) :
    (d.ringDrop k b ctr).rd a = d.rd a := by
  have hr := spared_ranges h
  have h2 : a ≠ R.PE_RINGk_STAT k := by unfold R.PE_RINGk_STAT; omega
  unfold Dev.ringDrop
  rw [rd_setBit, if_neg h2, ringCount_rd _ _ _ _ hk hc h]

theorem ringOffer_rd (d : Dev) (k t : Nat) (body : List Byte) (ctr : Option Nat) (a : Nat) (hk : k < 6)
    (hc : ctr ≠ some a) (h : spared a) : (d.ringOffer k t body ctr).rd a = d.rd a := by
  unfold Dev.ringOffer
  split
  · rfl
  · rw [ringDrop_rd _ _ _ _ _ hk hc h, rd_setRings]

theorem resultOffer_rd (d : Dev) (lost : Bool) (body : List Byte) (a : Nat) (h : spared a) :
    (d.resultOffer lost body).rd a = d.rd a := by
  unfold Dev.resultOffer
  split
  · rw [ringCount_rd _ _ _ _ (by omega) (by simp) h, rd_setRings]
  · exact ringOffer_rd _ _ _ _ _ _ (by omega) (by simp) h

/-- The recorder's, the key store's, the pair's, the host interface's and the configuration's registers are not spared. -/
theorem spared_ne {a b : Nat} (h : spared a) (hb : ¬ spared b) : a ≠ b := fun e => hb (e ▸ h)

theorem recShow_rd (d : Dev) (a : Nat) (h : spared a) : d.recShow.rd a = d.rd a := by
  have h1 : a ≠ R.REC_RING_OLD := spared_ne h (by decide)
  have h2 : a ≠ R.REC_RING_FL := spared_ne h (by decide)
  have h3 : a ≠ R.REC_STG_LVL := spared_ne h (by decide)
  simp only [Dev.recShow, rd_wrNat, h1, h2, h3, if_false]

theorem recDma_rd (d : Dev) (bs : List Byte) (a : Nat) (h : spared a) : (d.recDma bs).rd a = d.rd a := by
  unfold Dev.recDma
  split
  · exact ringOffer_rd _ _ _ _ _ _ (by omega) (by simp) h
  · rfl

theorem recRing_rd (d : Dev) (bs : List Byte) (a : Nat) (h : spared a) : (d.recRing bs).1.rd a = d.rd a := by
  have h1 : a ≠ R.REC_RING_WR := spared_ne h (by decide)
  unfold Dev.recRing
  split
  · simp only [recShow_rd _ _ h, rd_wrNat, h1, if_false]; rfl
  · rfl

theorem recAppend1_rd (d : Dev) (r : Rec) (a : Nat) (h : spared a) : (d.recAppend1 r).1.rd a = d.rd a := by
  have h1 : a ≠ R.REC_SEQ := spared_ne h (by decide)
  have h2 : a ≠ R.REC_STG_OVF := spared_ne h (by decide)
  have h3 : a ≠ R.REC_STAT := spared_ne h (by decide)
  have h4 : a ≠ R.REC_DROP := spared_ne h (by decide)
  have hs : (d.bumpWrap R.REC_SEQ).rd a = d.rd a := by simp only [rd_bumpWrap, h1, if_false]
  have hr := recRing_rd (d.bumpWrap R.REC_SEQ) (d.recBytes r (d.bit R.REC_STAT 3)) a h
  unfold Dev.recAppend1
  dsimp only
  split
  · split
    · simp only [pmc_rd _ _ _ _ _ h, recDma_rd _ _ _ h, recShow_rd _ _ h]; exact hs
    · simp only [rd_setBit, rd_bump, h2, h3, if_false]; exact hs
  · split
    · next e => rw [e] at hr; simp only [pmc_rd _ _ _ _ _ h, recDma_rd _ _ _ h]; exact hr.trans hs
    · next e => rw [e] at hr; simp only [rd_setBit, rd_bump, h3, h4, if_false]; exact hr.trans hs

theorem recAppend_rd (d : Dev) (r : Rec) (a : Nat) (h : spared a) : (d.recAppend r).1.rd a = d.rd a := by
  unfold Dev.recAppend
  split
  · rfl
  · split
    · exact recAppend1_rd _ _ _ h
    · dsimp only
      split <;> split
      · rw [recAppend1_rd _ _ _ h]; exact recAppend1_rd _ _ _ h
      · exact recAppend1_rd _ _ _ h
      · rw [recAppend1_rd _ _ _ h]; exact recAppend1_rd _ _ _ h
      · exact recAppend1_rd _ _ _ h

theorem slotAbandon_rd (d : Dev) (s a : Nat) (h : spared a) : (d.slotAbandon s).rd a = d.rd a := by
  have h1 : a ≠ R.KS_SLOTs (s % 64) := by
    have hr := spared_ranges h; unfold R.KS_SLOTs; omega
  have h2 : a ≠ R.KS_STAT := spared_ne h (by decide)
  have h3 : a ≠ R.NTS_STAT := spared_ne h (by decide)
  have hb : ((({ d with ks := { d.ks with sram := Map.put d.ks.sram (fun _ => []) s [], recheck := s :: d.ks.recheck } } :
      Dev).wrNat (R.KS_SLOTs (s % 64)) (2 ^ 31)).setBit R.KS_STAT 2 true).rd a = d.rd a := by
    simp only [rd_setBit, rd_wrNat, h1, h2, if_false]; rfl
  unfold Dev.slotAbandon
  dsimp only
  split
  · simp only [rd_setBit, h3, if_false]; exact hb
  · exact hb

theorem ksAbandon_rd (d : Dev) (a : Nat) (h : spared a) : d.ksAbandon.rd a = d.rd a := by
  have h1 : a ≠ R.KS_STAT := spared_ne h (by decide)
  have h2 : a ≠ R.KS_APGOR_REJ := spared_ne h (by decide)
  have h3 : a ≠ R.PE_HOSTOPS := spared_ne h (by decide)
  have hb : (({ d with ks := { d.ks with store := none } } : Dev).setBit R.KS_STAT 4 false).rd a = d.rd a := by
    simp only [rd_setBit, h1, if_false]; rfl
  unfold Dev.ksAbandon
  split
  · rfl
  · dsimp only
    rw [rd_bumpWrap, if_neg h3, resultOffer_rd _ _ _ _ h, recAppend_rd _ _ _ h, rd_bump, if_neg h2]
    split
    · rw [slotAbandon_rd _ _ _ h]; exact hb
    · exact hb

theorem flAbandon_rd (d : Dev) (a : Nat) (h : spared a) : d.flAbandon.rd a = d.rd a := by
  have h1 : a ≠ R.CFG_FL_STAT := spared_ne h (by decide)
  have ht : d.flTorn.rd a = d.rd a := by unfold Dev.flTorn; split <;> rfl
  unfold Dev.flAbandon
  split
  · rw [rd_setFld, if_neg h1, rd_setBit, if_neg h1, ht]
  · rfl

theorem startFlush_rd (d : Dev) (r a : Nat) (h : spared a) : (d.startFlush r).rd a = d.rd a := by
  have h1 : a ≠ R.REC_STAT := spared_ne h (by decide)
  unfold Dev.startFlush
  split
  · rfl
  · split
    · rfl
    · rw [rd_setBit, if_neg h1]
      dsimp only
      split
      · rfl
      · show (d.ksAbandon.flAbandon).rd a = _
        rw [flAbandon_rd _ _ h, ksAbandon_rd _ _ h]

theorem msixSend_rd (d : Dev) (v a : Nat) : (d.msixSend v).rd a = d.rd a := by
  unfold Dev.msixSend
  split <;> rfl

theorem msixRises_rd (d e : Dev) (a : Nat) : (Dev.msixRises d e).rd a = e.rd a := by
  refine foldl_rd _ _ (fun d v => ?_) _ _
  split
  · exact msixSend_rd ..
  · rfl

theorem interrupt_rd_ne (d : Dev) (s a : Nat) (h : a ≠ R.HIF_ISTAT) (h2 : a ≠ pAddr .spi R.HIF_ISTAT) :
    (d.interrupt s).rd a = d.rd a := by
  unfold Dev.interrupt
  rw [msixRises_rd, rd_setBit, if_neg h2, rd_setBit, if_neg h]

theorem interrupt_rd (d : Dev) (s a : Nat) (h : spared a) : (d.interrupt s).rd a = d.rd a :=
  interrupt_rd_ne _ _ _ (spared_ne h (by decide)) (spared_ne h (by decide))

theorem refreshFaultN_rd (d : Dev) (a : Nat) (h : spared a) : d.refreshFaultN.rd a = d.rd a := by
  have h1 : a ≠ R.FLT_STAT := spared_ne h (by decide)
  unfold Dev.refreshFaultN
  dsimp only
  split
  · rfl
  · exact (rd_setBit ..).trans (if_neg h1)

theorem setPairState_rd (d : Dev) (st a : Nat) (h : spared a) : (d.setPairState st).rd a = d.rd a := by
  have h1 : a ≠ R.PAIR_STATE := spared_ne h (by decide)
  unfold Dev.setPairState
  split
  · rfl
  · rw [interrupt_rd _ _ _ h, rd_setFld, if_neg h1]

theorem clkShow_rd (j : Nat) (d : Dev) (a : Nat) (hj : j < 12) (h : spared a) : (clkShow j d).rd a = d.rd a := by
  have hr := spared_ranges h
  have h1 : a ≠ R.CLKOj_STAT j := by unfold R.CLKOj_STAT; omega
  have h2 : a ≠ R.CLKOj_ADLL j := by unfold R.CLKOj_ADLL; omega
  unfold clkShow
  dsimp only
  split <;> split
  · rw [rd_setBit, if_neg h1, rd_setBit, if_neg h1]
  · rw [rd_emit, rd_setClkOut, rd_setBit, if_neg h1, rd_setBit, if_neg h1]
  · rw [rd_setBit, if_neg h2, rd_setBit, if_neg h1, rd_setBit, if_neg h1]
  · rw [rd_emit, rd_setClkOut, rd_setBit, if_neg h2, rd_setBit, if_neg h1, rd_setBit, if_neg h1]

theorem eioOwn_rd (n : Nat) (d : Dev) (a : Nat) : (eioOwn n d).rd a = d.rd a := by
  unfold eioOwn Dev.eioPinTo
  repeat' split
  all_goals rfl

theorem ppsOwn_rd (m : Nat) (d : Dev) (a : Nat) : (ppsOwn m d).rd a = d.rd a := by
  unfold ppsOwn Dev.ppsPinTo
  repeat' split
  all_goals rfl

theorem setOwn_rd (d : Dev) (b : Bool) (a : Nat) (h : spared a) : (d.setOwn b).rd a = d.rd a := by
  have h1 : a ≠ R.PAIR_STATE := spared_ne h (by decide)
  unfold Dev.setOwn
  split
  · rfl
  · dsimp only
    rw [forRange_rd, forRange_rd _ ppsOwn _ fun m _ d => ppsOwn_rd m d a, forRange_rd _ eioOwn _ fun n _ d => eioOwn_rd n d a,
      forRange_rd _ clkShow _ fun j hj d => clkShow_rd j d a hj h, rd_emit, rd_setBit, if_neg h1]
    · intro i hi d
      have hr := spared_ranges h
      have h2 : a ≠ R.PTPi_STAT i := by unfold R.PTPi_STAT; omega
      rw [rd_setBit, if_neg h2]

theorem faultEnter_rd (d : Dev) (a : Nat) (h : spared a) : d.faultEnter.rd a = d.rd a := by
  have h1 : a ≠ R.FLT_STAT := spared_ne h (by decide)
  have h2 : a ≠ R.PAIR_STATE := spared_ne h (by decide)
  have h3 : a ≠ R.PAIR_STAT := spared_ne h (by decide)
  unfold Dev.faultEnter
  dsimp only
  split
  · rw [rd_setBit, if_neg h1]
  · have hb : ∀ x : PairHid, ((((({ (d.setBit R.FLT_STAT 1 d.faultCond) with pair := x } : Dev).setBit R.PAIR_STATE 11
        true).emit (.causeway true)).setOwn false).setBit R.PAIR_STAT 9 false).rd a = d.rd a := by
      intro x
      rw [rd_setBit, if_neg h3, setOwn_rd _ _ _ h, rd_emit, rd_setBit, if_neg h2]
      show (d.setBit R.FLT_STAT 1 d.faultCond).rd a = _
      rw [rd_setBit, if_neg h1]
    split
    · exact hb _
    · rw [setPairState_rd _ _ _ h]; exact hb _

theorem stopAlive_rd (d : Dev) (a : Nat) (h : spared a) : d.stopAlive.rd a = d.rd a := by
  have h1 : a ≠ R.FLT_STAT := spared_ne h (by decide)
  unfold Dev.stopAlive
  dsimp only
  rw [startFlush_rd _ _ _ h, faultEnter_rd _ _ h, rd_setBit, if_neg h1]
  have hx : ∀ y : Dev, y.rd a = d.rd a → (y.setBit R.FLT_STAT 3 true).rd a = d.rd a :=
    fun y hy => by rw [rd_setBit, if_neg h1, hy]
  split
  · split
    · exact hx _ rfl
    · exact hx _ rfl
  · split
    · exact hx _ rfl
    · exact hx _ rfl

theorem chipRst_rd (d : Dev) (a : Nat) (h : spared a) : d.chipRst.rd a = d.rd a := by
  have h1 : a ≠ R.FLT_STAT := spared_ne h (by decide)
  unfold Dev.chipRst
  split
  · rfl
  · rw [startFlush_rd _ _ _ h, faultEnter_rd _ _ h, rd_setBit, if_neg h1]; rfl

theorem gateOpen_rd (d : Dev) (i a : Nat) (h : spared a) : (d.gateOpen i).rd a = d.rd a := by
  have h1 : a ≠ R.CLK_GATE_OPEN := spared_ne h (by decide)
  unfold Dev.gateOpen
  dsimp only
  split
  · rfl
  · rw [rd_setBit, if_neg h1]; rfl

theorem revoke_rd (d : Dev) (t : Target) (a : Nat) (ht : t ≠ .pe) (h : spared a) : (d.revoke t).rd a = d.rd a := by
  have h1 : a ≠ R.REC_STAT := spared_ne h (by decide)
  unfold Dev.revoke
  split
  · exact absurd rfl ht
  · exact ksAbandon_rd _ _ h
  · rw [rd_setBit, if_neg h1]
  · rfl

theorem startBlkRst_rd (d : Dev) (t : Target) (a : Nat) (ht : t ≠ .pe) (h : spared a) :
    (d.startBlkRst t).rd a = d.rd a := by
  have h1 : a ≠ R.FLT_STAT := spared_ne h (by decide)
  unfold Dev.startBlkRst
  dsimp only
  rw [revoke_rd _ _ _ ht h, rd_setBit, if_neg h1]
  exact foldl_rd _ _ (fun d i => gateOpen_rd d i a h) _ _

theorem nmiTraps_rd (d : Dev) (a : Nat) (h : spared a) : d.nmiTraps.rd a = d.rd a := by
  refine foldl_rd _ _ (fun d c => ?_) _ _
  simp only [Dev.freeBytes, recAppend_rd _ _ _ h]
  exact gateOpen_rd _ _ _ h

/-- What the marking of source s writes. -/
def markRegs (s : Nat) : List Nat :=
  [R.FLT_PEND (s / 32), R.FLT_CNTs s, R.FLT_INFOs_LO s, R.FLT_INFOs_HI s, R.FLT_STAT, R.FLT_LAST_SEC, R.FLT_LAST_NS]

theorem faultMark_rd (d : Dev) (s info a : Nat) (h : a ∉ markRegs s) : (d.faultMark s info).rd a = d.rd a := by
  simp only [markRegs, List.mem_cons, List.not_mem_nil, or_false, not_or] at h
  obtain ⟨h1, h2, h3, h4, h5, h6, h7⟩ := h
  simp only [Dev.faultMark, Dev.wrNat64, rd_wrNat, rd_setFld, rd_bump, rd_setBit, h1, h2, h3, h4, h5, h6, h7, if_false]

theorem tail_rd (d : Dev) (s r : Nat) (defer : Bool) (a : Nat) (ht : target? s ≠ some .pe) (h : spared a) :
    (match r with
      | 2 => d.nmiTraps
      | 3 => match target? s with
        | some t => if defer then d else (d.noteReset s).startBlkRst t
        | none => d
      | 4 => d.chipRst
      | 5 => d.stopAlive
      | _ => d).rd a = d.rd a := by
  split
  · exact nmiTraps_rd _ _ h
  · split
    · next t e =>
      split
      · rfl
      · rw [startBlkRst_rd _ _ _ (fun e2 => ht (by rw [e, e2])) h]; rfl
    · rfl
  · exact chipRst_rd _ _ h
  · exact stopAlive_rd _ _ h
  · rfl

/-- The occurrence of a source leaves alone what neither its own marking nor that of sources 93 and 94 writes. -/
theorem raiseF_rd (fuel : Nat) : ∀ (s info : Nat) (d : Dev) (a : Nat), target? s ≠ some .pe → spared a →
    a ∉ markRegs s → a ∉ markRegs 93 → a ∉ markRegs 94 → (Dev.raiseF fuel s info d).rd a = d.rd a := by
  induction fuel with
  | zero => intro s info d a _ _ h1 _ _; exact faultMark_rd _ _ _ _ h1
  | succ fuel ih =>
    intro s info d a ht h h1 h2 h3
    have hst : a ≠ R.FLT_STAT := spared_ne h (by decide)
    unfold Dev.raiseF
    dsimp only
    refine (refreshFaultN_rd _ _ h).trans ((tail_rd _ _ _ _ _ ht h).trans ?_)
    repeat' split
    all_goals
      simp only [startFlush_rd _ _ _ h, interrupt_rd _ _ _ h, ih 94 _ _ a (by decide) h h3 h2 h3,
        ih 93 _ _ a (by decide) h h2 h2 h3, rd_setBit, hst, if_false, recAppend_rd _ _ _ h, faultMark_rd _ _ _ _ h1]

theorem raise_rd (d : Dev) (s info a : Nat) (ht : target? s ≠ some .pe) (h : spared a)
    (h1 : a ∉ markRegs s) (h2 : a ∉ markRegs 93) (h3 : a ∉ markRegs 94) : (d.raise s info).rd a = d.rd a :=
  raiseF_rd _ _ _ _ _ ht h h1 h2 h3

theorem quiet_markRegs (s a : Nat) (hs : s < 96) (h : quietReg a) : a ∉ markRegs s := by
  have h := quiet_flt h
  simp only [markRegs, List.mem_cons, List.not_mem_nil, or_false, not_or, R.FLT_PEND, R.FLT_CNTs, R.FLT_INFOs_LO,
    R.FLT_INFOs_HI, R.FLT_STAT, R.FLT_LAST_SEC, R.FLT_LAST_NS]
  omega

/-- The occurrence of a source that does not reset the packet engine leaves the quiet registers alone. -/
theorem raise_quiet (d : Dev) (s info a : Nat) (hs : s < 96) (ht : target? s ≠ some .pe) (h : quietReg a) :
    (d.raise s info).rd a = d.rd a :=
  raise_rd _ _ _ _ ht (.inl h) (quiet_markRegs _ _ hs h) (quiet_markRegs _ _ (by omega) h) (quiet_markRegs _ _ (by omega) h)

theorem faultMark_cnt (d : Dev) (s info : Nat) (hs : s < 96) :
    (d.faultMark s info).rd (R.FLT_CNTs s) = satAdd (d.rd (R.FLT_CNTs s)) 1 := by
  have e : ∀ {a b : Nat}, a ≠ b → (a = b) = False := fun h => eq_false h
  simp only [Dev.faultMark, Dev.wrNat64, rd_wrNat, rd_setFld, rd_bump, rd_setBit,
    e (show R.FLT_CNTs s ≠ R.FLT_LAST_NS by unfold R.FLT_CNTs R.FLT_LAST_NS; omega),
    e (show R.FLT_CNTs s ≠ R.FLT_LAST_SEC by unfold R.FLT_CNTs R.FLT_LAST_SEC; omega),
    e (show R.FLT_CNTs s ≠ R.FLT_STAT by unfold R.FLT_CNTs R.FLT_STAT; omega),
    e (show R.FLT_CNTs s ≠ R.FLT_INFOs_HI s by unfold R.FLT_CNTs R.FLT_INFOs_HI; omega),
    e (show R.FLT_CNTs s ≠ R.FLT_INFOs_LO s by unfold R.FLT_CNTs R.FLT_INFOs_LO; omega),
    e (show R.FLT_CNTs s ≠ R.FLT_PEND (s / 32) by unfold R.FLT_CNTs R.FLT_PEND; omega), if_false, if_true]

theorem pend_ne (s w : Nat) (hs : s < 96) (hw : w < 3) :
    R.FLT_PEND w ≠ R.FLT_CNTs s ∧ R.FLT_PEND w ≠ R.FLT_INFOs_LO s ∧ R.FLT_PEND w ≠ R.FLT_INFOs_HI s ∧
      R.FLT_PEND w ≠ R.FLT_STAT ∧ R.FLT_PEND w ≠ R.FLT_LAST_SEC ∧ R.FLT_PEND w ≠ R.FLT_LAST_NS := by
  simp only [R.FLT_PEND, R.FLT_CNTs, R.FLT_INFOs_LO, R.FLT_INFOs_HI, R.FLT_STAT, R.FLT_LAST_SEC, R.FLT_LAST_NS]; omega

/-- Marking a source sets its pending bit and no other. -/
theorem faultMark_pend (d : Dev) (s info w i : Nat) (hs : s < 96) (hw : w < 3) :
    (d.faultMark s info).bit (R.FLT_PEND w) i = ((w == s / 32 && i == s % 32) || d.bit (R.FLT_PEND w) i) := by
  obtain ⟨h1, h2, h3, h4, h5, h6⟩ := pend_ne s w hs hw
  have e : (d.faultMark s info).rd (R.FLT_PEND w) = (d.setBit (R.FLT_PEND (s / 32)) (s % 32) true).rd (R.FLT_PEND w) := by
    simp only [Dev.faultMark, Dev.wrNat64, rd_wrNat, rd_setFld, rd_bump, h1, h2, h3, h4, h5, h6, if_false]
  have e2 : (d.faultMark s info).bit (R.FLT_PEND w) i = (d.setBit (R.FLT_PEND (s / 32)) (s % 32) true).bit (R.FLT_PEND w) i := by
    unfold Dev.bit; rw [e]
  rw [e2, bit_setBit _ _ _ _ _ _ (Nat.mod_lt _ (by decide))]
  have : R.FLT_PEND w = R.FLT_PEND (s / 32) ↔ w = s / 32 := by unfold R.FLT_PEND; omega
  by_cases hw : w = s / 32 <;> by_cases hi : i = s % 32 <;> simp [this, hw, hi]

theorem spared_pend (w : Nat) (hw : w < 3) : spared (R.FLT_PEND w) := by
  unfold spared R.FLT_PEND; right; omega

/-- Once pending, a source stays pending whatever occurs. -/
theorem raiseF_pend (fuel : Nat) : ∀ (s info : Nat) (d : Dev) (w i : Nat), s < 96 → target? s ≠ some .pe → w < 3 →
    ((w = s / 32 ∧ i = s % 32) ∨ d.bit (R.FLT_PEND w) i = true) → (Dev.raiseF fuel s info d).bit (R.FLT_PEND w) i = true := by
  induction fuel with
  | zero =>
    intro s info d w i hs _ hw h
    unfold Dev.raiseF
    rw [faultMark_pend _ _ _ _ _ hs hw]
    obtain ⟨h1, h2⟩ | h := h
    · simp [h1, h2]
    · simp [h]
  | succ fuel ih =>
    intro s info d w i hs ht hw hb
    have h := spared_pend w hw
    have hst : R.FLT_PEND w ≠ R.FLT_STAT := spared_ne h (by decide)
    have hm : (d.faultMark s info).bit (R.FLT_PEND w) i = true := by
      rw [faultMark_pend _ _ _ _ _ hs hw]
      obtain ⟨h1, h2⟩ | hb := hb
      · simp [h1, h2]
      · simp [hb]
    have cong : ∀ x y : Dev, x.rd (R.FLT_PEND w) = y.rd (R.FLT_PEND w) → y.bit (R.FLT_PEND w) i = true →
        x.bit (R.FLT_PEND w) i = true := fun x y e hy => by unfold Dev.bit at *; rw [e]; exact hy
    have hrec : ∀ r : Rec, ((d.faultMark s info).recAppend r).1.bit (R.FLT_PEND w) i = true :=
      fun r => cong _ _ (recAppend_rd _ _ _ h) hm
    have h93 : ∀ (b : Bool) (x : Dev), x.bit (R.FLT_PEND w) i = true →
        (if b = true ∧ s ≠ 93 then Dev.raiseF fuel 93 0 x else x).bit (R.FLT_PEND w) i = true := by
      intro b x hx
      split
      · exact ih _ _ _ _ _ (by omega) (by decide) hw (.inr hx)
      · exact hx
    have h94 : ∀ (b : Bool) (x : Dev), x.bit (R.FLT_PEND w) i = true →
        (if b = true then Dev.raiseF fuel 94 s (x.setBit R.FLT_STAT 5 true) else x).bit (R.FLT_PEND w) i = true := by
      intro b x hx
      split
      · exact ih _ _ _ _ _ (by omega) (by decide) hw (.inr (cong _ _ ((rd_setBit ..).trans (if_neg hst)) hx))
      · exact hx
    unfold Dev.raiseF
    dsimp only
    refine cong _ _ (refreshFaultN_rd _ _ h) (cong _ _ (tail_rd _ _ _ _ _ ht h) ?_)
    generalize hp : Dev.recAppend _ _ = p
    have hx := h93 p.2 p.1 (hp ▸ hrec _)
    generalize (if p.2 = true ∧ s ≠ 93 then Dev.raiseF fuel 93 0 p.1 else p.1) = x at hx ⊢
    have hy := h94 (d.reactionOf s).2 x hx
    generalize (if (d.reactionOf s).2 = true then Dev.raiseF fuel 94 s (x.setBit R.FLT_STAT 5 true) else x) = y at hy ⊢
    have hz : (if 1 ≤ (d.reactionOf s).1 ∧ y.bit (R.FLT_INTEN (s / 32)) (s % 32) = true then y.interrupt 0 else y).bit
        (R.FLT_PEND w) i = true := by
      split
      · exact cong _ _ (interrupt_rd _ _ _ h) hy
      · exact hy
    generalize (if 1 ≤ (d.reactionOf s).1 ∧ y.bit (R.FLT_INTEN (s / 32)) (s % 32) = true then y.interrupt 0 else y) = z
      at hz ⊢
    split
    · exact cong _ _ (startFlush_rd _ _ _ h) hz
    · exact hz

/-- The occurrence of a source leaves it pending and counted. -/
theorem raise_raised (d : Dev) (s info : Nat) (hs : s < 93) (ht : target? s ≠ some .pe) : d.Raised (d.raise s info) s := by
  refine ⟨raiseF_pend _ _ _ _ _ _ (by omega) ht (by omega) (.inl ⟨rfl, rfl⟩), ?_⟩
  have h : spared (R.FLT_CNTs s) := by unfold spared R.FLT_CNTs; right; omega
  have hne : ∀ x, 93 ≤ x → x < 95 → R.FLT_CNTs s ∉ markRegs x := by
    intro x h1 h2
    simp only [markRegs, List.mem_cons, List.not_mem_nil, or_false, not_or, R.FLT_PEND, R.FLT_CNTs, R.FLT_INFOs_LO,
      R.FLT_INFOs_HI, R.FLT_STAT, R.FLT_LAST_SEC, R.FLT_LAST_NS]
    omega
  have hst : R.FLT_CNTs s ≠ R.FLT_STAT := spared_ne h (by decide)
  have i93 : ∀ f i d, (Dev.raiseF f 93 i d).rd (R.FLT_CNTs s) = d.rd (R.FLT_CNTs s) := fun f i d =>
    raiseF_rd f 93 i d _ (by decide) h (hne 93 (by omega) (by omega)) (hne 93 (by omega) (by omega)) (hne 94 (by omega) (by omega))
  have i94 : ∀ f i d, (Dev.raiseF f 94 i d).rd (R.FLT_CNTs s) = d.rd (R.FLT_CNTs s) := fun f i d =>
    raiseF_rd f 94 i d _ (by decide) h (hne 94 (by omega) (by omega)) (hne 93 (by omega) (by omega)) (hne 94 (by omega) (by omega))
  unfold Dev.raise Dev.raiseF
  dsimp only
  refine (refreshFaultN_rd _ _ h).trans ((tail_rd _ _ _ _ _ ht h).trans ?_)
  repeat' split
  all_goals
    simp only [startFlush_rd _ _ _ h, interrupt_rd _ _ _ h, i93, i94, rd_setBit, hst, if_false, recAppend_rd _ _ _ h,
      faultMark_cnt _ _ _ (show s < 96 by omega)]

/-- A level source occurs at its onset and never while its condition lasts. -/
theorem raiseLevel_quiet (d : Dev) (s info a : Nat) (hs : s < 96) (ht : target? s ≠ some .pe) (h : quietReg a) :
    (d.raiseLevel s info).rd a = d.rd a := by
  unfold Dev.raiseLevel
  split
  · rfl
  · have : a ≠ R.FLT_ACTIVE (s / 32) := by have := quiet_flt h; unfold R.FLT_ACTIVE; omega
    rw [raise_quiet _ _ _ _ hs ht h, rd_setBit, if_neg this]

theorem endLevel_quiet (d : Dev) (s a : Nat) (hs : s < 96) (h : quietReg a) : (d.endLevel s).rd a = d.rd a := by
  unfold Dev.endLevel
  split
  · rfl
  · have : a ≠ R.FLT_ACTIVE (s / 32) := by have := quiet_flt h; unfold R.FLT_ACTIVE; omega
    dsimp only
    rw [recAppend_rd _ _ _ (.inl h), rd_setBit, if_neg this]

theorem record_rd (d : Dev) (typ blk : Nat) (body : List Byte) (a : Nat) (h : quietReg a) :
    (d.record typ blk body).rd a = d.rd a := by
  have := recAppend_rd d ⟨typ, blk, body⟩ a (.inl h)
  unfold Dev.record
  split
  · next e => rw [e] at this; rw [raise_quiet _ _ _ _ (by decide) (by decide) h]; exact this
  · next e => rw [e] at this; exact this

end Sys2Proof.Laws
end

