-- ==== Sys2Proof/Tests/Slice0.lean ====
section
/-! SUPPORT. Small tests: a witness for the hypotheses of each statement, an ill-formed term for each check of
well-formedness, and the spec's worked examples. NOTES.md names the four kinds of clause that have no witness. -/
set_option Elab.async false
open Sys2Proof Sys2Proof.Machine
namespace Sys2Proof.Tests

/-- A device in service: the image is applied, RESET_N is high, the tree runs from the
root, and both ports hold the Custodian role. -/
def up : Dev :=
  ((({ sys := { applied := true, resetN := true } } : Dev).wrNat R.KS_ROLE 0x80000000).wrNat (pAddr .spi R.KS_ROLE)
    0x80000000).setFld R.CLK_STAT 6 0 0x1C

/-- A device in service whose ports are Observers. -/
def obs : Dev := { sys := { applied := true, resetN := true } }

/-- A state of the device with an empty queue. -/
def st (d : Dev) : State := { dev := d }

/-! ### Witnesses: every hypothesis of the statements is met by a concrete state -/

theorem wit_RegistersCanonicalStep : State.reset.dev.regsWf ∧ ∃ t, step State.reset = .next t := ⟨Sys2Proof.Laws.Map.nil_wf _, _, rfl⟩

theorem wit_ObserverWritesIgnored : custodianOnly (.tbSnap .spi 1) = some .spi ∧ obs.reaches .spi = true ∧
    obs.isCust .spi = false ∧ custodianOnly (.tbIncHiWrite (.host .pcie) 7 0) = some .pcie ∧
    State.reset.dev.reaches .pcie = false := by
  repeat' apply And.intro
  all_goals decide +kernel

theorem wit_LatchReads : latchesOf (.ksCtrLatchRead .pcie) = some (.pcie, R.KS_CTR_LO, [R.KS_CTR_HI]) ∧
    obs.reaches .pcie = true ∧ obs.sys.applied = true := by
  repeat' apply And.intro
  all_goals decide +kernel

theorem wit_SpecialLatchReads : up.reaches .pcie = true ∧ up.sys.applied = true ∧ up.isCust .pcie = true ∧
    obs.reaches .spi = true ∧ obs.isCust .spi = false ∧ obs.bit R.PMC_CFG 0 = false := by
  repeat' apply And.intro
  all_goals decide +kernel

/-- A loop that is open. -/
def opened (n : Nat) : Dev := up.setBit (R.SRVn_STAT n) 6 true

theorem wit_IncrementCommits : up.maySteer .device 7 ∧ (opened 7).maySteer (.host .spi) 7 ∧
    (0x9FEB * 2 ^ 32 + 0x851EB852 = 0x9FEB851EB852 ∧ 0xA014 * 2 ^ 32 + 0x7AE147AE = 0xA0147AE147AE) ∧
    up.fld (R.TBn_INC_HI 7) 19 0 * 2 ^ 32 + (0 : Word).toNat = 0xA00000000000 ∧
    up.bincInRange 0x500000000000 = false ∧ up.bincInRange (200 * 2 ^ 40) = true := by
  unfold Dev.maySteer Dev.commands
  repeat' apply And.intro
  all_goals decide +kernel

theorem wit_NonWriterIgnored : (opened 0).loopOpen 0 = true ∧ up.commands .pcie ∧ up.loopOpen 0 = false := by
  unfold Dev.commands
  repeat' apply And.intro
  all_goals decide +kernel

/-- A time base with an adjustment of 2^79 units left to apply, in add mode. -/
def owing (rem : Int) : Dev := ((opened 1).setTb 1 { rem := rem }).wrNat (R.TBn_PADJ_HI 1) 0x80000000

theorem wit_PhaseAdjustments : (owing 0).maySteer (.host .pcie) 1 ∧ up.bit (R.TBn_PADJ_HI 1) 31 = false ∧
    (owing (2 ^ 79 - 2 ^ 33)).bit (R.TBn_PADJ_HI 1) 31 = true ∧
    ((owing (2 ^ 79 - 2 ^ 33)).tbAt 1).owed + signed 48 1 * 2 ^ 32 = 2 ^ 79 - 2 ^ 32 ∧
    (2 : Int) ^ 79 - 2 ^ 32 < ((owing (2 ^ 79 - 2 ^ 33)).tbAt 1).owed + signed 48 2 * 2 ^ 32 ∧
    ((owing (-(2 ^ 79))).tbAt 1).owed + signed 48 0xFFFFFFFFFFFF * 2 ^ 32 < -(2 ^ 79) ∧
    wfld 1 9 0 = 1 ∧ wfld 1000 9 0 = 1000 ∧ wfld 1001 9 0 = 1001 ∧ ((owing 5).tbAt 1).owed ≠ 0 := by
  unfold Dev.maySteer Dev.commands
  repeat' apply And.intro
  all_goals decide +kernel

/-- An unset time base that the host may set, at an instant so many ns ahead. -/
def settable (ns : Nat) : Dev := (up.setBit (R.TBn_CFG 2) 2 true).wrNat (R.TBn_SET_AT_NS 2) ns

theorem wit_InitialSetArms : up.commands .spi ∧
    ((settable 400).bit (R.TBn_CFG 2) 2 = true ∧ (settable 400).isSet 2 = false ∧ ((settable 400).tbAt 2).armed = none ∧
      400 * 2 ^ 16 ≤ signedDiff ((settable 400).nat (R.TBn_SET_AT_SEC 2)) ((settable 400).nat (R.TBn_SET_AT_NS 2)) 0
        ((settable 400).count 2)) ∧
    signedDiff ((settable 399).nat (R.TBn_SET_AT_SEC 2)) ((settable 399).nat (R.TBn_SET_AT_NS 2)) 0
      ((settable 399).count 2) < 400 * 2 ^ 16 ∧ up.bit (R.TBn_CFG 2) 2 = false := by
  unfold Dev.commands
  repeat' apply And.intro
  all_goals decide +kernel

/-- A set time base whose leap schedule a Custodian writes, with a leap at some second. -/
def leaping (sec : Nat) : Dev :=
  ((up.setBit (R.TBn_CFG 0) 3 true).setBit (R.TBn_STAT 0) 0 true).wrNat (R.TBn_LEAP_AT_LO 0) sec

theorem wit_LeapScheduleHeld : (leaping 10).mayLeap (.host .pcie) 0 ∧ up.mayLeap .device 0 ∧ (leaping 10).isSet 0 = true ∧
    (leaping 10).bit (R.TBn_STAT 0) 6 = false ∧ wfld 60 16 0 = 60 ∧ wfld 86400 16 0 = 86400 ∧ wfld 59 16 0 = 59 ∧
    wfld 3 1 0 = 3 ∧ wfld 1 1 0 = 1 ∧ wbit 1 2 = false ∧ wfld 5 1 0 = 1 ∧ wbit 5 2 = true ∧
    ((leaping 0).nat (R.TBn_LEAP_AT_HI 0) * 2 ^ 32 + (leaping 0).nat (R.TBn_LEAP_AT_LO 0)) * secUnit ≤ (leaping 0).count 0 ∧
    (leaping 1).count 0 < ((leaping 1).nat (R.TBn_LEAP_AT_HI 0) * 2 ^ 32 + (leaping 1).nat (R.TBn_LEAP_AT_LO 0)) * secUnit := by
  unfold Dev.mayLeap Dev.commands
  repeat' apply And.intro
  all_goals decide +kernel

/-- A time base with a leap: smeared or not, deleted or inserted. -/
def leapOf (smear del : Bool) : Dev := (up.setTb 3 { leap := some ⟨smear, del, secUnit, 0, 2 * secUnit, false⟩ }).setBit (R.TBn_STAT 3) 7 true

theorem wit_LeapsCount : ((leapOf false false).tbAt 3).leap = some ⟨false, false, secUnit, 0, 2 * secUnit, false⟩ ∧
    (leapOf false false).bit (R.TBn_STAT 3) 7 = true ∧
    ((leapOf false true).tbAt 3).leap = some ⟨false, true, secUnit, 0, 2 * secUnit, false⟩ ∧
    ((leapOf true true).tbAt 3).leap = some ⟨true, true, secUnit, 0, 2 * secUnit, false⟩ := by
  repeat' apply And.intro
  all_goals decide +kernel

/-! Event pins, interpolators, PPS outputs -/

/-- Event pin 31 in a mode, with more bits of its configuration. -/
def pin (mode more : Nat) : Dev := up.wrNat (R.EIOn_CFG 31) (mode + more)

theorem wit_EventPinArming : up.commands .pcie ∧ up.bit (R.EIOn_STAT 31) 0 = false ∧
    (up.setBit (R.EIOn_STAT 31) 0 true).bit (R.EIOn_STAT 31) 0 = true ∧ wfld 3 2 0 < 4 ∧ 4 ≤ wfld 4 2 0 ∧
    wfld 1000000 19 0 = 1000000 ∧ wfld 1000001 19 0 = 1000001 := by
  unfold Dev.commands
  repeat' apply And.intro
  all_goals decide +kernel

theorem wit_EventPinPulses :
    (((pin 1 0x400).setEio 31 { running := true }).eioAt 31).running = true ∧
    (pin 1 0x400).gated ((pin 1 0x400).bit (R.EIOn_CFG 31) 10) ((pin 1 0x400).eioTb 31) = true ∧
    (pin 1 0).gated ((pin 1 0).bit (R.EIOn_CFG 31) 10) ((pin 1 0).eioTb 31) = false ∧ (pin 1 0).eioMode 31 = 1 ∧
    ((pin 1 0x400).setEio 31 { running := true }).eioPlace 31 = some (0, 0) ∧
    (pin 2 0).eioMode 31 = 2 ∧ (pin 2 0).nat (R.EIOn_COUNT 31) = 0 ∧ (pin 2 0x200).eioPlace 31 = some (0, 0) ∧
    ((pin 2 0x200).wrNat (R.EIOn_WIDTH 31) 1000000000).eioPlace 31 = none ∧
    (up.setBit (R.EIOn_STAT 31) 1 true).bit (R.EIOn_STAT 31) 1 = true ∧ up.eioWidthOver 31 = true := by
  repeat' apply And.intro
  all_goals decide +kernel

/-- A capture pin that takes rising edges, with its last accepted edge so many ns ago and its FIFO filled to a level. -/
def captured (ns level : Nat) : Dev :=
  { (pin 3 0x1080).setEio 31 { lastAcc := some 320, fifo := List.replicate level ⟨true, 0, 0, 0⟩ } with
    clk := { mono := ns * 2 ^ 48 } }

theorem wit_EventPinCaptures : (captured 50 63).eioMode 31 = 3 ∧ (captured 50 63).bit (R.EIOn_STAT 31) 2 = false ∧
    (captured 50 63).eioSelects 31 true = true ∧ ((captured 50 63).eioAt 31).lastAcc = some 320 ∧
    320 + 50 * 2 ^ 16 ≤ (captured 50 63).monoAt 47 ⟨0, 63⟩ ∧ (captured 49 63).monoAt 47 ⟨63, 0⟩ < 320 + 50 * 2 ^ 16 ∧
    ((captured 50 63).eioAt 31).fifo.length < 64 ∧
    64 ≤ ((captured 50 64).eioAt 31).fifo.length ∧ (captured 0 0).eioSelects 31 false = false ∧ up.commands .pcie ∧
    ((captured 0 1).eioAt 31).fifo = [⟨true, 0, 0, 0⟩] ∧ (captured 0 1).bit (R.EIOn_CFG 31) 12 = true ∧
    ((captured 0 1).setBit (R.PE_RINGk_CFG 0) 31 true).ringRoom 0 16 = true := by
  unfold Dev.commands
  repeat' apply And.intro
  all_goals decide +kernel

/-- A capture pin with a stuck timeout, at a level, in the stuck state or not. -/
def stuck (active inStuck : Bool) : Dev :=
  { (((pin 3 0x40).wrNat (R.EIOn_STUCK 31) 1).setBit (R.EIOn_STAT 31) 2 inStuck).setEio 31 { level := !active } with
    clk := { mono := 1001 * 2 ^ 48 } }

theorem wit_EventPinStuck : (stuck true false).eioMode 31 = 3 ∧ (stuck true false).nat (R.EIOn_STUCK 31) ≠ 0 ∧
    (stuck true false).eioActive 31 = true ∧ (stuck true false).bit (R.EIOn_STAT 31) 2 = false ∧
    ((stuck true false).eioAt 31).stuckAt + (stuck true false).nat (R.EIOn_STUCK 31) * 1000 < (stuck true false).nowNs ∧
    ((stuck false true).eioAt 31).idleAt + 1000 ≤ (stuck false true).nowNs ∧
    (stuck false true).bit (R.EIOn_STAT 31) 2 = true ∧ (stuck false true).eioActive 31 = false := by
  repeat' apply And.intro
  all_goals decide +kernel

theorem wit_InterpolatorCalibration : up.clkSrc = 0 ∧ (up.linesAt 61).calibrating = false ∧ ((up.linesAt 61).line true).start = none ∧
    (up.setFld R.CLK_STAT 1 0 1).clkSrc ≠ 0 ∧ up.placesEdges 61 = false ∧ up.placesEdges 55 = true ∧ up.edgeNear 55 = false ∧
    1024 ≤ ((up.setLines 61 { swapDue := true, deferrals := 1024 }).linesAt 61).deferrals ∧
    (((up.wrNat R.SYS_UPTIME 240001).setLines 61 { b := { acc := some 0 } }).linesAt 61 |>.line true).acc = some 0 ∧
    0 + 4 * up.calPeriod < (up.wrNat R.SYS_UPTIME 240001).nat R.SYS_UPTIME ∧ ((up.setLines 61 { calibrating := true }).linesAt 61).calibrating = true ∧
    tapsOk (List.replicate 64 16384) = true ∧ tapsOk [] = false ∧ ((up.setLines 61 { swapDue := true }).linesAt 61).swapDue = true ∧
    up.commands .spi ∧ wfld 3 1 0 = 3 ∧ wfld 2 1 0 ≠ 3 := by
  unfold Dev.commands
  repeat' apply And.intro
  all_goals decide +kernel

theorem wit_PpsSettings : up.commands .pcie ∧ ((up.setPps 7 { pend := [(.cfg, 1), (.ofs, 0)] }).ppsAt 7).pend = [(.cfg, 1), (.ofs, 0)] ∧
    wbit 1 0 = true ∧ ppsWidthOk 1 0x05F5E100 = true ∧ ppsWidthOk 1 4 = false ∧
    (up.setBit (R.PPSm_STAT 7) 1 true).bit (R.PPSm_STAT 7) 1 = true ∧ up.ppsWidthOver 7 = true ∧ up.clkSrc ≠ 2 := by
  unfold Dev.commands
  repeat' apply And.intro
  all_goals decide +kernel

/-- An enabled PPS output of a time base that is set, with its last pulse ended at an instant. -/
def ppsOn (cfg : Word) (trail : Int) : Dev := ((up.setBit (R.TBn_CFG 0) 4 true).setBit (R.TBn_STAT 0) 0 true).setPps 7 { cfg := cfg, lastTrail := some trail }

theorem wit_PpsEdges : wbit ((ppsOn 1 0).ppsAt 7).cfg 0 = true ∧ (ppsOn 1 0).isSet (wfld ((ppsOn 1 0).ppsAt 7).cfg 3 1) = true ∧
    (ppsOn 1 0).bit (R.TBn_CFG 0) 4 = true ∧
    ppsWidthOk ((ppsOn 1 0).ppsAt 7).cfg ((ppsOn 1 0).ppsAt 7).width = true ∧ ppsPeriod (wfld 1 5 4) = 1000000000000 ∧
    (((ppsOn 1 0).tbAt (wfld 1 3 1)).setAt + 1000 * 2 ^ 48) * 1000 ≤ (1 * ppsPeriod 0) * 2 ^ 48 ∧
    (ppsOn 0x81 0).gated (wbit 0x81 7) (wfld 0x81 3 1) = true ∧ (ppsOn 1 0).gated (wbit 1 7) (wfld 1 3 1) = false ∧
    ((ppsOn 1 (1000000000000 - 50000)).ppsAt 7).lastTrail = some (1000000000000 - 50000) := by
  repeat' apply And.intro
  all_goals decide +kernel

/-! Time, references, servo -/

theorem wit_IdleStepAdvancesTime : (st up).pending = [] := rfl

/-- An unset time base with an armed set. -/
def armed : Dev := up.setTb 4 { armed := some ⟨secUnit, 0, 100⟩ }

theorem wit_InitialSetTakes : (armed.tbAt 4).armed = some ⟨secUnit, 0, 100⟩ ∧ armed.isSet 4 = false := by
  repeat' apply And.intro
  all_goals decide +kernel

/-- Reference 23 in a state, its timer at 300 s less 1 ms. -/
def refIn (state : Nat) : Dev := (up.setFld (R.REFr_STAT 23) 2 0 state).setRefs 23 { timer := 299999 }

/-- A device so many ns after its reset. -/
def late (ns : Nat) : Dev := { up with clk := { mono := ns * 2 ^ 48 } }

theorem wit_ReferenceTimers : (refIn 2).refState 23 = 2 ∧
    (refIn 2).fld (R.REFr_HOLDOFF 23) 13 0 ≤ ((refIn 2).refsAt 23).timer + 1 ∧ (refIn 3).refState 23 = 3 ∧
    (refIn 3).fld (R.REFr_STAT 23) 14 8 = 0 ∧
    (refIn 3).fld (R.REFr_WTR 23) 11 0 * 1000 ≤ ((refIn 3).refsAt 23).timer + 1 ∧
    (∀ n : Fin 8, ((refIn 3).rnAt (8 * 23 + n)).trend = false) ∧ (late 1500000000).losAfter 0 = some 1500000000 ∧
    ((late 1500000000).refsAt 0).sigAt + 1500000000 ≤ (late 1500000000).nowNs ∧
    ((late 5000000000).refsAt 9).msgAt + 5000000000 ≤ (late 5000000000).nowNs := by
  repeat' apply And.intro
  all_goals decide +kernel

/-- PPS input reference r, used for phase by time base 0, in service with its last edge at some ns. -/
def ppsRef (r ns : Nat) : Dev := (up.wrNat (R.REFr_CFG r) 0x00100002).setRefs r { los := false, lastEdge := some (ns * 2 ^ 16 : Nat) }

/-- A valid frame, of noon on 1970-01-01. -/
def irigNoon (ext : Bool) : List Nat := irigElems 0 ext (irigTime 43200 false) false false 4

theorem wit_ReferenceEdges : (ppsRef 16 0).refPhase 16 = true ∧ (ppsRef 10 0).refPhase 10 = true ∧
    (ppsRef 14 0).refPhase 14 = true ∧ (ppsRef 10 0).refServes 10 0 = true ∧
    (up.wrNat (R.REFr_CFG 10) 0x00100002).ppsDropped 10 (up.sinceSet (up.stampAt 0 56 ⟨0, 63⟩)) = false ∧
    (ppsRef 10 0).ppsDropped 10 (up.sinceSet (up.stampAt 0 56 ⟨63, 0⟩)) = true ∧
    (ppsRef 16 0).ppsDropped 16 (up.sinceSet (up.stampAt 0 60 ⟨63, 0⟩)) = true ∧
    irigValid (irigNoon true) = true ∧ irigExt 0 (irigNoon true) = true ∧ irigTq (irigNoon true) = 4 ∧
    irigValid (irigNoon false) = true ∧ irigExt 2 (irigNoon false) = false ∧ irigValid [2] = false := by
  repeat' apply And.intro
  all_goals decide +kernel

/-- The atomic clock polled at 1 s, waiting or not, after so many misses, some ns after reset. -/
def polled (waiting : Bool) (misses ns : Nat) : Dev :=
  { (late ns).setBit R.REF_ATOM_CFG 8 true with
    atom := { waiting := waiting, misses := misses, patterns := [([65], 3)], pollAt := some 1000000000 } }

theorem wit_AtomicClockUart : (polled true 2 0).bit R.REF_ATOM_CFG 8 = true ∧
    1000000000 + 1000000000 ≤ (polled true 2 2000000000).nowNs ∧ (polled true 2 0).atom.waiting = true ∧
    (polled true 2 1499999999).pollOver = false ∧ (polled true 2 1500000000).pollOver = true ∧
    (polled false 0 0).atom.waiting = false ∧ up.bit R.REF_ATOM_CFG 8 = false ∧
    (late 3000000000).atom.lineAt + 3000000000 ≤ (late 3000000000).nowNs ∧
    2 ≤ (polled true 2 0).atom.misses ∧ (polled true 1 0).atom.misses < 2 ∧
    matchPattern 0 (polled true 1 0).atom.patterns [65, 66] = some (0, 3) ∧
    matchPattern 0 (polled true 1 0).atom.patterns [66] = none := by
  repeat' apply And.intro
  all_goals decide +kernel

/-- Reference 10 qualified, of rank 1, for phase or for frequency, with REVERT set. -/
def qualified (use : Nat) : Dev :=
  ((up.wrNat (R.REFr_CFG 10) (0x00100100 + use)).setFld (R.REFr_STAT 10) 2 0 4).setBit (R.REF_TBn_CFG 0) 10 true

theorem wit_SelectionIsBest : up.commands .spi ∧ (qualified 2).choose 0 = (some 10, false) ∧ (qualified 2).refPhase 10 = true ∧
    (qualified 2).bit (R.REF_TBn_CFG 0) 10 = true ∧ (qualified 1).choose 0 = (some 10, false) ∧
    (qualified 1).refPhase 10 = false := by
  unfold Dev.commands
  repeat' apply And.intro
  all_goals decide +kernel

/-- The block reset of a servo core runs. -/
def coreReset (core : Nat) : Dev := { up with flt := { running := [.servo core] } }

theorem wit_LoopDeadlines : up.clkSrc = 0 ∧ 500 < 501 ∧ (coreReset 3).coreStopped (7 % 4) = true ∧
    ((up.setEb 7 { due := true }).ebAt 7).due = true ∧ up.coreStopped 3 = false ∧
    16 ≤ ({ up with srvg := { misses := [(3, 15)], missNow := [3] } } : Dev).missRun 3 ∧
    ({ up with srvg := { misses := [(3, 15)] } } : Dev).missRun 3 < 16 := by
  repeat' apply And.intro
  all_goals decide +kernel

theorem wit_LoopUpdateLimits : (up.srvAt 0).closeDue = false ∧ up.coreStopped (0 % 4) = false ∧ up.clkSrc = 0 ∧
    (up.setFld R.CLK_STAT 1 0 2).clkSrc = 2 ∧ (opened 0).loopOpen 0 = true ∧ up.loopOpen 0 = false ∧
    up.isSet 0 = false ∧ (up.setBit (R.TBn_STAT 0) 0 true).isSet 0 = true ∧ (up.selAt 0).pullDue = false ∧
    (up.srvAt 0).retake = none ∧ ((up.setSrv 0 { retake := some 7 }).srvAt 0).retake = some 7 := by
  repeat' apply And.intro
  all_goals decide +kernel

theorem wit_LoopOpensAndCloses : up.commands .pcie ∧ up.bit (R.SRVn_CFG 5) 11 = false ∧
    (up.setBit (R.SRVn_CFG 5) 11 true).bit (R.SRVn_CFG 5) 11 = true ∧ up.loopOpen 5 = false ∧
    ((up.setSrv 5 { openDue := 1 }).srvAt 5).openDue ≠ 0 ∧ (opened 5).commands .pcie ∧ (opened 5).loopOpen 5 = true ∧
    ((opened 5).setFld (R.SRVn_HOSTWD 5) 15 0 1).fld (R.SRVn_HOSTWD 5) 15 0 ≠ 0 ∧ ((opened 5).srvAt 5).closeDue = false := by
  unfold Dev.commands
  repeat' apply And.intro
  all_goals decide +kernel

/-- The time base of the predictor measured by reference 10, with ten epochs of the first model. -/
def learn : Dev :=
  ((((qualified 2).setFld (R.REF_TBn_STAT 0) 4 0 10).setFld (R.EBn_STAT 0) 2 0 1).setRn 80
    { latest := some ⟨0, 0, 0, 0, 0, 0, 0, true⟩ }).setModels 0
    { epochs := [20, 21, 20, 23, 20, 20, 22, 20, 25, 20].map (fun t => ⟨true, t, t⟩) }

theorem wit_ModelsFollow : learn.learning 0 = true ∧ (learn.fitOf 0 []).isSome = true ∧ up.learning 0 = false ∧
    ((up.modelsAt 1).epochs.filter (fun e => e.on)).length < 10 ∧
    1000 ≤ ({ up with srvg := { good0 := 1000, good1 := 999 } } : Dev).srvg.good0 ∧
    ({ up with srvg := { good0 := 1000, good1 := 999 } } : Dev).srvg.good1 < 1000 ∧
    (up.setBit R.SRV_CFG 3 true).bit R.SRV_CFG 3 = true ∧ ({ up with srvg := { atomOkMs := 1 } } : Dev).atomOk = true ∧
    up.atomOk = false ∧ up.bit R.SRV_CFG 3 = false := by
  repeat' apply And.intro
  all_goals decide +kernel

theorem wit_SnapshotCaptures : up.commands .pcie ∧ (0x80 : Word).getLsbD 7 = true ∧ (0x80 : Word).getLsbD 0 = false := by
  unfold Dev.commands
  repeat' apply And.intro
  all_goals decide +kernel

/-! GNSS -/

/-- A channel in a state, assigned with stream 0, a signal and a satellite. -/
def chan (c state sig svid : Nat) : Dev :=
  ((up.wrNat (R.GCHc_CFG c) (2 ^ 31 + sig * 2 ^ 25 + svid * 2 ^ 16)).setFld (R.GCHc_STAT c) 31 29 state).wrNat R.GNSS_CFG 0xF00

theorem wit_FrontEndAndStreams : up.clkSrc = 0 ∧ up.gnss.feRun = [] ∧ up.gnss.feHost ≠ 2 ∧
    ({ up with gnss := { feRun := [(1, 0)], feStarted := [0] } } : Dev).gnss.feRun = (1, 0) :: [] ∧
    feBad [⟨true, 8, 0, 1, 1⟩] [0] = true ∧ up.commands .pcie ∧ up.bit R.GNSS_FESPI_CTL 31 = false ∧
    (0x80000000 : Word).getLsbD 31 = true ∧ ({ up with gnss := { feHost := 2 } } : Dev).gnss.feHost = 2 ∧
    (up.setFld (R.GNSS_Ss_AGCCFG 0) 25 16 512).fld (R.GNSS_Ss_AGCCFG 0) 25 16 = 512 ∧
    (up.setFld (R.GNSS_Ss_AGCCFG 0) 25 16 512).bit (R.GNSS_Ss_AGCCFG 0) 30 = false ∧ (up.setFld (R.GNSS_Ss_AGCCFG 3) 11 0 4095).lowGain 3 = true ∧
    up.bit R.GNSS_STAT 31 = false ∧ up.lowGain 3 = false ∧ (up.setFld R.CLK_STAT 1 0 1).clkSrc ≠ 0 ∧
    Map.get up.gnss.slipAt (fun _ => 0) 3 + 1000000000 ≤ ({ up with clk := { mono := 1000000000 * 2 ^ 48 } } : Dev).nowNs ∧
    (up.setBit R.GNSS_STAT 31 true).bit R.GNSS_STAT 31 = true ∧ up.bit R.GNSS_STAT 23 = false ∧
    (chan 255 1 0 1).chUsed 255 = true ∧ (chan 255 1 0 1).chStream 255 = 0 ∧ (chan 255 1 0 1).chState 255 ≠ 0 ∧
    (up.setBit R.GNSS_STAT 19 true).bit R.GNSS_STAT 19 = true := by
  unfold Dev.commands
  repeat' apply And.intro
  all_goals decide +kernel

/-- A channel whose dump waits to be processed. -/
def dumped (state run : Nat) : Dev := (chan 7 state 0 1).setCh 7 { dumpDue := true, lockRun := run, words := some (1, 2) }

theorem wit_CorrelatorsTakeSamples : up.correlates 7 = false ∧ (dumped 2 0).correlates 7 = true ∧
    (∃ t, exec (.correlatorDump 7 ⟨[⟨3, 12⟩]⟩) (st (dumped 2 0)) = .next t) ∧
    crosses 0 0 ⟨1022 * 2 ^ 32 + 2 ^ 32 - 1, 0, 0⟩ = false ∧
    crosses 0 1 ⟨1022 * 2 ^ 32 + 2 ^ 32 - 1, 0, 0⟩ = true ∧ ((dumped 2 0).chAt 7).words = some (1, 2) ∧
    ((dumped 2 0).chAt 7).dumpDue = true ∧ (up.chAt 7).dumpDue = false :=
  ⟨by decide +kernel, by decide +kernel, ⟨_, rfl⟩, by decide +kernel, by decide +kernel, by decide +kernel,
    by decide +kernel, by decide +kernel⟩

/-- Channel 7 in a state so many ns after its reset. -/
def chLate (state ns : Nat) : Dev := { chan 7 state 0 1 with clk := { mono := ns * 2 ^ 48 } }

theorem wit_ChannelsTrack : ((dumped 1 19).chAt 7).dumpDue = true ∧ (dumped 1 19).chState 7 = 1 ∧
    19 ≤ ((dumped 1 19).chAt 7).lockRun ∧ ((dumped 1 18).chAt 7).lockRun < 19 ∧ (dumped 2 0).chState 7 = 2 ∧
    (dumped 3 0).chState 7 = 3 ∧
    64 ≤ (List.replicate 64 0 |>.filter (fun t => decide (up.nowNs < t + 1000000000))).length ∧
    ({ up with gnss := { fwMisses := List.replicate 64 0 } } : Dev).gnss.fwMisses = List.replicate 64 0 ∧
    ((chLate 1 500000000).chAt 7).stAt + 500000000 ≤ (chLate 1 500000000).nowNs ∧ (chLate 1 0).chState 7 = 1 ∧
    ((chLate 4 1000000000).chAt 7).stAt + 1000000000 ≤ (chLate 4 1000000000).nowNs ∧ (chLate 4 0).chState 7 = 4 ∧
    100 ≤ (((chan 7 2 0 1).setCh 7 { cnLow := 100 }).chAt 7).cnLow ∧
    50 ≤ (((chan 7 3 0 1).setCh 7 { lockLow := 50 }).chAt 7).lockLow ∧ (dumped 3 0).chFollower 7 = false ∧
    ((up.setCh 7 { excl := true }).chAt 7).excl = true ∧ (chan 7 3 0 1).chUsed 7 = true ∧
    ((chan 7 3 0 1).chAt 7).excl = false := by
  repeat' apply And.intro
  all_goals decide +kernel

/-- An L5 channel of stream 1 that follows channel 7 in SYNC. -/
def handed : ChanIn := ⟨1, 1, 1, false, 0, 0x101, 0⟩

theorem wit_ChannelsTrack_handover :
    ((chan 7 3 0 1).setBit R.GNSS_CFG 4 true).mayAssign handed = true ∧
    ((chan 7 3 0 1).setBit R.GNSS_CFG 4 true).handoverOk 16 7 handed = true ∧
    ((chan 7 3 0 1).setBit R.GNSS_CFG 4 true).mayTake 16 handed = true ∧ (chan 7 3 0 1).mayTake 9 handed = true := by
  repeat' apply And.intro
  all_goals decide +kernel

theorem wit_NavigationData : up.commands .spi ∧ up.chState 7 ≠ 3 ∧ (chan 7 3 0 1).chState 7 = 3 ∧
    (chan 7 3 0 1).bit (R.GCHc_STAT 7) 28 = false ∧
    ((chLate 3 6000000000).chAt 7).since + 6000000000000 * nsUnit / 1000 ≤ (chLate 3 6000000000).clk.mono ∧
    (chan 7 3 0 1).bit R.GNSS_CFG 7 = false ∧ (chan 7 3 0 1).gnss.navCount < 256 ∧
    256 ≤ ({ chan 7 3 0 1 with gnss := { navCount := 256 } } : Dev).gnss.navCount ∧
    ((chan 7 3 0 1).setBit R.GNSS_CFG 7 true).bit R.GNSS_CFG 7 = true ∧ up.ringRoom 0 128 = false ∧
    (up.setBit (R.PE_RINGk_CFG 0) 31 true).ringRoom 0 128 = true := by
  unfold Dev.commands
  repeat' apply And.intro
  all_goals decide +kernel

/-- All constellations used, a sweep running that has come to a satellite. -/
def sweeping (last : Option (Nat × Nat)) : Dev :=
  { (up.wrNat R.GNSS_CFG 0xF00).setBit R.GACQ_STAT 30 true with gnss := { sweepAt := last } }

/-- TB0 set and bounded, the position held, and the orbit of GPS 9 known. -/
def aided : Dev :=
  ((({ up.wrNat R.GNSS_CFG 0xF00 with gnss := { orbits := [9] } } : Dev).setBit (R.TBn_STAT 0) 0 true).setEb 0
    { bounded := true }).wrNat R.GNSS_POSSTAT 0x40000000 |>.wrNat (R.EBn_B_LO 0) 1000000 |>.wrNat (R.EBn_B_HI 0) 0 |>.wrNat R.GNSS_HPOS_UNC 180

/-- An aided search of GPS 9 on channel 15 in a state. -/
def aiding (state ns : Nat) : Dev :=
  { (aided.wrNat (R.GACQ_AIDk_STAT 15) (state * 2 ^ 29 + 9 * 2 ^ 16)).wrNat (R.GACQ_AIDk_WIN 15) (256 * 2 ^ 16) with
    clk := { mono := ns * 2 ^ 48 } }

theorem wit_Acquisition : up.commands .spi ∧ (1 : Word).getLsbD 0 = true ∧ up.bit R.GACQ_STAT 30 = false ∧
    up.bursting = false ∧ up.clkSrc = 0 ∧ (∃ y ∈ coldOrder, (up.wrNat R.GNSS_CFG 0xF00).coldWanted y = true) ∧
    (sweeping none).bit R.GACQ_STAT 30 = true ∧ (sweeping none).bursting = false ∧
    (sweeping none).nextCold = some (0, 1) ∧ (sweeping (some (0, 32))).nextCold = some (6, 193) ∧
    (restAfter (some (0, 1)) coldOrder).any (sweeping none).coldWanted = true ∧
    (sweeping (some (4, 62))).nextCold = some (4, 63) ∧
    (restAfter (some (4, 63)) coldOrder).any (sweeping (some (4, 62))).coldWanted = false ∧
    ({ up with gnss := { detect := [⟨0, 32, 40, -500, 5, 0⟩] } } : Dev).gnss.detect = ⟨0, 32, 40, -500, 5, 0⟩ :: [] ∧
    up.tracked 0 32 = false ∧ up.excluded 0 32 = false ∧ up.chUsed 16 = false ∧
    (up.wrNat R.GNSS_CFG 0xF00).mayAssign ⟨0, 0, 32, false, 0, 0x101, 0⟩ = true ∧
    up.mayTake 16 ⟨0, 0, 32, false, 0, 0x101, 0⟩ = true ∧
    aided.aidable 0 9 = true ∧ svidOk 0 9 = true ∧ aided.constUsed 0 = true ∧ aided.excluded 0 9 = false ∧
    2 * aided.aidHalf 0 ≤ 16 * 512 ∧ aided.chUsed 15 = false ∧ (chan 15 4 0 1).chState 15 = 4 ∧
    (aiding 1 0).aidPart 15 ((aiding 1 0).fld (R.GACQ_AIDk_STAT 15) 27 25) (640 / 64) = some 0 ∧
    (aiding 1 0).fld (R.GACQ_AIDk_STAT 15) 31 29 = 1 ∧ (aiding 1 0).fld (R.GACQ_AIDk_STAT 15) 27 25 = 0 ∧
    (aiding 1 0).fld (R.GACQ_AIDk_STAT 15) 23 16 = 9 ∧
    (aiding 1 0).mayAssign ⟨0, 0, 9, false, 0, 0x101, 0⟩ = true ∧
    (aiding 1 0).fld R.GACQ_CFG 31 24 ≤ 255 ∧
    ((0 : Int) - signed 16 ((aiding 1 0).fld (R.GACQ_AIDk_DOPP 15) 31 16)).natAbs ≤ (aiding 1 0).fld (R.GACQ_AIDk_DOPP 15) 15 0 ∧
    (aiding 3 0).fld (R.GACQ_AIDk_STAT 15) 31 29 = 3 ∧
    Map.get (aiding 3 30000000000).gnss.aidAt (fun _ => 0) 15 + 30000000000 ≤ (aiding 3 30000000000).nowNs ∧
    (aiding 3 30000000000).aidable 0 9 = true := by
  unfold Dev.commands
  repeat' apply And.intro
  all_goals decide +kernel

/-- Burst tracking with channel 7 in a state, after so many misses, at a ms of the second; its satellite's orbit known. -/
def burst (state misses ms : Nat) : Dev :=
  (({ (chan 7 state 0 1).setBit R.GNSS_STAT 3 true with gnss := { orbits := [1] } } : Dev).setCh 7
    { misses := misses }).setTb 0 { count := mkCount 5 (ms * 1000000) 0 }

theorem wit_BurstWindows : (burst 1 2 0).bursting = true ∧
    ((burst 1 2 980).msInSec + 20) % 1000 = (burst 1 2 980).burstOfs ∧ (burst 1 2 0).gnss.feRun = [] ∧
    (burst 1 2 0).gnss.feHost ≠ 2 ∧ (burst 1 2 0).inBurst = true ∧ (burst 1 2 99).inBurst = true ∧
    (burst 1 2 100).inBurst = false ∧
    ({ burst 5 0 0 with gnss := { window := false } } : Dev).gnss.window = false ∧
    (burst 1 2 40).burstOfs + 40 ≤ (burst 1 2 40).msInSec ∧
    (burst 1 2 0).gatedCh 7 = true ∧ (burst 1 2 0).chState 7 = 1 ∧ 2 ≤ ((burst 1 2 0).chAt 7).misses ∧
    ((burst 1 1 0).chAt 7).misses < 2 ∧ (burst 3 0 0).chState 7 ≠ 1 ∧ up.gatedCh 7 = false ∧
    (burst 3 0 0).fullNow = false ∧
    ((burst 5 0 0).setFld R.GNSS_BURST 31 20 1).fld R.GNSS_BURST 31 20 ≠ 0 := by
  repeat' apply And.intro
  all_goals decide +kernel

/-- Navigation data that give nothing. -/
def noNav : SolIn := ⟨[], (0, 0, 0), [none, none, none], 0, 0, 0, none, none⟩

theorem wit_SolutionsAndIntegrity : up.trackFw = true ∧ up.bursting = false ∧ (burst 1 2 0).inBurst = true ∧
    up.dantNow = true ∧ up.solB = false ∧ (up.setBit R.GNSS_CFG 5 true).solB = true ∧
    (up.setFld R.CLK_STAT 1 0 1).trackFw = false ∧ (up.setFld R.CLK_STAT 1 0 1).clkSrc ≠ 0 ∧ up.gnss.resurvey = false ∧
    (up.solve 0 noNav).1.kind = 0 ∧
    up.commands .pcie ∧ (1 : Word).getLsbD 0 = true ∧ up.fld R.GNSS_TCFG 5 4 ≠ 1 := by
  unfold Dev.commands
  repeat' apply And.intro
  all_goals decide +kernel

/-! Ports, rings, packet engine -/

/-- Port 7 in a mode with its link up, with more bits of MACn_STAT. -/
def port (mode more : Nat) : Dev := (up.setFld (R.MACn_CFG 7) 3 0 mode).wrNat (R.MACn_STAT 7) (1 + more)

/-- An egress frame of a port and a class. -/
def eg (p k : Nat) : EgFrame := { port := p, cls := k, bytes := zeros 60, src := .host 0 false }

/-- Port 7 with a preemptable frame on the wire and an express frame behind it. -/
def onWire : Dev :=
  ((port 3 0).wrNat (R.MACn_PREEMPT_STAT 7) 0xB).setPorts 7 { wire := some ⟨zeros 128, 0, false⟩, fifo := [eg 7 0] }

theorem wit_LinksAndPreemption : (up.setFld (R.MACn_CFG 7) 3 0 3).portMode 7 ≠ 0 ∧ up.linkUp 7 = false ∧ up.islet 7 = false ∧
    up.clkSrc ≠ 2 ∧ up.flt.pfwStopped = false ∧ up.bit (R.MACn_PREEMPT 7) 31 = false ∧
    (up.wrNat (R.MACn_PREEMPT 7) 0xC0000000).bit (R.MACn_PREEMPT 7) 31 = true ∧
    (up.wrNat (R.MACn_PREEMPT 7) 0xC0000000).bit (R.MACn_PREEMPT 7) 30 = true ∧
    (up.wrNat (R.MACn_PREEMPT 7) 0x80000000).bit (R.MACn_PREEMPT 7) 30 = false ∧ (port 3 0).linkUp 7 = true ∧
    (up.wrNat (R.MACn_PREEMPT_STAT 7) 2).verifyState 7 = 2 ∧ 3 ≤ ((up.setPorts 7 { attempts := 3 }).portsAt 7).attempts ∧
    ((up.setPorts 7 { attempts := 2 }).portsAt 7).attempts < 3 ∧ (onWire.portsAt 7).wire = some ⟨zeros 128, 0, false⟩ ∧
    onWire.preemptActive 7 = true ∧
    (onWire.portsAt 7).fifo.any (fun f => f.cls == onWire.expClass 7 && !onWire.held 7 f.cls) = true ∧
    (up.setPorts 7 { verifyAt := 0 } |>.portsAt 7).verifyAt + 0 * 1000000 ≤ up.nowNs ∧ up.fld (R.MACn_PREEMPT 7) 23 16 * 1000000 ≤ (late 300000000).nowNs ∧
    (up.setBit (R.MACn_PAUSE_STAT 7) 0 true).x3 7 = true ∧
    (1 + onWire.fld (R.MACn_PREEMPT 7) 9 8) * 64 - 4 ≤ 64 ∧ 0 + 64 + 64 ≤ (zeros 128).length := by
  repeat' apply And.intro
  all_goals decide +kernel

/-- A frame of 64 bytes with a good FCS. -/
def goodFrame : List Byte := zeros 60 ++ fcsOf (zeros 60)

/-- Nothing else found about a frame. -/
def quietRx : RxInfo := ⟨false, 0, 0, [], false⟩

/-- Port 7 with frames of up to 1 518 bytes. -/
def rxPort (more : Nat) : Dev := (port 3 more).wrNat (R.MACn_MAXLEN 7) 1518

/-- An ESMC PDU that tells QL-PRC. -/
def esmc : List Byte := esmcDa ++ zeros 6 ++ esmcHead ++ [0x10, 0, 0, 0, 0x01, 0x00, 0x04, 0x02] ++ zeros 36

theorem wit_ReceptionAndIslet : (rxPort 0).linkUp 7 = true ∧ (rxPort 0).islet 7 = false ∧
    (rxPort 0).rxDrop 7 goodFrame quietRx = none ∧ ctrlOpcode goodFrame = none ∧ isEsmc goodFrame = false ∧
    (rxPort 0).rxDrop 7 (zeros 64) quietRx = some (R.MACn_RX_FCS_ERR 7) ∧
    (rxPort 0).fld (R.MACn_PAUSE_CFG 7) 1 0 = 0 ∧ ((rxPort 0).wrNat (R.MACn_PAUSE_CFG 7) 1).fld (R.MACn_PAUSE_CFG 7) 1 0 = 1 ∧
    ((rxPort 0).wrNat (R.MACn_PAUSE_CFG 7) 2).fld (R.MACn_PAUSE_CFG 7) 1 0 = 2 ∧
    ((rxPort 0).setBit (R.MACn_CFG 7) 7 true).bit (R.MACn_CFG 7) 7 = true ∧ isEsmc esmc = true ∧
    esmcCodes esmc = some (2, none) ∧ esmcCodes goodFrame = none ∧
    ((rxPort 0).setBit (R.MACn_CFG 7) 8 true).bit (R.MACn_CFG 7) 8 = true ∧ up.commands .pcie ∧
    (up.setBit (R.MACn_ISLET_CFG 7) 31 true).bit (R.MACn_ISLET_CFG 7) 31 = true ∧
    (late 100000000000000).idleLong 7 = true ∧ Map.get (up.portsAt 7).pauseEnd (fun _ => 0) 8 ≤ up.nowNs ∧
    (up.setBit (R.MACn_CFG 7) 9 true).bit (R.MACn_CFG 7) 9 = true ∧ up.isletBlocked 7 = false ∧
    ((up.setFld (R.REFr_STAT 9) 2 0 4).isletBlocked 7) = true ∧ (port 3 0x400).islet 7 = true ∧
    up.isMagic 7 (zeros 14 ++ List.replicate 6 0xFF ++ zeros 96) = true ∧ up.isMagic 7 goodFrame = false ∧
    up.wakePattern 7 goodFrame = false := by
  unfold Dev.commands
  repeat' apply And.intro
  all_goals decide +kernel

/-- Ring 5 runs with 256 cells and HEAD at some cell, one record of 120 bytes staged. -/
def ring (head : Nat) : Dev :=
  (((up.wrNat (R.PE_RINGk_CFG 5) 0x80080000).wrNat (R.PE_RINGk_STAT 5) 1).wrNat (R.PE_RINGk_HEAD 5) head |>.wrNat
    (R.PE_RINGk_TAIL 5) head).setRings 5 { staged := [⟨0x0B, 0, zeros 120, some (R.EIOn_DROP 3), 0⟩], more := true }

theorem wit_RecordRings : ((ring 255).ringsAt 5).staged = [⟨0x0B, 0, zeros 120, some (R.EIOn_DROP 3), 0⟩] ∧
    0 + up.fld (R.PE_RINGk_TMO 5) 15 0 * 1000 ≤ (late 100000).nowNs ∧
    ((late 0).ringsAt 7).irqAt + (late 0).fld (R.PE_RINGk_IMOD 7) 15 0 * 1000 ≤ (late 0).nowNs ∧
    (ring 255).ringRuns 5 = true ∧ (ring 255).hostTooSlow = false ∧ (ring 255).nat (R.PE_RINGk_HEAD 5) = 255 ∧
    (8 + (zeros 120).length + 63) / 64 = 2 ∧ (ring 255).ringSize 5 < 255 + 2 ∧ 254 + 2 ≤ (ring 254).ringSize 5 ∧
    (ring 255).ringSize 5 - 255 + 2 ≤ (ring 255).freeCells 5 ∧ R.EIOn_DROP 3 ∉ R.PE_RINGk_CFG 5 :: ringRegs 5 ∧
    up.commands .spi ∧ (ring 0).tailOk 5 0 = true ∧ (ring 0).tailOk 5 256 = false ∧ (ring 0).ringEn 5 = true ∧
    up.ringEn 5 = false ∧ sizeOk 5 (wfld 0x80080000 20 16) = true ∧ sizeOk 5 (wfld 0x80070000 20 16) = false ∧
    ((ring 0).ringsAt 5).more = true ∧ (up.ringsAt 5).more = false := by
  unfold Dev.commands
  repeat' apply And.intro
  all_goals decide +kernel

/-- Host-to-device ring k with a descriptor waiting. -/
def waiting (k : Nat) : Dev :=
  ((up.wrNat (R.PE_RINGk_CFG k) 0x80060000).wrNat (R.PE_RINGk_STAT k) 1).wrNat (R.PE_RINGk_TAIL k) 1

/-- A descriptor of a frame of 64 bytes without its FCS, class 0, port 7. -/
def hdesc : List Byte := zeros 8 ++ [64, 0, 7] ++ zeros 53

theorem wit_HostToDeviceRings : (waiting 6).descWaits 6 = true ∧ (waiting 6).pe.htx = none ∧
    (waiting 6).descBad (zeros 64) = true ∧
    (((waiting 6).wrNat (R.MACn_MAXLEN 7) 1518).setFld (R.MACn_CFG 7) 3 0 3).descBad hdesc = false ∧
    (waiting 6).queueFull 7 0 64 = true ∧ ((waiting 6).wrNat (R.PEn_EGQ_QUOTA 7 0) 64).queueFull 7 0 64 = false ∧
    ({ up with pe := { htx := some (eg 7 0) } } : Dev).pe.htx = some (eg 7 0) ∧ up.queueFull 7 0 60 = true ∧
    up.noSlot (eg 7 0) = false ∧ (late 100000).pe.htxAt + (late 100000).fld (R.PE_RINGk_TMO 6) 15 0 * 1000 ≤ (late 100000).nowNs ∧
    (waiting 7).descWaits 7 = true ∧ (waiting 7).pe.hostCmds.length < 16 ∧ (waiting 6).ringRuns 6 = true ∧
    (waiting 7).ringRuns 7 = true := by
  repeat' apply And.intro
  all_goals decide +kernel

/-- Port 7 up with one frame of class 5 in its queue, and one in its FIFO. -/
def queued : Dev :=
  ((((port 3 0).wrNat (R.MACn_MAXLEN 7) 1518).setEgress 61 [eg 7 5]).setPorts 7 { fifo := [eg 7 0] })

/-- A launch-time frame, of an instant on time base 0 in 2^-16 ns. -/
def launched (t : Nat) : EgFrame := { eg 7 0 with launch := some t }

/-- A device in which launch-time frames wait in a class queue. -/
def holding : Dev := (up.setTb 0 { count := 2 ^ 60 }).setEgress 56 [launched (2 ^ 60)]

theorem wit_EgressAndDeparture : queued.cyclesIn (queued.txLead 7 0) ≤ 512 ∧
    512 < queued.cyclesIn (queued.txLead 7 1000000) ∧ queued.tooLate 7 (queued.txLead 7 0) (eg 7 0) = false ∧
    (queued.setTb 0 { count := 2 ^ 60 }).tooLate 7 0 (launched 0) = true ∧ 0 + 50000 ≤ (late 50000).nowNs ∧
    holding.pe.builders[0]? = none ∧ holding.heldLaunch[0 - 0]? = some (launched (2 ^ 60)) ∧
    holding.queueFull 7 0 60 = true ∧ queued.pe.replies = [] ∧ (queued.queue 7 5).head? = some (eg 7 5) ∧ queued.held 7 5 = false ∧
    queued.tooLate 7 0 (eg 7 5) = false ∧ (queued.queue 7 6).head? = none ∧
    queued.eligible 7 0 (eg 7 5) = true ∧ queued.overlapsLaunch 7 0 (eg 7 5) = false ∧ queued.linkUp 7 = true ∧
    queued.islet 7 = false ∧ (eg 7 5).bytes.length + 4 ≤ queued.fld (R.MACn_MAXLEN 7) 13 0 ∧
    (up.setEgress 61 [eg 7 5]).linkUp 7 = false ∧ queued.nextOut 7 = some (eg 7 0) ∧ (eg 7 0).ins.all (insOk 60) = true ∧
    [(⟨.ptpTs, 56, 0, 0⟩ : Ins)].all (insOk 60) = false ∧
    ({ up with pe := { builders := [⟨.send (eg 7 0) none, [], 0, some (eg 7 0), 0⟩] } } : Dev).pe.builders[0]? =
      some ⟨.send (eg 7 0) none, [], 0, some (eg 7 0), 0⟩ ∧ up.queueFull 7 0 60 = true ∧
    (up.wrNat (R.PEn_EGQ_QUOTA 7 0) 64).queueFull 7 0 60 = false := by
  repeat' apply And.intro
  all_goals decide +kernel

/-- A PTP Sync of 44 bytes in an untagged Ethernet frame to the PTP group. -/
def ptpFrame : List Byte := [0x01, 0x1B, 0x19, 0, 0, 0] ++ zeros 6 ++ [0x88, 0xF7] ++ [0, 2, 0, 44] ++ zeros 42

/-- Port 3 holds a received frame; instance 2 is on it. -/
def received (bs : List Byte) : Dev :=
  ((up.wrNat (R.PTPi_CFG 2) 0x80000008).setBit (R.PEn_CFG 3) 0 true).setPorts 3 { rx := [⟨bs, [], 0, []⟩] }

theorem wit_PacketEngineJobs : (received ptpFrame).pe.input.length < 4096 ∧ up.pe.builders.length + up.heldLaunch.length < 512 ∧ up.noSlot (eg 7 0) = false ∧
    ((received ptpFrame).portsAt 3).rx = [⟨ptpFrame, [], 0, []⟩] ∧
    ((List.range 8).map (fun j => ((received ptpFrame).pe.rr + j) % 8)).find?
      (fun k => !((received ptpFrame).portsAt k).rx.isEmpty) = some 3 ∧
    (received ptpFrame).daOk 3 (2 :: zeros 59) = false ∧ (received ptpFrame).daOk 3 ptpFrame = true ∧
    (received ptpFrame).vlanOk 3 ptpFrame = true ∧ etherType ptpFrame = 0x88F7 ∧ beAt (l3 ptpFrame) 2 2 = 44 ∧
    44 ≤ (l3 ptpFrame).length ∧ beAt (l3 ptpFrame) 0 1 % 16 = 0 ∧
    (received ptpFrame).ptpInst 3 0 ((l3 ptpFrame).take 44) = some 2 ∧
    ({ up with pe := { input := [.send (eg 7 0) none] } } : Dev).nextJob true = some (.send (eg 7 0) none) ∧
    up.engineUp (up.engineKind (.send (eg 7 0) none)) 15 = true ∧ up.ptpAuth 2 = false ∧
    ({ up with pe := { builders := [⟨.send (eg 7 0) none, [], 0, none, 0⟩] } } : Dev).pe.builders[0]? =
      some ⟨.send (eg 7 0) none, [], 0, none, 0⟩ ∧ (eg 7 0).wantLaunch = false ∧ (eg 7 0).slot = false := by
  repeat' apply And.intro
  all_goals decide +kernel

/-- The key store's answer to an unknown or a bad cookie-issue command: no key is held. -/
def issuing : Dev := { up with pe := { hostCmds := [[1, 8, 15, 0] ++ zeros 60] } }

theorem wit_NtsKeysAndStatistics : (up.setBit (R.TBn_STAT 0) 0 true).isSet 0 = true ∧
    issuing.pe.hostCmds = [[1, 8, 15, 0] ++ zeros 60] ∧ leAt ([1, 8, 15, 0] ++ zeros 60) 0 1 = 1 ∧ issuing.cmdsRun = true ∧
    issuing.issueStatus ([1, 8, 15, 0] ++ zeros 60) ≠ 0 ∧
    (({ issuing with nts := { keys := [(0, zeros 32)] } } : Dev).setBit (R.TBn_STAT 0) 0 true |>.setBit R.NTS_STAT 2 true).issueStatus
      ([1, 8, 15, 0] ++ zeros 60) = 0 ∧ (up.wrNat R.NTP_STAT_PER 1).fld R.NTP_STAT_PER 11 0 ≠ 0 ∧
    (up.setBit (R.PE_RINGk_CFG 4) 31 true).ringRoom 4 up.statBody.length = true := by
  repeat' apply And.intro
  all_goals decide +kernel

/-! PTP, keys -/

/-- Instance 2 in a role with more bits of PTPi_CFG, its port 3 in a state. -/
def inst (role more state : Nat) : Dev :=
  (up.wrNat (R.PTPi_CFG 2) (0x80000008 + role * 2 ^ 26 + more)).wrNat (R.PTPi_Pp_STAT 2 3) state

/-- Session entry 9 of instance 2, port 3: a state, flags with kinds, peer address 16 zeros, identity 10 zeros, 6 zeros. -/
def sess (d : Dev) (state flags : Nat) : Dev :=
  (d.wrNat (R.PTP_SESS 9 0) (state * 2 ^ 24 + 0x43 * 2 ^ 16 + flags * 2 ^ 8)).wrNat R.PTP_SESS_USED 1

/-- The session of that entry with grants up to second 300. -/
def granted (kinds : Nat) : Dev :=
  (((sess (inst 0 0x800000 6) 1 kinds).wrNat (R.PTP_SESS 9 11) 300).wrNat (R.PTP_SESS 9 12) 300).wrNat (R.PTP_SESS 9 13) 300

/-- A PTP message of a type and a sequenceId, of 64 bytes, as instance 2 receives it on port 3. -/
def pmsg (typ seq : Nat) (flags : Byte) : PtpIn :=
  ⟨2, 3, [], zeros 6, zeros 16, 320, true, be 1 typ ++ [2, 0, 64, 0, 0, flags, 0] ++ zeros 22 ++ be 2 seq ++ zeros 32, 0, 0, [], false⟩

/-- A device with a message waiting for the PTP processor. -/
def heardP (d : Dev) (m : PtpIn) : Dev := { d with pe := { d.pe with ptp := [m] } }

/-- Time base 0 set for more than a millisecond. -/
def setLong (d : Dev) : Dev := (d.setBit (R.TBn_STAT 0) 0 true).setTb 0 { count := 1000000 * nsUnit }

/-- Port 0's measured departure of a two-step message of a type. -/
def departed (typ : Nat) : Dev :=
  { up.setTxq 0 [⟨5, 0, 0, 0, 0⟩] with ptpg := { twoStep := [⟨5, 2, 3, ⟨[], [], []⟩, false, typ, 0, 0, 0, []⟩] } }

theorem wit_PtpMasters : (inst 0 0 6).ptpUnicast 2 = false ∧ (inst 0 0 6).bit (R.PTPi_STAT 2) 5 = false ∧
    (inst 0 0 6).mayMaster 2 3 = true ∧ (inst 0 0 2).mayMaster 2 3 = false ∧
    (granted 1).sessServes 2 9 0 = true ∧ (granted 2).sessServes 2 9 1 = true ∧ (granted 4).sessGranted 9 2 = true ∧
    ((granted 1).ptppAt 19).annK = none ∧ ((granted 1).ptpxAt 9).syncK = none ∧
    (setLong (inst 0 0 6)).syncReady 2 = true ∧ (inst 0 0 6).syncReady 2 = false ∧
    ((departed 0).txqAt 0).find? (fun y => (departed 0).ptpg.twoStep.any (fun t => t.tag == y.tag && t.typ == 0)) =
      some ⟨5, 0, 0, 0, 0⟩ ∧
    (departed 0).ptpg.twoStep.find? (fun t => t.tag == 5) = some ⟨5, 2, 3, ⟨[], [], []⟩, false, 0, 0, 0, 0, []⟩ ∧
    (departed 0).owns = true ∧
    ((departed 3).txqAt 0).find? (fun y => (departed 3).ptpg.twoStep.any (fun t => t.tag == y.tag && t.typ == 3)) =
      some ⟨5, 0, 0, 0, 0⟩ ∧
    (heardP (inst 0 0 6) (pmsg 1 0 0)).pe.ptp = [pmsg 1 0 0] ∧ beAt (pmsg 1 0 0).msg 0 1 % 16 = 1 ∧
    (inst 0 0 6).ptpP2p 2 = false ∧ (setLong (inst 0 0 6)).isSet ((setLong (inst 0 0 6)).ptpTb 2) = true ∧
    (inst 0 0x800000 6).ptpUnicast 2 = true ∧
    (sess (inst 0 0x800000 6) 1 4).sessHolds 9 2 = true ∧ (sess (inst 0 0x800000 6) 1 4).sessState 9 = 1 ∧
    ((sess (inst 0 0x800000 6) 1 4).dreqCount 9).1 = false ∧
    (((sess (inst 0 0x800000 6) 1 4).setPtpx 9 { dreqs := 100000 }).dreqCount 9).1 = true ∧
    beAt (pmsg 2 0 0).msg 0 1 % 16 = 2 ∧ ((inst 0 0 6).wrNat (R.PTPi_PROF 2) 0x20000000).ptpP2p 2 = true ∧
    (inst 0 0 6).ptpLive 2 3 = true ∧ up.commands .pcie := by
  unfold Dev.commands
  repeat' apply And.intro
  all_goals decide +kernel

/-- A foreign master heard on port 3, its portIdentity all zeros. -/
def foreign : Foreign := ⟨zeros 10, (pmsg 0xB 0 0).msg, [0], zeros 16⟩

/-- Instance 2 a client whose parent is that master. -/
def client (state : Nat) : Dev :=
  ((inst 1 0 state).setPtpi 2 { parent := some (3, zeros 10), waits := [⟨pmsg 0 7 2, 7, 0⟩], forward := some 0 }).setPtpp 19
    { foreign := [foreign], reqs := [{ seq := 7, left := some 0, resp := some ⟨zeros 10, 0, 0, 0⟩ }] }

theorem wit_PtpClients : (inst 1 0 4).ptpEn 2 = true ∧ (inst 1 0 4).ptpRole 2 ≠ 0 ∧
    ((forRange 8 (foreignTrim 2) (inst 1 0 4)).bmcaBest 2).isSome = false ∧
    (inst 1 0 4).ptpLive 2 3 = true ∧ (inst 1 0 4).ptpMasterOnly 2 3 = false ∧ (inst 1 0 4).ptpState 2 3 ≠ 5 ∧
    (inst 2 0 5).ptpState 2 3 = 5 ∧
    ({ inst 1 0 4 with clk := { mono := 10 ^ 12 * 2 ^ 48 } } : Dev).announceLate 2 3 = true ∧
    ((inst 2 0 5).ptppAt 19).since + intervalNs ((inst 2 0 5).logAnn 2) ≤ (late (10 ^ 12)).nowNs ∧
    up.nowNs < (up.ptppAt 19).since + intervalNs (up.logAnn 2) ∧
    0 + 2 * intervalNs (up.logSync 2) ≤ (late (10 ^ 12)).nowNs ∧ ((client 8).ptpiAt 2).parent = some (3, zeros 10) ∧
    (heardP (inst 1 0 4) (pmsg 0xB 0 0)).pe.ptp = [pmsg 0xB 0 0] ∧ beAt (pmsg 0xB 0 0).msg 0 1 % 16 = 0xB ∧
    (srcId (pmsg 0xB 0 0).msg).take 8 ≠ ((inst 1 0 4).wrNat (R.PTPi_CLKID_HI 2) 1).clkId 2 ∧
    ((inst 1 0 4).ptpiAt 2).parent = none ∧ ((inst 1 0 4).ptppAt 19).foreign = [] ∧
    8 ≤ (((inst 1 0 4).setPtpp 19 { foreign := List.replicate 8 { foreign with id := zeros 9 ++ [1] } }).ptppAt 19).foreign.length ∧
    (client 8).fromParent (pmsg 0 7 0) = true ∧ (client 9).fromParent (pmsg 8 7 0) = true ∧
    (beAt (pmsg 0 7 2).msg 6 1).testBit 1 = true ∧ (beAt (pmsg 0 7 0).msg 6 1).testBit 1 = false ∧
    (client 9).meanDelay 2 3 = none ∧
    ((client 9).ptpiAt 2).waits.find? (fun w => w.seq == seqOf (pmsg 8 7 0).msg && w.msg.port == 3) = some ⟨pmsg 0 7 2, 7, 0⟩ ∧
    ((client 9).ptpiAt 2).waits.find? (fun w => w.seq == seqOf (pmsg 8 8 0).msg && w.msg.port == 3) = none ∧
    (client 9).bit (R.PTPi_STAT 2) 5 = false ∧ (client 9).ptpOn 2 3 = true ∧ (client 9).ptpP2p 2 = false ∧
    (client 9).dreqDest 2 3 ≠ none ∧ ((client 9).wrNat (R.PTPi_PROF 2) 0x20000000).ptpP2p 2 = true ∧
    slice (pmsg 9 7 0).msg 44 10 = zeros 10 ∧
    ((client 9).ptppAt 19).reqs.find? (fun r => r.seq == 7) =
      some { seq := 7, left := some 0, resp := some ⟨zeros 10, 0, 0, 0⟩ } ∧
    ((client 9).ptppAt 19).reqs.find? (fun r => r.seq == 8) = none := by
  repeat' apply And.intro
  all_goals decide +kernel

/-- The portIdentity of port 3 is written so that the message above names it. -/
theorem wit_PtpClients_portId : ((client 9).portId 2 3) = zeros 8 ++ [0, 4] ∧
    ((client 9).portId 2 3) = slice ((pmsg 9 7 0).msg.take 44 ++ zeros 8 ++ [0, 4] ++ zeros 10) 44 10 := by
  repeat' apply And.intro
  all_goals decide +kernel

/-- A Signaling message to everyone with one TLV of a type and a value. -/
def sig (typ : Nat) (val : List Byte) : PtpIn :=
  { pmsg 0xC 0 0 with msg := (pmsg 0xC 0 0).msg.take 34 ++ List.replicate 10 0xFF ++ be 2 typ ++ be 2 val.length ++ val }

/-- Instance 2 as a unicast node with one message waiting. -/
def uni (role state : Nat) (m : PtpIn) : Dev := heardP (inst role 0x800000 state) m

theorem wit_UnicastSessions : ((uni 0 6 (sig 4 [0xB0, 0, 0, 0, 1, 44])).sigTake 4).isSome = true ∧
    (uni 0 6 (sig 4 [0xB0, 0, 0, 0, 1, 44])).sigForUs (sig 4 [0xB0, 0, 0, 0, 1, 44]) = true ∧ kindOf (0xB0 / 16) = some 0 ∧
    kindOf (0x10 / 16) = none ∧ (uni 0 6 (sig 4 [])).grantable (sig 4 [0xB0, 0, 0, 0, 1, 44]) 0 0 300 = true ∧
    ((uni 0 6 (sig 4 [])).wrNat (R.PTPi_UDUR 2) 301).grantable (sig 4 [0xB0, 0, 0, 0, 1, 44]) 0 0 300 = false ∧
    (inst 0 0x800000 6).ptpProfile 2 ≠ 3 ∧
    (inst 0 0x800000 6).sessions = [] ∧ 0 < ((inst 0 0x800000 6).wrNat (R.PTPi_UQUOTA 2) 1).fld (R.PTPi_UQUOTA 2) 12 0 ∧
    (List.range 4096).find? (fun y => (inst 0 0x800000 6).sessState y == 0) = some 0 ∧
    44 ≤ (sig 4 []).msg.length ∧ (sig 4 []).srcIp.length = 16 ∧ (sig 4 []).srcMac.length = 6 ∧
    ((uni 0 6 (sig 6 [0xB0, 0])).sigTake 6).isSome = true ∧ ((uni 0 6 (sig 7 [0xB0, 0])).sigTake 7).isSome = true ∧
    ((uni 1 4 (sig 5 [0xB0, 0, 0, 0, 1, 44, 0, 1])).sigTake 5).isSome = true ∧
    (sess (inst 0 0x800000 6) 1 1).sessBytes 9 28 10 = srcId (sig 6 []).msg ∧
    (sess (inst 0 0x800000 6) 1 1).sessBytes 9 4 16 = (sig 6 []).srcIp ∧ (sess (inst 0 0x800000 6) 1 1).sessHolds 9 0 = true ∧
    (sess (inst 0 0x800000 6) 3 0).sessState 9 = 3 ∧ (sess (inst 1 0x800000 4) 2 0x80).sessClient 9 = true ∧
    (sess (inst 1 0x800000 4) 1 0x81).sessState 9 ≠ 2 ∧ (sess (inst 0 0x800000 6) 1 1).endReached 0 = true ∧
    up.commands .spi ∧ wfld 0x80000009 11 0 = 9 ∧ wbit 0x80000009 31 = true ∧
    (sess (inst 0 0x800000 6) 1 1).bit (R.PTPi_STAT ((sess (inst 0 0x800000 6) 1 1).sessInst 9)) 5 = false ∧
    2 ≤ ((up.setPtpx 9 { cancels := 2 }).ptpxAt 9).cancels ∧ ((up.setPtpx 9 { cancels := 1 }).ptpxAt 9).cancels < 2 ∧
    ((late 1000000000).ptpxAt 9).cancelAt + 1000000000 ≤ (late 1000000000).nowNs ∧
    ((late 8000000000).ptpxAt 9).askedAt + 8000000000 ≤ (late 8000000000).nowNs ∧
    4 * signed 32 (0 + 2 ^ 32 - (sess (inst 1 0x800000 4) 1 0x81).sec32) ≤ 0 ∧ (inst 1 0x800000 4).ptpRole 2 ≠ 0 ∧
    ((inst 1 0x800000 4).wrNat (R.PTPi_UMj_CFG 2 0) 0x80030000).umPort 2 0 = some 3 ∧ (inst 1 0x800000 4).ptpLive 2 3 = true ∧
    (inst 1 0x800000 4).ptpMasterOnly 2 3 = false ∧ (sess (inst 1 0x800000 4) 2 0x80).sessHolds 9 0 = false := by
  unfold Dev.commands
  repeat' apply And.intro
  all_goals decide +kernel

/-- The entry in use is the peer's. -/
theorem wit_UnicastSessions_found : (sess (inst 0 0x800000 6) 1 1).peerSess false (sig 4 []) none = some 9 ∧
    (sess (inst 1 0x800000 4) 1 0x81).clientSess 2 3 (zeros 16) = some 9 := by
  repeat' apply And.intro
  all_goals decide +kernel

/-- A host command waits, and the WKR holds a key of an attribute. -/
def cmd (c : List Byte) (attr : Nat) : Dev := { up with pe := { hostCmds := [c] }, ks := { wkr := some ⟨zeros 32, attr⟩ } }

/-- A descriptor with an opcode, a byte of it, and LEN. -/
def kdesc (op b1 len : Nat) : List Byte := be 1 op ++ be 1 b1 ++ zeros 14 ++ le 4 len ++ zeros 44

theorem wit_KeyStoreAndUnlock : (cmd (kdesc 2 64 0) 0).pe.hostCmds = [kdesc 2 64 0] ∧ (cmd (kdesc 2 64 0) 0).cmdsRun = true ∧
    leAt (kdesc 2 64 0) 0 1 = 2 ∧ 64 ≤ leAt (kdesc 2 64 0) 1 1 ∧ up.slotKey 63 = none ∧ leAt (kdesc 7 0 0) 0 1 = 7 ∧
    (cmd (kdesc 4 0 256) 2).ks.wkr = some ⟨zeros 32, 2⟩ ∧ leAt (kdesc 4 0 256) 0 1 = 4 ∧ leAt (kdesc 4 0 256) 16 4 = 256 ∧
    leAt (kdesc 4 0 16) 16 4 % 8 = 0 ∧ leAt (kdesc 5 0 4096) 16 4 = 4096 ∧ leAt (kdesc 5 0 1) 0 1 = 5 ∧
    leAt (kdesc 6 0 17) 16 4 = 17 ∧ leAt (kdesc 6 0 4112) 16 4 = 4112 ∧ up.ks.wkr = none ∧ leAt (kdesc 8 0 384) 0 1 = 8 ∧
    leAt (kdesc 8 0 384) 16 4 = 384 ∧ leAt (kdesc 8 0 832) 16 4 = 832 ∧
    ({ up with ks := { store := some ⟨[(63, 0, some [])], 1, [], false⟩ } } : Dev).ks.store = some ⟨[(63, 0, some [])], 1, [], false⟩ ∧
    63 ≠ up.fld R.NTS_CFG 13 8 ∧ (∀ j : Fin 32, up.bit (R.PTP_SAs_CFG j) 31 = false) ∧ up.reaches .spi = true ∧
    up.sys.applied = true ∧ (up.portKs .spi).locked = false ∧
    ((up.setPortKs .spi { locked := true, leftMs := some 5 }).portKs .spi).locked = true ∧ up.unlockOk .spi = false ∧
    up.isCust .spi = true ∧ ((up.setPortKs .spi { leftMs := some 5 }).portKs .spi).leftMs.isSome = true := by
  repeat' apply And.intro
  all_goals decide +kernel

/-! The pair -/

/-- A unit of a pair in a state of R407, with more bits of PAIR_STATE and PAIR_STAT. -/
def unit (state stateBits stat : Nat) : Dev :=
  ((up.setBit R.PAIR_CFG 31 true).wrNat R.PAIR_STATE (state * 2 ^ 28 + stateBits)).wrNat R.PAIR_STAT stat

/-- The pair's state changed. -/
def withPair (d : Dev) (f : PairHid → PairHid) : Dev := { d with pair := f d.pair }

/-- A unit 2 s after its reset, its pair's state changed. -/
def after100 (f : PairHid → PairHid) : Dev := { withPair (unit 1 1 0) f with clk := { mono := 2000000000 * 2 ^ 48 } }

/-- A Strait frame of a type and a format. -/
def sframe (typ fmt : Nat) : List Byte := be 1 typ ++ be 1 fmt ++ zeros 4096

/-- Nothing else found about a Strait frame. -/
def cleanRx : StraitRx := { corr := 0, uncorr := false, ferry := false }

/-- The mate lacks time base 1, which this unit has. -/
def setting : Dev :=
  withPair (((unit 1 1 0).setBit (R.TBn_STAT 1) 0 true).setBit (R.REFr_CFG 17) 21 true)
    (fun h => { h with status := some 0, mate := some (zeros 448), mofs := some 0 })

theorem wit_StraitFrames : (unit 1 1 0).straitUp = true ∧ setting.straitUp = true ∧ setting.mateOwns = false ∧ setting.mateHeard = true ∧
    setting.setWanted 1 = true ∧ setting.pair.mofs.isSome = true ∧ setting.pair.setSent = false ∧
    (withPair (unit 1 1 0) (fun h => { h with lock := [true, true] })).pair.lock.getD 1 false = true ∧ cleanRx.corr = 0 ∧
    ({ cleanRx with ferry := true } : StraitRx).ferry = true ∧ ({ cleanRx with uncorr := true } : StraitRx).uncorr = true ∧
    (withPair (unit 1 1 0) (fun h => { h with rxSeq := [some 0, none, none, none] })).pair.rxSeq.getD 0 none =
      some (beAt (sframe 1 0x18) 2 2) ∧
    (unit 1 1 0).pair.rxSeq.getD 0 none ≠ some (beAt (sframe 1 0x18) 2 2) ∧ (unit 1 1 0).bit R.PAIR_STAT 0 = false ∧
    (unit 1 1 0).bit R.PAIR_STAT 2 = false ∧ (unit 1 1 0).pair.cwFault = false ∧ (beAt (sframe 1 0x18) 1 1).testBit 1 = false ∧
    (unit 1 1 0).pairState = 1 ∧ (unit 1 1 0).pair.ho ≠ 2 ∧ (unit 1 1 0).pair.ho ≠ 3 ∧ beAt (sframe 2 2) 1 1 ≠ 1 ∧ beAt (sframe 2 1) 1 1 = 1 ∧
    beAt (sframe 2 1) 13 1 % 2 = 0 ∧ beAt (sframe 2 1 |>.set 13 1) 13 1 % 2 = 1 ∧
    beAt (sframe 4 1 |>.set 15 2) 14 2 = 2 ∧ up.owns = true ∧ (unit 3 0 0).owns = false ∧ (unit 3 0 0).isSet 0 = false ∧
    ((unit 3 0 0).setBit (R.REFr_CFG 17) 20 true).bit (R.REFr_CFG 17) 20 = true ∧
    (up.setBit R.CFG_SETSRC 0 true).bit R.CFG_SETSRC 0 = true ∧ ((unit 3 0 0).tbAt 0).armed = none ∧
    400 * 2 ^ 16 ≤ signedDiff 0 400 0 ((unit 3 0 0).count 0) ∧ signedDiff 0 399 0 ((unit 3 0 0).count 0) < 400 * 2 ^ 16 ∧
    (unit 1 1 0).flt.pfwStopped = false ∧ (unit 1 1 0).hbSent = false ∧ up.exchanged100 = false ∧
    (after100 (fun h => { h with xchSince := some 0 })).exchanged100 = true ∧ 0 < ((unit 1 1 0).wrNat R.PAIR_SILENCE 50).silenceNs ∧
    (unit 1 1 0).pair.heardAt.length = 2 := by
  repeat' apply And.intro
  all_goals decide +kernel

theorem wit_StraitFrames_sent :
    (withPair (unit 1 1 0) (fun h => { h with sent := [(0, Config.straitTx)] })).hbSent = true := by
  simp [Dev.hbSent, withPair,
    show c16 (Dev.count { unit 1 1 0 with pair := { (unit 1 1 0).pair with sent := [(0, Config.straitTx)] } } 0) = 0 from rfl]

theorem wit_OwnershipOfOutputs : (unit 1 1 0).laneHeard 0 = false ∧ (unit 1 1 0).laneHeard 1 = false ∧
    (unit 1 1 0).nowNs < (unit 1 1 0).pair.refreshAt + 50000 ∧
    (after100 id).pair.refreshAt + 50000 ≤ (after100 id).nowNs ∧ (after100 id).pair.overAt + 380000 ≤ (after100 id).nowNs ∧
    (after100 id).listened = true ∧ (after100 id).pair.senseAt + (after100 id).silenceNs ≤ (after100 id).nowNs ∧
    (after100 (fun h => { h with appliedAt := 1999999999, listenAt := some 1800000000 })).listened = true ∧
    (unit 1 1 0).hoReached 0 = true ∧ (withPair (unit 1 1 0) (fun h => { h with hoT := 1000001 })).hoReached 1000000 = false ∧
    (withPair (unit 1 1 0) (fun h => { h with kcvDiff := true })).pair.kcvDiff = true ∧ (after100 id).kcvHeld = true ∧
    (unit 1 1 0).pair.kcvDiff = false ∧ (unit 1 1 0).pairOn = true ∧ (unit 1 1 0).bit R.PAIR_STAT 0 = false ∧
    (unit 1 1 0).bit R.PAIR_STAT 1 = false ∧ (unit 1 1 1).bit R.PAIR_STAT 0 = true ∧ (unit 1 1 2).bit R.PAIR_STAT 1 = true ∧
    (unit 1 1 0).bit (R.FLT_ACTIVE 0) 25 = false ∧ (unit 1 1 0).bit R.PAIR_STATE 11 = false ∧ (unit 1 1 0).pairState = 1 ∧
    (unit 1 1 4).bit R.PAIR_STAT 2 = true ∧ ((unit 1 1 0).pair.status.getD 0).testBit 1 = false ∧
    (unit 1 1 0).bit R.PAIR_STATE 0 = true ∧ (unit 3 0 0).bit R.PAIR_STATE 0 = false ∧ (unit 1 1 0).pairState ≠ 5 ∧
    (unit 1 1 0).preferred = false ∧ (unit 1 1 0).ppsNear 0 2000000 2000000 = false ∧ (unit 5 1 0).pairState = 5 ∧
    (unit 5 0x401 0).bit R.PAIR_STATE 10 = true ∧
    (withPair (unit 3 0 0) (fun h => { h with deferred := some ⟨true, true, 2⟩ })).pair.deferred = some ⟨true, true, 2⟩ ∧
    (unit 3 0 0).bit R.PAIR_STATE 10 = false ∧
    (unit 0 0 0).pairState = 0 ∧ (unit 0 0x800 0).bit R.PAIR_STATE 11 = true ∧
    (withPair (unit 0 0 0) (fun h => { h with status := some 8 })).mateHeard = true ∧
    (withPair (unit 0 0 0) (fun h => { h with status := some 8 })).mateOwns = true ∧ (unit 0 0 0).mateHeard = false ∧
    (unit 0 0x400 0).bit R.PAIR_STATE 10 = true ∧ (unit 6 0 3).pairState = 6 ∧ (unit 6 0 3).bit R.PAIR_STATE 10 = false ∧
    (unit 6 0 3).bit R.PAIR_STAT 0 = true ∧ (unit 6 0 3).bit R.PAIR_STAT 1 = true ∧
    ((unit 6 0 3).setPps 0 { cfg := 1 }).ppsNear 0 2000000 2000000 = true ∧
    (withPair (unit 1 1 0) (fun h => { h with ho := 2 })).pair.ho = 2 ∧ (unit 1 1 0).pairState ≠ 4 ∧
    (withPair (unit 4 0 0) (fun h => { h with ho := 3, shadow := [(0, some (0, zeros 4096))] })).pairState = 4 ∧
    (withPair (unit 4 0 0) (fun h => { h with ho := 3, shadow := [(0, some (0, zeros 4096))] })).pair.ho = 3 ∧
    (withPair (unit 4 0 0) (fun h => { h with ho := 3, shadow := [(0, some (0, zeros 4096))] })).pair.shadow ≠ [] ∧
    (unit 4 0 0).pairState = 4 ∧ (unit 1 1 0x400).commands .spi ∧ (unit 1 1 0x400).bit R.PAIR_STAT 10 = true ∧
    (unit 1 1 0x400).pair.ho = 0 ∧ (unit 3 0 0x200).bit R.PAIR_STAT 9 = true ∧
    (unit 1 1 0x10).bit R.PAIR_STAT 4 = true ∧ (unit 1 1 0).bit R.PAIR_STAT 4 = false ∧
    (unit 1 1 0).bit (R.FLT_ACTIVE 0) 26 = false := by
  unfold Dev.commands
  repeat' apply And.intro
  all_goals decide +kernel

/-! Clocks, start-up, faults, counters, host ports -/

/-- The tree on a source, with more bits of CLK_STAT. -/
def clock (src more : Nat) : Dev := up.wrNat R.CLK_STAT (src + more)

/-- The clock generator changed. -/
def withClk (d : Dev) (f : ClkHid → ClkHid) : Dev := { d with clk := f d.clk }

theorem wit_ClockSources : (clock 1 4).clk.rcStopped = false ∧ (clock 1 4).sys.applied = true ∧ (clock 1 4).xoDefect = false ∧
    (clock 1 4).clkSrc = 1 ∧ (clock 0 12).clkSrc ≠ 1 ∧ (clock 1 4).bit (R.FLT_ACTIVE 0) 0 = false ∧
    6 * (clock 1 4).xoNominal < ((1061 : Int) - (clock 1 4).xoNominal).natAbs * 100 ∧
    ((1060 : Int) - (clock 1 4).xoNominal).natAbs * 100 ≤ 6 * (clock 1 4).xoNominal ∧ (clock 2 0).bit R.CLK_STAT 2 = false ∧
    (clock 2 0).clkSrc = 2 ∧ (withClk (clock 1 0) (fun c => { c with edgesGone := true })).clk.edgesGone = true ∧
    (withClk (clock 1 0) (fun c => { c with edgesGone := true })).clk.freqBad = false ∧ (clock 0 12).bit R.CLK_STAT 3 = true ∧
    (clock 1 12).bit R.CLK_STAT 3 = true ∧
    (withClk (clock 1 4) (fun c => { c with attempt := [(63, 1), (62, 2)] })).clk.attempt = (63, 1) :: (62, 2) :: [] ∧
    (withClk (clock 1 4) (fun c => { c with attempt := [(63, 1)] })).clk.attempt = [(63, 1)] ∧
    (clock 1 4).bit (R.FLT_ACTIVE 0) 1 = false ∧
    ((clock 1 0x104).wrNat (R.CLK_BAND 63) 0x80010C80).rankBands = (63, 1) :: [] ∧ (clock 1 0x104).bit R.CLK_STAT 8 = true ∧
    (clock 1 0x104).clk.attempt = [] ∧ up.commands .pcie ∧ (clock 1 0x1C).bit R.CLK_STAT 4 = true ∧
    (clock 1 0x1C).bit R.CLK_STAT 2 = true ∧ (up.setFld R.SYS_STAT 3 0 2).stage = 2 ∧ (clock 1 4).bit R.CLK_STAT 3 = false ∧
    (withClk (clock 1 0x1C) (fun c => { c with mono := 2000000000 * 2 ^ 48 })).relockDone = true ∧
    (withClk (clock 1 0) (fun c => { c with mono := 2000000000 * 2 ^ 48 })).xoQualDone = true ∧
    (withClk (clock 1 0) (fun c => { c with mono := 2000000000 * 2 ^ 48 })).clk.srcAt + 2000000000 ≤ (late 2000000000).nowNs ∧
    (late 1000000000).clk.tryAt + 1000000000 ≤ (late 1000000000).nowNs ∧ (late 200000).clk.tryAt + 200000 ≤ (late 200000).nowNs := by
  unfold Dev.commands
  repeat' apply And.intro
  all_goals decide +kernel

/-- Clock output 11 on its synthesizer, locked, aligned, synchronized. -/
def clkout (more : Nat) : Dev := (up.wrNat (R.CLKOj_CFG 11) (1 + more)).setBit (R.OSYNk_STAT 0) 1 true

theorem wit_ClockOutputsAndGates : up.commands .spi ∧ (clock 1 4).clkSrc = 1 ∧ (clock 1 4).clk.surveyDue = true ∧
    (List.replicate 64 16383).length = 64 ∧ (∀ x ∈ List.replicate 64 16383, x < 16384) ∧
    (up.wrNat R.CLK_GATE_EN 0xFFFFFF).bit R.CLK_GATE_EN 23 = true ∧ up.bit R.CLK_GATE_OPEN 23 = true ∧ 23 ∉ up.clk.quiesce ∧
    23 ∈ (withClk up (fun c => { c with quiesce := [23] })).clk.quiesce ∧ up.bit (R.MACn_STAT 7) 10 = false ∧
    up.fld (R.MACn_CFG 7) 3 0 = 0 ∧ (port 3 0).fld (R.MACn_CFG 7) 3 0 ≠ 0 ∧ (port 3 0x400).bit (R.MACn_STAT 7) 10 = true ∧
    (up.wrNat R.OUT_SYNC_CFG 1).bit R.OUT_SYNC_CFG 0 = true ∧
    (withClk up (fun c => { c with lastSync := some 0 })).clk.lastSync = some 0 ∧ up.sinceSet (up.stampAt 0 61 ⟨63, 0⟩) < 0 + (1000000 * 2 ^ 16 : Nat) ∧
    (clkout 4).bit (R.CLKOj_CFG 11) 2 = true ∧ ((clkout 4).setBit (R.CLKOj_STAT 11) 0 true).bit (R.CLKOj_STAT 11) 0 = true ∧
    (clkout 8).bit (R.CLKOj_CFG 11) 3 = true ∧ (clkout 8).bit (R.CLKOj_CFG 11) 0 = true ∧
    (clkout 8).bit (R.OSYNk_STAT ((clkout 8).fld (R.CLKOj_CFG 11) 5 4)) 1 = true ∧ ((clkout 8).clkOutAt 11).started = false ∧
    (((clkout 8).setClkOut 11 { started := true }).clkOutAt 11).started = true ∧ (clkout 8).bit (R.CLKOj_CFG 11) 1 = false ∧
    (99 : Int).natAbs < 100 ∧ ¬ (100 : Int).natAbs < 100 ∧ up.clkSrc ≠ 2 ∧
    (up.setBit (R.OSYNk_CFG 3) 31 true).bit (R.OSYNk_CFG 3) 31 = true ∧ (up.setBit (R.TBn_STAT 7) 0 true).isSet 7 = true ∧
    up.isSet 7 = false := by
  unfold Dev.commands
  repeat' apply And.intro
  all_goals decide +kernel

/-- The host's flash operation under way. -/
def flashing (op : Nat) : Dev := { up with sys := { up.sys with fl := some ⟨op, bankAddr 0, []⟩ } }

theorem wit_ResetLoadAndFlash : R.SYS_UPTIME ∉ R.SYS_RSTCAUSE :: R.SYS_STAT :: keptRegs ∧ R.SYS_STRAP ∈ keptRegs ∧
    up.sys.fl = none ∧ up.commands .pcie ∧ up.stage ≠ 15 ∧ up.bit R.REC_STAT 0 = false ∧
    (up.setBit R.REC_STAT 0 true).bit R.REC_STAT 0 = true ∧
    ({ sys := { supplyLow := true } } : Dev).sys.supplyLow = true ∧ ({} : Dev).sys.resetN = false ∧
    ({} : Dev).sys.supplyLow = false ∧ ({} : Dev).bit R.REC_STAT 0 = false ∧
    ({ sys := { image := some {} } } : Dev).sys.image = some {} ∧ (({} : Dev).setFld R.SYS_STAT 3 0 1).stage = 1 ∧
    up.bit R.CFG_FL_STAT 31 = false ∧ up.pfw = false ∧ (up.setBit R.SYS_STAT 5 true).pfw = true ∧
    up.flBanks.any (inBank (bankAddr 1) 65536) = true ∧ up.flBanks.any (inBank (bankAddr 0) 65536) = false ∧
    up.flAddr = 0 ∧ up.bit R.CFG_STAT 6 = false ∧ (flashing 4).sys.fl = some ⟨4, bankAddr 0, []⟩ := by
  unfold Dev.commands
  repeat' apply And.intro
  all_goals decide +kernel

theorem wit_FaultsAndPowerFailure : (late 100000).flt.pfwAt + 100000 ≤ (late 100000).nowNs ∧ (late 10000000).pfwOver = true ∧ reservedSources.contains 95 = true ∧ reservedSources.contains 92 = false ∧ 92 < 93 ∧
    target? 92 ≠ some .pe ∧ levelSources.contains 92 = true ∧ levelSources.contains 91 = false ∧
    up.bit (R.FLT_ACTIVE 2) 28 = false ∧ (up.setBit (R.FLT_ACTIVE 2) 28 true).bit (R.FLT_ACTIVE 2) 28 = true ∧
    (up.setFld R.SYS_STAT 3 0 14).stage = 14 ∧ up.reaches .spi = true ∧ wbit 0x8000005C 31 = true ∧ wfld 0x8000005C 6 0 = 92 ∧
    up.stage ≠ 14 ∧ up.commands .pcie ∧ (unit 1 1 0).pairOn = true ∧ (unit 1 1 0).bit R.PAIR_STATE 11 = false ∧
    Target.pmc ∉ up.flt.running ∧ Target.mac 7 ∈ ({ up with flt := { running := [.mac 7, .aes 15, .pe] } } : Dev).flt.running ∧
    up.flt.resetAfterFlush = none ∧ (up.setBit R.FLT_STAT 2 true).bit R.FLT_STAT 2 = true ∧ up.bit R.REC_STAT 2 = false ∧
    ({ up with flt := { resetAfterFlush := some 3 } } : Dev).flt.resetAfterFlush = some 3 ∧ up.flt.pfwStopped = false ∧
    up.pfw = false ∧ up.bit (R.FLT_ACTIVE 0) 28 = false ∧ (up.setBit R.REC_STAT 0 true).bit R.REC_STAT 0 = true ∧
    (up.setBit R.SYS_STAT 5 true).pfw = true ∧ ({ up with flt := { pfwStopped := true } } : Dev).flt.pfwStopped = true ∧
    memorySource 31 = false ∧ memorySource 32 = true ∧ memorySource 61 = true ∧ memorySource 62 = false ∧
    up.flt.ceAt = up.nat R.SYS_UPTIME / 1000 ∧ up.flt.ceSecond + 1 = up.fld R.FLT_CE_THR 15 0 + 1 - up.fld R.FLT_CE_THR 15 0 := by
  unfold Dev.commands
  repeat' apply And.intro
  all_goals decide +kernel

/-- The recorder runs, with one record held and not flushed. -/
def recording : Dev := { up.setBit R.REC_STAT 0 true with recd := { held := [⟨0, zeros 32⟩], unflushed := 1 } }

theorem wit_RecorderAndCounters : recording.commands .pcie ∧ recording.bit R.REC_STAT 0 = true ∧
    (recording.setBit R.REC_STAT 3 true).bit R.REC_STAT 3 = true ∧ recording.recd.staged = [] ∧ recording.bit R.REC_STAT 3 = false ∧
    recording.recd.lossRing = 0 ∧ recording.recd.lossStg = 0 ∧
    unflushedBytes recording.recd + (recording.recBytes ⟨0x000D, 0x1F, (List.range 4).flatMap (fun w =>
      be 4 (recording.nat (R.REC_MARK w)))⟩ false).length ≤ 262144 ∧
    recording.recd.nextErased = false ∧ (recording.setBit R.REC_STAT 1 true).bit R.REC_STAT 1 = true ∧
    recording.unflushedRecs ≠ [] ∧ { recording with clk := (late 4095000000000).clk }.flushDue = true ∧
    (late 1023000000000).recd.freezeAt + (late 1023000000000).fld R.REC_FREEZE_MAX 9 0 * 1000000000 ≤ (late 1023000000000).nowNs ∧ recording.ks.store = none ∧ recording.bit R.CFG_FL_STAT 31 = false ∧
    recording.bit R.REC_STAT 2 = false ∧ (recording.setBit R.REC_STAT 2 true).bit R.REC_STAT 2 = true ∧
    recording.flt.resetAfterFlush ≠ some 2 ∧ up.reaches .spi = true ∧ up.sys.applied = true ∧
    Map.get ({ up with recd := { winLoad := [(1, some 0x80000000)] } } : Dev).recd.winLoad (fun _ => none) Port.spi.num =
      some 0x80000000 ∧ wbit 0x80000000 31 = true ∧ (up.winBytes 0x80000000).isSome = true ∧ up.winBytes 0x00040000 = none ∧
    (up.winBytes 0x0003FF00).isSome = true ∧ (up.setBit R.PMC_STAT 0 true).bit R.PMC_STAT 0 = true ∧
    (up.setBit (R.PMCc_SEL 127) 31 true).bit (R.PMCc_SEL 127) 31 = true ∧
    (up.wrNat R.PMC_SAMP_CFG 0xC8000000).bit R.PMC_SAMP_CFG 31 = true ∧ (up.wrNat R.PMC_SAMP_CFG 0xC8000000).bit R.PMC_SAMP_CFG 27 = true ∧
    (up.wrNat R.PMC_SAMP_CFG 0xC8000000).bit R.PMC_SAMP_CFG 30 = true ∧
    (up.setBit (R.PE_RINGk_CFG 3) 31 true).ringRoom 3 16 = true ∧ (up.wrNat R.PMC_SAMP_CFG 0x88000000).bit R.PMC_SAMP_CFG 30 = false ∧
    up.bit R.PMC_SAMP_STAT 31 = false ∧ (up.wrNat R.PMC_SAMP_STAT 1023).fld R.PMC_SAMP_STAT 10 0 < 1024 := by
  unfold Dev.commands
  repeat' apply And.intro
  all_goals decide +kernel

theorem wit_RegisterAccess : up.mgmtTooSlow = false ∧ up.reaches .spi = true ∧ up.sys.applied = true ∧ up.reaches .pcie = true ∧
    regAt (0x230000 / 4 * 4) = none ∧ (regAt (R.TBn_PADJ_HI 0)).isSome = true ∧
    ((regAt R.SYS_ID).map (·.acc.fixed)) = some true ∧
    (writeFn? R.PMC_CFG).isNone = true ∧ ((regAt R.PMC_CFG).map (·.acc.fixed)) = some false ∧ up.isCust .spi = true ∧ obs.isCust .spi = false ∧
    ((regAt R.HIF_UNMAPPED).map (·.acc)) = some .rc ∧ obs.readHidden .spi R.HIF_UNMAPPED = false := by
  repeat' apply And.intro
  all_goals decide +kernel

/-- A write waits in the SPI ferry. -/
def ferried : Dev := { up with hif := { up.hif with ferry := [(4, 5), (8, 6)] } }

theorem wit_PcieSpiAndInterrupts : (∀ j : Fin 8, (up.ringsAt j).staged = []) ∧ R.EIOn_DROP 31 < 0x120000 ∧
    ({} : Dev).sys.applied = false ∧ ({} : Dev).stage ≠ 15 ∧ ({} : Dev).stage ≠ 14 ∧ up.reaches .spi = true ∧
    ferried.spiBusy = true ∧ up.spiBusy = false ∧ up.mgmtTooSlow = false ∧ (List.replicate 64 (0 : Word)).length ≤ 64 ∧
    up.clkSrc = 0 ∧ (clock 1 4).clkSrc ≠ 0 ∧ max 2 2 < (List.replicate 3 (0 : Word)).length ∧
    ferried.hif.ferry = (4, 5) :: [(8, 6)] ∧ up.sys.applied = true ∧ up.reaches .pcie = true ∧
    ({ up.hif with msixPend := 0x8000 } : HifHid).msixPend.getLsbD 15 = true ∧ up.hif.msixPend.getLsbD 15 = false := by
  repeat' apply And.intro
  all_goals decide +kernel


/-! ### Well-formedness: each check refuses a term, and admits one -/

/-- A tick that reads nothing. -/
def tick0 : TickIn := { ta0 := 0, ta1 := 0, freqs := [], yMeas := 0 }
/-- A frequency signal. -/
def freq (r : Nat) : FreqIn := { r := r, present := true, off := 0, phase := [], bits := 0 }
/-- A pause frame with times. -/
def pause (pfc : Bool) (en : Nat) (ts : List Nat) : PauseIn := { pfc := pfc, enable := en, times := ts }
/-- Nothing remarkable about a Strait frame. -/
def srx0 : StraitRx := { corr := 0, uncorr := false, ferry := false }
/-- A satellite's place in the sky. -/
def sky (svid : Fin 256) : DaSat := ⟨0, svid, 45000, (0, 0, 1)⟩
/-- What a start-up finds. -/
def startIn (j : Option Nat) : StartIn := { testMode := false, pairPref := true, jedec := j, readA := true, readB := false }

theorem test_wf_tick : Instr.wf (.qualificationTick tick0) = true ∧
    Instr.wf (.qualificationTick { tick0 with freqs := [freq 23] }) = true ∧
    Instr.wf (.qualificationTick { tick0 with freqs := [freq 24] }) = false ∧
    Instr.wf (.qualificationTick { tick0 with freqs := [freq 4, freq 4] }) = false := by decide +kernel
theorem test_wf_cal : Instr.wf (.tsuCalComplete 0 (List.replicate 64 1)) = true ∧
    Instr.wf (.tsuCalComplete 0 (List.replicate 63 1)) = false := by decide +kernel
theorem test_wf_frames : Instr.wf (.pauseFrameRx 1 (pause false 0 [65535])) = true ∧
    Instr.wf (.pauseFrameRx 1 (pause true 0 [1])) = false ∧ Instr.wf (.pauseFrameRx 1 (pause false 0 [65536])) = false ∧
    Instr.wf (.pauseFrameRx 1 (pause true 256 (List.replicate 8 0))) = false := by decide +kernel
theorem test_wf_descriptors : Instr.wf (.htxDescriptorFetch (zeros 32) []) = true ∧
    Instr.wf (.htxDescriptorFetch (zeros 31) []) = false ∧ Instr.wf (.hcmdFetch (zeros 64)) = true ∧
    Instr.wf (.hcmdFetch (zeros 63)) = false ∧ Instr.wf (.cookieIssue 0 (zeros 64)) = true ∧
    Instr.wf (.cookieIssue 0 (zeros 65)) = false := by decide +kernel
theorem test_wf_strait : Instr.wf (.straitHeartbeatRx 0 (zeros 16) srx0) = true ∧
    Instr.wf (.straitHeartbeatRx 0 (zeros 15) srx0) = false ∧ Instr.wf (.stateFrameRx 0 (zeros 15) srx0) = false ∧
    Instr.wf (.sessionFrameRx 0 (zeros 17) srx0) = false ∧ Instr.wf (.setFrameRx 0 (zeros 1) srx0 0 0) = false := by
  decide +kernel
theorem test_wf_gnss : Instr.wf (.burstWindowClose [255]) = true ∧ Instr.wf (.burstWindowClose [256]) = false ∧
    Instr.wf (.gnssSolutionEpoch noNav noNav) = true ∧
    Instr.wf (.gnssSolutionEpoch { noNav with iso := [] } noNav) = false ∧
    Instr.wf (.integrityEpoch ⟨[sky 1, sky 2]⟩ ⟨[]⟩) = true ∧
    Instr.wf (.integrityEpoch ⟨[sky 1, sky 1]⟩ ⟨[]⟩) = false := by decide +kernel
theorem test_wf_pins : Instr.wf (.bandSurvey (List.replicate 64 5000)) = true ∧ Instr.wf (.bandSurvey []) = false := by
  decide +kernel
theorem test_wf_system : Instr.wf (.resetNRise (startIn (some 0xFFFFFF))) = true ∧
    Instr.wf (.resetNRise (startIn (some 0x1000000))) = false ∧
    Instr.wf (.faultOccurrence 0 0xFFFFFFFFFFFFFFFF false) = true ∧
    Instr.wf (.faultOccurrence 0 0x10000000000000000 false) = false := by decide +kernel
theorem test_wf_host : Instr.wf (.spiWrite 0 [1] 2) = true ∧ Instr.wf (.spiWrite 0 [] 2) = false ∧
    Instr.wf (.spiWrite 0 (List.replicate 65 0) 2) = false ∧ Instr.wf (.pcieLinkUp 4 4) = true ∧
    Instr.wf (.pcieLinkUp 0 1) = false ∧ Instr.wf (.pcieLinkUp 1 3) = false := by decide +kernel

/-! ### Decoding: the table gives no row bits -/

theorem test_no_word_spells : decodeTableWord 32 0xFFFFFFFF = none ∧
    (State.reset.withFetchWord 32 5).pending = [] := by decide +kernel

/-! ### The spec's worked examples and tables -/

/-- The device after one command. -/
def after (c : Instr) (d : Dev) : Dev := match exec c (st d) with
  | .next t => t.dev
  | _ => d

/-- Chapter 00: 250 ppt is an increment of 0xA000_0000_ABCC, and R33's write order commits it. -/
theorem test_inc_250ppt : (after (.tbIncCommit (.host .spi) 1 0xABCC) (after (.tbIncHiWrite (.host .spi) 1 0xA000)
    (opened 1))).rd (R.TBn_INC_LO 1) = 0xABCC ∧ roundR ((0xA00000000000 : Rat) * 250 / 1000000000000) = 0xABCC := by decide +kernel

/-- R34: an increment above the range is refused and sets CFG_ERR. -/
theorem test_inc_out_of_range : ((after (.tbIncCommit (.host .pcie) 1 0x7AE147AF)
    (after (.tbIncHiWrite (.host .pcie) 1 0xA014) (opened 1))).bit (R.TBn_STAT 1) 9) = true := by decide +kernel

/-- Chapter 02: the 2.4 µs pull: TBn_PADJ_LO = 0x0960_0000 is 2 400 ns, shown at once in TBn_PREM. -/
theorem test_pull_2400ns : ((after (.padjCommit (.host .pcie) 1 0x09600000) (opened 1)).tbAt 1).owed = 2400 * 2 ^ 48 ∧
    (after (.padjCommit (.host .pcie) 1 0x09600000) (opened 1)).rd (R.TBn_PREM_LO 1) = 0x09600000 := by decide +kernel

/-- Chapter 02: the signed difference across the 32-bit wrap is 2 000 000 200 ns. -/
theorem test_difference_wraps : signedDiff 2 100 0 (mkCount 0xFFFFFFFF 999999900 0) = 2000000200 * 2 ^ 16 := by decide +kernel

/-- Chapter 03: the one-step Sync: the checksum 0x3A5C becomes 0x12AE. -/
theorem test_onestep_checksum : (cksumIncr (zeros 18 ++ [0x3A, 0x5C]) ([0x00, 0x00, 0x71, 0x3F, 0xB3, 0xA0, 0x1D, 0xCD, 0x65, 0x00, 0, 0, 0, 0, 0, 0,
    0x80, 0x00] ++ [0x3A, 0x5C]) 18).drop 18 = [0x12, 0xAE] := by decide +kernel

/-- Chapter 04: the audited values stamped at egress for a bound of 21 279 ps. -/
theorem test_audit_stamps : clockAcc 0 21279 = 0x20 ∧ ntpDisp 21279 = 1 := by decide +kernel
theorem test_audit_variance : oslv 21279 = 0x4D08 := by decide +kernel
/-- R105 by hand, with the parameters in 2^-16 units: Y 3 ppt, D 0.5 ppt/day, K 0.5 ppt/K, ΔT 1 K, τ 3 600 s give 12 600 + 37.5 ps. -/
theorem test_growth : growth (3 * 65536) 32768 32768 256 3600000 = 12637 * 65536 + 32768 := by decide +kernel

/-- Chapter 08: σ_t 2 299.5 ps, KSIG 3, an IF fix in hold with 180 mm give U_REF = 7 500 ps. -/
theorem test_gnss_uref : (((up.wrNat R.GNSS_POSSTAT 0x40000000).wrNat R.GNSS_HPOS_UNC 180).wrNat R.GNSS_KSIG 48).solU
    { kind := 2, m := 0, var := 22995 * 22995 / 100, drift := 0, driftU := 0, raim := none, raimExcl := false,
      ifreq := none, iso := [], nsat := 0, nexcl := 0, pos := (0, 0, 0), posUnc := 0 } = 7500 := by decide +kernel

/-- A device whose TB0 stands at a count. -/
def at0 (sec ns frac : Nat) : Dev := up.setTb 0 { count := mkCount sec ns frac }

/-- Chapter 11: at TB0 second 1 900 000 000 the epoch day is 21 990, and with BACK = 2 days 21 988 to 21 991 open. -/
theorem test_epoch_day : (at0 1900000000 0 0).eNow = 21990 ∧
    ((at0 1900000000 0 0).wrNat R.NTS_CFG 0x02000000).window = [21988, 21989, 21990, 21991] := by decide +kernel

/-- Chapter 18: the burst of three words from 0x0003_0010 reads TB0, the status byte is 0xA6, and the PCIe latch stays. -/
theorem test_spi_reads_tb0 : (after (.spiRead 0x030010 2 true) (at0 1900000000 123456789 0x8000)).out.head? =
      some (.spiRead 0xA5 [0x713FB300, 0x075BCD15, 0x00008000]) ∧
    (after .spiStatus up).out.head? = some (.spiStatus 0xA6) ∧
    (after (.spiRead 0x030010 2 true) (at0 1900000000 123456789 0x8000)).latched .pcie 0x030014 = 0 := by decide +kernel

/-- R510: a read of an unmapped address returns 0 and is counted. -/
theorem test_unmapped_read : (after (.unmappedAccess .pcie 0xFFFFFC false) up).out.head? = some (.readData .pcie 0) ∧
    (after (.unmappedAccess .pcie 0xFFFFFC false) up).rd R.HIF_UNMAPPED = 1 := by decide +kernel

/-- R10: an Observer's write is ignored and counted. -/
theorem test_observer_ignored : (after (.registerWrite .pcie (BitVec.ofNat 24 (R.TSUn_RX_LAT 0)) 7 false 0) obs).rd (R.TSUn_RX_LAT 0) = 0 ∧
    (after (.registerWrite .pcie (BitVec.ofNat 24 (R.TSUn_RX_LAT 0)) 7 false 0) obs).rd R.HIF_WRIGN = 1 ∧
    (after (.registerWrite .pcie (BitVec.ofNat 24 (R.TSUn_RX_LAT 0)) 7 false 0) up).rd (R.TSUn_RX_LAT 0) = 7 := by decide +kernel

/-- An empty queue: one TIME cycle is 0.625 ns at the nominal increment (chapter 00). -/
theorem test_idle_step : (match step (st up) with
    | .next t => some (t.dev.count 0)
    | _ => none) = some (0xA00000000000) := by decide +kernel

/-! ### Published vectors of the algorithms the spec names -/

/-- FIPS 197, section 5.1.1 and 4.2: the S-box at 0x53 and 0x57 × 0x13. -/
theorem test_aes_field : sbox 0x53 = 0xED ∧ gmul 0x57 0x13 = 0xFE := by decide +kernel
/-- FIPS 180-4: the first word of SHA-256 of "abc". -/
theorem test_sha256 : (sha256 [0x61, 0x62, 0x63]).take 4 = [0xBA, 0x78, 0x16, 0xBF] := by decide +kernel
/-- The check value of CRC-32: "123456789" gives 0xCBF43926. -/
theorem test_crc32 : crc32 [0x31, 0x32, 0x33, 0x34, 0x35, 0x36, 0x37, 0x38, 0x39] = 0xCBF43926 := by decide +kernel
/-- The check value of CRC-24Q: "123456789" gives 0xCDE703. -/
theorem test_crc24q : ([0x31, 0x32, 0x33, 0x34, 0x35, 0x36, 0x37, 0x38, 0x39, 0, 0, 0].flatMap (fun c : Nat =>
    (List.range 8).map (fun i => c.testBit (7 - i)))).foldl crc24Step 0 = 0xCDE703 := by decide +kernel
/-- The Gregorian calendar: 29 February 2000 is day 60 of its year, and 31 December 2024 day 366. -/
theorem test_calendar : yearDay 0 = (1970, 1) ∧ yearDay 11016 = (2000, 60) ∧ yearDay 20088 = (2024, 366) := by decide +kernel

end Sys2Proof.Tests
end

section
/-! PROOFS, chapter 02 (time bases): arming an initial set (R42, R43) and the snapshot (R49). -/
namespace Sys2Proof.Proofs.TimeBases
open Sys2Proof.Machine Sys2Proof.Laws

/-! ### Completion, the Custodian's write and frames -/

/-- A command whose meaning is one update of the device completes with what that update gives. -/
theorem completes_of_on {c : Instr} {s : State} {f : Dev → Dev} {post : Dev → Prop} (hx : exec c s = s.on f)
    (h : post (f s.dev)) : Completes c s post := ⟨_, hx, rfl, h⟩

/-- The write of a port that commands the device is performed (R10). -/
theorem asCust_of_commands {d : Dev} {p : Port} (f : Dev → Dev) (h : d.commands p) : d.asCust p f = f d := by
  obtain ⟨hreach, hcust⟩ := h
  simp [Dev.asCust, hreach, hcust]

theorem frame_bump (d : Dev) (a : Nat) : d.Frame (d.bump a) [] [a] :=
  frame_wr d d [] [a] a _ (frame_refl d _ _) (List.mem_singleton_self a)

/-! ### Arming an initial set (R42, R43) -/

/-- The instant and target that an arming takes from the registers (R42). -/
def armedOf (d : Dev) (n : Nat) : SetArm where
  target := mkCount (d.nat (R.TBn_SET_SEC_HI n) * 2 ^ 32 + d.nat (R.TBn_SET_SEC_LO n)) (d.nat (R.TBn_SET_NS n))
    (d.nat (R.TBn_SET_FRAC n))
  atSec := d.nat (R.TBn_SET_AT_SEC n)
  atNs := d.nat (R.TBn_SET_AT_NS n)

theorem armSet_eq_setTb (d : Dev) (n : Nat) (who : TbHid → TbHid) :
    d.armSet n who = d.setTb n { who (d.tbAt n) with armed := some (armedOf d n) } := rfl

theorem armSet_armed (d : Dev) (n : Nat) (who : TbHid → TbHid) :
    ((d.armSet n who).tbAt n).armed = some (armedOf d n) := by
  rw [armSet_eq_setTb, tbAt_setTb_same]

theorem armSet_count (d : Dev) (n : Nat) {who : TbHid → TbHid} (hwho : ∀ t, (who t).count = t.count) :
    ((d.armSet n who).tbAt n).count = (d.tbAt n).count := by
  rw [armSet_eq_setTb, tbAt_setTb_same]
  exact hwho _

theorem armSet_tbAt_ne (d : Dev) {n m : Nat} (who : TbHid → TbHid) (h : m ≠ n) : (d.armSet n who).tbAt m = d.tbAt m :=
  tbAt_setTb_ne _ _ _ _ h

theorem armSet_frame (d : Dev) (n : Nat) (who : TbHid → TbHid) : d.Frame (d.armSet n who) [.tb] [] :=
  ⟨Dev_armSet_keeps d _ d n who (by decide) (keeps_self d _), fun _ _ => rfl⟩

theorem setInTime_iff (d : Dev) (n : Nat) : d.setInTime n = true ↔
    400 * 2 ^ 16 ≤ signedDiff (d.nat (R.TBn_SET_AT_SEC n)) (d.nat (R.TBn_SET_AT_NS n)) 0 (d.count n) := by
  simp [Dev.setInTime]

/-- R43: none of the cases that reject a set holds, for a setter that is or is not allowed. -/
def SetAccepted (d : Dev) (n : Nat) (allowed : Prop) : Prop :=
  allowed ∧ d.isSet n = false ∧ (d.tbAt n).armed = none ∧
    400 * 2 ^ 16 ≤ signedDiff (d.nat (R.TBn_SET_AT_SEC n)) (d.nat (R.TBn_SET_AT_NS n)) 0 (d.count n)

theorem trySet_of_accepted {d : Dev} {n : Nat} {allowed : Bool} (who : TbHid → TbHid)
    (h : SetAccepted d n (allowed = true)) : d.trySet n allowed who = d.armSet n who := by
  obtain ⟨hallowed, hunset, hfree, hahead⟩ := h
  simp [Dev.trySet, hallowed, hunset, hfree, (setInTime_iff d n).2 hahead]

theorem trySet_of_not_accepted {d : Dev} {n : Nat} {allowed : Bool} (who : TbHid → TbHid)
    (h : ¬ SetAccepted d n (allowed = true)) : d.trySet n allowed who = d.bump (R.TBn_SET_REJ n) := by
  refine if_neg fun ⟨hallowed, hunset, hfree, hahead⟩ => h ⟨hallowed, ?_, hfree, (setInTime_iff d n).1 hahead⟩
  simpa using hunset

/-- Whichever party arms, its attempt is one try, allowed to the device always and to a host by TBn_CFG.HSET, and
what it notes of the setter leaves the count. -/
theorem effSetArm_eq_trySet (w : Agent) (n : Nat) (d : Dev) (hw : ∀ p, w = .host p → d.commands p) :
    ∃ (allowed : Bool) (who : TbHid → TbHid), (allowed = true ↔ w = .device ∨ d.bit (R.TBn_CFG n) 2 = true) ∧
      (∀ t, (who t).count = t.count) ∧ effSetArm w n d = d.trySet n allowed who := by
  cases w with
  | device => exact ⟨true, id, by simp, fun _ => rfl, rfl⟩
  | host p =>
    exact ⟨d.bit (R.TBn_CFG n) 2, TbHid.hostSetter, by simp, fun _ => rfl,
      asCust_of_commands (fun d => d.trySet n (d.bit (R.TBn_CFG n) 2) TbHid.hostSetter) (hw p rfl)⟩

/-- Settles O12: the attempt is one try, which arms when R43's conditions hold and else only counts. -/
theorem initialSetArms : Obligations.InitialSetArms := by
  unfold Obligations.InitialSetArms
  intro s w n hw ok hok
  have hcommands : ∀ p, w = .host p → s.dev.commands p := by
    rintro p rfl
    exact hw
  obtain ⟨allowed, who, hallowed, hcount, htry⟩ := effSetArm_eq_trySet w n s.dev hcommands
  have hacc : ok ↔ SetAccepted s.dev n (allowed = true) := by
    rw [hok, SetAccepted, hallowed]
  refine completes_of_on (f := effSetArm w n) rfl ?_
  rw [htry]
  by_cases h : SetAccepted s.dev n (allowed = true)
  · rw [trySet_of_accepted who h]
    exact ⟨fun _ => ⟨armSet_armed _ _ _, armSet_count _ _ hcount, armSet_frame _ _ _⟩,
      fun hnot => absurd (hacc.2 h) hnot, fun _ hm => armSet_tbAt_ne _ _ hm⟩
  · rw [trySet_of_not_accepted who h]
    exact ⟨fun hyes => absurd (hacc.1 hyes) h, fun _ => ⟨rd_wr_same _ _ _, frame_bump _ _⟩, fun _ _ => rfl⟩

/-! ### Reading a snapshot back (R49) -/

/-- The snapshot registers of a time base. -/
def snapRegs (n : Nat) : List Nat := [R.TBn_SNAP_SEC_HI n, R.TBn_SNAP_SEC_LO n, R.TBn_SNAP_NS n, R.TBn_SNAP_FRAC n]

theorem mem_snapRegs {n a : Nat} :
    a ∈ snapRegs n ↔ a = 0x3007C + n * 0x100 ∨ a = 0x30080 + n * 0x100 ∨ a = 0x30084 + n * 0x100 ∨
      a = 0x30088 + n * 0x100 := by
  simp [snapRegs, R.TBn_SNAP_SEC_HI, R.TBn_SNAP_SEC_LO, R.TBn_SNAP_NS, R.TBn_SNAP_FRAC]

theorem snapRegs_nodup (n : Nat) : (snapRegs n).Nodup := by
  simp [snapRegs, R.TBn_SNAP_SEC_HI, R.TBn_SNAP_SEC_LO, R.TBn_SNAP_NS, R.TBn_SNAP_FRAC]

theorem notMem_snapRegs_of_ne {m n a : Nat} (hne : m ≠ n) (ha : a ∈ snapRegs n) : a ∉ snapRegs m := by
  rw [mem_snapRegs] at ha ⊢
  omega

theorem snapStat_notMem_snapRegs (n : Nat) : R.TB_SNAP_STAT ∉ snapRegs n := by
  rw [mem_snapRegs, R.TB_SNAP_STAT]
  omega

theorem cNs_lt (c : Nat) : cNs c < 2 ^ 32 := by
  unfold cNs secUnit nsUnit
  omega

theorem cFrac_lt (c : Nat) : cFrac c < 2 ^ 32 := by
  unfold cFrac nsUnit
  omega

theorem count_snapTb (v : Word) (i n : Nat) (d : Dev) : (snapTb v i d).count n = d.count n := by
  unfold snapTb
  split <;> rfl

theorem rd_snapTb_of_not_selected {v : Word} {i : Nat} (d : Dev) (a : Nat) (h : wbit v i = false) :
    (snapTb v i d).rd a = d.rd a := by
  simp [snapTb, h]

theorem rd_snapTb_of_notMem (v : Word) {i a : Nat} (d : Dev) (h : a ∉ snapRegs i) :
    (snapTb v i d).rd a = d.rd a := by
  simp only [snapRegs, List.mem_cons, List.not_mem_nil, or_false, not_or] at h
  obtain ⟨hhi, hlo, hns, hfrac⟩ := h
  unfold snapTb
  split
  · simp only [rd_wrNat, hhi, hlo, hns, hfrac, if_false]
  · rfl

/-- The snapshot registers of a time base hold a linear count. -/
structure SnapHolds (e : Dev) (n c : Nat) : Prop where
  secHi : e.nat (R.TBn_SNAP_SEC_HI n) = cSec c / 2 ^ 32 % 2 ^ 16
  secLo : e.nat (R.TBn_SNAP_SEC_LO n) = cSec c % 2 ^ 32
  ns : e.nat (R.TBn_SNAP_NS n) = cNs c
  frac : e.nat (R.TBn_SNAP_FRAC n) = cFrac c

theorem SnapHolds.of_rd_eq {d e : Dev} {n c : Nat} (h : SnapHolds d n c) (he : ∀ a ∈ snapRegs n, e.rd a = d.rd a) :
    SnapHolds e n c := by
  have hnat : ∀ a ∈ snapRegs n, e.nat a = d.nat a := fun a ha => congrArg BitVec.toNat (he a ha)
  exact ⟨(hnat _ (by simp [snapRegs])).trans h.secHi, (hnat _ (by simp [snapRegs])).trans h.secLo,
    (hnat _ (by simp [snapRegs])).trans h.ns, (hnat _ (by simp [snapRegs])).trans h.frac⟩

theorem snapHolds_snapTb {v : Word} {n : Nat} (d : Dev) (h : wbit v n = true) :
    SnapHolds (snapTb v n d) n (d.count n) := by
  have hhi := Nat.mod_eq_of_lt (show cSec (d.count n) / 2 ^ 32 % 2 ^ 16 < 2 ^ 32 by omega)
  have hns := Nat.mod_eq_of_lt (cNs_lt (d.count n))
  have hfrac := Nat.mod_eq_of_lt (cFrac_lt (d.count n))
  have hdistinct := snapRegs_nodup n
  simp only [snapRegs, List.nodup_cons, List.mem_cons, List.not_mem_nil, or_false, not_or] at hdistinct
  constructor <;>
    simp [snapTb, h, Dev.nat, rd_wrNat, hdistinct, hhi, hns, hfrac, -Nat.reducePow]

/-! ### A snapshot of all the selected time bases -/

theorem forRange_succ (n : Nat) (f : Nat → Dev → Dev) (d : Dev) :
    forRange (n + 1) f d = f n (forRange n f d) := by
  simp [forRange, List.range_succ]

theorem count_forRange_snapTb (v : Word) (k n : Nat) (d : Dev) : (forRange k (snapTb v) d).count n = d.count n := by
  induction k with
  | zero => rfl
  | succ k ih => rw [forRange_succ, count_snapTb, ih]

/-- A register that is none of the selected time bases' keeps its value. -/
theorem rd_forRange_snapTb (v : Word) (k a : Nat) (d : Dev) (h : ∀ i < k, wbit v i = true → a ∉ snapRegs i) :
    (forRange k (snapTb v) d).rd a = d.rd a := by
  refine forRange_rd k _ a (fun i hi e => ?_) d
  cases hsel : wbit v i with
  | false => exact rd_snapTb_of_not_selected e a hsel
  | true => exact rd_snapTb_of_notMem v e (h i hi hsel)

/-- A selected time base is captured in its turn, from the count it had before the first one's, and the later ones leave
its registers alone. -/
theorem snapHolds_forRange_snapTb {v : Word} {k n : Nat} (d : Dev) (hn : n < k) (h : wbit v n = true) :
    SnapHolds (forRange k (snapTb v) d) n (d.count n) := by
  induction k with
  | zero => omega
  | succ k ih =>
    rw [forRange_succ]
    by_cases hlast : n = k
    · subst hlast
      rw [← count_forRange_snapTb v n n d]
      exact snapHolds_snapTb _ h
    · exact (ih (by omega)).of_rd_eq fun a ha => rd_snapTb_of_notMem v _ (notMem_snapRegs_of_ne (Ne.symm hlast) ha)

theorem effSnap_of_commands {p : Port} {d : Dev} (v : Word) (h : d.commands p) :
    effSnap p v d = (forRange 8 (snapTb v) d).setBit R.TB_SNAP_STAT 0 true := asCust_of_commands _ h

/-- Beside the status, a snapshot reads back as its captures do. -/
theorem rd_effSnap_ne {p : Port} {d : Dev} (v : Word) (h : d.commands p) {a : Nat} (ha : a ≠ R.TB_SNAP_STAT) :
    (effSnap p v d).rd a = (forRange 8 (snapTb v) d).rd a := by
  rw [effSnap_of_commands v h, rd_setBit, if_neg ha]

/-- Settles O33: each selected time base is captured once, and no other write reaches its registers. -/
theorem snapshotCaptures : Obligations.SnapshotCaptures := by
  unfold Obligations.SnapshotCaptures
  intro s p v hcmd
  have hrd : ∀ {n a : Nat}, a ∈ snapRegs n → (effSnap p v s.dev).rd a = (forRange 8 (snapTb v) s.dev).rd a :=
    fun ha => rd_effSnap_ne v hcmd fun hstat => snapStat_notMem_snapRegs _ (hstat ▸ ha)
  refine completes_of_on (f := effSnap p v) rfl ⟨fun n hsel => ?_, fun n hsel a ha => ?_, ?_, ?_, fun a ha => ?_⟩
  · obtain ⟨hhi, hlo, hns, hfrac⟩ := (snapHolds_forRange_snapTb s.dev n.isLt hsel).of_rd_eq fun _ => hrd
    exact ⟨hhi, hlo, hns, hfrac⟩
  · rw [hrd (n := n) ha]
    refine rd_forRange_snapTb v 8 a s.dev fun i _ hi => notMem_snapRegs_of_ne ?_ ha
    rintro rfl
    exact Bool.noConfusion (hi.symm.trans hsel)
  · rw [effSnap_of_commands v hcmd]
    exact bit_setBit_same _ _ _ _ (by decide)
  · exact effSnap_keeps s.dev _ p v s.dev (by decide) (keeps_self _ _)
  · obtain ⟨hstat, hregs⟩ := not_or.1 (fun h => ha (List.mem_cons.2 h))
    rw [rd_effSnap_ne v hcmd hstat]
    exact rd_forRange_snapTb v 8 a s.dev fun i hi _ hmem => hregs (List.mem_flatMap.2 ⟨i, List.mem_range.2 hi, hmem⟩)

end Sys2Proof.Proofs.TimeBases
end
